-- ==== Sys2Proof/Word.lean ====
section
/-! DEFINITION. The words of the KP-3160: bytes on its two links, the two numbers that wrap, and the index types of
its tables. An index `i` of a table stands for the entry numbered `i + 1`: the spec numbers sets, points, meters,
feeders, accounts and unit addresses from 1 (00, "Conventions"). -/

namespace Sys2Proof

/-- A byte on the office link or the field line. -/
abbrev Byte := BitVec 8

/-- The cycle number, 0 to 4,294,967,295, which wraps (R18). -/
abbrev CycleNo := BitVec 32

/-- The number of a notice, 0 to 65535, which wraps (R191). -/
abbrev NoticeNo := BitVec 16

/-- A field unit address, 1 to 63. -/
abbrev Addr := Fin 63

/-- A set number, 1 to 8. -/
abbrev SetNo := Fin 8

/-- A supply point number, 1 to 12. -/
abbrev PointNo := Fin 12

/-- A fuel meter number, 1 to 2. -/
abbrev MeterNo := Fin 2

/-- A feeder number, 1 to 32. -/
abbrev FeederNo := Fin 32

/-- An account number, 1 to 48. -/
abbrev AccountNo := Fin 48

/-- A tariff class, 1 to 8. -/
abbrev ClassNo := Fin 8

end Sys2Proof
end

