-- ==== Sys2Proof/Syntax.lean ====
section
/-! DEFINITION. The commands of the KP-3160, one constructor of `Instr` for each row of the table of operations and
events, with the operands each carries. An enumerated operand that a request carries as a byte (10.8) is an `Option`
of its named values: `none` stands for every byte that names no value, which the owning rule refuses BAD_VALUE. An index
or a number that a rule checks against a range is a plain number, so that the refusals BAD_INDEX and BAD_VALUE and the
clamps of R1 are all reachable. -/

namespace Sys2Proof

/-! ### Named values of the tables -/

/-- The kinds of field unit (R3). -/
inductive UnitKind where
  | set | board | change | fuel
  deriving DecidableEq, Repr

/-- The poll classes of a unit (R3). -/
inductive PollClass where
  | every | round
  deriving DecidableEq, Repr

/-- The modes of a feeder's limit window (R5, R52). -/
inductive WindowMode where
  | off | inside | above | below | outside
  deriving DecidableEq, Repr

/-- The two sides of a switched point (R9). -/
inductive Side where
  | a | b
  deriving DecidableEq, Repr

/-- The field command codes, in the order that numbers them 64 to 77 (10.9). -/
inductive Code where
  | start | stop | alarmReset | lampTest | openSwitch | closeA | closeB | indicate
  | resetMax | identify | permit | deny | revoke | message
  deriving DecidableEq, Repr

/-- The permissions of the command gate (R189). -/
inductive Permission where
  | pass | refuse | passIfIdle
  deriving DecidableEq, Repr

/-- The rounding modes of a tariff table (R147). -/
inductive RoundingMode where
  | halfEven | halfUp
  deriving DecidableEq, Repr

/-- The tables READ TABLE names (R185). -/
inductive TableName where
  | unit | feeder | set | point | account | site | gate
  deriving DecidableEq, Repr

/-- The tariff table READ TARIFF names (R159). -/
inductive TariffName where
  | active | pending
  deriving DecidableEq, Repr

/-! ### Payloads of the load requests, as the office sends them -/

/-- A load request carries an entry or the CLEAR form (R2). -/
inductive LoadForm (α : Type) where
  | clear
  | entry (fields : α)
  deriving DecidableEq, Repr

/-- The fields LOAD UNIT carries (R3). -/
structure UnitFields where
  kind : Option UnitKind
  enabled : Option Bool
  pollClass : Option PollClass
  forwardDivisor : Nat
  owner : Nat
  deriving DecidableEq, Repr

/-- The fields LOAD FEEDER carries (R5). -/
structure FeederFields where
  board : Nat
  position : Nat
  point : Nat
  account : Nat
  mode : Option WindowMode
  low : Nat
  high : Nat
  deriving DecidableEq, Repr

/-- The fields LOAD SET carries (R7). -/
structure SetFields where
  unit : Nat
  enabled : Option Bool
  rating : Nat
  capacity : Nat
  noLoadRate : Nat
  incrementalRate : Nat
  lowLevel : Nat
  reserveLevel : Nat
  lowLoadLimit : Nat
  overloadLimit : Nat
  overloadHold : Nat
  warmUpLong : Nat
  warmUpShort : Nat
  hotWindow : Nat
  coolDown : Nat
  crankAttempts : Nat
  crankWindow : Nat
  sensorTolerance : Nat
  deriving DecidableEq, Repr

/-- How the point of a LOAD POINT is fed, with the fields of that kind alone (R9); `unnamed` is a kind byte that names
neither kind. -/
inductive SourceFields where
  | fixed (source : Nat)
  | switched (unit sourceA sourceB : Nat)
  | unnamed
  deriving DecidableEq, Repr

/-- The fields LOAD POINT carries; the three timings may be omitted (R9). -/
structure PointFields where
  source : SourceFields
  deadTime : Option Nat
  confirmTimeout : Option Nat
  prepareLimit : Option Nat
  deadThreshold : Nat
  autoFault : Option Bool
  autoLoad : Option Bool
  autoFuel : Option Bool
  deriving DecidableEq, Repr

/-- The fields LOAD ACCOUNT carries (R11). -/
structure AccountFields where
  active : Option Bool
  tariffClass : Nat
  customer : Nat
  deriving DecidableEq, Repr

/-- The site values LOAD SITE carries (R12); the interval length is in minutes. -/
structure SiteFields where
  holdLimit : Nat
  lossLimit : Nat
  intervalMin : Nat
  minDelivery : Nat
  ticketWait : Nat
  lateLimit : Nat
  deriving DecidableEq, Repr

/-- A tariff band: a start second of day and a rate in 0.0001 currency per kWh (R147). -/
structure Band where
  start : Nat
  rate : Nat
  deriving DecidableEq, Repr

/-- The level TANK SET carries, or its SENSOR form (R103). -/
inductive TankLevel where
  | level (l : Nat)
  | sensor
  deriving DecidableEq, Repr

/-- The tank flags a TANK_FLAG selection names (R107). -/
structure TankFlagNames where
  low : Bool
  reserve : Bool
  discrepancy : Bool
  deriving DecidableEq, Repr

/-! ### What arrives on the lines -/

/-- One byte time on ORX: a byte, or a byte whose stop bit is missing (R180). -/
inductive OrxByte where
  | byte (b : Byte)
  | framingError
  deriving DecidableEq, Repr

/-- What the controller received in a slot window (R25): nothing, line activity that is no frame or more than one
driver, or the bytes of a frame from its start delimiter to its check. -/
inductive SlotInput where
  | nothing
  | contention
  | frame (bytes : List Byte)
  deriving DecidableEq, Repr

/-- The events that stand inside a cycle start or a slot end and are rows of the table too. CYCLE_START and SLOT_END
take those that fall due themselves, save the ones their operand leaves to commands of their own (log entry 6). -/
inductive TimedEvent where
  | loadRequest (set : SetNo)
  | holdLimit (feeder : FeederNo)
  | warmUp (set : SetNo)
  | coolDown (set : SetNo)
  | crankWindow (set : SetNo)
  | prepare (point : PointNo)
  | confirm (point : PointNo)
  | deadTime (point : PointNo)
  | window (point : PointNo)
  | ticketWait (meter : MeterNo)
  | schedule
  | intervalClose
  | linkLost (unit : Addr)
  | discrepancy (set : SetNo)
  deriving DecidableEq, Repr

/-! ### The commands -/

/-- The commands, one constructor for each row of the table. A management request carries its tag; the requests that
read the TEN line carry the level they find on it (log entry 11). -/
inductive Instr where
  /-- Power-on reset; `ten` is the level of TEN after it. -/
  | powerOnReset (ten : Bool)
  | lineReset
  | tenFall
  /-- `selectLast`: the engine's selection is taken after the owners' work of this cycle start (R137);
  `deferred`: the events left to commands of their own. -/
  | cycleStart (selectLast : Bool) (deferred : List TimedEvent)
  | loadChangeoverRequest (set : SetNo)
  | holdLimitCloseOff (feeder : FeederNo)
  | warmUpExpiry (set : SetNo)
  | coolDownExpiry (set : SetNo)
  | crankWindowExpiry (set : SetNo)
  | prepareTimeout (point : PointNo)
  | confirmTimeout (point : PointNo)
  | deadTimeExpiry (point : PointNo)
  | windowExpiry (point : PointNo)
  | ticketWaitExpiry (meter : MeterNo)
  | scheduleFire
  | intervalCloseDue
  | slotEnd (received : SlotInput) (deferred : List TimedEvent)
  | linkLost (unit : Addr)
  | discrepancySet (set : SetNo)
  | byteGapTimeout
  | officeFrameReceived (ten : Bool) (orx : List OrxByte)
  | frameTransmitted
  | readStatus (tag : Byte) (ten : Bool)
  | setClock (tag : Byte) (day second ms : Nat)
  | setCycle (tag : Byte) (period : Nat)
  | startCycles (tag : Byte)
  | stopCycles (tag : Byte)
  | goLive (tag : Byte)
  | standDown (tag : Byte)
  | fieldRestart (tag : Byte)
  | loadUnit (tag : Byte) (address : Nat) (form : LoadForm UnitFields)
  | loadFeeder (tag : Byte) (feeder : Nat) (form : LoadForm FeederFields)
  | loadSet (tag : Byte) (set : Nat) (form : LoadForm SetFields)
  | loadPoint (tag : Byte) (point : Nat) (form : LoadForm PointFields)
  | loadAccount (tag : Byte) (account : Nat) (form : LoadForm AccountFields)
  | loadSite (tag : Byte) (values : SiteFields)
  | loadGate (tag : Byte) (kind : Option UnitKind) (code : Option Code) (permission : Option Permission)
  | readTable (tag : Byte) (table : Option TableName) (index : Nat)
  | readUnit (tag : Byte) (address : Nat)
  | readFeeder (tag : Byte) (feeder : Nat)
  | readSet (tag : Byte) (set : Nat)
  | readPoint (tag : Byte) (point : Nat)
  | readAccount (tag : Byte) (account : Nat)
  | clearFlagsFeederLimit (tag : Byte) (mask : Nat)
  | clearFlagsSetFlag (tag : Byte) (mask : Nat)
  | clearFlagsTankFlag (tag : Byte) (mask : Nat) (names : TankFlagNames)
  | clearFlagsPointFlag (tag : Byte) (mask : Nat)
  | clearFlagsUnitCounts (tag : Byte) (address : Nat)
  | setStart (tag : Byte) (set : Nat)
  | setStop (tag : Byte) (set : Nat)
  | setClearFault (tag : Byte) (set : Nat)
  /-- Set 0 stands for ALL (R196). -/
  | clearHire (tag : Byte) (set : Nat)
  | changeover (tag : Byte) (point : Nat) (side : Option Side)
  | cancelChangeover (tag : Byte) (point : Nat)
  | loadSchedule (tag : Byte) (day second : Nat) (point : Nat) (side : Option Side)
  | deleteSchedule (tag : Byte) (point : Nat) (day second : Nat)
  | readSchedule (tag : Byte)
  | tankSet (tag : Byte) (set : Nat) (level : TankLevel)
  | cancelDelivery (tag : Byte) (meter : Nat)
  | readTickets (tag : Byte)
  | releaseTickets (tag : Byte) (count : Nat)
  | loadTariffClass (tag : Byte) (ten : Bool) (identifier : Nat) (mode : Option RoundingMode) (cls : Nat)
      (bands : List Band)
  | commitTariff (tag : Byte) (ten : Bool)
  | discardTariff (tag : Byte) (ten : Bool)
  | trial (tag : Byte) (on : Option Bool)
  | readTariff (tag : Byte) (ten : Bool) (table : Option TariffName) (cls : Nat)
  | readRecords (tag : Byte)
  | releaseRecords (tag : Byte) (count : Nat)
  /-- Account 0 stands for ALL (R196). -/
  | closeBill (tag : Byte) (account : Nat)
  | alarmReset (tag : Byte) (unit : Addr) (args : List Byte)
  | lampTest (tag : Byte) (unit : Addr) (args : List Byte)
  | indicate (tag : Byte) (unit : Addr) (args : List Byte)
  | resetMax (tag : Byte) (unit : Addr) (args : List Byte)
  | identify (tag : Byte) (unit : Addr) (args : List Byte)
  | message (tag : Byte) (unit : Addr) (args : List Byte)
  | headerWindowEnd
  | unlistedOfficeFrame (destination tag kind : Byte) (payload : List Byte)
  deriving DecidableEq, Repr

end Sys2Proof
end

