-- ==== Sys2Proof/Config.lean ====
section
/-! DEFINITION. What the spec leaves open and no rule decides: the free values. A constant here has no body, so no
proof can see what it is, and a claim holds whatever it is. -/

namespace Sys2Proof

/-- Whether a sequence that ends on the target side, although no verification was recorded for it, is reported
DONE (true) or DONE_UNVERIFIED (false). R138 ends such a sequence "DONE or DONE_UNVERIFIED by the recorded
verification" and gives no result where none is recorded. The argument is the model's count of the free values used so
far. DESIGN CHOICE, log entry 20: a free value. -/
opaque Config.doneWithoutVerification : Nat → Bool

/-- The customer reference in the bill of a named account whose entry is not loaded. R172 has a bill carry the account's customer
reference, and an unloaded entry has no field values (R2). The argument is the record number of the bill. DESIGN CHOICE,
log entry 49: a free value. -/
opaque Config.unloadedCustomer : Nat → BitVec 16

end Sys2Proof
end

