-- ==== Sys2Proof/Machine/State.lean ====
section
/-! DEFINITION. The state of the KP-3160 as plain data: the configuration tables, one structure for each block of 00
"Block overview", the pins, and the queue of waiting commands. `State.reset` is the machine after power-on reset. -/

namespace Sys2Proof.Machine

/-! ### Configuration tables (file 01) -/

/-- A loaded unit entry (R3); `owner` is the owner index, from 1. -/
structure UnitEntry where
  kind : UnitKind
  enabled : Bool
  pollClass : PollClass
  forwardDivisor : Nat
  owner : Nat
  deriving DecidableEq, Repr

/-- A loaded feeder entry (R5); limits in 0.1 A. -/
structure FeederEntry where
  board : Addr
  position : Nat
  point : PointNo
  account : AccountNo
  mode : WindowMode
  low : Nat
  high : Nat
  deriving DecidableEq, Repr

/-- A loaded set entry (R7). -/
structure SetEntry where
  unit : Addr
  enabled : Bool
  rating : Nat
  capacity : Nat
  noLoadRate : Nat
  incrementalRate : Nat
  lowLevel : Nat
  reserveLevel : Nat
  lowLoadLimit : Nat
  overloadLimit : Nat
  overloadHold : Nat
  warmUpLong : Nat
  warmUpShort : Nat
  hotWindow : Nat
  coolDown : Nat
  crankAttempts : Nat
  crankWindow : Nat
  sensorTolerance : Nat
  deriving DecidableEq, Repr

/-- How a point is fed (R9). -/
inductive PointSource where
  | fixed (source : SetNo)
  | switched (unit : Addr) (sourceA sourceB : SetNo)
  deriving DecidableEq, Repr

/-- A loaded supply point entry (R9). -/
structure PointEntry where
  source : PointSource
  deadTime : Nat
  confirmTimeout : Nat
  prepareLimit : Nat
  deadThreshold : Nat
  autoFault : Bool
  autoLoad : Bool
  autoFuel : Bool
  deriving DecidableEq, Repr

/-- A loaded account entry (R11). -/
structure AccountEntry where
  active : Bool
  tariffClass : ClassNo
  customer : Nat
  deriving DecidableEq, Repr

/-- The five tables; an unloaded entry is `none` (R2). -/
structure Tables where
  units : Vector (Option UnitEntry) 63
  feeders : Vector (Option FeederEntry) 32
  sets : Vector (Option SetEntry) 8
  points : Vector (Option PointEntry) 12
  accounts : Vector (Option AccountEntry) 48
  deriving DecidableEq, Repr

/-- The site values of R12. -/
structure SiteValues where
  holdLimit : Nat
  lossLimit : Nat
  intervalMin : Nat
  minDelivery : Nat
  ticketWait : Nat
  lateLimit : Nat
  deriving DecidableEq, Repr

/-- The site values, the cycle period (R13) and the site state (R14; `live` is LIVE, else COMMISSION). -/
structure Site where
  values : SiteValues
  period : Nat
  live : Bool
  deriving DecidableEq, Repr

/-! ### Field Cycle Engine (file 02) -/

/-- The link states (R28). -/
inductive LinkState where
  | absent | present | silent | lost
  deriving DecidableEq, Repr

/-- What the engine keeps for one address (R28, R31); no link state for a unit that is not enabled. -/
structure LinkRec where
  state : Option LinkState
  misses : Nat
  garbled : Nat
  missed : Nat
  forward : Nat
  deriving DecidableEq, Repr

/-- The origin of a command with its origin reference (R32). -/
inductive Origin where
  | office (tag : Byte)
  | sets (set : SetNo)
  | changeover (point : PointNo)
  | fuel (meter : MeterNo)
  deriving DecidableEq, Repr

/-- An entry of the command queue (R32). -/
structure Command where
  target : Addr
  code : Code
  args : List Byte
  origin : Origin
  deriving DecidableEq, Repr

/-- The outcomes of a command (R35). -/
inductive CommandOutcome where
  | accepted
  | refused (reason : Byte)
  | noAnswer
  | unitLost
  | restart
  deriving DecidableEq, Repr

/-- The outstanding command (R35): whether its reply slot is allocated in the cycle in progress, and whether its
target has been disabled since it was sent (R36). -/
structure Outstanding where
  command : Command
  replyAllocated : Bool
  orphan : Bool
  deriving DecidableEq, Repr

/-- A ticket acknowledgement that is due (R24). -/
structure Ack where
  unit : Addr
  chunk : Byte
  deriving DecidableEq, Repr

/-- A cycle header (section 2.3, 10.9). -/
structure Header where
  cycle : CycleNo
  slots : List Addr
  command : Option Command
  ack : Option Ack
  deriving DecidableEq, Repr

/-- The state of the Field Cycle Engine. -/
structure Engine where
  running : Bool
  cycleNo : CycleNo
  pollPointer : Addr
  queue : List Command
  outstanding : Option Outstanding
  acks : Vector (Option Ack) 2
  lastAcked : Option MeterNo
  links : Vector LinkRec 63
  slots : List Addr
  slotsEnded : Nat
  header : Option Header
  fde : Bool
  cycleLen : Nat
  holdInForce : Nat
  age : Nat
  deriving DecidableEq, Repr

/-! ### Feeder Monitor (file 03) -/

/-- The sample states (R42). -/
inductive SampleState where
  | none | live | held | stale
  deriving DecidableEq, Repr

/-- The status of a sample as a board reports it (R27). -/
inductive SampleStatus where
  | ok | overrange | fault
  deriving DecidableEq, Repr

/-- The last reported status of a feeder (R42). -/
inductive FeederStatus where
  | ok | overrange | fault | missing
  deriving DecidableEq, Repr

/-- The latest valid sample of a feeder (R42). -/
structure Sample where
  power : Nat
  current : Nat
  voltage : Nat
  overrange : Bool
  clamped : Bool
  cycle : CycleNo
  deriving DecidableEq, Repr

/-- The baseline of a feeder (R42). -/
structure Baseline where
  power : Nat
  cycle : CycleNo
  clamped : Bool
  connected : Option SetNo
  deriving DecidableEq, Repr

/-- The feeder record (R42); the record of an unloaded feeder is `FeederRec.none`. -/
structure FeederRec where
  state : SampleState
  latest : Option Sample
  baseline : Option Baseline
  status : FeederStatus
  deriving DecidableEq, Repr

/-! ### Set Supervisor (files 04, 05) -/

/-- The engine states a set reports (R27). -/
inductive EngineState where
  | stopped | cranking | running | faulted
  deriving DecidableEq, Repr

/-- The fault reasons (R74). -/
inductive FaultReason where
  | failedStart | unexpectedStop | setAlarm
  deriving DecidableEq, Repr

/-- The run states with the fields each carries (R74). In STARTING: the attempt, the crank attempts read when it
began (R81), the crank counter once START is accepted, and the stop-pending mark. -/
inductive RunState where
  | offline
  | unseen
  | stopped
  | starting (attempt allowed : Nat) (crank : Option Nat) (stopPending : Bool)
  | warming (counter : Nat)
  | online
  | cooling (counter : Nat)
  | stopping
  | fault (reason : FaultReason)
  deriving DecidableEq, Repr

/-- The names of the run states, as SET STATE notices carry them (R76). -/
inductive RunName where
  | offline | unseen | stopped | starting | warming | online | cooling | stopping | fault
  deriving DecidableEq, Repr

/-- The reasons a SET STATE notice carries (R76). -/
inductive StateReason where
  | enabled | disabled | adopted | office | sequencer | running | timer | stopped | startEnded
  | stopFailed | inService | cleared | localStart | failedStart | unexpectedStop | setAlarm
  deriving DecidableEq, Repr

/-- A command place (R78, R108, R132). -/
inductive Place where
  | free
  | queued (code : Code)
  | sent (code : Code)
  deriving DecidableEq, Repr

/-- The latest valid report of a set (R74). -/
structure SetReport where
  engine : EngineState
  power : Nat
  sensor : Nat
  alarm : Byte
  cycle : CycleNo
  deriving DecidableEq, Repr

/-- The energy baseline of a set (R65). -/
structure SetBaseline where
  power : Nat
  cycle : CycleNo
  clamped : Bool
  deriving DecidableEq, Repr

/-- The hire counters and hire marks of a set (R96, R64, R71). -/
structure Hire where
  runMs : Nat
  lowLoadMs : Nat
  overloadMs : Nat
  starts : Nat
  delivered : Nat
  burnt : Nat
  adjustments : Int
  outputMj : Nat
  meteredMj : Nat
  gap : Bool
  clamped : Bool
  deriving DecidableEq, Repr

/-- An entry of a set's reservation list (R95); the load is in 10 W units. -/
structure Reservation where
  point : PointNo
  load : Nat
  deriving DecidableEq, Repr

/-- The set record (R74) with the set's energy baseline (R65). -/
structure SetRec where
  run : RunState
  stopCycle : Option CycleNo
  place : Place
  due : Option Code
  unreachable : Bool
  latest : Option SetReport
  loadFraction : Option Nat
  overloadRun : Nat
  reservations : List Reservation
  baseline : Option SetBaseline
  hire : Hire
  localStart : Bool
  deriving DecidableEq, Repr

/-! ### Fuel Controller (file 06) -/

/-- The tank account (R99). -/
structure Tank where
  capacity : Nat
  book : Nat
  residue : Nat
  delivered : Nat
  adjustments : Int
  low : Bool
  reserve : Bool
  discrepancy : Bool
  discCount : Nat
  deriving DecidableEq, Repr

/-- A ticket buffer with accepted bytes: it holds a claimed place in the ticket store (R108, R114). -/
structure TicketBuffer where
  bytes : List Byte
  length : Nat
  lastChunk : Byte
  deriving DecidableEq, Repr

/-- The session states outside IDLE (R108). In TICKETING, `wait` is the ticket-wait counter, and its absence the
held mark. -/
inductive SessionPhase where
  | granting
  | dispensing
  | ticketing (wait : Option Nat) (buffer : Option TicketBuffer)
  deriving DecidableEq, Repr

/-- A delivery session (R108). -/
structure Session where
  phase : SessionPhase
  set : SetNo
  permitLimit : Nat
  highWater : Nat
  live : Nat
  cancel : Bool
  deriving DecidableEq, Repr

/-- The session record of a fuel meter (R108); an IDLE session is `none`. The request mark is the set number as the
meter gave it. -/
structure MeterRec where
  session : Option Session
  promoted : Bool
  requestMark : Option Nat
  place : Place
  due : Bool
  lastChunk : Option Byte
  deriving DecidableEq, Repr

/-- A clock time as a ticket carries it: day and second of day. -/
structure DayTime where
  day : Nat
  second : Nat
  deriving DecidableEq, Repr

/-- The fields a ticket carries (R116). -/
structure Ticket where
  number : Nat
  set : Nat
  volume : Nat
  startTime : Option DayTime
  endTime : Option DayTime
  price : Option Nat
  corrected : Option Nat
  driver : Option Nat
  deriving DecidableEq, Repr

/-- A record of the ticket store (R116). -/
structure TicketRecord where
  ticket : Ticket
  meter : MeterNo
  live : Nat
  correction : Int
  deriving DecidableEq, Repr

/-- The reasons of a DENY (section 2.6). -/
inductive DenyReason where
  | notHired | setBusy | noRoom
  deriving DecidableEq, Repr

/-! ### Changeover Sequencer (file 07) -/

/-- The position of a SWITCHED point in the supply map (R123). -/
inductive SwPos where
  | a | b | opened | unknown
  deriving DecidableEq, Repr

/-- The position a changeover unit reports (R27). -/
inductive ReportedPos where
  | a | b | opened | fault
  deriving DecidableEq, Repr

/-- The selector of a changeover unit (R27). -/
inductive Selector where
  | remote | localPanel
  deriving DecidableEq, Repr

/-- The cause of a changeover (R124). -/
inductive Cause where
  | office | schedule | fault | load | fuel
  deriving DecidableEq, Repr

/-- The sequencer states outside IDLE (R124). -/
inductive Phase where
  | preparing | opening | dead | closing | recovering
  deriving DecidableEq, Repr

/-- The verification field (R124); the verification NONE is `none`. -/
inductive Verification where
  | verified | unverified
  deriving DecidableEq, Repr

/-- The abort marks (R124). -/
inductive AbortMark where
  | cancelled | targetFault
  deriving DecidableEq, Repr

/-- The recovery reasons (R124). -/
inductive RecoveryReason where
  | notDead | targetFault | closeFailed | cancelled
  deriving DecidableEq, Repr

/-- The phase counter: the prepare, confirm, dead or window counter, as the phase uses it (R124). -/
inductive PhaseCounter where
  | none
  | prepare (n : Nat)
  | confirm (n : Nat)
  | dead (n : Nat)
  | window (n : Nat)
  deriving DecidableEq, Repr

/-- The fields of a sequence in flight (R124). -/
structure Sequence where
  phase : Phase
  targetSide : Side
  targetSet : SetNo
  originalPos : SwPos
  originalSet : Option SetNo
  cause : Cause
  reservedLoad : Nat
  verification : Option Verification
  openCycle : Option CycleNo
  abort : Option AbortMark
  recovery : Option RecoveryReason
  counter : PhaseCounter
  deriving DecidableEq, Repr

/-- The outcomes of a sequence (R130); `recovered` stands for the five X_RECOVERED outcomes, named by cause. -/
inductive SeqOutcome where
  | done | doneUnverified | recovered (cause : Cause) | dark | cancelled | targetFault
  | prepareTimeout | openFailed | manual | unitFault | linkLost | restart
  deriving DecidableEq, Repr

/-- The result codes (R183), in the order that numbers them. -/
inductive ResultCode where
  | ok | queued | badRequest | badIndex | badValue | state | busy | disabled | lockout | interlock
  | inService | queueFull | noChange | capacity | notEligible | unreachable | localPanel | tooLate
  | ownedCommand | duplicate | notValid
  deriving DecidableEq, Repr

/-- The last outcome of a point (R124). -/
structure LastOutcome where
  outcome : SeqOutcome
  cause : Cause
  cycle : CycleNo
  deriving DecidableEq, Repr

/-- The last automatic refusal of a point (R124). -/
structure LastRefusal where
  cause : Cause
  code : ResultCode
  cycle : CycleNo
  deriving DecidableEq, Repr

/-- The point record (R124). The position of a FIXED or unloaded point is no part of it (R123). -/
structure PointRec where
  position : SwPos
  selector : Option Selector
  seq : Option Sequence
  place : Place
  due : Option Code
  autoBlocked : Bool
  lastOutcome : Option LastOutcome
  lastRefusal : Option LastRefusal
  deriving DecidableEq, Repr

/-- An entry of the changeover schedule (R143). -/
structure ScheduleEntry where
  day : Nat
  second : Nat
  point : PointNo
  side : Side
  deriving DecidableEq, Repr

/-! ### Tariff Store (file 08) -/

/-- A tariff table (R147); an absent class is `none`. -/
structure TariffTable where
  identifier : Nat
  mode : RoundingMode
  classes : Vector (Option (List Band)) 8
  deriving DecidableEq, Repr

/-- The pending state with the pending table (R147). -/
inductive PendingTariff where
  | empty
  | loaded (table : TariffTable)
  | commitPending (table : TariffTable)
  deriving DecidableEq, Repr

/-- The state of the Tariff Store (R147); the tariff state is ACTIVE when the active table is present. -/
structure Tariff where
  active : Option TariffTable
  pending : PendingTariff
  trial : Bool
  lockout : Bool
  deriving DecidableEq, Repr

/-! ### Billing Engine (file 09) -/

/-- The marks of an interval (R163). -/
structure Marks where
  short : Bool
  extended : Bool
  estimated : Bool
  gap : Bool
  timeSet : Bool
  clamped : Bool
  deriving DecidableEq, Repr

/-- What is kept for the open intervals of the site (R163); times are seconds from day 0, `offset` is in ms. -/
structure OpenInterval where
  start : Nat
  onBoundary : Bool
  nextBoundary : Nat
  offset : Int
  timeSetDue : Bool
  deriving DecidableEq, Repr

/-- The billing state of an account (R163). -/
structure AccountRec where
  accumulator : Nat
  marks : Marks
  carry : Int
  units : Nat
  charge : Nat
  chargeCarry : Int
  nextBill : Nat
  lastBill : Option Nat
  deriving DecidableEq, Repr

/-- The trial part of an interval record (R170). -/
structure TrialCharge where
  identifier : Nat
  band : Nat
  charge : Nat
  deriving DecidableEq, Repr

/-- An interval record (R170). -/
structure IntervalRecord where
  number : Nat
  account : AccountNo
  customer : Nat
  start : Nat
  length : Nat
  identifier : Nat
  band : Nat
  rate : Nat
  units : Nat
  charge : Nat
  carry : Int
  flags : Marks
  trial : Option TrialCharge
  deriving DecidableEq, Repr

/-- A bill record (R172). -/
structure BillRecord where
  number : Nat
  account : AccountNo
  customer : Nat
  billNumber : Nat
  periodStart : Option Nat
  periodEnd : Option Nat
  units : Nat
  charge : Nat
  cents : Nat
  carry : Int
  deriving DecidableEq, Repr

/-- A record of the record queue (R173). -/
inductive Record where
  | interval (r : IntervalRecord)
  | bill (r : BillRecord)
  deriving DecidableEq, Repr

/-- The state of the Billing Engine (R163, R173). The clock is UNSET (`none`) or a count of ms from day 0 (R161). -/
structure Billing where
  clock : Option Nat
  interval : Option OpenInterval
  accounts : Vector AccountRec 48
  records : List Record
  nextRecord : Nat
  deriving DecidableEq, Repr

/-! ### Notices (R192) -/

/-- The flags a SET FLAG notice names (R97, R100, R104, R106). -/
inductive SetFlag where
  | localStart | low | reserve | discrepancy
  deriving DecidableEq, Repr

/-- What a CHANGEOVER notice carries of a manual operation or a unit fault (R126). -/
structure ManualPart where
  oldPos : SwPos
  reported : ReportedPos
  selector : Selector
  deriving DecidableEq, Repr

/-- What a CHANGEOVER notice carries of the end of a sequence (R130). -/
structure EndPart where
  cause : Cause
  targetSide : Side
  targetSet : SetNo
  originalPos : SwPos
  originalSet : Option SetNo
  recovery : Option RecoveryReason
  verification : Option Verification
  deriving DecidableEq, Repr

/-- The contents of a CHANGEOVER notice (R126, R130). -/
structure ChangeoverNotice where
  point : PointNo
  outcome : SeqOutcome
  manual : Option ManualPart
  ended : Option EndPart
  finalPos : SwPos
  cycle : CycleNo
  deriving DecidableEq, Repr

/-- The result a SCHEDULE notice carries (R10, R145). -/
inductive ScheduleResult where
  | accepted
  | late
  | refused (code : ResultCode)
  deriving DecidableEq, Repr

/-- The result a DELIVERY notice carries (R109, R110, R117). -/
inductive DeliveryResult where
  | complete | noTicket | cancelled | linkLost | restart | refused | noAnswer | unitLost | denied
  deriving DecidableEq, Repr

/-- The ticket figures of a DELIVERY notice with COMPLETE (R117). -/
structure CompletePart where
  number : Nat
  volume : Nat
  correction : Int
  deriving DecidableEq, Repr

/-- The contents of a DELIVERY notice (R109, R110, R117, R119). -/
structure DeliveryNotice where
  meter : MeterNo
  set : Nat
  result : DeliveryResult
  live : Nat
  unitReason : Option Byte
  denial : Option DenyReason
  revoke : Option CommandOutcome
  ticket : Option CompletePart
  deriving DecidableEq, Repr

/-- The reason a RECORDS notice carries (R176), with the interval start and the new next boundary for EXTENDED. -/
inductive RecordsReason where
  | highWater
  | extended (start nextBoundary : Nat)
  deriving DecidableEq, Repr

/-- The notices with the contents their rules give (R192). -/
inductive NoticeBody where
  | commandResult (tag : Byte) (target : Addr) (code : Code) (outcome : CommandOutcome) (cycle : CycleNo)
  | unitLink (unit : Addr) (state : LinkState) (misses : Nat)
  | feederLimit (feeder : FeederNo) (board : Addr) (position : Nat) (mode : WindowMode) (low high current : Nat)
      (cycle : CycleNo)
  | setState (set : SetNo) (previous new : RunName) (reason : StateReason) (attempts : Option Nat)
      (cycle : CycleNo)
  | setFlag (set : SetNo) (flag : SetFlag) (book : Option Nat) (adjustment : Option Int) (sensor : Option Nat)
      (cycle : CycleNo)
  | changeover (c : ChangeoverNotice)
  | schedule (point : PointNo) (day second : Nat) (side : Side) (result : ScheduleResult)
  | delivery (d : DeliveryNotice)
  | tariff (inForce : Bool) (identifier : Nat) (cycle : CycleNo) (clock : Option Nat) (replaced : Option Nat)
  | records (reason : RecordsReason) (held : Nat) (oldest : Option Nat) (clock : Option Nat) (cycle : CycleNo)
  deriving DecidableEq, Repr

/-- A queued notice: its number, its urgent mark and its contents (R191, R192). -/
structure Notice where
  number : NoticeNo
  urgent : Bool
  body : NoticeBody
  deriving DecidableEq, Repr

/-! ### Responses (R183) -/

/-- The six entries of the command gate table (R189). -/
structure GateTable where
  alarmReset : Permission
  lampTest : Permission
  indicate : Permission
  resetMax : Permission
  identify : Permission
  message : Permission
  deriving DecidableEq, Repr

/-- The item a refused GO LIVE names (R15). -/
inductive GoLiveItem where
  | clock | cycles | tariff | slots
  | unit (a : Addr)
  | feederBoard (f : FeederNo)
  | feederPoint (f : FeederNo)
  | feederAccount (f : FeederNo)
  | setUnit (n : SetNo)
  | pointSource (p : PointNo)
  | pointUnit (p : PointNo)
  | accountClass (k : AccountNo)
  deriving DecidableEq, Repr

/-- The figures of READ STATUS (R186). -/
structure StatusView where
  live : Bool
  clock : Option Nat
  ten : Bool
  running : Bool
  cycleNo : CycleNo
  period : Nat
  queued : Nat
  officeQueued : Nat
  outstanding : Option (Addr × Origin)
  limitFlags : Vector Bool 32
  autoBlocked : Vector Bool 12
  unattributed : Nat
  tariffActive : Bool
  pending : PendingTariff
  trial : Bool
  lockout : Bool
  recordsHeld : Nat
  nextRecord : Nat
  noticesQueued : Nat
  overflow : Bool
  frameErrors : Nat
  rxOverflows : Nat
  nextNotice : NoticeNo
  deriving DecidableEq, Repr

/-- READ UNIT (R29, R31, R108, R194); `meter` for an enabled FUEL unit. -/
structure UnitView where
  link : LinkRec
  drops : Nat
  meter : Option MeterRec
  deriving DecidableEq, Repr

/-- READ FEEDER (R57); `rec` is absent for an unloaded entry. -/
structure FeederView where
  record : Option FeederRec
  limitFlag : Bool
  deriving DecidableEq, Repr

/-- READ SET (R74, R73, R99). -/
structure SetView where
  record : SetRec
  tank : Tank
  deriving DecidableEq, Repr

/-- A position as READ POINT shows it (R123). -/
inductive PointPos where
  | notLoaded
  | fixed (source : SetNo)
  | switched (pos : SwPos)
  deriving DecidableEq, Repr

/-- READ POINT (R124). -/
structure PointView where
  position : PointPos
  record : PointRec
  deriving DecidableEq, Repr

/-- READ ACCOUNT (R177); `interval` is present while the account has an open interval. -/
structure AccountView where
  entry : Option AccountEntry
  interval : Option OpenInterval
  record : AccountRec
  deriving DecidableEq, Repr

/-- What READ TARIFF adds to the summary (R159): nothing where the table does not exist. -/
inductive TariffDetail where
  | tableAbsent
  | table (identifier : Nat) (mode : RoundingMode) (classes : List ClassNo)
  | cls (bands : Option (List Band))
  deriving DecidableEq, Repr

/-- READ TARIFF (R159). -/
structure TariffView where
  active : Bool
  pending : PendingTariff
  trial : Bool
  lockout : Bool
  ten : Bool
  detail : TariffDetail
  deriving DecidableEq, Repr

/-- The data that follow a result code. -/
inductive ReplyData where
  | none
  | clock (ms : Nat)
  | period (ms : Nat)
  | status (v : StatusView)
  | item (i : GoLiveItem)
  | accountItem (k : AccountNo)
  | unitEntry (e : Option UnitEntry)
  | feederEntry (e : Option FeederEntry)
  | setEntry (e : Option SetEntry)
  | pointEntry (e : Option PointEntry)
  | accountEntry (e : Option AccountEntry)
  | site (v : SiteValues)
  | gate (g : GateTable)
  | unit (v : UnitView)
  | feeder (v : FeederView)
  | set (v : SetView)
  | point (v : PointView)
  | account (v : AccountView)
  | accepted (phase : Option Phase) (reservedLoad : Nat)
  | schedule (entries : List ScheduleEntry) (clock : Option Nat)
  | tank (book : Nat) (adjustment : Int)
  | tickets (held claimed : Nat) (records : List TicketRecord)
  | removed (count : Nat)
  | classes (identifier : Nat) (present : List ClassNo)
  | tariff (v : TariffView)
  | records (held : Nat) (records : List Record)
  | released (count : Nat) (oldest : Option Nat)
  | bills (count : Nat)
  deriving DecidableEq, Repr

/-- What a request is answered: a result code and its data (R183). -/
structure Reply where
  result : ResultCode
  data : ReplyData
  deriving DecidableEq, Repr

/-! ### Office Port (file 10) -/

/-- A complete office frame (10.9). -/
structure OfficeFrame where
  destination : Byte
  tag : Byte
  kind : Byte
  payload : List Byte
  deriving DecidableEq, Repr

/-- The response in the response slot: destination, tag and kind of the frame it answers, and the reply (R183). -/
structure Response where
  destination : Byte
  tag : Byte
  kind : Byte
  reply : Reply
  deriving DecidableEq, Repr

/-- A report copy: the report from its source address to the end of its body (R194). -/
structure Copy where
  unit : Addr
  cycle : CycleNo
  report : List Byte
  deriving DecidableEq, Repr

/-- The receiver (R180): between frames, or the bytes of a frame received after its delimiter. -/
inductive Receiver where
  | hunting
  | partialFrame (bytes : List Byte)
  deriving DecidableEq, Repr

/-- What the transmitter is sending (R184): the response, the head notice or the head copy. -/
inductive TxFrame where
  | response | notice | copy
  deriving DecidableEq, Repr

/-- The state of the Office Port. -/
structure Port where
  rx : Receiver
  rxQueue : List OfficeFrame
  response : Option Response
  notices : List Notice
  nextNotice : NoticeNo
  overflow : Bool
  copies : List Copy
  copyDrops : Vector Nat 63
  frameErrors : Nat
  rxOverflows : Nat
  gate : GateTable
  tx : Option TxFrame
  deriving DecidableEq, Repr

/-! ### The state -/

/-- The KP-3160, with the queue of commands waiting. `due` and `freeCount` are the model's own (log entries 6, 20). -/
structure State where
  tables : Tables
  site : Site
  engine : Engine
  feeders : Vector FeederRec 32
  limitFlags : Vector Bool 32
  sets : Vector SetRec 8
  unattributed : Nat
  tanks : Vector Tank 8
  meters : Vector MeterRec 2
  tickets : List TicketRecord
  points : Vector PointRec 12
  schedule : List ScheduleEntry
  tariff : Tariff
  ten : Bool
  billing : Billing
  port : Port
  due : List TimedEvent
  freeCount : Nat
  pending : List Instr
  deriving DecidableEq, Repr

/-- Nothing stops the KP-3160: the spec names no event at which it halts, so no meaning raises a fault and this type has
no constructor. Safe: there is no step at which the model stops and the hardware goes on. -/
inductive Fault where
  deriving DecidableEq, Repr

/-- Why a command has no meaning here. -/
inductive Refusal where
  /-- Raised by `exec` for a command that is not modelled; none is left. Safe: the model stops where the hardware
  goes on. -/
  | notModelled (mnemonic : String)
  deriving DecidableEq, Repr

/-! ### Power-on values -/

/-- No unit is enabled, so no unit has a link state; every count is 0 (R41, R31). -/
def LinkRec.reset : LinkRec := ⟨none, 0, 0, 0, 0⟩

/-- The record of a feeder that is not loaded, and of one just put to NONE (R46, R58). -/
def FeederRec.none : FeederRec := ⟨.none, Option.none, Option.none, .missing⟩

/-- Every hire counter 0, every mark clear (R96, R71). -/
def Hire.zero : Hire := ⟨0, 0, 0, 0, 0, 0, 0, 0, 0, false, false⟩

/-- The set record after power-on reset (R98, R72). -/
def SetRec.reset : SetRec := ⟨.offline, none, .free, none, false, none, none, 0, [], none, .zero, false⟩

/-- The power-on values of R99. -/
def Tank.reset : Tank := ⟨0, 0, 0, 0, 0, false, false, false, 0⟩

/-- The meter's session record after power-on reset (R122). -/
def MeterRec.reset : MeterRec := ⟨none, false, none, .free, false, none⟩

/-- The point record after power-on reset (R146). -/
def PointRec.reset : PointRec := ⟨.unknown, none, none, .free, none, false, none, none⟩

/-- No mark set. -/
def Marks.clear : Marks := ⟨false, false, false, false, false, false⟩

/-- The billing state of an account after power-on reset (R178). -/
def AccountRec.reset : AccountRec := ⟨0, .clear, 0, 0, 0, 0, 1, none⟩

/-- Every entry PASS (R189). -/
def GateTable.allPass : GateTable := ⟨.pass, .pass, .pass, .pass, .pass, .pass⟩

/-- Every entry unloaded (R2, R17). -/
def Tables.unloaded : Tables where
  units := Vector.replicate 63 none
  feeders := Vector.replicate 32 none
  sets := Vector.replicate 8 none
  points := Vector.replicate 12 none
  accounts := Vector.replicate 48 none

/-- The power-on site values of R12. -/
def SiteValues.reset : SiteValues := ⟨20, 5, 15, 200, 50, 600⟩

/-- Power-on site values, a period of 100 ms, COMMISSION (R12, R13, R14). -/
def Site.reset : Site := ⟨.reset, 100, false⟩

/-- The engine after power-on reset (R41); the fields R41 does not name by log entries 13 and 32. -/
def Engine.reset : Engine where
  running := false
  cycleNo := 0
  pollPointer := 0
  queue := []
  outstanding := none
  acks := Vector.replicate 2 none
  lastAcked := none
  links := Vector.replicate 63 .reset
  slots := []
  slotsEnded := 0
  header := none
  fde := false
  cycleLen := 100
  holdInForce := 20
  age := 0

/-- No active table, nothing pending, trial off, latch clear (R160). -/
def Tariff.reset : Tariff := ⟨none, .empty, false, false⟩

/-- Clock UNSET, no open interval, empty record queue, next record 1 (R178). -/
def Billing.reset : Billing := ⟨none, none, Vector.replicate 48 .reset, [], 1⟩

/-- The Office Port after power-on reset (R195). -/
def Port.reset : Port where
  rx := .hunting
  rxQueue := []
  response := none
  notices := []
  nextNotice := 0
  overflow := false
  copies := []
  copyDrops := Vector.replicate 63 0
  frameErrors := 0
  rxOverflows := 0
  gate := .allPass
  tx := none

/-- The machine right after power-on reset, with no command waiting (R17, R41, R58, R72, R98, R122, R146, R160, R178,
R195). TEN low: log entry 11. -/
def State.reset : State where
  tables := .unloaded
  site := .reset
  engine := .reset
  feeders := Vector.replicate 32 .none
  limitFlags := Vector.replicate 32 false
  sets := Vector.replicate 8 .reset
  unattributed := 0
  tanks := Vector.replicate 8 .reset
  meters := Vector.replicate 2 .reset
  tickets := []
  points := Vector.replicate 12 .reset
  schedule := []
  tariff := .reset
  ten := false
  billing := .reset
  port := .reset
  due := []
  freeCount := 0
  pending := []

end Sys2Proof.Machine
end

