-- ==== Sys2Proof/Machine/Ops.lean ====
section
/-! DEFINITION. The named operations on the state that every block shares: reading and writing one entry of a table,
saturating counts, differences of cycle numbers, raising a notice, and the command queue. A unit address, set, point or
other number is an index, so no read or write can miss its table. -/

namespace Sys2Proof.Machine

/-! ### Numbers -/

/-- The largest value of a 64-bit count (R64, R96, R99). -/
def max64 : Nat := 2 ^ 64 - 1

/-- A saturating addition: counters that saturate stop at their largest value (00, "Conventions"). -/
def satAdd (limit a b : Nat) : Nat := min limit (a + b)

/-- A signed 64-bit count, holding at either end of its range (R96, R99). -/
def hold64 (x : Int) : Int := max (-(2 ^ 63)) (min (2 ^ 63 - 1) x)

/-- A value brought to the nearest end of its range (00, "Conventions"). -/
def clampTo (lo hi x : Nat) : Nat := max lo (min hi x)

/-- The difference of two cycle numbers, modulo 4,294,967,296 (R18). -/
def cycleDiff (a b : CycleNo) : Nat := (a - b).toNat

/-- Cycle `a` is later than cycle `b`: the reading of "greater than" (R136) on numbers that wrap. DEDUCED, log entry
17. -/
def cycleAfter (a b : CycleNo) : Bool := 0 < cycleDiff a b && cycleDiff a b < 2 ^ 31

/-- The index of the entry numbered `k` in a table of `n` entries, where there is one. -/
def numbered (n k : Nat) : Option (Fin n) :=
  if h : 1 ≤ k ∧ k ≤ n then some ⟨k - 1, by omega⟩ else none

/-- Whether position `i + 1` is marked in a mask (R196). -/
def marked (mask i : Nat) : Bool := mask.testBit i

/-! ### Tables -/

def State.unitEntry (s : State) (a : Addr) : Option UnitEntry := s.tables.units[a]
def State.feederEntry (s : State) (f : FeederNo) : Option FeederEntry := s.tables.feeders[f]
def State.setEntry (s : State) (n : SetNo) : Option SetEntry := s.tables.sets[n]
def State.pointEntry (s : State) (p : PointNo) : Option PointEntry := s.tables.points[p]
def State.accountEntry (s : State) (k : AccountNo) : Option AccountEntry := s.tables.accounts[k]

def State.putUnitEntry (s : State) (a : Addr) (e : Option UnitEntry) : State :=
  { s with tables := { s.tables with units := s.tables.units.set a e } }
def State.putFeederEntry (s : State) (f : FeederNo) (e : Option FeederEntry) : State :=
  { s with tables := { s.tables with feeders := s.tables.feeders.set f e } }
def State.putSetEntry (s : State) (n : SetNo) (e : Option SetEntry) : State :=
  { s with tables := { s.tables with sets := s.tables.sets.set n e } }
def State.putPointEntry (s : State) (p : PointNo) (e : Option PointEntry) : State :=
  { s with tables := { s.tables with points := s.tables.points.set p e } }
def State.putAccountEntry (s : State) (k : AccountNo) (e : Option AccountEntry) : State :=
  { s with tables := { s.tables with accounts := s.tables.accounts.set k e } }

/-! ### Records -/

def State.link (s : State) (a : Addr) : LinkRec := s.engine.links[a]
def State.feederRec (s : State) (f : FeederNo) : FeederRec := s.feeders[f]
def State.limitFlag (s : State) (f : FeederNo) : Bool := s.limitFlags[f]
def State.setRec (s : State) (n : SetNo) : SetRec := s.sets[n]
def State.tank (s : State) (n : SetNo) : Tank := s.tanks[n]
def State.meter (s : State) (m : MeterNo) : MeterRec := s.meters[m]
def State.pointRec (s : State) (p : PointNo) : PointRec := s.points[p]
def State.account (s : State) (k : AccountNo) : AccountRec := s.billing.accounts[k]

def State.putLink (s : State) (a : Addr) (r : LinkRec) : State :=
  { s with engine := { s.engine with links := s.engine.links.set a r } }
def State.putFeeder (s : State) (f : FeederNo) (r : FeederRec) : State :=
  { s with feeders := s.feeders.set f r }
def State.putLimitFlag (s : State) (f : FeederNo) (b : Bool) : State :=
  { s with limitFlags := s.limitFlags.set f b }
def State.putSet (s : State) (n : SetNo) (r : SetRec) : State := { s with sets := s.sets.set n r }
def State.putTank (s : State) (n : SetNo) (t : Tank) : State := { s with tanks := s.tanks.set n t }
def State.putMeter (s : State) (m : MeterNo) (r : MeterRec) : State :=
  { s with meters := s.meters.set m r }
def State.putPoint (s : State) (p : PointNo) (r : PointRec) : State :=
  { s with points := s.points.set p r }
def State.putAccount (s : State) (k : AccountNo) (r : AccountRec) : State :=
  { s with billing := { s.billing with accounts := s.billing.accounts.set k r } }

def State.modLink (s : State) (a : Addr) (f : LinkRec → LinkRec) : State := s.putLink a (f (s.link a))
def State.modFeeder (s : State) (i : FeederNo) (f : FeederRec → FeederRec) : State :=
  s.putFeeder i (f (s.feederRec i))
def State.modSet (s : State) (n : SetNo) (f : SetRec → SetRec) : State := s.putSet n (f (s.setRec n))
def State.modTank (s : State) (n : SetNo) (f : Tank → Tank) : State := s.putTank n (f (s.tank n))
def State.modMeter (s : State) (m : MeterNo) (f : MeterRec → MeterRec) : State :=
  s.putMeter m (f (s.meter m))
def State.modPoint (s : State) (p : PointNo) (f : PointRec → PointRec) : State :=
  s.putPoint p (f (s.pointRec p))
def State.modAccount (s : State) (k : AccountNo) (f : AccountRec → AccountRec) : State :=
  s.putAccount k (f (s.account k))
def State.modHire (s : State) (n : SetNo) (f : Hire → Hire) : State :=
  s.modSet n fun r => { r with hire := f r.hire }

/-! ### Walking a table in ascending order -/

def allUnits : List Addr := List.finRange 63
def allFeeders : List FeederNo := List.finRange 32
def allSets : List SetNo := List.finRange 8
def allPoints : List PointNo := List.finRange 12
def allAccounts : List AccountNo := List.finRange 48
def allMeters : List MeterNo := List.finRange 2
def allClasses : List ClassNo := List.finRange 8

/-- Does `f` for each member of a list, in its order. -/
def forEach {α : Type} (xs : List α) (f : α → State → State) (s : State) : State :=
  xs.foldl (fun s x => f x s) s

/-! ### Notices (R191, R192) -/

/-- The list less its newest notice that is not urgent, where it has one (R192). -/
def dropNewestOrdinary : List Notice → Option (List Notice)
  | [] => none
  | n :: rest =>
    match dropNewestOrdinary rest with
    | some kept => some (n :: kept)
    | none => if n.urgent then none else some rest

/-- The notices an urgent notice leaves when it displaces one: the head stays where it is in transmission (R192). -/
def displaceFor (headInTransmission : Bool) (notices : List Notice) : Option (List Notice) :=
  if headInTransmission then
    match notices with
    | [] => none
    | head :: rest => (dropNewestOrdinary rest).map (head :: ·)
  else dropNewestOrdinary notices

/-- Raising a notice: it takes the next number whether or not it finds room; with 32 queued an ordinary notice is
lost, and an urgent one takes the place of the newest ordinary notice not in transmission (R191, R192). -/
def Port.raise (p : Port) (urgent : Bool) (body : NoticeBody) : Port :=
  let n : Notice := ⟨p.nextNotice, urgent, body⟩
  let q := { p with nextNotice := p.nextNotice + 1 }
  if p.notices.length < 32 then { q with notices := p.notices ++ [n] }
  else if urgent then
    match displaceFor (p.tx = some .notice) p.notices with
    | some kept => { q with notices := kept ++ [n], overflow := true }
    | none => { q with overflow := true }
  else { q with overflow := true }

/-- A notice raised by an owning block, urgent or not. -/
def State.raiseMarked (s : State) (urgent : Bool) (body : NoticeBody) : State :=
  { s with port := s.port.raise urgent body }

/-- An ordinary notice raised by an owning block. -/
def State.raise (s : State) (body : NoticeBody) : State := s.raiseMarked false body

/-! ### The command queue (R32, R33) -/

/-- The entry is of OFFICE origin. -/
def Command.isOffice (c : Command) : Bool :=
  match c.origin with
  | .office _ => true
  | _ => false

/-- The number of OFFICE entries queued (R32). -/
def Engine.officeQueued (e : Engine) : Nat := (e.queue.filter Command.isOffice).length

/-- The originator has an entry queued or a command outstanding (R32). -/
def Engine.holdsFor (e : Engine) (o : Origin) : Bool :=
  e.queue.any (fun c => c.origin = o) || e.outstanding.any (fun q => q.command.origin = o)

/-- The entry is a SWITCHED point. -/
def PointEntry.isSwitched (e : PointEntry) : Bool :=
  match e.source with
  | .switched _ _ _ => true
  | .fixed _ => false

/-- The number of points loaded as SWITCHED (R9, R32). -/
def Tables.switchedCount (t : Tables) : Nat :=
  (allPoints.filter fun p => t.points[p].any PointEntry.isSwitched).length

/-- The office share: fewer than 8 OFFICE entries queued, and fewer than 24 − N, where N is 10 plus the number of
SWITCHED points (R32). -/
def State.officeRoom (s : State) : Bool :=
  s.engine.officeQueued < 8 && s.engine.officeQueued < 24 - (10 + s.tables.switchedCount)

/-- Enqueueing: the entry joins at the tail. The queue holds 24 entries at most; an office entry needs room in the
office share, and an internal originator must have no entry queued and no command outstanding. Otherwise the enqueue is
refused (R32). -/
def State.enqueue (s : State) (c : Command) : Option State :=
  let room := if c.isOffice then s.officeRoom else !s.engine.holdsFor c.origin
  if s.engine.queue.length < 24 && room then
    some { s with engine := { s.engine with queue := s.engine.queue ++ [c] } }
  else none

/-- An origin withdraws its own queued entry: the entries behind it keep their order, and no outcome is returned
(R33). -/
def State.withdraw (s : State) (o : Origin) : State :=
  { s with engine := { s.engine with queue := s.engine.queue.filter fun c => c.origin ≠ o } }

/-- The place after a queued entry has been withdrawn. -/
def Place.unqueue : Place → Place
  | .queued _ => .free
  | p => p

/-! ### Answers (R183) -/

/-- Answered OK, with no data. -/
def Reply.ok : Reply := ⟨.ok, .none⟩

/-- Answered OK, with data. -/
def Reply.okWith (d : ReplyData) : Reply := ⟨.ok, d⟩

/-- Refused with a code. -/
def Reply.refuse (c : ResultCode) : Reply := ⟨c, .none⟩

/-! ### The clock, as the blocks read it (R161) -/

/-- The whole seconds of the present clock time, from day 0; none while the clock is UNSET. -/
def Billing.nowSeconds (b : Billing) : Option Nat := b.clock.map fun ms => ms / 1000

/-- The seconds of a day and a second of day, from day 0 (R143, R161). -/
def daySeconds (day second : Nat) : Nat := day * 86400 + second

end Sys2Proof.Machine
end

