-- ==== Sys2Proof/Machine/Flags.lean ====
section
/-! DEFINITION. Every condition that sets a flag or a mark: the limit window (R52), the marks of an interval (R61, R164),
the load fraction and its limits (R90), the tank flags (R104), and AUTO_BLOCKED (R131). -/

namespace Sys2Proof.Machine

/-- The condition of a feeder's limit window on a sample's current (R52). -/
def windowMet (mode : WindowMode) (low high current : Nat) : Bool :=
  match mode with
  | .off => false
  | .above => high < current
  | .below => current < low
  | .outside => high < current || current < low
  | .inside => low ≤ current && current ≤ high

/-- The marks a step leaves on an interval: a mark once set stays set (R61, R164). -/
def Marks.addStep (m : Marks) (estimated clamped : Bool) : Marks :=
  { m with estimated := m.estimated || estimated, clamped := m.clamped || clamped }

/-- The load fraction in per mille of rating: power in 100 W units times 100, divided by the rating in kW, rounded down
(R90). -/
def loadFractionOf (power rating : Nat) : Nat := power * 100 / rating

/-- The book stands at or below the low level (R104, R105). -/
def lowMet (e : SetEntry) (t : Tank) : Bool := t.book ≤ e.lowLevel

/-- The book stands at or below the reserve level (R104). -/
def reserveMet (e : SetEntry) (t : Tank) : Bool := t.book ≤ e.reserveLevel

/-- The causes of the automatic raisers (R127). -/
def Cause.automatic : Cause → Bool
  | .fault | .load | .fuel => true
  | .office | .schedule => false

/-- An end that sets AUTO_BLOCKED: DARK whatever the cause, and any end of an automatic sequence but DONE,
DONE_UNVERIFIED and CANCELLED (R131). -/
def blocksPoint (outcome : SeqOutcome) (cause : Cause) : Bool :=
  match outcome with
  | .dark => true
  | .done | .doneUnverified | .cancelled => false
  | _ => cause.automatic

end Sys2Proof.Machine
end

