-- ==== Sys2Proof/Machine/Operands.lean ====
section
/-! DEFINITION. Operand forms: enumerated bytes and integers as the links carry them (10.8), and the fields of a load
request turned into the entry as it would be stored (R1 step 3 and the clamps of R3, R5, R7, R9, R11, R12). -/

namespace Sys2Proof.Machine

/-! ### Integers and enumerated bytes on the links (10.8) -/

/-- Integers are sent most significant byte first. -/
def beNat (bs : List Byte) : Nat := bs.foldl (fun acc b => acc * 256 + b.toNat) 0

/-- A mask has position 1 in bit 0 of its first byte (R196). -/
def maskNat : List Byte → Nat
  | [] => 0
  | b :: bs => b.toNat + 256 * maskNat bs

/-- Takes fields of the given widths from the bytes; none where the bytes are fewer or more than the widths ask. -/
def fieldsOf : List Nat → List Byte → Option (List Nat)
  | [], [] => some []
  | [], _ :: _ => none
  | w :: ws, bs =>
    if bs.length < w then none
    else (fieldsOf ws (bs.drop w)).map (beNat (bs.take w) :: ·)

/-- The value at a position of a list of named values, counting from 0. -/
def nameAt {α : Type} (names : List α) (code : Nat) : Option α := names[code]?

def yesNo : Nat → Option Bool := nameAt [true, false]
def unitKindOf : Nat → Option UnitKind := nameAt [.set, .board, .change, .fuel]
def pollClassOf : Nat → Option PollClass := nameAt [.every, .round]
def windowModeOf : Nat → Option WindowMode := nameAt [.off, .inside, .above, .below, .outside]
def sideOf : Nat → Option Side := nameAt [.a, .b]
def permissionOf : Nat → Option Permission := nameAt [.pass, .refuse, .passIfIdle]
def roundingOf : Nat → Option RoundingMode := nameAt [.halfEven, .halfUp]
def tableNameOf : Nat → Option TableName := nameAt [.unit, .feeder, .set, .point, .account, .site, .gate]
def tariffNameOf : Nat → Option TariffName := nameAt [.active, .pending]
def engineStateOf : Nat → Option EngineState := nameAt [.stopped, .cranking, .running, .faulted]
def sampleStatusOf : Nat → Option SampleStatus := nameAt [.ok, .overrange, .fault]
def reportedPosOf : Nat → Option ReportedPos := nameAt [.a, .b, .opened, .fault]
def selectorOf : Nat → Option Selector := nameAt [.remote, .localPanel]

/-- The field command codes in the order that numbers them (10.9). -/
def allCodes : List Code :=
  [.start, .stop, .alarmReset, .lampTest, .openSwitch, .closeA, .closeB, .indicate,
   .resetMax, .identify, .permit, .deny, .revoke, .message]

def codeOf : Nat → Option Code := nameAt allCodes

/-- The interval lengths of R12 in the order listed. DEDUCED, log entry 28. -/
def intervalMinutes : List Nat := [5, 10, 15, 30, 60]

/-- The interval length an enumerated byte names; 0 for a byte that names none. -/
def intervalMinOf (code : Nat) : Nat := (nameAt intervalMinutes code).getD 0

/-! ### Properties of the field command codes (section 2.6, R188) -/

/-- The kind of unit a code is listed for. -/
def codeKind : Code → UnitKind
  | .start | .stop | .alarmReset | .lampTest => .set
  | .openSwitch | .closeA | .closeB | .indicate => .change
  | .resetMax | .identify => .board
  | .permit | .deny | .revoke | .message => .fuel

/-- The codes reserved for the controller's own blocks. -/
def codeOwned : Code → Bool
  | .start | .stop | .openSwitch | .closeA | .closeB | .permit | .deny | .revoke => true
  | .alarmReset | .lampTest | .indicate | .resetMax | .identify | .message => false

/-- The office kind of a code, 64 to 77 (10.9). -/
def codeNumber (c : Code) : Nat := 64 + allCodes.findIdx (· = c)

/-! ### Entries as a load would store them -/

/-- A unit entry (R3); none is BAD_VALUE. -/
def unitEntryOf (u : UnitFields) : Option UnitEntry := do
  let kind ← u.kind
  let enabled ← u.enabled
  let pollClass ← u.pollClass
  let owners := match kind with
    | .set => 8
    | .board => 16
    | .change => 12
    | .fuel => 2
  if u.forwardDivisor ≤ 255 ∧ 1 ≤ u.owner ∧ u.owner ≤ owners then
    some ⟨kind, enabled, pollClass, u.forwardDivisor, u.owner⟩
  else none

/-- A feeder entry (R5); none is BAD_VALUE, as is a low limit greater than the high limit. -/
def feederEntryOf (u : FeederFields) : Option FeederEntry := do
  let board ← numbered 63 u.board
  let point ← numbered 12 u.point
  let account ← numbered 48 u.account
  let mode ← u.mode
  if 1 ≤ u.position ∧ u.position ≤ 4 ∧ u.low ≤ u.high then
    some ⟨board, u.position, point, account, mode, u.low, u.high⟩
  else none

/-- A set entry with its tuning fields clamped, the two levels against the capacity of the same load (R7); none is
BAD_VALUE. -/
def setEntryOf (u : SetFields) : Option SetEntry := do
  let unit ← numbered 63 u.unit
  let enabled ← u.enabled
  let capacity := clampTo 10 65000 u.capacity
  some
    { unit, enabled, capacity
      rating := clampTo 10 3000 u.rating
      noLoadRate := clampTo 0 20000 u.noLoadRate
      incrementalRate := clampTo 0 400 u.incrementalRate
      lowLevel := clampTo 0 capacity u.lowLevel
      reserveLevel := clampTo 0 capacity u.reserveLevel
      lowLoadLimit := clampTo 0 1500 u.lowLoadLimit
      overloadLimit := clampTo 0 1500 u.overloadLimit
      overloadHold := clampTo 1 255 u.overloadHold
      warmUpLong := u.warmUpLong
      warmUpShort := u.warmUpShort
      hotWindow := u.hotWindow
      coolDown := u.coolDown
      crankAttempts := clampTo 1 5 u.crankAttempts
      crankWindow := clampTo 10 255 u.crankWindow
      sensorTolerance := clampTo 0 10000 u.sensorTolerance }

/-- How a point is fed (R9); none is BAD_VALUE, as are two equal sources. -/
def pointSourceOf : SourceFields → Option PointSource
  | .fixed n => (numbered 8 n).map .fixed
  | .switched u a b => do
    let u ← numbered 63 u
    let a ← numbered 8 a
    let b ← numbered 8 b
    if a = b then none else some (.switched u a b)
  | .unnamed => none

/-- A supply point entry, omitted timings at 20, 30 and 600 cycles, the others clamped (R9); none is BAD_VALUE. -/
def pointEntryOf (u : PointFields) : Option PointEntry := do
  let source ← pointSourceOf u.source
  let autoFault ← u.autoFault
  let autoLoad ← u.autoLoad
  let autoFuel ← u.autoFuel
  some
    { source, autoFault, autoLoad, autoFuel
      deadTime := clampTo 5 255 (u.deadTime.getD 20)
      confirmTimeout := clampTo 5 255 (u.confirmTimeout.getD 30)
      prepareLimit := clampTo 10 65535 (u.prepareLimit.getD 600)
      deadThreshold := u.deadThreshold }

/-- An account entry (R11); none is BAD_VALUE. -/
def accountEntryOf (u : AccountFields) : Option AccountEntry := do
  let active ← u.active
  let cls ← numbered 8 u.tariffClass
  some ⟨active, cls, u.customer⟩

/-- The site values, clamped; the interval length is an enumerated value (R12); none is BAD_VALUE. -/
def siteValuesOf (u : SiteFields) : Option SiteValues :=
  if u.intervalMin ∈ intervalMinutes then
    some
      { holdLimit := clampTo 1 255 u.holdLimit
        lossLimit := clampTo 2 15 u.lossLimit
        intervalMin := u.intervalMin
        minDelivery := clampTo 0 65535 u.minDelivery
        ticketWait := clampTo 10 255 u.ticketWait
        lateLimit := clampTo 0 3600 u.lateLimit }
  else none

end Sys2Proof.Machine
end

