-- ==== Sys2Proof/Machine/Tariff.lean ====
section
/-! DEFINITION. The Tariff Store (file 08): band lists, loading and committing, the TEN line and the lockout latch, trial, and
the rates it answers. -/

namespace Sys2Proof.Machine

/-! ### Band rules (R148) -/

/-- Each start is later than the one before it. -/
def startsRise : List Band → Bool
  | a :: b :: rest => a.start < b.start && startsRise (b :: rest)
  | _ => true

/-- A class's band list is valid for an interval length in seconds (R148). -/
def bandsValid (intervalSeconds : Nat) (bands : List Band) : Bool :=
  1 ≤ bands.length && bands.length ≤ 6 && (bands.head?.any fun b => b.start = 0) && startsRise bands
    && bands.all fun b => b.start % intervalSeconds = 0

/-- Every band of a table starts at a multiple of an interval length in seconds (R12). -/
def TariffTable.fits (t : TariffTable) (intervalSeconds : Nat) : Bool :=
  allClasses.all fun c => (t.classes[c]).all fun bands => bands.all fun b => b.start % intervalSeconds = 0

/-- The pending table, where there is one (R147). -/
def PendingTariff.table : PendingTariff → Option TariffTable
  | .empty => none
  | .loaded t => some t
  | .commitPending t => some t

/-- The classes present in a table. -/
def TariffTable.present (t : TariffTable) : List ClassNo :=
  allClasses.filter fun c => (t.classes[c]).isSome

/-! ### Rates (R156 to R158) -/

/-- The band containing a second of day: the last whose start is at or before it, with its index from 1 (R156). -/
def bandAt (second : Nat) (bands : List Band) : Option (Nat × Band) :=
  (bands.zipIdx.filter fun x => x.1.start ≤ second).getLast?.map fun x => (x.2 + 1, x.1)

/-- The band index and rate of a class at a start second of day; none for a class the table lacks (R156). -/
def TariffTable.rate (t : TariffTable) (cls : ClassNo) (second : Nat) : Option (Nat × Nat) :=
  match t.classes[cls] with
  | none => none
  | some bands => (bandAt second bands).map fun x => (x.1, x.2.rate)

/-- The rounding mode the store answers: the active table's, and HALF_EVEN while the tariff state is NONE (R158). -/
def Tariff.mode (t : Tariff) : RoundingMode := (t.active.map TariffTable.mode).getD .halfEven

/-! ### Taking effect, TEN and lockout (R149, R151 to R153) -/

/-- The pending table becomes the active table, the pending state EMPTY and trial off, with a TARIFF notice IN_FORCE
(R151, R152, R159). -/
def State.putInForce (s : State) (table : TariffTable) : State :=
  let replaced := s.tariff.active.map TariffTable.identifier
  { s with tariff := { s.tariff with active := some table, pending := .empty, trial := false } }.raise
    (.tariff true table.identifier s.engine.cycleNo s.billing.clock replaced)

/-- The store is told of an interval close that actually happens (R152). -/
def State.tellClose (s : State) : State :=
  match s.tariff.pending with
  | .commitPending table => s.putInForce table
  | .empty => s
  | .loaded _ => s

/-- A TEN fall: with a commit pending, the pending table returns to LOADED, the lockout latch is set and a TARIFF notice
LOCKOUT raised (R149, R153). -/
def State.tenFall (s : State) : State :=
  let s := { s with ten := false }
  match s.tariff.pending with
  | .commitPending table =>
    { s with tariff := { s.tariff with pending := .loaded table, lockout := true } }.raise
      (.tariff false table.identifier s.engine.cycleNo s.billing.clock none)
  | .empty => s
  | .loaded _ => s

/-- The level of TEN as a request finds it: a rise has no effect of its own, and a level found low after high has fallen
(R149; log entry 11). -/
def State.sampleTen (s : State) (level : Bool) : State :=
  if level then { s with ten := true } else if s.ten then s.tenFall else s

/-! ### The office's requests (R150, R151, R154, R155, R159) -/

/-- A class of a table takes a band list; no bands make it absent (R150). -/
def TariffTable.write (t : TariffTable) (cls : ClassNo) (bands : List Band) : TariffTable :=
  { t with classes := t.classes.set cls (if bands.isEmpty then none else some bands) }

/-- The pending table a load writes into: a fresh one in EMPTY, the pending one in LOADED (R150). -/
def Tariff.loadTarget (t : Tariff) (identifier : Nat) (mode : RoundingMode) : TariffTable :=
  match t.pending with
  | .loaded table => table
  | .empty => ⟨identifier, mode, Vector.replicate 8 none⟩
  | .commitPending table => table

/-- The pending state is COMMIT_PENDING. -/
def PendingTariff.isCommitted : PendingTariff → Bool
  | .commitPending _ => true
  | .empty | .loaded _ => false

/-- A load names another identifier or mode than the pending table in LOADED (R150, check 7). -/
def PendingTariff.mismatch (p : PendingTariff) (identifier : Nat) (mode : RoundingMode) : Bool :=
  match p with
  | .loaded t => t.identifier ≠ identifier || t.mode ≠ mode
  | .empty | .commitPending _ => false

/-- LOAD TARIFF CLASS, checked in the order of R150. -/
def reqLoadTariffClass (identifier : Nat) (mode : Option RoundingMode) (cls : Nat) (bands : List Band)
    (s : State) : State × Reply :=
  if !s.ten then (s, .refuse .disabled)
  else if s.tariff.lockout then (s, .refuse .lockout)
  else
    match numbered 8 cls, mode with
    | none, _ => (s, .refuse .badIndex)
    | some _, none => (s, .refuse .badValue)
    | some c, some mode =>
      if 6 < bands.length ∨ bands.any (fun b => 86399 < b.start || 9999999 < b.rate) then
        (s, .refuse .badValue)
      else if s.tariff.pending.isCommitted then (s, .refuse .busy)
      else if s.tariff.pending.mismatch identifier mode then (s, .refuse .notValid)
      else if !bands.isEmpty && !bandsValid (s.site.values.intervalMin * 60) bands then
        (s, .refuse .notValid)
      else
        let table := (s.tariff.loadTarget identifier mode).write c bands
        ({ s with tariff := { s.tariff with pending := .loaded table } },
          .okWith (.classes table.identifier table.present))

/-- The active accounts, in ascending order (R11). -/
def State.activeAccounts (s : State) : List AccountNo :=
  allAccounts.filter fun k => (s.accountEntry k).any AccountEntry.active

/-- The lowest-numbered active account whose class a table lacks (R15, R151). -/
def State.classAbsent (s : State) (t : TariffTable) : Option AccountNo :=
  s.activeAccounts.find? fun k => (s.accountEntry k).any fun e => (t.classes[e.tariffClass]).isNone

/-- COMMIT TARIFF: COMMIT_PENDING in LIVE, at once in COMMISSION (R151). -/
def reqCommitTariff (s : State) : State × Reply :=
  if !s.ten then (s, .refuse .disabled)
  else if s.tariff.lockout then (s, .refuse .lockout)
  else
    match s.tariff.pending with
    | .empty => (s, .refuse .state)
    | .commitPending _ => (s, .refuse .state)
    | .loaded table =>
      match s.classAbsent table with
      | some k => (s, ⟨.notValid, .accountItem k⟩)
      | none =>
        if s.site.live then ({ s with tariff := { s.tariff with pending := .commitPending table } }, .ok)
        else (s.putInForce table, .ok)

/-- DISCARD TARIFF (R154). -/
def reqDiscardTariff (s : State) : State × Reply :=
  if !s.ten then (s, .refuse .disabled)
  else
    match s.tariff.pending with
    | .empty => (s, .ok)
    | .loaded _ => ({ s with tariff := { s.tariff with pending := .empty, trial := false } }, .ok)
    | .commitPending _ => ({ s with tariff := { s.tariff with pending := .empty, trial := false } }, .ok)

/-- TRIAL, taken in LOADED alone (R155); the pending state is checked before the value, in the order in which R185 lists their
results (log entry 48). -/
def reqTrial (on : Option Bool) (s : State) : State × Reply :=
  match s.tariff.pending, on with
  | .empty, _ => (s, .refuse .state)
  | .commitPending _, _ => (s, .refuse .state)
  | .loaded _, none => (s, .refuse .badValue)
  | .loaded _, some on => ({ s with tariff := { s.tariff with trial := on } }, .ok)

/-- What READ TARIFF shows of a table: its summary for class 0, a class's bands otherwise (R159). -/
def tariffDetail (t : Option TariffTable) (cls : Option ClassNo) : TariffDetail :=
  match t, cls with
  | none, _ => .tableAbsent
  | some t, none => .table t.identifier t.mode t.present
  | some t, some c => .cls t.classes[c]

/-- READ TARIFF (R159); the class is checked before the table's name, in the order in which R185 lists their results (log entry
48). -/
def reqReadTariff (table : Option TariffName) (cls : Nat) (s : State) : State × Reply :=
  if 8 < cls then (s, .refuse .badIndex)
  else
    match table with
    | none => (s, .refuse .badValue)
    | some name =>
      let t := match name with
        | .active => s.tariff.active
        | .pending => s.tariff.pending.table
      (s, .okWith (.tariff
        { active := s.tariff.active.isSome, pending := s.tariff.pending, trial := s.tariff.trial
          lockout := s.tariff.lockout, ten := s.ten, detail := tariffDetail t (numbered 8 cls) }))

end Sys2Proof.Machine
end

