-- ==== Sys2Proof/Machine/Billing.lean ====
section
/-! DEFINITION. The Billing Engine (file 09): the site clock, opening, extending and closing intervals, rounding and carries,
records and bills, and the office's requests about them. -/

namespace Sys2Proof.Machine

/-! ### The site clock (R161) -/

/-- The last moment of the clock: day 65535, second 86399, 999 ms, where it stops and holds (R161). -/
def clockEnd : Nat := 65536 * 86400000 - 1

/-- The clock after `ms` milliseconds: it does not run while UNSET, and holds at its end (R161). -/
def Billing.runClock (b : Billing) (ms : Nat) : Billing :=
  { b with clock := b.clock.map fun t => min clockEnd (t + ms) }

/-- Time passes: the clock runs, and the time since the latest cycle start grows. -/
def State.advance (s : State) (ms : Nat) : State :=
  { s with
    billing := s.billing.runClock ms
    engine := { s.engine with age := s.engine.age + ms } }

/-- Time passes to `ms` after the latest cycle start, where it has not yet; while HALTED no cycle measures time (R18, R19; log
entry 3). -/
def State.bringTo (s : State) (ms : Nat) : State :=
  if s.engine.running then s.advance (ms - s.engine.age) else s

/-- One millisecond with no command waiting. While RUNNING, time stands at the moment the next cycle start is due (R18; log
entry 1). -/
def State.idleTick (s : State) : State :=
  if s.engine.running && s.engine.cycleLen ≤ s.engine.age then s else s.advance 1

/-! ### Boundaries (R161) -/

/-- The interval length in seconds. -/
def State.intervalSeconds (s : State) : Nat := s.site.values.intervalMin * 60

/-- The first boundary after a clock time, in seconds; the time's milliseconds do not matter. In the last interval of day 65535 it is the
end of that day, second 65536 × 86400, which the clock never reaches (R161, R163; log entry 55). -/
def boundaryAfter (intervalSeconds seconds : Nat) : Nat := (seconds / intervalSeconds + 1) * intervalSeconds

/-- The latest boundary at or before a clock time, in seconds. -/
def boundaryAt (intervalSeconds seconds : Nat) : Nat := seconds / intervalSeconds * intervalSeconds

/-! ### Accounts with an open interval (R62, R163, R164) -/

/-- The account has an open interval (R163). -/
def State.intervalOpen (s : State) (k : AccountNo) : Bool :=
  s.site.live && s.billing.interval.isSome && (s.accountEntry k).any AccountEntry.active

/-- Every open interval takes a mark (R164). -/
def State.markAll (s : State) (mark : Marks → Marks) : State :=
  forEach allAccounts (fun k s =>
    if s.intervalOpen k then s.modAccount k fun r => { r with marks := mark r.marks } else s) s

/-- Every open interval is marked GAP (R164). -/
def State.markGap (s : State) : State := s.markAll fun m => { m with gap := true }

/-- A feeder of the account has returned from STALE: its open interval is marked GAP (R50, R164). -/
def State.reportGap (s : State) (k : AccountNo) : State :=
  if s.intervalOpen k then
    s.modAccount k fun r => { r with marks := { r.marks with gap := true } }
  else s

/-- A feeder step reaches the account: its energy is added and its marks set, where the account has an open interval (R61,
R62). -/
def State.billStep (s : State) (k : AccountNo) (energy : Nat) (estimated clamped : Bool) : State :=
  if s.intervalOpen k then
    s.modAccount k fun r =>
      { r with accumulator := r.accumulator + energy, marks := r.marks.addStep estimated clamped }
  else s

/-- Intervals open at a time in seconds, on a boundary or off one: the next boundary, the offset and the marks of every active
account (R163, R167). -/
def State.openIntervals (s : State) (start : Nat) (onBoundary : Bool) : State :=
  let i : OpenInterval :=
    { start, onBoundary, nextBoundary := boundaryAfter s.intervalSeconds start, offset := 0
      timeSetDue := false }
  let s := { s with billing := { s.billing with interval := some i } }
  forEach s.activeAccounts (fun k s =>
    s.modAccount k fun r => { r with marks := { Marks.clear with short := !onBoundary } }) s

/-! ### The record queue (R173, R176) -/

/-- The record number after `n` (R173). -/
def recordNumberAfter (n : Nat) : Nat := if 4294967295 ≤ n then 1 else n + 1

/-- The number of a record. -/
def Record.number : Record → Nat
  | .interval r => r.number
  | .bill r => r.number

/-- A record joins at the tail, and the next record number moves on (R173). -/
def Billing.push (b : Billing) (r : Record) : Billing :=
  { b with records := b.records ++ [r], nextRecord := recordNumberAfter b.nextRecord }

/-- The free entries of the record queue (R165). -/
def Billing.freeRecords (b : Billing) : Nat := 512 - b.records.length

/-- A RECORDS notice (R176). -/
def State.raiseRecords (s : State) (reason : RecordsReason) : State :=
  s.raise (.records reason s.billing.records.length (s.billing.records.head?.map Record.number)
    s.billing.clock s.engine.cycleNo)

/-- The HIGH_WATER notice of a production that found `before` records held (R176). -/
def State.highWater (s : State) (before : Nat) : State :=
  if before ≤ 384 ∧ 384 < s.billing.records.length then s.raiseRecords .highWater else s

/-! ### Rounding (R168, R172) -/

/-- A quotient rounded to the nearest integer, a tie by the mode (R168, R172). -/
def roundDiv (mode : RoundingMode) (q : Int) (d : Nat) : Int :=
  let whole := q / d
  let rest := q % d
  if 2 * rest < d then whole
  else if (d : Int) < 2 * rest then whole + 1
  else
    match mode with
    | .halfUp => whole + 1
    | .halfEven => if whole % 2 = 0 then whole else whole + 1

/-- The energy of one billed unit, 0.01 kWh, in mJ (R168). -/
def billedUnit : Nat := 36000000

/-! ### Closing intervals (R167 to R170) -/

/-- The trial part of a record: the pending table's charge while trial is on and the class is present in it (R157, R169). -/
def Tariff.trialCharge (t : Tariff) (cls : ClassNo) (second units : Nat) : Option TrialCharge :=
  if t.trial then
    match t.pending.table with
    | none => none
    | some table => (table.rate cls second).map fun x => ⟨table.identifier, x.1, units * x.2⟩
  else none

/-- The interval record of one account at a close, for units already rounded (R169, R170). -/
def State.intervalRecord (s : State) (k : AccountNo) (e : AccountEntry) (start length units : Nat) (carry : Int)
    (flags : Marks) : IntervalRecord :=
  let second := start % 86400
  let priced := (s.tariff.active.bind fun t => t.rate e.tariffClass second).getD (0, 0)
  { number := s.billing.nextRecord, account := k, customer := e.customer, start, length
    identifier := (s.tariff.active.map TariffTable.identifier).getD 0
    band := priced.1, rate := priced.2, units, charge := units * priced.2, carry, flags
    trial := s.tariff.trialCharge e.tariffClass second units }

/-- One account's interval closes: the energy is rounded and the remainder carried, the units are priced and added to the
account's charges, and the record joins the queue (R168 to R170). `short` marks a time-set close or STAND DOWN (R167). -/
def State.closeAccount (s : State) (start length : Nat) (short : Bool) (k : AccountNo) : State :=
  match s.accountEntry k with
  | none => s
  | some e =>
    let r := s.account k
    let total := r.carry + r.accumulator
    let units := (roundDiv s.tariff.mode total billedUnit).toNat
    let carry := total - units * billedUnit
    let flags := { r.marks with short := r.marks.short || short }
    let record := s.intervalRecord k e start length units carry flags
    let s := s.modAccount k fun r =>
      { r with
        accumulator := 0, carry, marks := flags
        units := r.units + units, charge := r.charge + record.charge }
    { s with billing := s.billing.push (.interval record) }

/-- The length of the closing intervals in whole seconds: the end time in ms minus the interval start, plus the clock-set offset,
rounded down, 0 where it is below 0 (R167). -/
def OpenInterval.length (i : OpenInterval) (endMs : Nat) : Nat :=
  (((endMs : Int) - 1000 * i.start + i.offset) / 1000).toNat

/-- The three closes (R167). -/
inductive CloseKind where
  | boundary | timeSet | standDown
  deriving DecidableEq, Repr

/-- The end time of a close in ms, at a clock time in ms (R167). -/
def closeEnd (kind : CloseKind) (intervalSeconds now : Nat) : Nat :=
  match kind with
  | .boundary => boundaryAt intervalSeconds (now / 1000) * 1000
  | .timeSet => now
  | .standDown => now

/-- A close: one record for each active account, the Tariff Store told, and new intervals opened, or none and COMMISSION at
STAND DOWN; then the HIGH_WATER test (R167, R152, R176). -/
def State.closeIntervals (s : State) (i : OpenInterval) (kind : CloseKind) (now : Nat) : State :=
  let before := s.billing.records.length
  let finish := closeEnd kind s.intervalSeconds now
  let s := forEach s.activeAccounts
    (fun k s => s.closeAccount i.start (i.length finish) (kind ≠ .boundary) k) s
  let s := s.tellClose
  let s := match kind with
    | .boundary => s.openIntervals (finish / 1000) true
    | .timeSet => s.openIntervals (finish / 1000) false
    | .standDown =>
      { s with
        billing := { s.billing with interval := none }
        site := { s.site with live := false } }
  s.highWater before

/-- An extension: nothing closes, every open interval is marked EXTENDED, and the next boundary moves on (R166). -/
def State.extendIntervals (s : State) (i : OpenInterval) (now : Nat) : State :=
  let next := boundaryAfter s.intervalSeconds (now / 1000)
  let s := s.markAll fun m => { m with extended := true }
  let j := { i with nextBoundary := next, timeSetDue := false }
  let s := { s with billing := { s.billing with interval := some j } }
  s.raiseRecords (.extended i.start next)

/-- The open intervals are due to close at a clock time in ms (R165). -/
def OpenInterval.closeDue (i : OpenInterval) (now : Nat) : Bool :=
  i.timeSetDue || i.nextBoundary ≤ now / 1000

/-- The test of a cycle start in LIVE: the intervals that are due close where the record queue has room, and are extended
otherwise (R165). -/
def State.testClose (s : State) : State :=
  match s.billing.interval, s.billing.clock with
  | some i, some now =>
    if s.site.live && i.closeDue now then
      if s.activeAccounts.length ≤ s.billing.freeRecords then
        s.closeIntervals i (if i.timeSetDue then .timeSet else .boundary) now
      else s.extendIntervals i now
    else s
  | _, _ => s

/-! ### Bills (R171, R172) -/

/-- One account's bill (R172). Its number counts on without bound, and the record shows it modulo 2^32: DESIGN CHOICE, log entry 62. -/
def State.billAccount (s : State) (k : AccountNo) : State :=
  let r := s.account k
  let total := r.chargeCarry + r.charge
  let cents := (roundDiv s.tariff.mode total 10000).toNat
  let carry := total - cents * 10000
  let now := s.billing.nowSeconds
  let record : BillRecord :=
    { number := s.billing.nextRecord, account := k
      customer := (s.accountEntry k).elim (Config.unloadedCustomer s.billing.nextRecord).toNat AccountEntry.customer
      billNumber := r.nextBill, periodStart := r.lastBill, periodEnd := now
      units := r.units, charge := r.charge, cents, carry }
  let s := s.modAccount k fun r =>
    { r with units := 0, charge := 0, chargeCarry := carry, nextBill := r.nextBill + 1, lastBill := now }
  { s with billing := s.billing.push (.bill record) }

/-- Bills for accounts in order, with the HIGH_WATER test; refused QUEUE_FULL where the record queue lacks room (R171). -/
def State.billAccounts (s : State) (ks : List AccountNo) : State × Reply :=
  if s.billing.freeRecords < ks.length then (s, .refuse .queueFull)
  else
    let before := s.billing.records.length
    let s := forEach ks (fun k s => s.billAccount k) s
    (s.highWater before, .okWith (.bills ks.length))

/-- CLOSE BILL; account 0 stands for ALL (R171, R196). -/
def reqCloseBill (account : Nat) (s : State) : State × Reply :=
  if account = 0 then s.billAccounts s.activeAccounts
  else
    match numbered 48 account with
    | none => (s, .refuse .badIndex)
    | some k => s.billAccounts [k]

/-! ### The office's requests (R162, R174, R175, R177) -/

/-- The open intervals at a SET CLOCK in LIVE: the offset, and the time-set close due or the next boundary (R162). -/
def OpenInterval.setClock (i : OpenInterval) (intervalSeconds : Nat) (old : Option Nat) (new : Nat) :
    OpenInterval :=
  let offset := i.offset + (old.elim 0 fun t => (t : Int) - new)
  if i.nextBoundary ≤ new / 1000 then { i with offset, timeSetDue := true }
  else
    { i with offset, timeSetDue := false, nextBoundary := boundaryAfter intervalSeconds (new / 1000) }

/-- SET CLOCK (R162). -/
def reqSetClock (day second ms : Nat) (s : State) : State × Reply :=
  if 86399 < second ∨ 999 < ms then (s, .refuse .badValue)
  else
    let new := daySeconds day second * 1000 + ms
    let old := s.billing.clock
    let s := { s with billing := { s.billing with clock := some new } }
    let s := if s.site.live then
        let s := s.markAll fun m => { m with timeSet := true }
        { s with billing := { s.billing with
          interval := s.billing.interval.map fun i => i.setClock s.intervalSeconds old new } }
      else s
    (s, .okWith (.clock new))

/-- READ RECORDS: the oldest records held, up to 8, with the number held (R174). -/
def reqReadRecords (s : State) : State × Reply :=
  (s, .okWith (.records s.billing.records.length (s.billing.records.take 8)))

/-- RELEASE RECORDS: removes the n oldest (R175). -/
def reqReleaseRecords (count : Nat) (s : State) : State × Reply :=
  let n := min count s.billing.records.length
  let rest := s.billing.records.drop n
  ({ s with billing := { s.billing with records := rest } },
    .okWith (.released n (rest.head?.map Record.number)))

/-- READ ACCOUNT (R177). -/
def reqReadAccount (account : Nat) (s : State) : State × Reply :=
  match numbered 48 account with
  | none => (s, .refuse .badIndex)
  | some k =>
    (s, .okWith (.account
      { entry := s.accountEntry k
        interval := if s.intervalOpen k then s.billing.interval else none
        record := s.account k }))

end Sys2Proof.Machine
end

