-- ==== Sys2Proof/Machine/Supply.lean ====
section
/-! DEFINITION. What the blocks read of one another: the supply map (R123), link reachability (R29), point load (R55),
the readings of a set (R94) and the in-service test (R79). None of these changes the state. -/

namespace Sys2Proof.Machine

/-- The unit is reachable: its link state is ABSENT, PRESENT or SILENT (R29). -/
def State.reachable (s : State) (a : Addr) : Bool :=
  match (s.link a).state with
  | none | some .lost => false
  | some .absent | some .present | some .silent => true

/-- The changeover unit and the two sources of a point loaded as SWITCHED (R9). -/
def State.switched (s : State) (p : PointNo) : Option (Addr × SetNo × SetNo) :=
  match s.pointEntry p with
  | some e =>
    match e.source with
    | .switched u a b => some (u, a, b)
    | .fixed _ => none
  | none => none

/-- The set a position connects, of sources A and B. -/
def SwPos.connects (pos : SwPos) (a b : SetNo) : Option SetNo :=
  match pos with
  | .a => some a
  | .b => some b
  | .opened | .unknown => none

/-- The connected set of a point (R123, R42). -/
def State.connectedSet (s : State) (p : PointNo) : Option SetNo :=
  match s.pointEntry p with
  | none => none
  | some e =>
    match e.source with
    | .fixed n => some n
    | .switched _ a b => (s.pointRec p).position.connects a b

/-- The position on a side. -/
def sidePos : Side → SwPos
  | .a => .a
  | .b => .b

/-- The set on a side, of sources A and B. -/
def sideSource (side : Side) (a b : SetNo) : SetNo :=
  match side with
  | .a => a
  | .b => b

/-- The close command of a side. -/
def sideClose : Side → Code
  | .a => .closeA
  | .b => .closeB

/-- The side a set supplies, of sources A and B. -/
def sideSupplied (n a b : SetNo) : Option Side :=
  if n = a then some .a else if n = b then some .b else none

/-- A set is in service: the connected set of some point, or its reservation list is not empty (R79). -/
def State.inService (s : State) (n : SetNo) : Bool :=
  allPoints.any (fun p => s.connectedSet p = some n) || !(s.setRec n).reservations.isEmpty

/-- The loaded feeders of a point. -/
def State.feedersOf (s : State) (p : PointNo) : List FeederNo :=
  allFeeders.filter fun f => (s.feederEntry f).any fun e => e.point = p

/-- The latest sample power of a feeder in LIVE or HELD; 0 in NONE and STALE (R55). -/
def FeederRec.loadPower (r : FeederRec) : Nat :=
  match r.state, r.latest with
  | .live, some x => x.power
  | .held, some x => x.power
  | _, _ => 0

/-- The feeder is past the hold limit at the cycle start being taken, and its close-off stands as a command of its own: what is
read at this cycle start is read as if it were done (R49, R55, R56; log entry 6). -/
def State.closingOff (s : State) (f : FeederNo) : Bool := s.due.contains (.holdLimit f)

/-- The point load, in 10 W units, after the close-offs of the cycle start (R55). -/
def State.pointLoad (s : State) (p : PointNo) : Nat :=
  (((s.feedersOf p).filter fun f => !s.closingOff f).map fun f => (s.feederRec f).loadPower).sum

/-- The set load, in 10 W units (R94). -/
def SetRec.load (r : SetRec) : Nat :=
  match r.latest with
  | some x => if x.engine = .running then 10 * x.power else 0
  | none => 0

/-- The capacity of a set: rating times overload limit, divided by 10, rounded down (R94). -/
def SetEntry.loadCapacity (e : SetEntry) : Nat := e.rating * e.overloadLimit / 10

/-- The incoming reservation of a set (R94). -/
def SetRec.reserved (r : SetRec) : Nat := (r.reservations.map Reservation.load).sum

/-- The headroom of a set, which may be negative (R94); a set that is not loaded has no capacity. -/
def State.headroom (s : State) (n : SetNo) : Int :=
  let capacity := ((s.setEntry n).map SetEntry.loadCapacity).getD 0
  (capacity : Int) - (s.setRec n).load - (s.setRec n).reserved

/-- The run states of an eligible set (R94). -/
def RunState.mayTakeLoad : RunState → Bool
  | .stopped | .starting _ _ _ _ | .warming _ | .online => true
  | .offline | .unseen | .cooling _ | .stopping | .fault _ => false

/-- Eligible as a changeover target (R94). -/
def State.eligible (s : State) (n : SetNo) : Bool :=
  match s.setEntry n with
  | none => false
  | some e =>
    (s.setRec n).run.mayTakeLoad && !(s.setRec n).unreachable && s.reachable e.unit
      && e.reserveLevel < (s.tank n).book

/-- ONLINE with the unreachable mark clear: the test a close is queued under (R137, R138). -/
def State.onlineReachable (s : State) (n : SetNo) : Bool :=
  (s.setRec n).run = .online && !(s.setRec n).unreachable

/-- The address of the enabled FUEL unit of a meter (R108). -/
def State.meterUnit (s : State) (m : MeterNo) : Option Addr :=
  allUnits.find? fun a => (s.unitEntry a).any fun e =>
    e.enabled && e.kind = .fuel && e.owner = m.val + 1

/-- A meter other than `m` holds a session for the set (R109). -/
def State.otherSession (s : State) (m : MeterNo) (n : SetNo) : Bool :=
  allMeters.any fun k => k ≠ m && (s.meter k).session.any fun x => x.set = n

/-- Some meter holds a session for the set in a state other than IDLE (R103, R106). -/
def State.sessionFor (s : State) (n : SetNo) : Bool :=
  allMeters.any fun k => (s.meter k).session.any fun x => x.set = n

/-- The name of a run state (R74). -/
def RunState.name : RunState → RunName
  | .offline => .offline
  | .unseen => .unseen
  | .stopped => .stopped
  | .starting _ _ _ _ => .starting
  | .warming _ => .warming
  | .online => .online
  | .cooling _ => .cooling
  | .stopping => .stopping
  | .fault _ => .fault

end Sys2Proof.Machine
end

