-- ==== Sys2Proof/Machine/Sequencer.lean ====
section
/-! DEFINITION. The Changeover Sequencer once a sequence is in flight: how it ends, its command place, its phases,
recovery, and what it does with outcomes, position reports, news of a set, a lost unit and a field restart (R123 to R126,
R130 to R142). Acceptance and the schedule are in Changeover.lean, which needs the Set Supervisor. -/

namespace Sys2Proof.Machine

/-! ### Reservations (R95) -/

/-- Places the point's entry in the set's reservation list, replacing one already present (R95). The list keeps the order of placing, and
READ SET shows it so: DESIGN CHOICE, log entry 66. -/
def State.reserve (s : State) (n : SetNo) (p : PointNo) (load : Nat) : State :=
  s.modSet n fun r =>
    { r with reservations := r.reservations.filter (fun x => x.point ≠ p) ++ [⟨p, load⟩] }

/-- Removes the point's entry from the set's reservation list (R95). -/
def State.release (s : State) (n : SetNo) (p : PointNo) : State :=
  s.modSet n fun r => { r with reservations := r.reservations.filter fun x => x.point ≠ p }

/-! ### Ends (R130, R131) -/

/-- A queued entry of the point is withdrawn and its due command dropped; a command SENT stays so (R130, R138). -/
def State.dropPointCommand (s : State) (p : PointNo) : State :=
  (s.withdraw (.changeover p)).modPoint p fun r => { r with place := r.place.unqueue, due := none }

/-- The position a CHANGEOVER notice of an end carries: the map's, and UNKNOWN for RESTART, which the same FIELD RESTART makes
the position (R130, R142; log entry 43). -/
def State.endPosition (s : State) (p : PointNo) (outcome : SeqOutcome) : SwPos :=
  if outcome = .restart then .unknown else (s.pointRec p).position

/-- The end of a sequence with an outcome: IDLE, command withdrawn, reservation released, last outcome and AUTO_BLOCKED
recorded, CHANGEOVER notice raised, urgent for DARK (R130, R131). `manual` is what a manual operation or a unit fault adds
to the notice (R126). An IDLE sequencer has nothing to end. -/
def State.endSequence (s : State) (p : PointNo) (outcome : SeqOutcome) (manual : Option ManualPart) : State :=
  match (s.pointRec p).seq with
  | none => s
  | some q =>
    let cycle := s.engine.cycleNo
    let s := (s.dropPointCommand p).release q.targetSet p
    let s := s.modPoint p fun r =>
      { r with
        seq := none
        lastOutcome := some ⟨outcome, q.cause, cycle⟩
        autoBlocked := r.autoBlocked || blocksPoint outcome q.cause }
    s.raiseMarked (outcome = .dark) (.changeover
      { point := p, outcome, manual
        ended := some
          { cause := q.cause, targetSide := q.targetSide, targetSet := q.targetSet
            originalPos := q.originalPos, originalSet := q.originalSet
            recovery := q.recovery, verification := q.verification }
        finalPos := s.endPosition p outcome
        cycle })

/-- The end of a sequence whose point has closed onto the target: DONE after VERIFIED, DONE_UNVERIFIED after UNVERIFIED
(R137, R138). With no verification recorded the outcome is a free value (log entry 20). -/
def State.endClosed (s : State) (p : PointNo) (q : Sequence) : State :=
  match q.verification with
  | some .verified => s.endSequence p .done none
  | some .unverified => s.endSequence p .doneUnverified none
  | none =>
    let outcome := if Config.doneWithoutVerification s.freeCount then .done else .doneUnverified
    { s with freeCount := s.freeCount + 1 }.endSequence p outcome none

/-- The outcome an abort mark gives an end (R134). -/
def AbortMark.outcome : AbortMark → SeqOutcome
  | .cancelled => .cancelled
  | .targetFault => .targetFault

/-- The recovery reason an abort mark gives (R134). -/
def AbortMark.recovery : AbortMark → RecoveryReason
  | .cancelled => .cancelled
  | .targetFault => .targetFault

/-! ### The command place (R132) -/

/-- The sequence in flight takes a new value. -/
def State.putSeq (s : State) (p : PointNo) (q : Sequence) : State :=
  s.modPoint p fun r => { r with seq := some q }

/-- Enqueues the point's due command to its changeover unit; it stays due where the queue refuses it (R132, log entry
40). -/
def State.enqueuePoint (s : State) (p : PointNo) (code : Code) : State :=
  match s.switched p with
  | none => s
  | some (u, _, _) =>
    match s.enqueue ⟨u, code, [], .changeover p⟩ with
    | none => s
    | some s => s.modPoint p fun r => { r with place := .queued code, due := none }

/-- The recovery close is tested when it would be enqueued: an original set that is not ONLINE and reachable ends the
sequence DARK (R138). -/
def State.enqueueRecovery (s : State) (p : PointNo) (q : Sequence) (code : Code) : State :=
  if q.originalSet.any s.onlineReachable then s.enqueuePoint p code else s.endSequence p .dark none

/-- The close to the side a point was on. -/
def SwPos.close : SwPos → Option Code
  | .a => some .closeA
  | .b => some .closeB
  | .opened | .unknown => none

/-- Entry into RECOVERING: queued entries are withdrawn, and the sequencer tries once to restore the original source; it
ends DARK at once where the original set is none, not ONLINE or unreachable (R138). -/
def State.enterRecovering (s : State) (p : PointNo) (q : Sequence) (reason : RecoveryReason) : State :=
  let q := { q with phase := .recovering, recovery := some reason, counter := .none }
  let s := (s.dropPointCommand p).putSeq p q
  match q.originalPos.close with
  | some code =>
    if q.originalSet.any s.onlineReachable then
      let s := s.modPoint p fun r => { r with due := some code }
      if (s.pointRec p).place = .free then s.enqueueRecovery p q code else s
    else s.endSequence p .dark none
  | none => s.endSequence p .dark none

/-- Enqueues the due command of a point whose place is FREE. A due target close is tested then: a target that is not
ONLINE and reachable sends the sequence to RECOVERING (R132, R137, R138). In DEAD what can be due is an OPEN that was not withdrawn on
entry: log entry 61. -/
def State.tryEnqueuePoint (s : State) (p : PointNo) : State :=
  let r := s.pointRec p
  match r.seq, r.due, r.place with
  | some q, some code, .free =>
    match q.phase with
    | .closing =>
      if s.onlineReachable q.targetSet then s.enqueuePoint p code
      else s.enterRecovering p q .targetFault
    | .recovering => s.enqueueRecovery p q code
    | .preparing | .opening | .dead => s.enqueuePoint p code
  | _, _, _ => s

/-! ### Phases -/

/-- Entry into OPENING: OPEN becomes due and is enqueued at once (R134). -/
def State.enterOpening (s : State) (p : PointNo) (q : Sequence) : State :=
  let s := s.modPoint p fun r =>
    { r with seq := some { q with phase := .opening, counter := .none }, due := some .openSwitch }
  s.tryEnqueuePoint p

/-- Entry into DEAD, with the cycle from which dead readings count (R135). An OPEN that is still due or QUEUED when the unit reports OPEN
is not withdrawn (R134 is silent): DESIGN CHOICE, log entry 61. -/
def State.enterDead (s : State) (p : PointNo) (q : Sequence) (openCycle : CycleNo) : State :=
  let deadTime := ((s.pointEntry p).map PointEntry.deadTime).getD 0
  s.putSeq p { q with phase := .dead, counter := .dead deadTime, openCycle := some openCycle }

/-- The target is ONLINE: OPENING, or DEAD where the original position is OPEN (R129, R133, R135). -/
def State.proceed (s : State) (p : PointNo) (q : Sequence) : State :=
  if q.originalPos = .opened then s.enterDead p q s.engine.cycleNo else s.enterOpening p q

/-- Entry into CLOSING with the verification result: the close to the target side becomes due (R136, R137). -/
def State.enterClosing (s : State) (p : PointNo) (q : Sequence) (v : Verification) : State :=
  let s := s.modPoint p fun r =>
    { r with
      seq := some { q with phase := .closing, counter := .none, verification := some v }
      due := some (sideClose q.targetSide) }
  s.tryEnqueuePoint p

/-- Loads the confirm counter with the point's confirm timeout. -/
def State.loadConfirm (s : State) (p : PointNo) (q : Sequence) : State :=
  let n := ((s.pointEntry p).map PointEntry.confirmTimeout).getD 0
  s.putSeq p { q with counter := .confirm n }

/-- A failure in OPENING: OPEN_FAILED, or the abort mark's end (R134). -/
def State.endOpening (s : State) (p : PointNo) (q : Sequence) : State :=
  s.endSequence p (q.abort.elim .openFailed AbortMark.outcome) none

/-! ### The dead check (R56, R136) -/

/-- The result of a dead check. -/
inductive DeadResult where
  | unverified | notDead | verified | undecided
  deriving DecidableEq, Repr

/-- A reading the Feeder Monitor offers: the feeder number, and its latest sample with current and cycle number (R56). -/
structure DeadReading where
  feeder : FeederNo
  sample : Option Sample
  deriving DecidableEq, Repr

/-- The readings offered for a point: one for each of its feeders in LIVE, after the close-offs of the cycle start; an empty list
says that the point has no feeder in LIVE (R56). -/
def State.deadReadings (s : State) (p : PointNo) : List DeadReading :=
  ((s.feedersOf p).filter fun f => (s.feederRec f).state = .live && !s.closingOff f).map fun f =>
    ⟨f, (s.feederRec f).latest⟩

/-- A reading counts when its sample is later than the open cycle (R136; log entry 17). -/
def countsAfter (openCycle : Option CycleNo) (x : DeadReading) : Option Sample :=
  x.sample.filter fun x => openCycle.any fun c => cycleAfter x.cycle c

/-- The dead check of a point, decided by the first case of R136 that applies. -/
def State.deadCheck (s : State) (p : PointNo) (openCycle : Option CycleNo) : DeadResult :=
  let threshold := ((s.pointEntry p).map PointEntry.deadThreshold).getD 0
  let readings := (s.deadReadings p).map (countsAfter openCycle)
  if readings.isEmpty then .unverified
  else if readings.any (fun x => x.any fun x => threshold < x.current) then .notDead
  else if readings.all Option.isSome then .verified
  else .undecided

/-- Acts on a dead check, `undecided` saying what an undecided one does (R136). -/
def State.applyDeadCheck (s : State) (p : PointNo) (q : Sequence) (undecided : State) : State :=
  match s.deadCheck p q.openCycle with
  | .unverified => s.enterClosing p q .unverified
  | .verified => s.enterClosing p q .verified
  | .notDead => s.enterRecovering p q .notDead
  | .undecided => undecided

/-- The expiry of the dead time: the first dead check; an undecided one loads the window counter with the confirm timeout
(R135, R136). -/
def State.expireDead (s : State) (p : PointNo) (q : Sequence) : State :=
  let n := ((s.pointEntry p).map PointEntry.confirmTimeout).getD 0
  s.applyDeadCheck p q (s.putSeq p { q with counter := .window n })

/-- A later dead check, its window counter already decreased; undecided with a spent window is UNVERIFIED (R136). -/
def State.windowCheck (s : State) (p : PointNo) (q : Sequence) : State :=
  s.applyDeadCheck p q (if q.counter = .window 0 then s.enterClosing p q .unverified else s)

/-- The confirm counter reaches 0: OPENING fails, CLOSING recovers, RECOVERING ends DARK (R134, R137, R138). -/
def State.expireConfirm (s : State) (p : PointNo) (q : Sequence) : State :=
  match q.phase with
  | .opening => s.endOpening p q
  | .closing => s.enterRecovering p q .closeFailed
  | .recovering => s.endSequence p .dark none
  | .preparing | .dead => s

/-! ### News of a set (R76, R133, R137 to R139) -/

/-- The command of the present phase is still due or QUEUED. One whose ACCEPTED has come is not, and counts as SENT: an OPEN by log entry 31
(DEDUCED), a close by log entry 74 (DESIGN CHOICE). -/
def PointRec.commandWaiting (r : PointRec) : Bool :=
  r.due.isSome || (match r.place with
    | .queued _ => true
    | .free | .sent _ => false)

/-- A sequencer is told of a run state change or a change of the unreachable mark of set `n`, which has been made. The loss of the set that
a close waits for changes nothing once that close has been SENT (R137, R138), nor after its ACCEPTED has come, which neither table names:
DESIGN CHOICE, log entry 74. -/
def State.seqNews (s : State) (n : SetNo) (p : PointNo) : State :=
  match (s.pointRec p).seq with
  | none => s
  | some q =>
    let waiting := (s.pointRec p).commandWaiting
    if q.targetSet = n then
      match q.phase with
      | .preparing =>
        if s.onlineReachable n then s.proceed p q
        else
          match (s.setRec n).run, (s.setRec n).unreachable with
          | .starting _ _ _ _, false => s
          | .warming _, false => s
          | _, _ => s.endSequence p .targetFault none
      | .opening =>
        if s.onlineReachable n then s
        else if waiting then s.endSequence p .targetFault none
        else s.putSeq p { q with abort := some (q.abort.getD .targetFault) }
      | .dead => if s.onlineReachable n then s else s.enterRecovering p q .targetFault
      | .closing =>
        if s.onlineReachable n || !waiting then s else s.enterRecovering p q .targetFault
      | .recovering => s
    else if q.originalSet = some n && q.phase = .recovering then
      if s.onlineReachable n || !waiting then s else s.endSequence p .dark none
    else s

/-- Every sequencer is told of a change of set `n` (R76). -/
def State.tellSequencers (s : State) (n : SetNo) : State :=
  forEach allPoints (fun p s => s.seqNews n p) s

/-! ### Outcomes (R132, R134, R137, R138) -/

/-- The code whose outcome the present phase waits for. -/
def Sequence.awaits (q : Sequence) : Option Code :=
  match q.phase with
  | .opening => some .openSwitch
  | .closing => some (sideClose q.targetSide)
  | .recovering => q.originalPos.close
  | .preparing | .dead => none

/-- An outcome the present phase waits for; UNIT_LOST is taken as NO_ANSWER (R132). -/
def State.applySeqOutcome (s : State) (p : PointNo) (q : Sequence) (outcome : CommandOutcome) : State :=
  match outcome with
  | .restart => s.endSequence p .restart none
  | .accepted => s.loadConfirm p q
  | .refused _ | .noAnswer | .unitLost =>
    match q.phase with
    | .opening => s.endOpening p q
    | .closing => s.enterRecovering p q .closeFailed
    | .recovering => s.endSequence p .dark none
    | .preparing | .dead => s

/-- An outcome returns to a sequencer: the place becomes FREE, and the outcome is applied where the present phase waits for
it and discarded otherwise (R132). A phase whose own command is still due does not wait for the one that returns. -/
def State.pointOutcome (s : State) (p : PointNo) (code : Code) (outcome : CommandOutcome) : State :=
  let s := s.modPoint p fun r => { r with place := .free }
  match (s.pointRec p).seq with
  | some q =>
    if q.awaits = some code && (s.pointRec p).due = none then s.applySeqOutcome p q outcome else s
  | none => s

/-! ### Position reports (R125, R126) -/

/-- The position of the map that a report gives. -/
def ReportedPos.pos : ReportedPos → SwPos
  | .a => .a
  | .b => .b
  | .opened => .opened
  | .fault => .unknown

/-- The map takes a position. -/
def State.putPosition (s : State) (p : PointNo) (pos : SwPos) : State :=
  s.modPoint p fun r => { r with position := pos }

/-- A manual operation or a unit fault: the map changes, a sequence in flight ends, and one CHANGEOVER notice is raised
(R126). -/
def State.manualChange (s : State) (p : PointNo) (reported : ReportedPos) (selector : Selector) : State :=
  let old := (s.pointRec p).position
  let outcome := if reported = .fault then SeqOutcome.unitFault else .manual
  let part : ManualPart := ⟨old, reported, selector⟩
  let s := s.putPosition p reported.pos
  match (s.pointRec p).seq with
  | some _ => s.endSequence p outcome (some part)
  | none =>
    s.raise (.changeover
      { point := p, outcome, manual := some part, ended := none, finalPos := reported.pos
        cycle := s.engine.cycleNo })

/-- An expected change, already applied to the map, or a manual operation (R125): OPENING expects OPEN, CLOSING the target
side, RECOVERING the original side and the target side. -/
def State.positionChange (s : State) (p : PointNo) (reported : ReportedPos) (selector : Selector) : State :=
  match (s.pointRec p).seq with
  | none => s.manualChange p reported selector
  | some q =>
    let taken := s.putPosition p reported.pos
    match q.phase with
    | .opening =>
      if reported = .opened then
        match q.abort with
        | none => taken.enterDead p q s.engine.cycleNo
        | some mark => taken.enterRecovering p q mark.recovery
      else s.manualChange p reported selector
    | .closing =>
      if reported.pos = sidePos q.targetSide then taken.endClosed p q
      else s.manualChange p reported selector
    | .recovering =>
      if reported.pos = sidePos q.targetSide then taken.endClosed p q
      else if reported.pos = q.originalPos ∧ q.originalSet.isSome then
        taken.endSequence p (.recovered q.cause) none
      else s.manualChange p reported selector
    | .preparing | .dead => s.manualChange p reported selector

/-- A valid CHANGE report reaches the sequencer of the point its unit serves: the selector is taken, and the reported
position is compared with the map (R125). -/
def State.changeReport (s : State) (unit : Addr) (owner : Nat) (reported : ReportedPos) (selector : Selector) :
    State :=
  match numbered 12 owner with
  | none => s
  | some p =>
    match s.switched p with
    | none => s
    | some (u, _, _) =>
      if u = unit then
        let s := s.modPoint p fun r => { r with selector := some selector }
        let map := (s.pointRec p).position
        if map = reported.pos then s
        else if map = .unknown then s.putPosition p reported.pos
        else if reported = .fault then s.manualChange p reported selector
        else s.positionChange p reported selector
      else s

/-! ### Lost units and field restart (R141, R142) -/

/-- The position of a SWITCHED point becomes UNKNOWN and its selector none, and a sequence in flight ends (R141, R142). -/
def State.forgetPosition (s : State) (p : PointNo) (outcome : SeqOutcome) : State :=
  (s.modPoint p fun r => { r with position := .unknown, selector := none }).endSequence p outcome none

/-- A changeover unit has become LOST: every SWITCHED point that names it (R141; log entry 23). -/
def State.changeLost (s : State) (unit : Addr) : State :=
  forEach allPoints (fun p s =>
    if (s.switched p).any fun x => x.1 = unit then s.forgetPosition p .linkLost else s) s

/-- The field has restarted: every SWITCHED point, and every sequencer still in flight (R142). -/
def State.restartPoints (s : State) : State :=
  forEach allPoints (fun p s =>
    if (s.switched p).isSome then s.forgetPosition p .restart else s) s

end Sys2Proof.Machine
end

