-- ==== Sys2Proof/Machine/Sets.lean ====
section
/-! DEFINITION. The Set Supervisor (file 05): run state changes and what they tell, the command place, starting, warm-up,
stopping, reports, the unreachable mark, and the load window. The energy of a set report is in Energy.lean. -/

namespace Sys2Proof.Machine

/-! ### Run state changes (R76, R78) -/

/-- The command a run state calls for (R78). -/
def RunState.calledFor : RunState → Option Code
  | .starting _ _ _ _ => some .start
  | .stopping => some .stop
  | .offline | .unseen | .stopped | .warming _ | .online | .cooling _ | .fault _ => none

/-- Drops a due command, and withdraws a queued entry, that the set's run state does not call for (R78). -/
def State.dropUncalled (s : State) (n : SetNo) : State :=
  let r := s.setRec n
  let due := r.due.filter fun c => some c = r.run.calledFor
  match r.place with
  | .queued c =>
    if some c = r.run.calledFor then s.modSet n fun r => { r with due }
    else (s.withdraw (.sets n)).modSet n fun r => { r with due, place := .free }
  | .free | .sent _ => s.modSet n fun r => { r with due }

/-- A change of run state: the overload run becomes 0 (R90), commands the new state does not call for go (R78), a SET STATE
notice is raised, and the sequencers are told (R76). -/
def State.changeRun (s : State) (n : SetNo) (run : RunState) (reason : StateReason)
    (attempts : Option Nat := none) : State :=
  let old := (s.setRec n).run.name
  let s := (s.modSet n fun r => { r with run, overloadRun := 0 }).dropUncalled n
  (s.raise (.setState n old run.name reason attempts s.engine.cycleNo)).tellSequencers n

/-- Entry into FAULT with its reason (R87); FAILED_START carries the number of attempts made (R76). -/
def State.enterFault (s : State) (n : SetNo) (reason : FaultReason) (attempts : Option Nat := none) : State :=
  let told : StateReason := match reason with
    | .failedStart => .failedStart
    | .unexpectedStop => .unexpectedStop
    | .setAlarm => .setAlarm
  s.changeRun n (.fault reason) told attempts

/-- Enqueues the set's due command where its place is FREE and its unreachable mark clear. A STOP that finds the set in
service is not enqueued: the set returns to ONLINE (R78, R79). -/
def State.tryEnqueueSet (s : State) (n : SetNo) : State :=
  let r := s.setRec n
  match r.due, r.place, r.unreachable with
  | some code, .free, false =>
    if code = .stop && s.inService n then
      (s.modSet n fun r => { r with due := none }).changeRun n .online .inService
    else
      match s.setEntry n with
      | none => s
      | some e =>
        match s.enqueue ⟨e.unit, code, [], .sets n⟩ with
        | none => s
        | some s => s.modSet n fun r => { r with place := .queued code, due := none }
  | _, _, _ => s

/-- START or STOP becomes due, and is enqueued where it can be (R78). -/
def State.makeDue (s : State) (n : SetNo) (code : Code) : State :=
  (s.modSet n fun r => { r with due := some code }).tryEnqueueSet n

/-- Entry into STARTING with attempt 1 and START due (R80); the crank attempts are read as the attempt begins (R81). -/
def State.enterStarting (s : State) (n : SetNo) (reason : StateReason) : State :=
  let allowed := ((s.setEntry n).map SetEntry.crankAttempts).getD 0
  (s.changeRun n (.starting 1 allowed none false) reason).makeDue n .start

/-- Entry into STOPPING with STOP due (R84, R85). -/
def State.enterStopping (s : State) (n : SetNo) (reason : StateReason) : State :=
  (s.changeRun n .stopping reason).makeDue n .stop

/-- Entry into WARMING, counted in the starts counter; a counter loaded with 0 takes the set on to ONLINE in the same event
(R83). -/
def State.enterWarming (s : State) (n : SetNo) (counter : Nat) (reason : StateReason) : State :=
  let s := (s.changeRun n (.warming counter) reason).modHire n fun h =>
    { h with starts := satAdd max64 h.starts 1 }
  if counter = 0 then s.changeRun n .online .timer else s

/-- Entry into COOLING; a counter loaded with 0 takes the set on to STOPPING in the same event (R84, R85). -/
def State.enterCooling (s : State) (n : SetNo) (counter : Nat) : State :=
  let s := s.changeRun n (.cooling counter) .office
  if counter = 0 then s.enterStopping n .timer else s

/-! ### Starting (R81, R82) -/

/-- An attempt of a STARTING set ends: STOPPED under a stop-pending mark, the next attempt while attempts are left, FAULT
otherwise (R81, R82). An attempt whose number is above the crank attempts read when it began, which a reload can have lowered, goes to FAULT as one
equal to them does: DESIGN CHOICE, log entry 65. -/
def State.endAttempt (s : State) (n : SetNo) : State :=
  match (s.setRec n).run with
  | .starting attempt allowed _ stopPending =>
    if stopPending then s.changeRun n .stopped .startEnded
    else if attempt < allowed then
      let next := ((s.setEntry n).map SetEntry.crankAttempts).getD 0
      (s.modSet n fun r => { r with run := .starting (attempt + 1) next none false }).makeDue n .start
    else s.enterFault n .failedStart (some attempt)
  | _ => s

/-- The warm-up counter of a start that has succeeded: short within the hot window after the last stop, long otherwise
(R83). -/
def warmUpLoad (e : SetEntry) (stopCycle : Option CycleNo) (cycle : CycleNo) : Nat :=
  match stopCycle with
  | some c => if cycleDiff cycle c ≤ e.hotWindow then e.warmUpShort else e.warmUpLong
  | none => e.warmUpLong

/-- A STARTING set reports RUNNING: WARMING, or STOPPING under a stop-pending mark for a set not in service (R81, R82,
R83). -/
def State.startSucceeds (s : State) (n : SetNo) (e : SetEntry) (stopPending : Bool) (cycle : CycleNo) :
    State :=
  if stopPending && !s.inService n then s.enterStopping n .running
  else s.enterWarming n (warmUpLoad e (s.setRec n).stopCycle cycle) .running

/-- An outcome the STARTING set's attempt waits for (R81). -/
def State.startOutcome (s : State) (n : SetNo) (outcome : CommandOutcome) : State :=
  match outcome with
  | .accepted =>
    let window := ((s.setEntry n).map SetEntry.crankWindow).getD 0
    s.modSet n fun r =>
      match r.run with
      | .starting attempt allowed _ p => { r with run := .starting attempt allowed (some window) p }
      | _ => r
  | .refused _ | .noAnswer | .unitLost => s.endAttempt n
  | .restart => s.modSet n fun r => { r with due := some .start }

/-- An outcome of STOP in STOPPING (R86). -/
def State.stopOutcome (s : State) (n : SetNo) (outcome : CommandOutcome) : State :=
  match outcome with
  | .accepted => s
  | .refused _ | .noAnswer | .unitLost => s.changeRun n .online .stopFailed
  | .restart => s.modSet n fun r => { r with due := some .stop }

/-- An outcome returns to a set: its place becomes FREE; the outcome is applied where the run state waits for it and
discarded otherwise. A state whose own command is still due waits for no earlier one (R78). -/
def State.setOutcome (s : State) (n : SetNo) (code : Code) (outcome : CommandOutcome) : State :=
  let s := s.modSet n fun r => { r with place := .free }
  let r := s.setRec n
  if r.due.isSome || r.run.calledFor ≠ some code then s
  else if code = .start then s.startOutcome n outcome
  else s.stopOutcome n outcome

/-! ### The unreachable mark (R89) -/

/-- The mark takes a value; a change is told to the sequencers (R76), and setting it holds the overload run at 0 (R90). -/
def State.setMark (s : State) (n : SetNo) (mark : Bool) : State :=
  if (s.setRec n).unreachable = mark then s
  else
    (s.modSet n fun r =>
      { r with unreachable := mark, overloadRun := if mark then 0 else r.overloadRun }).tellSequencers n

/-- The mark is cleared, and a due command that waited for it is enqueued in that event (R78, R89), a START too, of which R81 says
that it comes at the first cycle start after: log entry 45. -/
def State.clearMark (s : State) (n : SetNo) : State :=
  if (s.setRec n).unreachable then (s.setMark n false).tryEnqueueSet n else s

/-- The mark follows the link state of the unit the set's entry names: set if it is LOST, cleared otherwise (R89). -/
def State.refreshMark (s : State) (n : SetNo) : State :=
  let lost := (s.setEntry n).any fun e => (s.link e.unit).state = some .lost
  if lost then s.setMark n true else s.clearMark n

/-- The sets whose entry names the unit (R89; log entry 23). -/
def State.setsNaming (s : State) (unit : Addr) : List SetNo :=
  allSets.filter fun n => (s.setEntry n).any fun e => e.unit = unit

/-! ### UNSEEN and OFFLINE (R77, R8) -/

/-- What entry into UNSEEN or OFFLINE discards, the energy baseline with it (R77, R69). -/
def State.forgetSet (s : State) (n : SetNo) : State :=
  let s := (s.withdraw (.sets n)).modSet n fun r =>
    { r with
      latest := none, loadFraction := none, stopCycle := none, due := none
      place := r.place.unqueue, overloadRun := 0, baseline := none }
  s

/-- The set's entry has been enabled (R8, R77, R89). -/
def State.enterUnseen (s : State) (n : SetNo) (reason : StateReason) : State :=
  ((s.forgetSet n).changeRun n .unseen reason).refreshMark n

/-- The set's entry has been disabled or cleared (R8, R77, R89). -/
def State.enterOffline (s : State) (n : SetNo) (reason : StateReason) : State :=
  ((s.forgetSet n).changeRun n .offline reason).setMark n false

/-! ### Reports (R75, R77, R87) -/

/-- The LOCAL_START flag sets, with a SET FLAG notice when it was clear (R97). -/
def State.setLocalStart (s : State) (n : SetNo) : State :=
  if (s.setRec n).localStart then s
  else
    (s.modSet n fun r => { r with localStart := true }).raise
      (.setFlag n .localStart none none none s.engine.cycleNo)

/-- A stop that no one asked for: FAULT with UNEXPECTED_STOP, the stop cycle taken from the report (R87). -/
def State.unexpectedStop (s : State) (n : SetNo) (cycle : CycleNo) : State :=
  (s.modSet n fun r => { r with stopCycle := some cycle }).enterFault n .unexpectedStop

/-- The latest report applied to the run state: adoption in UNSEEN (R77), the table of R87 elsewhere. Adoption into FAULT
carries the reason SET_ALARM in its notice (R77, R87; log entry 35). -/
def State.applyReport (s : State) (n : SetNo) (e : SetEntry) (engine : EngineState) (cycle : CycleNo) : State :=
  match (s.setRec n).run, engine with
  | .offline, _ => s
  | .unseen, .running => s.changeRun n .online .adopted
  | .unseen, .stopped => s.changeRun n .stopped .adopted
  | .unseen, .faulted => s.enterFault n .setAlarm
  | .unseen, .cranking => s
  | .stopped, .running => (s.enterWarming n e.warmUpLong .localStart).setLocalStart n
  | .stopped, .faulted => s.enterFault n .setAlarm
  | .stopped, .stopped => s
  | .stopped, .cranking => s
  | .starting _ _ _ p, .running => s.startSucceeds n e p cycle
  | .starting _ _ _ p, .faulted => if p then s.enterFault n .setAlarm else s.endAttempt n
  | .starting _ _ _ _, .stopped => s
  | .starting _ _ _ _, .cranking => s
  | .stopping, .stopped =>
    (s.modSet n fun r => { r with stopCycle := some cycle }).changeRun n .stopped .stopped
  | .stopping, .faulted => s.enterFault n .setAlarm
  | .stopping, .running => s
  | .stopping, .cranking => s
  | .fault _, _ => s
  | .warming _, .running => s
  | .online, .running => s
  | .cooling _, .running => s
  | .warming _, .faulted => s.enterFault n .setAlarm
  | .online, .faulted => s.enterFault n .setAlarm
  | .cooling _, .faulted => s.enterFault n .setAlarm
  | .warming _, .stopped => s.unexpectedStop n cycle
  | .online, .stopped => s.unexpectedStop n cycle
  | .cooling _, .stopped => s.unexpectedStop n cycle
  | .warming _, .cranking => s.unexpectedStop n cycle
  | .online, .cranking => s.unexpectedStop n cycle
  | .cooling _, .cranking => s.unexpectedStop n cycle

/-- The report becomes the set's latest, its power clamped to 30000, with its load fraction (R75, R90). -/
def State.storeReport (s : State) (n : SetNo) (e : SetEntry) (x : SetReport) : State :=
  let power := min 30000 x.power
  s.modSet n fun r =>
    { r with latest := some { x with power }, loadFraction := some (loadFractionOf power e.rating) }

/-! ### Expiries at a cycle start (R81, R83, R85) -/

/-- The set's warm-up, cool-down or crank counter decreases by 1 (R81, R83, R85). -/
def RunState.tick : RunState → RunState
  | .warming c => .warming (c - 1)
  | .cooling c => .cooling (c - 1)
  | .starting a m (some c) p => .starting a m (some (c - 1)) p
  | run => run

/-- The warm-up counter of a WARMING set has reached 0: ONLINE (R83). -/
def State.expireWarmUp (s : State) (n : SetNo) : State :=
  if (s.setRec n).run = .warming 0 then s.changeRun n .online .timer else s

/-- The cool-down counter of a COOLING set has reached 0: STOPPING with STOP due (R85). -/
def State.expireCoolDown (s : State) (n : SetNo) : State :=
  if (s.setRec n).run = .cooling 0 then s.enterStopping n .timer else s

/-- The crank counter of a STARTING set has reached 0: the attempt ends (R81, R82). -/
def State.expireCrank (s : State) (n : SetNo) : State :=
  match (s.setRec n).run with
  | .starting _ _ (some 0) _ => s.endAttempt n
  | _ => s

/-! ### The load window and run time (R90, R96) -/

/-- The run states counted in hire time (R96). -/
def RunState.hired : RunState → Bool
  | .warming _ | .online | .cooling _ => true
  | .offline | .unseen | .stopped | .starting _ _ _ _ | .stopping | .fault _ => false

/-- The run states tested against the load window (R90). -/
def RunState.loadTested : RunState → Bool
  | .online | .cooling _ => true
  | .offline | .unseen | .stopped | .starting _ _ _ _ | .warming _ | .stopping | .fault _ => false

/-- The record after the load window test of a closing cycle of `len` ms: time below the low-load limit, time and run above
the overload limit (R90). The limits are those of the entry at this cycle start (R92), where R8 says from the next set
report: log entry 44. -/
def SetRec.loadWindow (r : SetRec) (e : SetEntry) (len : Nat) : SetRec :=
  if r.run.loadTested && !r.unreachable then
    let fraction := r.loadFraction.getD 0
    let low := fraction < e.lowLoadLimit
    let high := e.overloadLimit < fraction
    { r with
      overloadRun := if high then satAdd 65535 r.overloadRun 1 else 0
      hire :=
        { r.hire with
          lowLoadMs := if low then satAdd max64 r.hire.lowLoadMs len else r.hire.lowLoadMs
          overloadMs := if high then satAdd max64 r.hire.overloadMs len else r.hire.overloadMs } }
  else r

/-- The record after run time of a closing cycle of `len` ms (R96). -/
def SetRec.addRunTime (r : SetRec) (len : Nat) : SetRec :=
  if r.run.hired then { r with hire := { r.hire with runMs := satAdd max64 r.hire.runMs len } } else r

/-- The load window test and the run time of every set, for a closing cycle of `len` ms, by the limits as loaded at this cycle
start (R90, R92, R96; log entry 44). -/
def State.closeCycle (s : State) (len : Nat) : State :=
  forEach allSets (fun n s =>
    s.modSet n fun r =>
      let r := r.addRunTime len
      match s.setEntry n with
      | some e => r.loadWindow e len
      | none => r) s

/-! ### The start request of a sequencer (R80) -/

/-- The four results of a start request. -/
inductive StartResult where
  | started | waiting | alreadyOnline | refused
  deriving DecidableEq, Repr

/-- The stop-pending mark of a STARTING set is cleared (R80, R82). -/
def SetRec.clearStopPending (r : SetRec) : SetRec :=
  match r.run with
  | .starting a m c _ => { r with run := .starting a m c false }
  | _ => r

/-- The Changeover Sequencer's start request for a target set (R80). -/
def State.startRequest (s : State) (n : SetNo) : State × StartResult :=
  match (s.setRec n).run with
  | .stopped =>
    if (s.setRec n).unreachable then (s, .refused) else (s.enterStarting n .sequencer, .started)
  | .starting _ _ _ _ => (s.modSet n SetRec.clearStopPending, .waiting)
  | .warming _ => (s, .waiting)
  | .online => (s, .alreadyOnline)
  | .offline | .unseen | .fault _ | .cooling _ | .stopping => (s, .refused)

end Sys2Proof.Machine
end

