-- ==== Sys2Proof/Machine/Changeover.lean ====
section
/-! DEFINITION. Changeover requests (file 07): acceptance (R127 to R129), the automatic requests of the Set Supervisor and
the Fuel Controller (R91, R93, R105), the schedule (R143 to R145), and the office's requests about them. -/

namespace Sys2Proof.Machine

/-! ### Acceptance (R128, R129) -/

/-- The acceptance checks in their order; the refusal of the first that fails (R128). -/
def State.acceptanceRefusal (s : State) (p : PointNo) (side : Side) : Option ResultCode :=
  match s.switched p with
  | none => some .notValid
  | some (u, a, b) =>
    let target := sideSource side a b
    let r := s.pointRec p
    if r.position = sidePos side then some .noChange
    else if !s.reachable u || r.position = .unknown then some .unreachable
    else if r.selector ≠ some .remote then some .localPanel
    else if !s.eligible target then some .notEligible
    else if s.headroom target < s.pointLoad p then some .capacity
    else none

/-- The context an accepted request fills, in PREPARING with the prepare limit loaded (R129). -/
def State.newSequence (s : State) (p : PointNo) (side : Side) (cause : Cause) (a b : SetNo) : Sequence :=
  let pos := (s.pointRec p).position
  { phase := .preparing, targetSide := side, targetSet := sideSource side a b
    originalPos := pos, originalSet := pos.connects a b, cause
    reservedLoad := s.pointLoad p, verification := none, openCycle := none, abort := none
    recovery := none, counter := .prepare (((s.pointEntry p).map PointEntry.prepareLimit).getD 0) }

/-- An accepted request: the context is filled, the point load reserved on the target, and the sequence moves by the
target's state, asking for its start where it is not ONLINE (R129). -/
def State.acceptChangeover (s : State) (p : PointNo) (side : Side) (cause : Cause) : State :=
  match s.switched p with
  | none => s
  | some (_, a, b) =>
    let q := s.newSequence p side cause a b
    let s := (s.reserve q.targetSet p q.reservedLoad).putSeq p q
    if (s.setRec q.targetSet).run = .online then s.proceed p q
    else
      match s.startRequest q.targetSet with
      | (s, .started) => s
      | (s, .waiting) => s
      | (s, .alreadyOnline) => s.proceed p q
      | (s, .refused) => s.endSequence p .targetFault none

/-- An automatic request: dropped where the point is not SWITCHED, the set is neither source, the sequencer is not IDLE or
AUTO_BLOCKED is set (R127); refused with a record; or accepted (R128, R129). -/
def State.autoRequest (s : State) (p : PointNo) (target : SetNo) (cause : Cause) : State :=
  match s.switched p with
  | none => s
  | some (_, a, b) =>
    match sideSupplied target a b with
    | none => s
    | some side =>
      let r := s.pointRec p
      if r.seq.isSome || r.autoBlocked then s
      else
        match s.acceptanceRefusal p side with
        | some code =>
          s.modPoint p fun r => { r with lastRefusal := some ⟨cause, code, s.engine.cycleNo⟩ }
        | none => s.acceptChangeover p side cause

/-! ### The automatic raisers (R91, R93, R105) -/

/-- The other source of a SWITCHED point whose present position connects it to set `n`. -/
def State.partnerFrom (s : State) (p : PointNo) (n : SetNo) : Option SetNo :=
  match s.switched p with
  | none => none
  | some (_, a, b) =>
    match (s.pointRec p).position with
    | .a => if a = n then some b else none
    | .b => if b = n then some a else none
    | .opened | .unknown => none

/-- A point qualifies for set `n`'s LOAD request; with its partner and its point load (R91). -/
def State.loadCandidate (s : State) (n : SetNo) (p : PointNo) : Option (SetNo × Nat) :=
  match s.partnerFrom p n, s.pointEntry p with
  | some partner, some e =>
    let r := s.pointRec p
    let load := s.pointLoad p
    if e.autoLoad && !r.autoBlocked && r.seq.isNone && s.eligible partner
        && (load : Int) ≤ s.headroom partner then some (partner, load)
    else none
  | _, _ => none

/-- The qualifying point with the largest load, the lowest number among equals (R91). -/
def State.loadChoice (s : State) (n : SetNo) : Option (PointNo × SetNo × Nat) :=
  allPoints.foldl (fun best p =>
    match s.loadCandidate n p, best with
    | none, best => best
    | some (partner, load), none => some (p, partner, load)
    | some (partner, load), some (_, _, top) => if top < load then some (p, partner, load) else best) none

/-- The LOAD request of an ONLINE set whose overload run is at or above its overload hold, where a point qualifies
(R91). -/
def State.raiseLoad (s : State) (n : SetNo) : State :=
  match s.setEntry n with
  | none => s
  | some e =>
    if (s.setRec n).run = .online && e.overloadHold ≤ (s.setRec n).overloadRun then
      match s.loadChoice n with
      | some (p, partner, _) => s.autoRequest p partner .load
      | none => s
    else s

/-- The requests of one cause for set `n`: one for each SWITCHED point it is connected to, whose flag is on and whose
AUTO_BLOCKED flag is clear (R93, R105). -/
def State.raiseForPoints (s : State) (n : SetNo) (cause : Cause) (flag : PointEntry → Bool) : State :=
  forEach allPoints (fun p s =>
    match s.partnerFrom p n, s.pointEntry p with
    | some partner, some e =>
      if flag e && !(s.pointRec p).autoBlocked then s.autoRequest p partner cause else s
    | _, _ => s) s

/-- The FAULT requests of a set (R93). -/
def State.raiseFault (s : State) (n : SetNo) : State := s.raiseForPoints n .fault PointEntry.autoFault

/-- The FUEL requests of a set whose entry is enabled and whose book is at or below its low level (R105). -/
def State.raiseFuel (s : State) (n : SetNo) : State :=
  match s.setEntry n with
  | none => s
  | some e =>
    if e.enabled && lowMet e (s.tank n) then s.raiseForPoints n .fuel PointEntry.autoFuel else s

/-! ### The schedule (R143 to R145) -/

/-- The time of an entry, in seconds from day 0 (R143). -/
def ScheduleEntry.time (e : ScheduleEntry) : Nat := daySeconds e.day e.second

/-- Places an entry after the last entry whose time is at or before its own (R143). -/
def insertSchedule (e : ScheduleEntry) : List ScheduleEntry → List ScheduleEntry
  | [] => [e]
  | x :: xs => if x.time ≤ e.time then x :: insertSchedule e xs else e :: x :: xs

/-- Removes one entry from the schedule, with its SCHEDULE notice (R10, R145). -/
def State.removeScheduled (s : State) (e : ScheduleEntry) (result : ScheduleResult) : State :=
  { s with schedule := s.schedule.filter fun x => x ≠ e }.raise (.schedule e.point e.day e.second e.side result)

/-- An entry fires: its request goes through the screening and the acceptance checks, and the notice carries the result
(R127, R128, R145). -/
def State.fireScheduled (s : State) (e : ScheduleEntry) : State :=
  match s.acceptanceRefusal e.point e.side with
  | some code => s.removeScheduled e (.refused code)
  | none => (s.acceptChangeover e.point e.side .schedule).removeScheduled e .accepted

/-- One entry of the walk: a due entry is removed LATE, fires where its point's sequencer is IDLE, or stays; `settled` holds
the points for which an entry has fired or stayed (R145). -/
def State.walkEntry (now : Nat) (acc : State × List PointNo) (e : ScheduleEntry) : State × List PointNo :=
  let (s, settled) := acc
  if now < e.time ∨ e.point ∈ settled then (s, settled)
  else if e.time + s.site.values.lateLimit < now then (s.removeScheduled e .late, settled)
  else if (s.pointRec e.point).seq.isNone then (s.fireScheduled e, e.point :: settled)
  else (s, e.point :: settled)

/-- The walk of the schedule from its first entry (R145); nothing is due while the clock is UNSET. -/
def State.walkSchedule (s : State) : State :=
  match s.billing.nowSeconds with
  | none => s
  | some now => (s.schedule.foldl (State.walkEntry now) (s, [])).1

/-- Every entry of a point that ceases to be SWITCHED is removed, in ascending time, with a SCHEDULE notice NOT_VALID
(R10). -/
def State.dropSchedule (s : State) (p : PointNo) : State :=
  forEach (s.schedule.filter fun e => e.point = p)
    (fun e s => s.removeScheduled e (.refused .notValid)) s

/-! ### The office's requests (R127 to R129, R140, R143, R144) -/

/-- CHANGEOVER: the screening of R127, the acceptance checks, and the start of the sequence. -/
def reqChangeover (point : Nat) (side : Option Side) (s : State) : State × Reply :=
  match numbered 12 point with
  | none => (s, .refuse .badIndex)
  | some p =>
    match side with
    | none => (s, .refuse .badValue)
    | some side =>
      if (s.switched p).isNone then (s, .refuse .notValid)
      else if (s.pointRec p).seq.isSome then (s, .refuse .busy)
      else
        match s.acceptanceRefusal p side with
        | some code => (s, .refuse code)
        | none =>
          let load := s.pointLoad p
          let s := s.acceptChangeover p side .office
          (s, .okWith (.accepted ((s.pointRec p).seq.map Sequence.phase) load))

/-- CANCEL CHANGEOVER, by the sequencer state (R140). An OPEN that has been sent stays cancellable by mark until the
sequence moves on (log entry 31). -/
def reqCancelChangeover (point : Nat) (s : State) : State × Reply :=
  match numbered 12 point with
  | none => (s, .refuse .badIndex)
  | some p =>
    if (s.switched p).isNone then (s, .refuse .notValid)
    else
      match (s.pointRec p).seq with
      | none => (s, .refuse .state)
      | some q =>
        match q.phase with
        | .preparing => (s.endSequence p .cancelled none, .ok)
        | .opening =>
          if (s.pointRec p).commandWaiting then (s.endSequence p .cancelled none, .ok)
          else (s.putSeq p { q with abort := some (q.abort.getD .cancelled) }, .ok)
        | .dead =>
          if q.originalSet.isSome then (s.enterRecovering p q .cancelled, .ok)
          else (s.endSequence p .cancelled none, .ok)
        | .closing => (s, .refuse .tooLate)
        | .recovering => (s, .refuse .tooLate)

/-- LOAD SCHEDULE, checked in the order of R143. -/
def reqLoadSchedule (day second point : Nat) (side : Option Side) (s : State) : State × Reply :=
  match s.billing.nowSeconds with
  | none => (s, .refuse .state)
  | some now =>
    match numbered 12 point with
    | none => (s, .refuse .badIndex)
    | some p =>
      match side with
      | none => (s, .refuse .badValue)
      | some side =>
        let e : ScheduleEntry := ⟨day, second, p, side⟩
        if 86399 < second then (s, .refuse .badValue)
        else if (s.switched p).isNone then (s, .refuse .notValid)
        else if s.schedule.any fun x => x.point = p && x.day = day && x.second = second then
          (s, .refuse .duplicate)
        else if e.time + s.site.values.lateLimit < now then (s, .refuse .tooLate)
        else if 16 ≤ s.schedule.length then (s, .refuse .queueFull)
        else ({ s with schedule := insertSchedule e s.schedule }, .ok)

/-- DELETE SCHEDULE (R144). Day and second are compared each with its own, so that a second of day above 86399, which no entry holds, is
NOT_VALID (log entry 53). -/
def reqDeleteSchedule (point day second : Nat) (s : State) : State × Reply :=
  match numbered 12 point with
  | none => (s, .refuse .badIndex)
  | some p =>
    let hit := fun x : ScheduleEntry => x.point = p && x.day = day && x.second = second
    if s.schedule.any hit then ({ s with schedule := s.schedule.filter fun x => !hit x }, .ok)
    else (s, .refuse .notValid)

/-- READ SCHEDULE: every entry held, with the present clock time (R144). -/
def reqReadSchedule (s : State) : State × Reply :=
  (s, .okWith (.schedule s.schedule s.billing.clock))

/-- CLEAR FLAGS, selection POINT_FLAG: clears AUTO_BLOCKED of the marked points; a mask that marks a position beyond 12 is
refused (R131, R187). -/
def reqClearPointFlag (mask : Nat) (s : State) : State × Reply :=
  if 2 ^ 12 ≤ mask then (s, .refuse .badValue)
  else
    (forEach allPoints (fun p s =>
      if marked mask p then s.modPoint p fun r => { r with autoBlocked := false } else s) s, .ok)

end Sys2Proof.Machine
end

