-- ==== Sys2Proof/Machine/Wire.lean ====
section
/-! DEFINITION. The frames that reach the controller (10.9): the frame check (R179), field reports (R25, R27, R197),
tickets (R116, R198), and the office receiver (R180). -/

namespace Sys2Proof.Machine

/-! ### Integers and the frame check -/

/-- A number as `w` bytes, most significant byte first (10.8). -/
def beBytes : Nat → Nat → List Byte
  | 0, _ => []
  | w + 1, n => BitVec.ofNat 8 (n / 256 ^ w) :: beBytes w n

/-- One bit of the frame check: a 16-bit shift register with the generator x^16 + x^12 + x^5 + 1 (R179). -/
def crcBit (reg : Nat) : Nat :=
  if reg.testBit 15 then ((reg <<< 1) % 65536) ^^^ 0x1021 else (reg <<< 1) % 65536

/-- One byte of the frame check, most significant bit first (R179). -/
def crcByte (reg : Nat) (b : Byte) : Nat :=
  let r := reg ^^^ (b.toNat <<< 8)
  crcBit (crcBit (crcBit (crcBit (crcBit (crcBit (crcBit (crcBit r)))))))

/-- The frame check over the bytes from the length to the end of the payload, from all ones (R179). -/
def frameCheck (bytes : List Byte) : Nat := bytes.foldl crcByte 0xFFFF

/-- The start delimiter (10.9). -/
def delimiter : Byte := 0xC3

/-- A field frame: delimiter, 1-byte length, contents, check high byte first (R179, 10.9). -/
def fieldFrame (contents : List Byte) : List Byte :=
  let counted := beBytes 1 contents.length ++ contents
  delimiter :: (counted ++ beBytes 2 (frameCheck counted))

/-- An office frame: delimiter, 2-byte length, contents, check high byte first (R179, 10.9). -/
def officeFrameBytes (f : OfficeFrame) : List Byte :=
  let contents := f.destination :: f.tag :: f.kind :: f.payload
  let counted := beBytes 2 contents.length ++ contents
  delimiter :: (counted ++ beBytes 2 (frameCheck counted))

/-- The contents of a field frame whose length and check are good. -/
def fieldContents (bytes : List Byte) : Option (List Byte) :=
  match bytes with
  | d :: len :: rest =>
    let contents := rest.take len.toNat
    let check := rest.drop len.toNat
    if d = delimiter ∧ contents.length = len.toNat ∧ check = beBytes 2 (frameCheck (len :: contents)) then
      some contents
    else none
  | _ => none

/-! ### Field reports (R27, R197) -/

/-- The answer field of a report (R26). -/
inductive Answer where
  | none
  | accept
  | refuse (reason : Byte)
  deriving DecidableEq, Repr

/-- One sample of a BOARD report, as the board sent it (R27). -/
structure BoardSample where
  position : Nat
  power : Nat
  current : Nat
  voltage : Nat
  status : SampleStatus
  deriving DecidableEq, Repr

/-- The meter states (R27). -/
inductive MeterState where
  | idle | request | dispensing | ended | ticket
  deriving DecidableEq, Repr

/-- The body of a FUEL report (R27). -/
structure FuelBody where
  state : MeterState
  requested : Nat
  volume : Nat
  chunk : Option (Byte × List Byte)
  deriving DecidableEq, Repr

/-- The report bodies (R27). -/
inductive ReportBody where
  | set (engine : EngineState) (power sensor : Nat) (alarm : Byte)
  | board (samples : List BoardSample)
  | change (position : ReportedPos) (selector : Selector)
  | fuel (f : FuelBody)
  deriving DecidableEq, Repr

/-- A field report: source, answer, body, and the report as received from its source address to its end (R194). -/
structure FieldReport where
  source : Byte
  kind : UnitKind
  answer : Answer
  body : ReportBody
  raw : List Byte
  deriving DecidableEq, Repr

def meterStateOf : Nat → Option MeterState := nameAt [.idle, .request, .dispensing, .ended, .ticket]

/-- The body of a SET report: 6 bytes. -/
def parseSetBody (body : List Byte) : Option ReportBody := do
  match ← fieldsOf [1, 2, 2, 1] body with
  | [e, power, sensor, alarm] =>
    let engine ← engineStateOf e
    some (.set engine power sensor (BitVec.ofNat 8 alarm))
  | _ => none

/-- The samples of a BOARD report, 8 bytes each. -/
def parseSamples : Nat → List Byte → Option (List BoardSample)
  | 0, [] => some []
  | 0, _ :: _ => none
  | n + 1, bytes => do
    if bytes.length < 8 then none
    else
      match ← fieldsOf [1, 2, 2, 2, 1] (bytes.take 8) with
      | [position, power, current, voltage, st] =>
        let status ← sampleStatusOf st
        let rest ← parseSamples n (bytes.drop 8)
        some (⟨position, power, current, voltage, status⟩ :: rest)
      | _ => none

/-- The body of a BOARD report: a count of 1 to 4 and that many samples. -/
def parseBoardBody : List Byte → Option ReportBody
  | [] => none
  | n :: samples =>
    if 1 ≤ n.toNat ∧ n.toNat ≤ 4 then (parseSamples n.toNat samples).map .board else none

/-- The body of a CHANGE report: 2 bytes. -/
def parseChangeBody (body : List Byte) : Option ReportBody := do
  match ← fieldsOf [1, 1] body with
  | [p, q] =>
    let position ← reportedPosOf p
    let selector ← selectorOf q
    some (.change position selector)
  | _ => none

/-- The chunk of a FUEL report: a byte count of 0 to 8, and where it is not 0 an index and that many bytes. -/
def parseChunk : List Byte → Option (Option (Byte × List Byte))
  | [] => none
  | n :: rest =>
    if n = 0 then
      match rest with
      | [] => some none
      | _ :: _ => none
    else
      match rest with
      | [] => none
      | chunk :: bytes => if n.toNat ≤ 8 ∧ bytes.length = n.toNat then some (some (chunk, bytes)) else none

/-- The body of a FUEL report: 5 bytes or more. -/
def parseFuelBody (body : List Byte) : Option ReportBody := do
  match ← fieldsOf [1, 1, 2] (body.take 4) with
  | [st, requested, volume] =>
    let state ← meterStateOf st
    let chunk ← parseChunk (body.drop 4)
    some (.fuel ⟨state, requested, volume, chunk⟩)
  | _ => none

/-- The body of a report of a kind (R197). -/
def parseBody (kind : UnitKind) (body : List Byte) : Option ReportBody :=
  match kind with
  | .set => parseSetBody body
  | .board => parseBoardBody body
  | .change => parseChangeBody body
  | .fuel => parseFuelBody body

/-- The answer field and what follows it: none 0, ACCEPT 1, REFUSE 2 with a reason; any other value is no answer field
(R197). -/
def parseAnswer : List Byte → Option (Answer × List Byte)
  | [] => none
  | a :: rest =>
    if a = 0 then some (.none, rest)
    else if a = 1 then some (.accept, rest)
    else if a = 2 then
      match rest with
      | [] => none
      | reason :: body => some (.refuse reason, body)
    else none

/-- A report from the bytes of its frame; none for a frame that is not whole, or whose body does not fit its kind's layout
(R25, R197). A byte that names no value of an enumerated field does not fit: log entry 16. -/
def parseReport (bytes : List Byte) : Option FieldReport := do
  let raw ← fieldContents bytes
  match raw with
  | source :: k :: rest =>
    let kind ← unitKindOf k.toNat
    let (answer, b) ← parseAnswer rest
    let body ← parseBody kind b
    some ⟨source, kind, answer, body, raw⟩
  | _ => none

/-! ### Tickets (R116, R198) -/

/-- Takes an optional field of `w` bytes where its presence bit is set; none where the bytes are too few. -/
def takeOptional (present : Bool) (w : Nat) (bytes : List Byte) : Option (Option Nat × List Byte) :=
  if present then
    if bytes.length < w then none else some (some (beNat (bytes.take w)), bytes.drop w)
  else some (none, bytes)

/-- A clock time of 5 bytes: day in 2, second of day in 3 (10.8). -/
def dayTimeOf (n : Nat) : DayTime := ⟨n / 2 ^ 24, n % 2 ^ 24⟩

/-- A ticket from its bytes, from the length byte to the check; none where its fields do not fit its length (R198). Presence bits
5 to 7 are ignored (log entry 50). -/
def parseTicket (bytes : List Byte) : Option Ticket := do
  let body := bytes.take (bytes.length - 2)
  if bytes.drop (bytes.length - 2) = beBytes 2 (frameCheck body) then
    match ← fieldsOf [1, 1, 4, 1, 2] (body.take 9) with
    | [_, presence, number, set, volume] =>
      let (start, rest) ← takeOptional (presence.testBit 0) 5 (body.drop 9)
      let (finish, rest) ← takeOptional (presence.testBit 1) 5 rest
      let (price, rest) ← takeOptional (presence.testBit 2) 4 rest
      let (corrected, rest) ← takeOptional (presence.testBit 3) 2 rest
      let (driver, _) ← takeOptional (presence.testBit 4) 2 rest
      let startTime := start.map dayTimeOf
      let endTime := finish.map dayTimeOf
      if startTime.all (fun t => t.second ≤ 86399) ∧ endTime.all (fun t => t.second ≤ 86399)
          ∧ driver.all (fun d => d ≤ 9999) then
        some ⟨number, set, volume, startTime, endTime, price, corrected, driver⟩
      else none
    | _ => none
  else none

/-! ### The office receiver (R180) -/

/-- What a byte on ORX makes of the receiver: still receiving, a complete frame, or a frame error. -/
inductive ReceiverStep where
  | receiving (rx : Receiver)
  | complete (f : OfficeFrame)
  | frameError
  deriving DecidableEq, Repr

/-- The frame in the bytes after the delimiter, length and check included, where the check is good. -/
def assembledFrame (bytes : List Byte) : Option OfficeFrame :=
  let counted := bytes.take (bytes.length - 2)
  if bytes.drop (bytes.length - 2) = beBytes 2 (frameCheck counted) then
    match counted with
    | _ :: _ :: destination :: tag :: kind :: payload => some ⟨destination, tag, kind, payload⟩
    | _ => none
  else none

/-- The receiver takes a byte of a frame: a bad length (below 3 or above 1027) and a bad check are frame errors (R180). -/
def receivePartial (bytes : List Byte) : ReceiverStep :=
  match bytes with
  | hi :: lo :: rest =>
    let len := beNat [hi, lo]
    if len < 3 ∨ 1027 < len then .frameError
    else if rest.length < len + 2 then .receiving (.partialFrame bytes)
    else
      match assembledFrame bytes with
      | some f => .complete f
      | none => .frameError
  | _ => .receiving (.partialFrame bytes)

/-- The receiver takes one byte time: between frames every byte but the delimiter is discarded; a missing stop bit
discards the frame it falls in (R180). -/
def receive (rx : Receiver) (x : OrxByte) : ReceiverStep :=
  match rx, x with
  | .hunting, .byte b => if b = delimiter then .receiving (.partialFrame []) else .receiving .hunting
  | .hunting, .framingError => .receiving .hunting
  | .partialFrame bytes, .byte b => receivePartial (bytes ++ [b])
  | .partialFrame _, .framingError => .frameError

end Sys2Proof.Machine
end

