-- ==== Sys2Proof/Machine/Fuel.lean ====
section
/-! DEFINITION. The Fuel Controller (file 06): tank accounts, burn, thresholds, the sensor check, delivery sessions, ticket
transfer, the ticket store, and the office's requests about them. -/

namespace Sys2Proof.Machine

/-! ### The tank account (R99 to R104) -/

/-- An adjustment is added to the tank's adjustment total and to the set's adjustments hire counter (R100). -/
def State.recordAdjustment (s : State) (n : SetNo) (adjustment : Int) : State :=
  (s.modTank n fun t => { t with adjustments := hold64 (t.adjustments + adjustment) }).modHire n fun h =>
    { h with adjustments := hold64 (h.adjustments + adjustment) }

/-- DISCREPANCY is set; the notice is raised when the flag was clear (R100, R106). -/
def State.setDiscrepancy (s : State) (n : SetNo) (adjustment : Option Int) (sensor : Option Nat) : State :=
  let t := s.tank n
  if t.discrepancy then s
  else
    (s.modTank n fun t => { t with discrepancy := true }).raise
      (.setFlag n .discrepancy (some t.book) adjustment sensor s.engine.cycleNo)

/-- LOW is set where the book is at or below the low level, with a notice when it was clear (R104). -/
def State.testLow (s : State) (n : SetNo) (e : SetEntry) : State :=
  let t := s.tank n
  if lowMet e t && !t.low then
    (s.modTank n fun t => { t with low := true }).raise
      (.setFlag n .low (some t.book) none none s.engine.cycleNo)
  else s

/-- RESERVE is set where the book is at or below the reserve level, with a notice when it was clear (R104). -/
def State.testReserve (s : State) (n : SetNo) (e : SetEntry) : State :=
  let t := s.tank n
  if reserveMet e t && !t.reserve then
    (s.modTank n fun t => { t with reserve := true }).raise
      (.setFlag n .reserve (some t.book) none none s.engine.cycleNo)
  else s

/-- The threshold test of a tank whose set entry is loaded (R104). -/
def State.testThresholds (s : State) (n : SetNo) : State :=
  match s.setEntry n with
  | none => s
  | some e => (s.testLow n e).testReserve n e

/-- A change of the book through the clamp: what does not fit between 0 and the capacity in force is an adjustment, and a
clamp at the capacity sets DISCREPANCY; then the thresholds are tested (R100). -/
def State.changeBook (s : State) (n : SetNo) (change : Int) : State :=
  let t := s.tank n
  let level := (t.book : Int) + change
  let stored := max 0 (min (t.capacity : Int) level)
  let s := s.modTank n fun t => { t with book := stored.toNat }
  let s := if stored = level then s else s.recordAdjustment n (stored - level)
  let s := if (t.capacity : Int) < level then s.setDiscrepancy n (some (stored - level)) none else s
  s.testThresholds n

/-- The capacity in force takes the tank capacity of a stored set entry; a book above it is clamped, the excess going into
adjustments with DISCREPANCY set (R8, R99). -/
def State.storeCapacity (s : State) (n : SetNo) (capacity : Nat) : State :=
  let s := s.modTank n fun t => { t with capacity }
  if capacity < (s.tank n).book then s.changeBook n 0 else s

/-! ### Burn (R101, R102) -/

/-- One decilitre, in units of burn residue (section 6.2). -/
def decilitre : Nat := 360000000000

/-- One decilitre burnt: the residue falls, the book is lowered by 1 through the clamp, and fuel burnt rises by 1 (R102). -/
def State.burnOne (s : State) (n : SetNo) : State :=
  let s := s.modTank n fun t => { t with residue := t.residue - decilitre }
  (s.changeBook n (-1)).modHire n fun h => { h with burnt := satAdd max64 h.burnt 1 }

/-- Burns `k` decilitres. -/
def State.burnTimes (s : State) (n : SetNo) : Nat → State
  | 0 => s
  | k + 1 => (s.burnOne n).burnTimes n k

/-- The burn step of a set step in units of burn residue (R101). -/
def burnUnits (e : SetEntry) (period delta energy : Nat) : Nat :=
  e.noLoadRate * period * delta * 1000 + e.incrementalRate * energy

/-- A burn step is added to the residue, and every whole decilitre is burnt in the same event (R101, R102). -/
def State.burn (s : State) (n : SetNo) (units : Nat) : State :=
  let s := s.modTank n fun t => { t with residue := t.residue + units }
  s.burnTimes n ((s.tank n).residue / decilitre)

/-! ### The sensor check (R106) -/

/-- DISCREPANCY_SET: the discrepancy count stands at 20 and DISCREPANCY is set, the notice carrying the sensor level
(R106). -/
def State.expireDiscrepancy (s : State) (n : SetNo) : State :=
  if (s.tank n).discCount = 20 then
    s.setDiscrepancy n none ((s.setRec n).latest.map SetReport.sensor)
  else s

/-- The sensor level of a report is compared with the book; `leave` leaves the setting of the flag to a command of its own
(R106; log entry 6). -/
def State.checkSensor (s : State) (n : SetNo) (e : SetEntry) (sensor : Nat) (leave : Bool) : State :=
  if sensor = 65535 || s.sessionFor n then s
  else
    let t := s.tank n
    let difference := (t.book - sensor) + (sensor - t.book)
    if difference ≤ e.sensorTolerance then s.modTank n fun t => { t with discCount := 0 }
    else
      let s := s.modTank n fun t => { t with discCount := satAdd 20 t.discCount 1 }
      if leave && (s.tank n).discCount = 20 then { s with due := s.due ++ [.discrepancy n] }
      else s.expireDiscrepancy n

/-! ### The meter's command place (R108) -/

/-- Enqueues a FUEL command of a meter to a unit; none where the queue refuses it. -/
def State.enqueueFuel (s : State) (m : MeterNo) (unit : Addr) (code : Code) (args : List Byte) : Option State :=
  (s.enqueue ⟨unit, code, args, .fuel m⟩).map fun s =>
    s.modMeter m fun r => { r with place := .queued code }

/-- A due REVOKE is enqueued where the place is FREE (R108). -/
def State.tryEnqueueMeter (s : State) (m : MeterNo) : State :=
  let r := s.meter m
  match r.due, r.place, s.meterUnit m with
  | true, .free, some unit =>
    match s.enqueueFuel m unit .revoke [] with
    | none => s
    | some s => s.modMeter m fun r => { r with due := false }
  | _, _, _ => s

/-- A queued entry of the meter is withdrawn and a due REVOKE dropped (R112, R117). -/
def State.dropMeterCommand (s : State) (m : MeterNo) : State :=
  (s.withdraw (.fuel m)).modMeter m fun r => { r with place := r.place.unqueue, due := false }

/-! ### Ends (R117) -/

/-- A volume is added to the tank's delivered total and to the set's fuel delivered hire counter (R116, R117). -/
def State.addDelivered (s : State) (n : SetNo) (volume : Nat) : State :=
  (s.modTank n fun t => { t with delivered := satAdd max64 t.delivered volume }).modHire n fun h =>
    { h with delivered := satAdd max64 h.delivered volume }

/-- What the end of a session adds to its DELIVERY notice (R110, R117, R119). -/
structure SessionEnd where
  result : DeliveryResult
  unitReason : Option Byte := none
  revoke : Option CommandOutcome := none
  ticket : Option CompletePart := none
  lastChunk : Option Byte := none

/-- The end of a session (R117): back to IDLE, the meter's command withdrawn, promotion and buffer gone, the discrepancy count
of the set 0, the live total added to the delivered totals for an end from DISPENSING or TICKETING other than COMPLETE,
and a DELIVERY notice raised. The live total goes with the session: R117 does not list it among what is discarded, and R108 gives it no
value in IDLE (DESIGN CHOICE, log entry 72). -/
def State.endSession (s : State) (m : MeterNo) (d : SessionEnd) : State :=
  match (s.meter m).session with
  | none => s
  | some x =>
    let s := (s.dropMeterCommand m).modMeter m fun r =>
      { r with session := none, promoted := false, lastChunk := d.lastChunk }
    let s := s.modTank x.set fun t => { t with discCount := 0 }
    let s := if x.phase = .granting || d.result = .complete then s else s.addDelivered x.set x.live
    s.raise (.delivery
      { meter := m, set := x.set.val + 1, result := d.result, live := x.live, unitReason := d.unitReason
        denial := none, revoke := d.revoke, ticket := d.ticket })

/-! ### Requests of a meter (R109) -/

/-- The denial of a new request for the set numbered `k`, by the first failing test (R109). -/
def State.requestDenial (s : State) (m : MeterNo) (k : Nat) : Option DenyReason :=
  match numbered 8 k with
  | none => some .notHired
  | some n =>
    if !((s.setEntry n).any SetEntry.enabled) then some .notHired
    else if s.otherSession m n then some .setBusy
    else if (s.tank n).capacity - (s.tank n).book < s.site.values.minDelivery then some .noRoom
    else none

/-- A permitted request: PERMIT is enqueued with the set and the headroom, and the session goes to GRANTING (R109). -/
def State.permit (s : State) (m : MeterNo) (unit : Addr) (n : SetNo) : State :=
  let room := (s.tank n).capacity - (s.tank n).book
  match s.enqueueFuel m unit .permit (beBytes 1 (n.val + 1) ++ beBytes 2 room) with
  | none => s
  | some s =>
    s.modMeter m fun r =>
      { r with
        session := some
          { phase := .granting, set := n, permitLimit := room, highWater := 0, live := 0, cancel := false }
        requestMark := some (n.val + 1) }

/-- A denied request: DENY is enqueued with the reason, the session stays IDLE, and a DELIVERY notice carries DENIED
(R109). -/
def State.deny (s : State) (m : MeterNo) (unit : Addr) (k : Nat) (reason : DenyReason) : State :=
  let code := match reason with
    | .notHired => 0
    | .setBusy => 1
    | .noRoom => 2
  match s.enqueueFuel m unit .deny (beBytes 1 code) with
  | none => s
  | some s =>
    (s.modMeter m fun r => { r with requestMark := some k }).raise (.delivery
      { meter := m, set := k, result := .denied, live := 0, unitReason := none, denial := some reason
        revoke := none, ticket := none })

/-- A REQUEST report naming set `k` reaches an IDLE session: a new request when the place is FREE and the request mark is
not that set (R109). -/
def State.takeRequest (s : State) (m : MeterNo) (unit : Addr) (k : Nat) : State :=
  let r := s.meter m
  if r.place = .free && r.requestMark ≠ some k then
    match s.requestDenial m k, numbered 8 k with
    | none, some n => s.permit m unit n
    | some reason, _ => s.deny m unit k reason
    | none, none => s
  else s

/-! ### Dispensing (R111, R112) -/

/-- The increase above the high-water volume is booked to the tank and to the live total (R111). -/
def State.bookDelivery (s : State) (m : MeterNo) (x : Session) (volume : Nat) : State :=
  if x.highWater < volume then
    let increase := volume - x.highWater
    (s.changeBook x.set increase).modMeter m fun r =>
      { r with session := some { x with live := x.live + increase, highWater := volume } }
  else s

/-- ENDED or TICKET in DISPENSING: TICKETING, the cancellation lapsed and the wait loaded (R112). -/
def State.enterTicketing (s : State) (m : MeterNo) : State :=
  (s.dropMeterCommand m).modMeter m fun r =>
    { r with session := r.session.map fun x =>
        { x with cancel := false, phase := .ticketing (some s.site.values.ticketWait) none } }

/-! ### Ticket transfer (R113 to R116) -/

/-- The places of the ticket store claimed by meters (R114). -/
def State.placesClaimed (s : State) : Nat :=
  (allMeters.filter fun m =>
    match (s.meter m).session with
    | some x =>
      match x.phase with
      | .ticketing _ (some _) => true
      | .ticketing _ none | .granting | .dispensing => false
    | none => false).length

/-- A place can be claimed: the tickets stored and the places claimed are fewer than 16 (R114). -/
def State.placeFree (s : State) : Bool := s.tickets.length + s.placesClaimed < 16

/-- Asks the engine to acknowledge a chunk of the meter, replacing a request already due (R24, R113). -/
def State.askAck (s : State) (m : MeterNo) (unit : Addr) (chunk : Byte) : State :=
  { s with engine := { s.engine with acks := s.engine.acks.set m (some ⟨unit, chunk⟩) } }

/-- The session is in TICKETING with this wait and this buffer. -/
def State.putTicketing (s : State) (m : MeterNo) (x : Session) (wait : Option Nat) (buffer : Option TicketBuffer) :
    State :=
  s.modMeter m fun r => { r with session := some { x with phase := .ticketing wait buffer } }

/-- A complete ticket is taken: the correction, the totals, the record, and the end COMPLETE (R116). -/
def State.takeTicket (s : State) (m : MeterNo) (x : Session) (t : Ticket) (chunk : Byte) : State :=
  let correction := (t.volume : Int) - x.live
  let s := (s.changeBook x.set correction).addDelivered x.set t.volume
  let s := { s with tickets := s.tickets ++ [TicketRecord.mk t m x.live correction] }
  s.endSession m
    { result := .complete, ticket := some ⟨t.number, t.volume, correction⟩, lastChunk := some chunk }

/-- The ticket in a complete buffer, where it is readable and for the session's set (R116, R198). -/
def readableTicket (x : Session) (b : TicketBuffer) : Option Ticket :=
  (parseTicket (b.bytes.take b.length)).filter fun t => t.set = x.set.val + 1

/-- An accepted chunk: appended, acknowledged, and the wait loaded; a ticket it completes is taken, and discarded with
NO_TICKET where it cannot be read (R113, R116). -/
def State.acceptChunk (s : State) (m : MeterNo) (unit : Addr) (x : Session) (b : TicketBuffer) : State :=
  let s := s.askAck m unit b.lastChunk
  if b.bytes.length < b.length then s.putTicketing m x (some s.site.values.ticketWait) (some b)
  else
    match readableTicket x b with
    | some t => s.takeTicket m x t b.lastChunk
    | none => s.endSession m { result := .noTicket }

/-- Chunk 0 where it is expected: its first byte is the ticket length, 12 to 40; with no place to claim it is held
(R113, R114). The place is tested before the length, and a chunk with no byte at all ends the session first: DESIGN CHOICE, log entry 68. -/
def State.firstChunk (s : State) (m : MeterNo) (unit : Addr) (x : Session) (bytes : List Byte) : State :=
  match bytes with
  | [] => s.endSession m { result := .noTicket }
  | b :: _ =>
    if !s.placeFree then s.putTicketing m x none none
    else if 12 ≤ b.toNat ∧ b.toNat ≤ 40 then s.acceptChunk m unit x ⟨bytes, b.toNat, 0⟩
    else s.endSession m { result := .noTicket }

/-- A ticket chunk in TICKETING, taken by its index (R113). -/
def State.ticketChunk (s : State) (m : MeterNo) (unit : Addr) (x : Session) (buffer : Option TicketBuffer)
    (chunk : Byte) (bytes : List Byte) : State :=
  match buffer with
  | none => if chunk = 0 then s.firstChunk m unit x bytes else s.endSession m { result := .noTicket }
  | some b =>
    if chunk.toNat = b.lastChunk.toNat + 1 then
      s.acceptChunk m unit x { b with bytes := b.bytes ++ bytes, lastChunk := chunk }
    else if chunk = b.lastChunk then s.askAck m unit chunk
    else s.endSession m { result := .noTicket }

/-- A report in TICKETING: its chunk, or the end NO_TICKET for IDLE or REQUEST without one (R113). -/
def State.ticketingReport (s : State) (m : MeterNo) (unit : Addr) (x : Session) (buffer : Option TicketBuffer)
    (f : FuelBody) : State :=
  match f.chunk with
  | some (chunk, bytes) => s.ticketChunk m unit x buffer chunk bytes
  | none =>
    match f.state with
    | .idle => s.endSession m { result := .noTicket }
    | .request => s.endSession m { result := .noTicket }
    | .dispensing | .ended | .ticket => s

/-! ### Meter reports (R109, R111, R112, R118) -/

/-- A report in DISPENSING: the volume is booked, and the meter state acts (R111, R112). -/
def State.dispensingReport (s : State) (m : MeterNo) (unit : Addr) (x : Session) (f : FuelBody) : State :=
  let s := s.bookDelivery m x f.volume
  match f.state with
  | .dispensing => s
  | .ended => s.enterTicketing m
  | .ticket =>
    let s := s.enterTicketing m
    match (s.meter m).session, f.chunk with
    | some x, some (chunk, bytes) => s.ticketChunk m unit x none chunk bytes
    | _, _ => s
  | .idle => s.endSession m { result := .noTicket }
  | .request => s.endSession m { result := .noTicket }

/-- A report that reaches an IDLE session: a repeat of the last completed chunk is acknowledged again, and a REQUEST is
taken (R109, R118). -/
def State.idleReport (s : State) (m : MeterNo) (unit : Addr) (f : FuelBody) : State :=
  let again := (s.meter m).lastChunk
  let s := match f.chunk with
    | some (chunk, _) => if again = some chunk then s.askAck m unit chunk else s
    | none => s
  let s := if f.state = .ticket then s else s.modMeter m fun r => { r with lastChunk := none }
  if f.state = .request then s.takeRequest m unit f.requested else s

/-- A valid FUEL report reaches the session of the meter its unit serves; before anything else the request mark goes unless
the meter state is REQUEST (R109). -/
def State.fuelReport (s : State) (unit : Addr) (owner : Nat) (f : FuelBody) : State :=
  match numbered 2 owner with
  | none => s
  | some m =>
    let s := if f.state = .request then s else s.modMeter m fun r => { r with requestMark := none }
    match (s.meter m).session with
    | none => s.idleReport m unit f
    | some x =>
      match x.phase with
      | .granting => s
      | .dispensing => s.dispensingReport m unit x f
      | .ticketing _ buffer => s.ticketingReport m unit x buffer f

/-! ### Outcomes (R110, R119, R120) -/

/-- The outcome of PERMIT in GRANTING, with or without the cancel mark (R110, R119). -/
def State.permitOutcome (s : State) (m : MeterNo) (x : Session) (outcome : CommandOutcome) : State :=
  match outcome with
  | .accepted =>
    s.modMeter m fun r => { r with session := some { x with phase := .dispensing }, promoted := true }
  | .restart => s.endSession m { result := .restart }
  | .refused reason =>
    if x.cancel then s.endSession m { result := .cancelled }
    else s.endSession m { result := .refused, unitReason := some reason }
  | .noAnswer => s.endSession m { result := if x.cancel then .cancelled else .noAnswer }
  | .unitLost => s.endSession m { result := if x.cancel then .cancelled else .unitLost }

/-- The outcome of REVOKE in DISPENSING: CANCELLED, the notice carrying the outcome, or RESTART (R119). -/
def State.revokeOutcome (s : State) (m : MeterNo) (outcome : CommandOutcome) : State :=
  match outcome with
  | .restart => s.endSession m { result := .restart }
  | .accepted | .refused _ | .noAnswer | .unitLost =>
    s.endSession m { result := .cancelled, revoke := some outcome }

/-- An outcome returns to a session: the place becomes FREE, and the outcome is applied where the session waits for it and
discarded otherwise (R108). A session in TICKETING waits for none, so the RESTART of a REVOKE that is still SENT is discarded too and the
session goes on (R112), of which R120 says that FIELD RESTART ends it: log entry 52. -/
def State.meterOutcome (s : State) (m : MeterNo) (code : Code) (outcome : CommandOutcome) : State :=
  let s := s.modMeter m fun r => { r with place := .free }
  match (s.meter m).session with
  | none => s
  | some x =>
    match x.phase with
    | .granting => if code = .permit then s.permitOutcome m x outcome else s
    | .dispensing => if code = .revoke && x.cancel && !(s.meter m).due then s.revokeOutcome m outcome else s
    | .ticketing _ _ => s

/-- The meter's unit has become LOST: the session ends LINK_LOST (R120). -/
def State.meterLost (s : State) (owner : Nat) : State :=
  match numbered 2 owner with
  | none => s
  | some m => s.endSession m { result := .linkLost }

/-! ### Cycle starts (R115) -/

/-- The ticket-wait counter of a session in TICKETING decreases by 1 (R115). -/
def MeterRec.tick (r : MeterRec) : MeterRec :=
  match r.session with
  | some x =>
    match x.phase with
    | .ticketing (some c) b => { r with session := some { x with phase := .ticketing (some (c - 1)) b } }
    | .ticketing none _ | .granting | .dispensing => r
  | none => r

/-- The ticket-wait counter has reached 0: the session ends NO_TICKET (R115). -/
def State.expireTicketWait (s : State) (m : MeterNo) : State :=
  match (s.meter m).session with
  | some x =>
    match x.phase with
    | .ticketing (some 0) _ => s.endSession m { result := .noTicket }
    | .ticketing _ _ | .granting | .dispensing => s
  | none => s

/-! ### The office's requests (R103, R107, R119, R121) -/

/-- The new book level a TANK SET asks for, clamped to the capacity in force; none where the SENSOR form has no level to
take (R103). -/
def State.tankLevel (s : State) (n : SetNo) : TankLevel → Option Nat
  | .level l => some (min (s.tank n).capacity l)
  | .sensor =>
    match (s.setRec n).latest with
    | none => none
    | some x => if x.sensor = 65535 then none else some (min (s.tank n).capacity x.sensor)

/-- The book takes a level: the difference is an adjustment, the residue and the discrepancy count become 0, and the thresholds
are tested (R103). -/
def State.setBook (s : State) (n : SetNo) (level : Nat) : State :=
  let adjustment := (level : Int) - (s.tank n).book
  let s := s.recordAdjustment n adjustment
  (s.modTank n fun t => { t with book := level, residue := 0, discCount := 0 }).testThresholds n

/-- TANK SET (R103). -/
def reqTankSet (set : Nat) (level : TankLevel) (s : State) : State × Reply :=
  match numbered 8 set with
  | none => (s, .refuse .badIndex)
  | some n =>
    if (s.setEntry n).isNone then (s, .refuse .notValid)
    else if s.sessionFor n then (s, .refuse .busy)
    else
      match s.tankLevel n level with
      | none => (s, .refuse .notValid)
      | some l => (s.setBook n l, .okWith (.tank l ((l : Int) - (s.tank n).book)))

/-- CLEAR FLAGS, selection TANK_FLAG (R107). -/
def reqClearTankFlag (mask : Nat) (names : TankFlagNames) (s : State) : State × Reply :=
  (forEach allSets (fun n s =>
    if marked mask n then
      s.modTank n fun t =>
        { t with
          low := t.low && !names.low
          reserve := t.reserve && !names.reserve
          discrepancy := t.discrepancy && !names.discrepancy }
    else s) s, .ok)

/-- CANCEL DELIVERY, by the session state (R119). -/
def reqCancelDelivery (meter : Nat) (s : State) : State × Reply :=
  match numbered 2 meter with
  | none => (s, .refuse .badIndex)
  | some m =>
    match (s.meter m).session with
    | none => (s, .refuse .state)
    | some x =>
      let mark := (s.modMeter m fun r =>
        { r with session := some { x with cancel := true }, due := true }).tryEnqueueMeter m
      match x.phase with
      | .granting =>
        if x.cancel then (s, .ok)
        else if (s.meter m).place = .queued .permit then (s.endSession m { result := .cancelled }, .ok)
        else (mark, .ok)
      | .dispensing => if x.cancel then (s, .ok) else (mark, .ok)
      | .ticketing _ _ => (s, .refuse .tooLate)

/-- READ TICKETS: the oldest records, up to 4, with the records held and the places claimed (R121). -/
def reqReadTickets (s : State) : State × Reply :=
  (s, .okWith (.tickets s.tickets.length s.placesClaimed (s.tickets.take 4)))

/-- A held session's mark is cleared and its counter loaded with the ticket wait (R114). -/
def MeterRec.unhold (wait : Nat) (r : MeterRec) : MeterRec :=
  match r.session with
  | some x =>
    match x.phase with
    | .ticketing none b => { r with session := some { x with phase := .ticketing (some wait) b } }
    | .ticketing (some _) _ | .granting | .dispensing => r
  | none => r

/-- RELEASE TICKETS: removes the n oldest records; where one is removed, every held session's mark is cleared (R114,
R121). -/
def reqReleaseTickets (count : Nat) (s : State) : State × Reply :=
  let n := min count s.tickets.length
  let s := { s with tickets := s.tickets.drop n }
  let s := if n = 0 then s
    else forEach allMeters (fun m s => s.modMeter m (MeterRec.unhold s.site.values.ticketWait)) s
  (s, .okWith (.removed n))

end Sys2Proof.Machine
end

