-- ==== Sys2Proof/Machine/Energy.lean ====
section
/-! DEFINITION. Energy integration and attribution (file 04): what a feeder step and a set step are worth and where they go,
and the whole handling of a SET report (R75). -/

namespace Sys2Proof.Machine

/-! ### Feeder steps (R51, R59 to R63) -/

/-- A step as the Feeder Monitor hands it over (R51). -/
structure FeederStep where
  feeder : FeederNo
  account : AccountNo
  point : PointNo
  basePower : Nat
  newPower : Nat
  delta : Nat
  period : Nat
  startSet : Option SetNo
  endSet : Option SetNo
  estimated : Bool
  clamped : Bool
  cycle : CycleNo
  deriving DecidableEq, Repr

/-- The energy of a step in mJ, exact: (Pp + Pn) × 5 × Δc × T (R59, R60). -/
def FeederStep.energy (x : FeederStep) : Nat := (x.basePower + x.newPower) * 5 * x.delta * x.period

/-- The set side of a step: the end-side set, else the start-side set, else the site's unattributed counter (R63). -/
def State.attribute (s : State) (x : FeederStep) : State :=
  match x.endSet.or x.startSet with
  | some n => s.modHire n fun h => { h with meteredMj := satAdd max64 h.meteredMj x.energy }
  | none => { s with unattributed := satAdd max64 s.unattributed x.energy }

/-- A step reaches the account and one place on the set side, in one event (R61 to R63). -/
def State.handStep (s : State) (x : FeederStep) : State :=
  (s.billStep x.account x.energy x.estimated x.clamped).attribute x

/-! ### Set steps (R65 to R68, R71) -/

/-- The energy of a set step in mJ, exact: (Pp + Pn) × 50 × Δc × T (R67). -/
def setStepEnergy (basePower newPower delta period : Nat) : Nat :=
  (basePower + newPower) * 50 * delta * period

/-- A set step from a baseline to a new reading: the output energy, the marks of the hire statement, and, for a report of
RUNNING, the burn (R67, R68, R71, R101). -/
def State.setStep (s : State) (n : SetNo) (e : SetEntry) (b : SetBaseline) (power : Nat) (clamped : Bool)
    (engine : EngineState) : State :=
  let raw := cycleDiff s.engine.cycleNo b.cycle
  let hold := s.engine.holdInForce
  let delta := min raw hold
  let energy := setStepEnergy b.power power delta s.engine.cycleLen
  let s := s.modHire n fun h =>
    { h with
      outputMj := satAdd max64 h.outputMj energy
      gap := h.gap || hold < raw
      clamped := h.clamped || b.clamped || clamped }
  if engine = .running then s.burn n (burnUnits e s.engine.cycleLen delta energy) else s

/-- A set report is integrated: a step from the baseline, where there is one, and the reading becomes the baseline (R66). -/
def State.integrateSet (s : State) (n : SetNo) (e : SetEntry) (raw : Nat) (engine : EngineState) : State :=
  let power := min 30000 raw
  let clamped := 30000 < raw
  let s := match (s.setRec n).baseline with
    | none => s
    | some b => s.setStep n e b power clamped engine
  s.modSet n fun r => { r with baseline := some ⟨power, s.engine.cycleNo, clamped⟩ }

/-- A valid SET report: stored, applied to the run state, integrated, and its sensor level checked (R75, R106). It is
ignored where the set of the unit's owner index is not enabled or names another unit. -/
def State.setReport (s : State) (unit : Addr) (owner : Nat) (engine : EngineState) (power sensor : Nat)
    (alarm : Byte) (leave : SetNo → Bool) : State :=
  match numbered 8 owner with
  | none => s
  | some n =>
    match s.setEntry n with
    | none => s
    | some e =>
      if e.enabled && e.unit = unit then
        let cycle := s.engine.cycleNo
        let s := (s.storeReport n e ⟨engine, power, sensor, alarm, cycle⟩).applyReport n e engine cycle
        (s.integrateSet n e power engine).checkSensor n e sensor (leave n)
      else s

end Sys2Proof.Machine
end

