-- ==== Sys2Proof/Machine/Feeders.lean ====
section
/-! DEFINITION. The Feeder Monitor (file 03): samples, sample states, baselines, limit windows, missed polls and close-offs. -/

namespace Sys2Proof.Machine

/-! ### Limit windows (R52, R53) -/

/-- A valid sample's current is tested against the window: the flag sets, with a FEEDER LIMIT notice when it was clear. -/
def State.testWindow (s : State) (f : FeederNo) (e : FeederEntry) (current : Nat) : State :=
  if windowMet e.mode e.low e.high current && !s.limitFlag f then
    (s.putLimitFlag f true).raise
      (.feederLimit f e.board e.position e.mode e.low e.high current s.engine.cycleNo)
  else s

/-! ### Samples (R44, R47, R48, R50) -/

/-- A sample prepared: power clamped to 60000, and the clamp mark for a clamped power or OVERRANGE (R44). -/
def prepareSample (x : BoardSample) (cycle : CycleNo) : Sample :=
  { power := min 60000 x.power, current := x.current, voltage := x.voltage
    overrange := x.status = .overrange, clamped := 60000 < x.power || x.status = .overrange, cycle }

/-- The step from a baseline to a sample (R48, R51). -/
def State.sampleStep (s : State) (f : FeederNo) (e : FeederEntry) (state : SampleState) (b : Baseline)
    (x : Sample) : FeederStep :=
  { feeder := f, account := e.account, point := e.point, basePower := b.power, newPower := x.power
    delta := cycleDiff x.cycle b.cycle, period := s.engine.cycleLen
    startSet := b.connected, endSet := s.connectedSet e.point
    estimated := state = .held, clamped := b.clamped || x.clamped, cycle := x.cycle }

/-- The sample becomes the baseline and the latest sample, and the feeder LIVE (R47, R48, R50). -/
def State.setBaseline (s : State) (f : FeederNo) (e : FeederEntry) (x : Sample) : State :=
  let connected := s.connectedSet e.point
  s.modFeeder f fun r =>
    { r with
      state := .live, latest := some x
      baseline := some ⟨x.power, x.cycle, x.clamped, connected⟩
      status := if x.overrange then .overrange else .ok }

/-- A valid sample: the window test and the handling of the feeder's sample state, in one event (R44, R47, R48, R50, R52). -/
def State.takeSample (s : State) (f : FeederNo) (e : FeederEntry) (x : Sample) : State :=
  let r := s.feederRec f
  let s := s.testWindow f e x.current
  let s := match r.state, r.baseline with
    | .live, some b => s.handStep (s.sampleStep f e r.state b x)
    | .held, some b => s.handStep (s.sampleStep f e r.state b x)
    | .stale, _ => s.reportGap e.account
    | _, _ => s
  s.setBaseline f e x

/-! ### Missed polls (R45) -/

/-- A feeder misses its poll: LIVE becomes HELD, and the last reported status is set. -/
def State.missPoll (s : State) (f : FeederNo) (status : FeederStatus) : State :=
  s.modFeeder f fun r =>
    { r with state := if r.state = .live then .held else r.state, status }

/-- The loaded feeders of a board. -/
def State.boardFeeders (s : State) (unit : Addr) : List FeederNo :=
  allFeeders.filter fun f => (s.feederEntry f).any fun e => e.board = unit

/-- Every loaded feeder of a board misses its poll: a silent or garbled slot (R45). -/
def State.missBoard (s : State) (unit : Addr) : State :=
  forEach (s.boardFeeders unit) (fun f s => s.missPoll f .missing) s

/-! ### Board reports (R43) -/

/-- One loaded feeder of the reporting board: the first sample for its position, or none (R43, R44, R45). -/
def State.feederOfReport (s : State) (samples : List BoardSample) (f : FeederNo) : State :=
  match s.feederEntry f with
  | none => s
  | some e =>
    match samples.find? fun x => x.position = e.position with
    | none => s.missPoll f .missing
    | some x =>
      if x.status = .fault then s.missPoll f .fault
      else s.takeSample f e (prepareSample x s.engine.cycleNo)

/-- A valid BOARD report, taken as one event (R43). -/
def State.boardReport (s : State) (unit : Addr) (samples : List BoardSample) : State :=
  forEach (s.boardFeeders unit) (fun f s => s.feederOfReport samples f) s

/-! ### Close-offs (R49, R60) -/

/-- The cycles since a feeder's baseline exceed the hold limit in force, in LIVE or HELD (R49). -/
def State.holdExceeded (s : State) (f : FeederNo) : Bool :=
  let r := s.feederRec f
  match r.state, r.baseline with
  | .live, some b => s.engine.holdInForce < cycleDiff s.engine.cycleNo b.cycle
  | .held, some b => s.engine.holdInForce < cycleDiff s.engine.cycleNo b.cycle
  | _, _ => false

/-- The close-off of a feeder: a flat step of H cycles is handed on, and the feeder becomes STALE (R49, R60). -/
def State.closeOff (s : State) (f : FeederNo) : State :=
  match s.feederEntry f, (s.feederRec f).baseline with
  | some e, some b =>
    if s.holdExceeded f then
      let s := s.handStep
        { feeder := f, account := e.account, point := e.point, basePower := b.power, newPower := b.power
          delta := s.engine.holdInForce, period := s.engine.cycleLen
          startSet := b.connected, endSet := s.connectedSet e.point
          estimated := true, clamped := b.clamped, cycle := s.engine.cycleNo }
      s.modFeeder f fun r => { r with state := .stale, baseline := none }
    else s
  | _, _ => s

/-! ### Resets of the records (R46) -/

/-- Every feeder record goes to NONE: START CYCLES, GO LIVE and line reset (R46). -/
def State.clearFeeders (s : State) : State := { s with feeders := Vector.replicate 32 .none }

/-! ### The office's requests (R54, R57) -/

/-- CLEAR FLAGS, selection FEEDER_LIMIT (R54). -/
def reqClearFeederLimit (mask : Nat) (s : State) : State × Reply :=
  (forEach allFeeders (fun f s => if marked mask f then s.putLimitFlag f false else s) s, .ok)

/-- READ FEEDER (R57). -/
def reqReadFeeder (feeder : Nat) (s : State) : State × Reply :=
  match numbered 32 feeder with
  | none => (s, .refuse .badIndex)
  | some f =>
    (s, .okWith (.feeder
      { record := if (s.feederEntry f).isSome then some (s.feederRec f) else none
        limitFlag := s.limitFlag f }))

end Sys2Proof.Machine
end

