-- ==== Sys2Proof/Machine/Engine.lean ====
section
/-! DEFINITION. The Field Cycle Engine (file 02): outcomes and where they return, the selection of a command, the slot list, the
header, link states, and the end of a slot. Cycle starts are in Cycle.lean. -/

namespace Sys2Proof.Machine

/-! ### Outcomes returned to their origins (R35, R190) -/

/-- The origin takes the outcome, and nothing is enqueued for it (R35, R40). -/
def State.giveOutcome (s : State) (c : Command) (outcome : CommandOutcome) : State :=
  match c.origin with
  | .office tag => s.raise (.commandResult tag c.target c.code outcome s.engine.cycleNo)
  | .sets n => s.setOutcome n c.code outcome
  | .changeover p => s.pointOutcome p c.code outcome
  | .fuel m => s.meterOutcome m c.code outcome

/-- The origin's due command is enqueued where it can be (R78, R108, R132). -/
def State.resume (s : State) : Origin → State
  | .office _ => s
  | .sets n => s.tryEnqueueSet n
  | .changeover p => s.tryEnqueuePoint p
  | .fuel m => s.tryEnqueueMeter m

/-- An outcome returns to its origin, and the return of an outcome lets a due command of that origin be enqueued (R35, R78,
R108, R132). -/
def State.returnOutcome (s : State) (c : Command) (outcome : CommandOutcome) : State :=
  (s.giveOutcome c outcome).resume c.origin

/-- The engine's record of the outstanding command takes a value. -/
def State.putOutstanding (s : State) (q : Option Outstanding) : State :=
  { s with engine := { s.engine with outstanding := q } }

/-- The outstanding command ends with an outcome (R35, R36, R39). -/
def State.endOutstanding (s : State) (outcome : CommandOutcome) : State :=
  match s.engine.outstanding with
  | none => s
  | some q => (s.putOutstanding none).returnOutcome q.command outcome

/-! ### Selection (R23, R34) -/

/-- The engine takes an entry into a header: the origin's command place becomes SENT (R78, R108, R132). -/
def State.markSent (s : State) (c : Command) : State :=
  match c.origin with
  | .office _ => s
  | .sets n => s.modSet n fun r => { r with place := .sent c.code }
  | .changeover p => s.modPoint p fun r => { r with place := .sent c.code }
  | .fuel m => s.modMeter m fun r => { r with place := .sent c.code }

/-- The entry leaves the head of the queue and becomes the outstanding command (R23, R35). -/
def State.sendCommand (s : State) (c : Command) : State :=
  (s.markSent c).putOutstanding (some ⟨c, false, false⟩)

/-- The queue takes a value. -/
def State.putQueue (s : State) (queue : List Command) : State :=
  { s with engine := { s.engine with queue } }

/-- The search of the queue from the oldest entry: entries whose target is LOST or not enabled end UNIT_LOST, and the first
entry whose target is reachable is sent (R34). The search reads the queue as it stands at each entry; the bound is beyond
what one search can meet (log entry 26). -/
def State.selectFrom : Nat → State → State
  | 0, s => s
  | fuel + 1, s =>
    match s.engine.queue with
    | [] => s
    | c :: rest =>
      let s := s.putQueue rest
      if s.reachable c.target then s.sendCommand c
      else (s.returnOutcome c .unitLost).selectFrom fuel

/-- The selection of R34. -/
def State.select (s : State) : State := s.selectFrom 160

/-! ### The slot list (R20, R21) -/

/-- The unit at an address is enabled. -/
def State.enabledUnit (s : State) (a : Addr) : Bool := (s.unitEntry a).any UnitEntry.enabled

/-- The unit serves a meter that the Fuel Controller holds promoted (R20). -/
def State.promotedUnit (s : State) (a : Addr) : Bool :=
  allMeters.any fun m => (s.meter m).promoted && s.meterUnit m = some a

/-- The unit takes part in the EVERY pass (R20). -/
def State.everyUnit (s : State) (a : Addr) : Bool :=
  s.enabledUnit a && ((s.unitEntry a).any (fun e => e.pollClass = .every) || s.promotedUnit a)

/-- The unit takes part in the ROUND pass (R21). -/
def State.roundUnit (s : State) (a : Addr) : Bool :=
  s.enabledUnit a && !s.everyUnit a

/-- The reply slot and the EVERY pass (R20). -/
def State.firstPasses (s : State) (reply : Option Addr) : List Addr :=
  (reply.toList ++ allUnits.filter fun a => s.everyUnit a && reply ≠ some a).take 16

/-- The addresses in the order of the ROUND pass: from the poll pointer up, then from 1 (R21). -/
def roundOrder (pointer : Addr) : List Addr :=
  (allUnits.filter fun a => pointer ≤ a) ++ allUnits.filter fun a => a < pointer

/-- The ROUND pass, given the slots already allocated (R21). -/
def State.roundPass (s : State) (taken : List Addr) : List Addr :=
  ((roundOrder s.engine.pollPointer).filter fun a => s.roundUnit a && !taken.contains a).take (16 - taken.length)

/-- The poll pointer after the ROUND pass: one above its last unit, unchanged where it gave no slot (R21). -/
def pointerAfter (pointer : Addr) (round : List Addr) : Addr :=
  match round.getLast? with
  | some a => a + 1
  | none => pointer

/-! ### The header (R22 to R24) -/

/-- The meter whose acknowledgement the header carries: of two that are due, the one not acknowledged last (R24). -/
def Engine.ackChoice (e : Engine) : Option MeterNo :=
  match e.acks[(0 : MeterNo)], e.acks[(1 : MeterNo)] with
  | none, none => none
  | some _, none => some 0
  | none, some _ => some 1
  | some _, some _ => some (if e.lastAcked = some 0 then 1 else 0)

/-- The header is sent: FDE high, its acknowledgement no longer due (R19, R23, R24). -/
def Engine.sendHeader (e : Engine) (slots : List Addr) (command : Option Command) : Engine :=
  let choice := e.ackChoice
  let header : Header :=
    { cycle := e.cycleNo, slots, command, ack := choice.bind fun m => e.acks[m] }
  match choice with
  | none => { e with header := some header, fde := true }
  | some m => { e with header := some header, fde := true, acks := e.acks.set m none, lastAcked := some m }

/-- The slots of the cycle are opened, and the header sent; an empty cycle has neither (R20 to R23). -/
def State.openCycle (s : State) (reply : Option Addr) (command : Option Command) : State :=
  let first := s.firstPasses reply
  let round := s.roundPass first
  let slots := first ++ round
  let e := { s.engine with
    slots, slotsEnded := 0, header := none, fde := false
    pollPointer := pointerAfter s.engine.pollPointer round }
  { s with engine := if slots.isEmpty then e else e.sendHeader slots command }

/-- The engine's work at a cycle start: the reply slot for an outstanding command, or the selection; then the slot list, the
acknowledgement and the header (R18, R20 to R24). -/
def State.engineWork (s : State) : State :=
  match s.engine.outstanding with
  | some q =>
    (s.putOutstanding (some { q with replyAllocated := true })).openCycle (some q.command.target) none
  | none =>
    let s := s.select
    s.openCycle none (s.engine.outstanding.map Outstanding.command)

/-! ### Link states (R28 to R31) -/

/-- A count that saturates at 65535. -/
def count16 (n : Nat) : Nat := satAdd 65535 n 1

/-- A unit becomes LOST: the notice, and the owner is told (R30; log entry 23). -/
def State.becomeLost (s : State) (a : Addr) (e : UnitEntry) : State :=
  let s := s.modLink a fun l => { l with state := some .lost }
  let s := s.raise (.unitLink a .lost (s.link a).misses)
  match e.kind with
  | .board => s.missBoard a
  | .set => forEach (s.setsNaming a) (fun n s => s.setMark n true) s
  | .change => s.changeLost a
  | .fuel => s.meterLost e.owner

/-- The counts of a silent or garbled slot (R28, R31). -/
def LinkRec.miss (l : LinkRec) (garbled : Bool) : LinkRec :=
  { l with
    misses := satAdd 255 l.misses 1
    missed := count16 l.missed
    garbled := if garbled then count16 l.garbled else l.garbled }

/-- A silent or garbled slot of a unit: its counts, its link state, and its owner told of the missed poll; `leave` leaves the
fall to LOST to a command of its own (R25, R28, R30, R45; log entry 6). -/
def State.missSlot (s : State) (a : Addr) (e : UnitEntry) (garbled leave : Bool) : State :=
  let was := (s.link a).state
  let s := s.modLink a (LinkRec.miss · garbled)
  let s :=
    if was = some .lost then s
    else if (s.link a).misses < s.site.values.lossLimit then
      s.modLink a fun l => { l with state := some .silent }
    else if leave then
      { s.modLink a (fun l => { l with state := some .silent }) with due := s.due ++ [.linkLost a] }
    else s.becomeLost a e
  match e.kind with
  | .board => s.missBoard a
  | .set => s
  | .change => s
  | .fuel => s

/-- A valid slot of a unit: PRESENT with no misses; a unit that was LOST is announced, and its sets are reachable again before
the report is applied (R28, R30, R89). -/
def State.linkUp (s : State) (a : Addr) : State :=
  let was := (s.link a).state
  let s := s.modLink a fun l => { l with state := some .present, misses := 0 }
  if was = some .lost then
    forEach (s.setsNaming a) (fun n s => s.clearMark n) (s.raise (.unitLink a .present 0))
  else s

/-! ### Report copies (R31, R194) -/

/-- A copy is offered to the Office Port, which drops and counts it when its buffer is full (R194). -/
def Port.offerCopy (p : Port) (c : Copy) : Port :=
  if p.copies.length < 4 then { p with copies := p.copies ++ [c] }
  else { p with copyDrops := p.copyDrops.set c.unit (count16 p.copyDrops[c.unit]) }

/-- The forward count advances at a valid report, and a copy is offered when it reaches the divisor (R31). -/
def State.forward (s : State) (a : Addr) (e : UnitEntry) (report : List Byte) : State :=
  let next := satAdd 65535 (s.link a).forward 1
  if e.forwardDivisor = 0 then s.modLink a fun l => { l with forward := 0 }
  else if e.forwardDivisor ≤ next then
    let s := s.modLink a fun l => { l with forward := 0 }
    { s with port := s.port.offerCopy ⟨a, s.engine.cycleNo, report⟩ }
  else s.modLink a fun l => { l with forward := next }

/-! ### The end of a slot (R25, R26, R35, R36) -/

/-- What a slot received makes of it (R25). -/
inductive SlotOutcome where
  | valid (r : FieldReport)
  | silent
  | garbled
  deriving DecidableEq, Repr

/-- The outcome of a slot owned by a unit of an entry (R25, R197). -/
def slotOutcome (a : Addr) (e : UnitEntry) : SlotInput → SlotOutcome
  | .nothing => .silent
  | .contention => .garbled
  | .frame bytes =>
    match parseReport bytes with
    | none => .garbled
    | some r => if r.source.toNat = a.val + 1 && r.kind = e.kind then .valid r else .garbled

/-- The outcome a valid reply slot returns (R35). -/
def Answer.outcome : Answer → CommandOutcome
  | .none => .noAnswer
  | .accept => .accepted
  | .refuse reason => .refused reason

/-- The body goes to the owner of the unit's kind (R26). -/
def State.handBody (s : State) (a : Addr) (e : UnitEntry) (body : ReportBody) (leave : SetNo → Bool) : State :=
  match body with
  | .set engine power sensor alarm => s.setReport a e.owner engine power sensor alarm leave
  | .board samples => s.boardReport a samples
  | .change position selector => s.changeReport a e.owner position selector
  | .fuel f => s.fuelReport a e.owner f

/-- A valid slot: the link state, the command's outcome, the body, the forward count, in this order (R26). -/
def State.validSlot (s : State) (a : Addr) (e : UnitEntry) (isReply : Bool) (r : FieldReport)
    (leave : SetNo → Bool) : State :=
  let s := s.linkUp a
  let s := if isReply then s.endOutstanding r.answer.outcome else s
  (s.handBody a e r.body leave).forward a e r.raw

/-- The engine marks the next slot ended and the header window past (R19). -/
def State.closeSlot (s : State) : State :=
  { s with engine := { s.engine with slotsEnded := s.engine.slotsEnded + 1, fde := false } }

/-- The slot that is to end next is the reply slot of the outstanding command (R20). -/
def Engine.atReplySlot (e : Engine) : Bool :=
  e.slotsEnded = 0 && e.outstanding.any Outstanding.replyAllocated

/-- The command answered in this slot had its target disabled (R36). -/
def Engine.orphaned (e : Engine) : Bool := e.atReplySlot && e.outstanding.any Outstanding.orphan

/-- The slot of a unit ends with what was received in it; `deferred` are the events left to commands of their own (R25, R26,
R36). Where its owner is no longer enabled what a slot receives is discarded, as R36 has it for a reply slot; a slot that is
none was still the poll of its board, whose feeders missed it (R45). A slot whose owner was cleared and loaded again since is a slot of
the unit as its entry now stands: no missed poll for the feeders of a board that has become a unit of another kind. These are DESIGN
CHOICES, log entry 15. -/
def State.endSlotOf (s : State) (a : Addr) (received : SlotInput) (deferred : List TimedEvent) : State :=
  let isReply := s.engine.atReplySlot
  let orphan := s.engine.orphaned
  let s := s.closeSlot
  match s.unitEntry a, orphan with
  | _, true => s.endOutstanding .noAnswer
  | none, false => if isReply then s.endOutstanding .noAnswer else s.missBoard a
  | some e, false =>
    if e.enabled then
      match slotOutcome a e received with
      | .valid r => s.validSlot a e isReply r fun n => deferred.contains (.discrepancy n)
      | .silent =>
        let s := s.missSlot a e false (deferred.contains (.linkLost a))
        if isReply then s.endOutstanding .noAnswer else s
      | .garbled =>
        let s := s.missSlot a e true (deferred.contains (.linkLost a))
        if isReply then s.endOutstanding .noAnswer else s
    else if isReply then s.endOutstanding .noAnswer
    else if e.kind = .board then s.missBoard a
    else s

/-- The end of slot k of the cycle, 4 + 2.5 × k ms after its start, where a slot is still open (R19; log entries 3, 8). -/
def State.endSlot (s : State) (received : SlotInput) (deferred : List TimedEvent) : State :=
  if s.engine.running then
    match s.engine.slots[s.engine.slotsEnded]? with
    | some a =>
      (s.bringTo (4 + 5 * (s.engine.slotsEnded + 1) / 2)).endSlotOf a received deferred
    | none => s
  else s

/-- LINK_LOST as a command of its own: the unit's count has reached the loss limit (R28, R30). -/
def State.expireLink (s : State) (a : Addr) : State :=
  match s.unitEntry a with
  | some e =>
    if e.enabled && (s.link a).state = some .silent && s.site.values.lossLimit ≤ (s.link a).misses then
      s.becomeLost a e
    else s
  | none => s

/-- The end of the header window, 4 ms after the cycle start: the controller releases the line (R19). -/
def State.endHeaderWindow (s : State) : State :=
  if s.engine.fde then
    let s := s.bringTo 4
    { s with engine := { s.engine with fde := false } }
  else s

/-! ### Abandoning and restarting (R39, R40) -/

/-- The cycle in progress is abandoned: its open slots produce no outcome (R39, R40). FDE goes low: log entry 13. -/
def State.abandonCycle (s : State) : State :=
  { s with engine := { s.engine with slots := [], slotsEnded := 0, header := none, fde := false } }

/-- STOP CYCLES in RUNNING (R39, R164). -/
def State.stopCycles (s : State) : State :=
  let s := s.abandonCycle
  let s := { s with engine := { s.engine with running := false } }
  let s := s.endOutstanding .noAnswer
  if s.site.live then s.markGap else s

/-- STOP CYCLES (R39). -/
def reqStopCycles (s : State) : State × Reply :=
  if s.engine.running then (s.stopCycles, .ok) else (s, .refuse .state)

/-- Every command outstanding and queued, in the order in which FIELD RESTART ends them (R40). -/
def Engine.allCommands (e : Engine) : List Command :=
  (e.outstanding.map Outstanding.command).toList ++ e.queue

/-- Every enabled unit becomes ABSENT with no misses (R40, R41). -/
def State.linksAbsent (s : State) : State :=
  forEach allUnits (fun a s =>
    if s.enabledUnit a then s.modLink a fun l => { l with state := some .absent, misses := 0 } else s) s

/-- The origins named by commands, as sets. -/
def restartedSet (cs : List Command) (n : SetNo) : Bool := cs.any fun c => c.origin = .sets n

/-- The unreachable marks are cleared; the due command of a set that this restart made due waits for step 8 (R40, R89; log
entry 27). -/
def State.clearMarks (s : State) (cs : List Command) : State :=
  forEach allSets (fun n s => if restartedSet cs n then s.setMark n false else s.clearMark n) s

/-- FIELD RESTART, in the order of R40. -/
def State.fieldRestart (s : State) : State :=
  let cs := s.engine.allCommands
  let s := s.abandonCycle
  let s := { s with engine := { s.engine with outstanding := none, queue := [] } }
  let s := forEach cs (fun c s => s.giveOutcome c .restart) s
  let s := { s with engine := { s.engine with acks := Vector.replicate 2 none, lastAcked := none } }
  let s := s.linksAbsent.clearMarks cs
  let s := { s with engine := { s.engine with pollPointer := 0 } }
  let s := s.restartPoints
  forEach cs (fun c s => s.resume c.origin) s

/-- FIELD RESTART (R40). -/
def reqFieldRestart (s : State) : State × Reply := (s.fieldRestart, .ok)

end Sys2Proof.Machine
end

