-- ==== Sys2Proof/Machine/Cycle.lean ====
section
/-! DEFINITION. Cycle starts: the timed events that fall due at them or at a slot's end, the work of every block at a cycle start,
and START CYCLES (R18, R38, and the cycle-start rules of every block). -/

namespace Sys2Proof.Machine

/-! ### Counters (R81, R83, R85, R115, R133 to R138) -/

/-- A phase counter decreases by 1. -/
def PhaseCounter.tick : PhaseCounter → PhaseCounter
  | .none => .none
  | .prepare n => .prepare (n - 1)
  | .confirm n => .confirm (n - 1)
  | .dead n => .dead (n - 1)
  | .window n => .window (n - 1)

/-- Every counter that counts cycles decreases by 1, before the cycle start loads any. -/
def State.tickCounters (s : State) : State :=
  let s := forEach allSets (fun n s => s.modSet n fun r => { r with run := r.run.tick }) s
  let s := forEach allPoints
    (fun p s => s.modPoint p fun r => { r with seq := r.seq.map fun q => { q with counter := q.counter.tick } }) s
  forEach allMeters (fun m s => s.modMeter m MeterRec.tick) s

/-! ### The timed events -/

/-- The counter of a sequence in flight stands at a value. -/
def State.counterIs (s : State) (p : PointNo) (c : PhaseCounter) : Bool :=
  (s.pointRec p).seq.any fun q => q.counter = c

/-- Does `f` with the sequence in flight at a point whose counter stands at a value. -/
def State.whenCounter (s : State) (p : PointNo) (c : PhaseCounter) (f : Sequence → State) : State :=
  match (s.pointRec p).seq with
  | some q => if q.counter = c then f q else s
  | none => s

/-- A STARTING set whose crank counter has reached 0. -/
def RunState.crankSpent : RunState → Bool
  | .starting _ _ (some 0) _ => true
  | _ => false

/-- A session whose ticket-wait counter has reached 0. -/
def MeterRec.waitSpent (r : MeterRec) : Bool :=
  r.session.any fun x =>
    match x.phase with
    | .ticketing (some 0) _ => true
    | _ => false

/-- An entry of the schedule is due at the present clock time (R145). -/
def State.scheduleDue (s : State) : Bool :=
  s.billing.nowSeconds.any fun now => s.schedule.any fun e => e.time ≤ now

/-- The open intervals are due to close or to be extended (R165). -/
def State.intervalDue (s : State) : Bool :=
  s.site.live && s.billing.interval.any fun i => s.billing.clock.any fun now => i.closeDue now

/-- The set's overload run has reached its hold and a point qualifies (R91). -/
def State.loadDue (s : State) (n : SetNo) : Bool :=
  (s.setRec n).run = .online && (s.setEntry n).any (fun e => e.overloadHold ≤ (s.setRec n).overloadRun)
    && (s.loadChoice n).isSome

/-- The timed event falls due in this state, at the cycle start or slot end being taken. -/
def State.falls (s : State) : TimedEvent → Bool
  | .loadRequest n => s.loadDue n
  | .holdLimit f => s.holdExceeded f
  | .warmUp n => (s.setRec n).run = .warming 0
  | .coolDown n => (s.setRec n).run = .cooling 0
  | .crankWindow n => (s.setRec n).run.crankSpent
  | .prepare p => s.counterIs p (.prepare 0)
  | .confirm p => s.counterIs p (.confirm 0)
  | .deadTime p => s.counterIs p (.dead 0)
  | .window p => s.counterIs p (.window 0)
  | .ticketWait m => (s.meter m).waitSpent
  | .schedule => s.scheduleDue
  | .intervalClose => s.intervalDue
  | .linkLost a => (s.link a).state = some .silent && s.site.values.lossLimit ≤ (s.link a).misses
  | .discrepancy n => (s.tank n).discCount = 20

/-- The effect of a timed event whose condition holds; nothing where it does not. -/
def State.happen (s : State) : TimedEvent → State
  | .loadRequest n => s.raiseLoad n
  | .holdLimit f => s.closeOff f
  | .warmUp n => s.expireWarmUp n
  | .coolDown n => s.expireCoolDown n
  | .crankWindow n => s.expireCrank n
  | .prepare p => s.whenCounter p (.prepare 0) fun _ => s.endSequence p .prepareTimeout none
  | .confirm p => s.whenCounter p (.confirm 0) fun q => s.expireConfirm p q
  | .deadTime p => s.whenCounter p (.dead 0) fun q => s.expireDead p q
  | .window p => s.whenCounter p (.window 0) fun q => s.windowCheck p q
  | .ticketWait m => s.expireTicketWait m
  | .schedule => s.walkSchedule
  | .intervalClose => s.testClose
  | .linkLost a => s.expireLink a
  | .discrepancy n => s.expireDiscrepancy n

/-- The event is taken here where it falls due, or left to a command of its own where it is deferred (log entry 6). -/
def State.takeOrDefer (s : State) (deferred : List TimedEvent) (x : TimedEvent) : State :=
  if s.falls x && deferred.contains x then { s with due := s.due ++ [x] } else s.happen x

/-- A timed event as a command of its own: taken where it was left to one; without effect otherwise (log entries 6, 7). What a
cycle start or slot end has left is taken before any other command (`State.settle`), so nothing comes between it and its moment. -/
def State.takeEvent (s : State) (x : TimedEvent) : State :=
  if s.due.contains x then { s with due := s.due.erase x }.happen x else s

/-! ### The work of a cycle start -/

/-- Takes the same kind of event for every member of a list. -/
def State.takeAll {α : Type} (s : State) (deferred : List TimedEvent) (xs : List α) (kind : α → TimedEvent) :
    State :=
  forEach xs (fun x s => s.takeOrDefer deferred (kind x)) s

/-- Due commands of sets, points and meters are enqueued where they can be (R78, R108, R132). -/
def State.enqueueDue (s : State) : State :=
  let s := forEach allSets (fun n s => s.tryEnqueueSet n) s
  let s := forEach allPoints (fun p s => s.tryEnqueuePoint p) s
  forEach allMeters (fun m s => s.tryEnqueueMeter m) s

/-- The dead check of a cycle start after the expiry, its window not yet spent (R136). -/
def State.laterCheck (s : State) (p : PointNo) : State :=
  match (s.pointRec p).seq with
  | some q =>
    match q.counter with
    | .window (_ + 1) => s.windowCheck p q
    | _ => s
  | none => s

/-- The sequencer's timers at one point: one of the prepare, confirm, dead and window counters is in use (R133 to R138). -/
def State.pointTimers (s : State) (deferred : List TimedEvent) (p : PointNo) : State :=
  match (s.pointRec p).seq.map Sequence.counter with
  | some (.prepare _) => s.takeOrDefer deferred (.prepare p)
  | some (.confirm _) => s.takeOrDefer deferred (.confirm p)
  | some (.dead _) => s.takeOrDefer deferred (.deadTime p)
  | some (.window 0) => s.takeOrDefer deferred (.window p)
  | some (.window (_ + 1)) => s.laterCheck p
  | some .none => s
  | none => s

/-- A command whose target was disabled before its reply slot was allocated ends NO_ANSWER (R36). -/
def State.endOrphan (s : State) : State :=
  if s.engine.outstanding.any fun q => q.orphan && !q.replyAllocated then s.endOutstanding .noAnswer else s

/-- The sets in FAULT. -/
def State.faultySets (s : State) : List SetNo :=
  allSets.filter fun n => (s.setRec n).run.name = .fault

/-- The new cycle: its number, its length, the hold limit it uses, and its start (R12, R13, R18). -/
def State.newCycle (s : State) : State :=
  { s with engine := { s.engine with
      cycleNo := s.engine.cycleNo + 1
      cycleLen := s.site.period
      holdInForce := s.site.values.holdLimit
      age := 0 } }

/-- The work of the owning blocks at a cycle start (log entry 5): close-offs, the expiries of the sets, due commands, the
sequencers' timers, ticket waits, thresholds, the interval test, the schedule, and the automatic requests. -/
def State.ownersWork (s : State) (faulty : List SetNo) (deferred : List TimedEvent) : State :=
  let s := s.takeAll deferred allFeeders .holdLimit
  let s := s.takeAll deferred allSets .warmUp
  let s := s.takeAll deferred allSets .coolDown
  let s := s.takeAll deferred allSets .crankWindow
  let s := s.enqueueDue
  let s := forEach allPoints (fun p s => s.pointTimers deferred p) s
  let s := s.takeAll deferred allMeters .ticketWait
  let s := forEach allSets (fun n s => s.testThresholds n) s
  let s := s.takeOrDefer deferred .intervalClose
  let s := s.takeOrDefer deferred .schedule
  let s := forEach faulty (fun n s => s.raiseFault n) s
  let s := s.takeAll deferred allSets .loadRequest
  forEach allSets (fun n s => s.raiseFuel n) s

/-- A cycle start (R18). `closing` is the length of the cycle it closes, absent at the first cycle start of a run (log entry
19). What the closing cycle is credited with, and the counters, come first; then the command that can no longer be
answered (R36); then the engine and the owners, the engine last where `selectLast` (R137). -/
def State.cycleStart (s : State) (closing : Option Nat) (selectLast : Bool) (deferred : List TimedEvent) : State :=
  let faulty := s.faultySets
  let s := s.newCycle
  let s := closing.elim s fun len => s.closeCycle len
  let s := s.tickCounters.endOrphan
  if selectLast then (s.ownersWork faulty deferred).engineWork
  else s.engineWork.ownersWork faulty deferred

/-- Slots that no command has ended end silent (log entry 4). -/
def State.endSilent : Nat → State → State
  | 0, s => s
  | n + 1, s => (s.endSlot .nothing []).endSilent n

/-- The slots of the cycle in progress that are still open. -/
def Engine.openSlots (e : Engine) : Nat := e.slots.length - e.slotsEnded

/-- A cycle start while RUNNING, T ms after the one before it (R18); while HALTED no cycle starts occur. -/
def State.nextCycle (s : State) (selectLast : Bool) (deferred : List TimedEvent) : State :=
  if s.engine.running then
    let s := s.endSilent s.engine.openSlots
    (s.bringTo s.engine.cycleLen).cycleStart (some s.engine.cycleLen) selectLast deferred
  else s

/-! ### START CYCLES (R38) -/

/-- Every set's energy baseline is cleared (R69). -/
def State.clearBaselines (s : State) : State :=
  forEach allSets (fun n s => s.modSet n fun r => { r with baseline := none }) s

/-- Some unit is enabled. -/
def State.someEnabled (s : State) : Bool := allUnits.any s.enabledUnit

/-- The start of a run: feeders NONE, set baselines gone, and the first cycle start (R38). -/
def State.startRun (s : State) : State :=
  let s := s.clearFeeders.clearBaselines
  let s := { s with engine := { s.engine with running := true } }
  s.cycleStart none false []

/-- START CYCLES (R38). -/
def reqStartCycles (s : State) : State × Reply :=
  if s.engine.running then (s, .refuse .state)
  else if s.someEnabled then (s.startRun, .ok)
  else (s, .refuse .notValid)

end Sys2Proof.Machine
end

