-- ==== Sys2Proof/Machine/Tables.lean ====
section
/-! DEFINITION. Site tables and site states (file 01): the load requests with their checks and effects, the site values, the
cycle period, GO LIVE and STAND DOWN, and the command gate table (R189). -/

namespace Sys2Proof.Machine

/-! ### The unit table (R3, R4) -/

/-- The run states in which a set entry is in use (R1). -/
def RunState.inFlight : RunState → Bool
  | .starting _ _ _ _ | .warming _ | .cooling _ | .stopping => true
  | .offline | .unseen | .stopped | .online | .fault _ => false

/-- The owner of a unit entry is in an in-flight operation (R1). -/
def State.unitBusy (s : State) (e : UnitEntry) : Bool :=
  match e.kind with
  | .set => (numbered 8 e.owner).any fun n => (s.setRec n).run.inFlight
  | .change => (numbered 12 e.owner).any fun p => (s.pointRec p).seq.isSome
  | .fuel => (numbered 2 e.owner).any fun m => (s.meter m).session.isSome
  | .board => false

/-- A loaded feeder names the board. -/
def Tables.boardNamed (t : Tables) (a : Addr) : Bool :=
  allFeeders.any fun f => t.feeders[f].any fun e => e.board = a

/-- A SWITCHED point names the changeover unit. -/
def Tables.changeNamed (t : Tables) (a : Addr) : Bool :=
  allPoints.any fun p => t.points[p].any fun e =>
    match e.source with
    | .switched u _ _ => u = a
    | .fixed _ => false

/-- The unit is needed by the live site (R4). -/
def Tables.unitNeeded (t : Tables) (a : Addr) (kind : UnitKind) : Bool :=
  match kind with
  | .board => t.boardNamed a
  | .set => allSets.any fun n => t.sets[n].any fun e => e.enabled && e.unit = a
  | .change => t.changeNamed a
  | .fuel => false

/-- A loaded entry names the unit in a way that needs its kind (R3). -/
def Tables.kindNeeded (t : Tables) (a : Addr) (kind : UnitKind) : Bool :=
  match kind with
  | .board => t.boardNamed a
  | .set => allSets.any fun n => t.sets[n].any fun e => e.unit = a
  | .change => t.changeNamed a
  | .fuel => false

/-- The kind and owner index of every enabled unit. -/
def Tables.enabledOwners (t : Tables) : List (UnitKind × Nat) :=
  allUnits.filterMap fun a => (t.units[a].filter UnitEntry.enabled).map fun e => (e.kind, e.owner)

/-- Unique owners and the slot budget (R3). -/
def Tables.slotsFit (t : Tables) : Bool :=
  t.enabledOwners.Nodup &&
    (allUnits.filter fun a => t.units[a].any fun e => e.enabled && e.pollClass = .every).length ≤ 13

/-- The load changes the kind of a unit that some entry needs as it was (R3; log entry 22). -/
def State.kindClash (s : State) (a : Addr) (new : Option UnitEntry) : Bool :=
  match s.unitEntry a, new with
  | some old, some e => old.kind ≠ e.kind && s.tables.kindNeeded a old.kind
  | _, _ => false

/-- Checks 4 to 6 of R1 for a unit entry that differs from the stored one. -/
def State.unitRefusal (s : State) (a : Addr) (new : Option UnitEntry) : Option ResultCode :=
  let old := s.unitEntry a
  if s.site.live && (old.map fun e => (e.kind, e.owner)) ≠ (new.map fun e => (e.kind, e.owner)) then some .state
  else if old.any s.unitBusy then some .busy
  else if s.site.live && !new.any UnitEntry.enabled
      && old.any (fun e => e.enabled && s.tables.unitNeeded a e.kind) then some .state
  else if !(s.putUnitEntry a new).tables.slotsFit || s.kindClash a new then some .notValid
  else none

/-- The unit is enabled, or its kind has changed: ABSENT with no misses (R4, R28, R89). -/
def State.unitAbsent (s : State) (a : Addr) : State :=
  let s := s.modLink a fun l => { l with state := some .absent, misses := 0 }
  forEach (s.setsNaming a) (fun n s => s.refreshMark n) s

/-- The unit is disabled or its entry cleared: no link state, its queued commands end UNIT_LOST, and an outstanding one can no longer
be answered (R4, R36). The miss count is left as it is: log entry 37. -/
def State.unitGone (s : State) (a : Addr) : State :=
  let lost := s.engine.queue.filter fun c => c.target = a
  let s := s.modLink a fun l => { l with state := none }
  let s := s.putQueue (s.engine.queue.filter fun c => c.target ≠ a)
  let s := s.putOutstanding (s.engine.outstanding.map fun q =>
    { q with orphan := q.orphan || q.command.target = a })
  forEach lost (fun c s => s.returnOutcome c .unitLost) s

/-- Storing a unit entry, with the effects of R4: enabling, which sets the forward count to 0 (R31), disabling, a kind change, and
clearing, which ends the queued commands of a unit that is not enabled too. -/
def State.storeUnit (s : State) (a : Addr) (new : Option UnitEntry) : State :=
  let old := s.unitEntry a
  let s := s.putUnitEntry a new
  match old.any UnitEntry.enabled, new.any UnitEntry.enabled with
  | false, true => (s.modLink a fun l => { l with forward := 0 }).unitAbsent a
  | true, false => s.unitGone a
  | true, true => if old.map UnitEntry.kind = new.map UnitEntry.kind then s else s.unitAbsent a
  | false, false => if old.isSome && new.isNone then s.unitGone a else s

/-- LOAD UNIT (R1 to R4). -/
def reqLoadUnit (address : Nat) (form : LoadForm UnitFields) (s : State) : State × Reply :=
  match numbered 63 address with
  | none => (s, .refuse .badIndex)
  | some a =>
    let store := fun new : Option UnitEntry =>
      if new = s.unitEntry a then (s, Reply.okWith (.unitEntry new))
      else
        match s.unitRefusal a new with
        | some code => (s, .refuse code)
        | none => (s.storeUnit a new, .okWith (.unitEntry new))
    match form with
    | .clear => store none
    | .entry u =>
      match unitEntryOf u with
      | none => (s, .refuse .badValue)
      | some e => store (some e)

/-! ### The feeder table (R5, R6) -/

/-- The frozen fields of a feeder entry (R5). -/
def FeederEntry.frozen (e : FeederEntry) : Addr × Nat × PointNo × AccountNo :=
  (e.board, e.position, e.point, e.account)

/-- The cross-reference checks of a feeder entry: board kind, and position unique (R5). -/
def State.feederFits (s : State) (f : FeederNo) (new : Option FeederEntry) : Bool :=
  new.all fun e =>
    (s.unitEntry e.board).all (fun u => u.kind = .board)
      && allFeeders.all fun g => g = f || (s.feederEntry g).all fun x => x.board ≠ e.board || x.position ≠ e.position

/-- Checks 4 to 6 of R1 for a feeder entry that differs from the stored one. -/
def State.feederRefusal (s : State) (f : FeederNo) (new : Option FeederEntry) : Option ResultCode :=
  if s.site.live && (s.feederEntry f).map FeederEntry.frozen ≠ new.map FeederEntry.frozen then some .state
  else if !s.feederFits f new then some .notValid
  else none

/-- Storing a feeder entry: the sample state goes to NONE, but for a window edit in LIVE (R6). -/
def State.storeFeeder (s : State) (f : FeederNo) (new : Option FeederEntry) : State :=
  let s := s.putFeederEntry f new
  if s.site.live then s else s.putFeeder f .none

/-- LOAD FEEDER (R1, R2, R5, R6). -/
def reqLoadFeeder (feeder : Nat) (form : LoadForm FeederFields) (s : State) : State × Reply :=
  match numbered 32 feeder with
  | none => (s, .refuse .badIndex)
  | some f =>
    let store := fun new : Option FeederEntry =>
      if new = s.feederEntry f then (s, Reply.okWith (.feederEntry new))
      else
        match s.feederRefusal f new with
        | some code => (s, .refuse code)
        | none => (s.storeFeeder f new, .okWith (.feederEntry new))
    match form with
    | .clear => store none
    | .entry u =>
      match feederEntryOf u with
      | none => (s, .refuse .badValue)
      | some e => store (some e)

/-! ### The set table (R7, R8) -/

/-- The frozen fields of a set entry (R7). -/
def SetEntry.frozen (e : SetEntry) : Addr × Nat × Nat := (e.unit, e.rating, e.capacity)

/-- The fields that the in-use test compares (R1). -/
def SetEntry.inUse (e : SetEntry) : Addr × Bool × Nat × Nat := (e.unit, e.enabled, e.rating, e.capacity)

/-- The cross-reference checks of a set entry: unit kind, and unit unique (R7). -/
def State.setFits (s : State) (n : SetNo) (new : Option SetEntry) : Bool :=
  new.all fun e =>
    (s.unitEntry e.unit).all (fun u => u.kind = .set)
      && allSets.all fun k => k = n || (s.setEntry k).all fun x => x.unit ≠ e.unit

/-- The load disables the set, or clears its entry (R1, R8). -/
def disablesSet (old new : Option SetEntry) : Bool :=
  (old.isSome && new.isNone) || (old.any SetEntry.enabled && !new.any SetEntry.enabled)

/-- Checks 4 to 6 of R1 for a set entry that differs from the stored one. -/
def State.setRefusal (s : State) (n : SetNo) (new : Option SetEntry) : Option ResultCode :=
  let old := s.setEntry n
  if s.site.live && old.map SetEntry.frozen ≠ new.map SetEntry.frozen then some .state
  else if (s.setRec n).run.inFlight && old.map SetEntry.inUse ≠ new.map SetEntry.inUse then some .busy
  else if disablesSet old new && s.inService n then some .inService
  else if !s.setFits n new then some .notValid
  else none

/-- A set whose entry names another unit than before: its energy baseline goes, and its unreachable mark follows the new unit
(R69, R89). Clearing the entry, and loading a disabled one where none was loaded, leave the mark as it stands, for R89 names neither:
DESIGN CHOICE, log entry 57. -/
def State.moveUnit (s : State) (n : SetNo) (old new : Option SetEntry) : State :=
  match old, new with
  | some x, some e =>
    if x.unit = e.unit then s
    else (s.modSet n fun r => { r with baseline := none }).refreshMark n
  | _, _ => s

/-- Storing a set entry, with the effects of R8: the capacity in force, the unit, enabling and disabling. -/
def State.storeSet (s : State) (n : SetNo) (new : Option SetEntry) : State :=
  let old := s.setEntry n
  let s := s.putSetEntry n new
  let s := new.elim s fun e => s.storeCapacity n e.capacity
  let s := s.moveUnit n old new
  match old.any SetEntry.enabled, new.any SetEntry.enabled with
  | false, true => s.enterUnseen n .enabled
  | true, false => s.enterOffline n .disabled
  | _, _ => s

/-- LOAD SET (R1, R2, R7, R8). -/
def reqLoadSet (set : Nat) (form : LoadForm SetFields) (s : State) : State × Reply :=
  match numbered 8 set with
  | none => (s, .refuse .badIndex)
  | some n =>
    let store := fun new : Option SetEntry =>
      if new = s.setEntry n then (s, Reply.okWith (.setEntry new))
      else
        match s.setRefusal n new with
        | some code => (s, .refuse code)
        | none => (s.storeSet n new, .okWith (.setEntry new))
    match form with
    | .clear => store none
    | .entry u =>
      match setEntryOf u with
      | none => (s, .refuse .badValue)
      | some e => store (some e)

/-! ### The supply point table (R9, R10) -/

/-- The changeover unit of a SWITCHED entry. -/
def PointEntry.changeUnit (e : PointEntry) : Option Addr :=
  match e.source with
  | .switched u _ _ => some u
  | .fixed _ => none

/-- The cross-reference checks of a point entry: unit kind, unit unique, and the switched count (R9). -/
def State.pointFits (s : State) (p : PointNo) (new : Option PointEntry) : Bool :=
  match new.bind PointEntry.changeUnit with
  | none => true
  | some u =>
    (s.unitEntry u).all (fun x => x.kind = .change)
      && allPoints.all (fun k => k = p || (s.pointEntry k).bind PointEntry.changeUnit ≠ some u)
      && (s.putPointEntry p new).tables.switchedCount ≤ 8

/-- The load makes the point SWITCHED while the queued office entries hold the places it would need (R1, R32). -/
def State.officeHolds (s : State) (p : PointNo) (new : Option PointEntry) : Bool :=
  !(s.pointEntry p).any PointEntry.isSwitched && new.any PointEntry.isSwitched
    && 24 - (10 + (s.putPointEntry p new).tables.switchedCount) ≤ s.engine.officeQueued

/-- Checks 4 to 6 of R1 for a point entry that differs from the stored one. -/
def State.pointRefusal (s : State) (p : PointNo) (new : Option PointEntry) : Option ResultCode :=
  if s.site.live && (s.pointEntry p).map PointEntry.source ≠ new.map PointEntry.source then some .state
  else if (s.pointRec p).seq.isSome then some .busy
  else if s.officeHolds p new then some .busy
  else if !s.pointFits p new then some .notValid
  else none

/-- Storing a point entry: a change of kind, source, unit or sources sets the position afresh, and a point that ceases to be
SWITCHED loses its schedule entries (R10, R123). -/
def State.storePoint (s : State) (p : PointNo) (new : Option PointEntry) : State :=
  let old := s.pointEntry p
  let s := s.putPointEntry p new
  let s := if old.map PointEntry.source = new.map PointEntry.source then s
    else s.modPoint p fun r => { r with position := .unknown, selector := none }
  if old.any PointEntry.isSwitched && !new.any PointEntry.isSwitched then s.dropSchedule p else s

/-- LOAD POINT (R1, R2, R9, R10, R32). -/
def reqLoadPoint (point : Nat) (form : LoadForm PointFields) (s : State) : State × Reply :=
  match numbered 12 point with
  | none => (s, .refuse .badIndex)
  | some p =>
    let store := fun new : Option PointEntry =>
      if new = s.pointEntry p then (s, Reply.okWith (.pointEntry new))
      else
        match s.pointRefusal p new with
        | some code => (s, .refuse code)
        | none => (s.storePoint p new, .okWith (.pointEntry new))
    match form with
    | .clear => store none
    | .entry u =>
      match pointEntryOf u with
      | none => (s, .refuse .badValue)
      | some e => store (some e)

/-! ### The account table (R11) -/

/-- The frozen fields of an account entry (R11). -/
def AccountEntry.frozen (e : AccountEntry) : Bool × ClassNo := (e.active, e.tariffClass)

/-- LOAD ACCOUNT (R1, R2, R11). -/
def reqLoadAccount (account : Nat) (form : LoadForm AccountFields) (s : State) : State × Reply :=
  match numbered 48 account with
  | none => (s, .refuse .badIndex)
  | some k =>
    let store := fun new : Option AccountEntry =>
      if s.site.live && (s.accountEntry k).map AccountEntry.frozen ≠ new.map AccountEntry.frozen then
        (s, Reply.refuse .state)
      else (s.putAccountEntry k new, .okWith (.accountEntry new))
    match form with
    | .clear => store none
    | .entry u =>
      match accountEntryOf u with
      | none => (s, .refuse .badValue)
      | some e => store (some e)

/-! ### Site values and the cycle period (R12, R13) -/

/-- Some band of the active or the pending table does not fit an interval length in minutes (R12). -/
def Tariff.clashes (t : Tariff) (minutes : Nat) : Bool :=
  !(t.active.all fun x => x.fits (minutes * 60)) || !(t.pending.table.all fun x => x.fits (minutes * 60))

/-- LOAD SITE (R12). -/
def reqLoadSite (u : SiteFields) (s : State) : State × Reply :=
  match siteValuesOf u with
  | none => (s, .refuse .badValue)
  | some v =>
    if v.intervalMin ≠ s.site.values.intervalMin && s.site.live then (s, .refuse .state)
    else if v.intervalMin ≠ s.site.values.intervalMin && s.tariff.clashes v.intervalMin then
      (s, .refuse .notValid)
    else ({ s with site := { s.site with values := v } }, .okWith (.site v))

/-- A cycle period as SET CYCLE stores it: clamped to 50 to 500 ms, then rounded down to a multiple of 10 ms (R13). -/
def storedPeriod (ms : Nat) : Nat := clampTo 50 500 ms / 10 * 10

/-- SET CYCLE (R13). -/
def reqSetCycle (period : Nat) (s : State) : State × Reply :=
  if s.site.live then (s, .refuse .state)
  else
    ({ s with site := { s.site with period := storedPeriod period } }, .okWith (.period (storedPeriod period)))

/-! ### Site states (R14 to R16) -/

/-- The unit passes check 5 of GO LIVE (R15). -/
def State.unitNamedBack (s : State) (a : Addr) (e : UnitEntry) : Bool :=
  match e.kind with
  | .set => (numbered 8 e.owner).any fun n => (s.setEntry n).any fun x => x.unit = a
  | .change => (numbered 12 e.owner).any fun p => (s.pointEntry p).any fun x => x.changeUnit = some a
  | .board => s.tables.boardNamed a
  | .fuel => true

/-- The unit at an address is enabled, of a kind. -/
def State.enabledKind (s : State) (a : Addr) (kind : UnitKind) : Bool :=
  (s.unitEntry a).any fun e => e.enabled && e.kind = kind

/-- The unit at an address is enabled, of a kind and an owner. -/
def State.ownedUnit (s : State) (a : Addr) (kind : UnitKind) (owner : Nat) : Bool :=
  (s.unitEntry a).any fun e => e.enabled && e.kind = kind && e.owner = owner

/-- The set is an enabled set entry. -/
def State.setEnabled (s : State) (n : SetNo) : Bool := (s.setEntry n).any SetEntry.enabled

/-- Every source set of the point is an enabled set entry (R15). -/
def State.sourcesEnabled (s : State) (e : PointEntry) : Bool :=
  match e.source with
  | .fixed n => s.setEnabled n
  | .switched _ a b => s.setEnabled a && s.setEnabled b

/-- The first failing check of GO LIVE, with the item it names (R15). -/
def State.goLiveItem (s : State) : Option GoLiveItem :=
  if s.billing.clock.isNone then some .clock
  else if !s.engine.running then some .cycles
  else
    match s.tariff.active with
    | none => some .tariff
    | some table =>
      if !s.tables.slotsFit then some .slots
      else
        let feeder := fun (bad : FeederEntry → Bool) (item : FeederNo → GoLiveItem) =>
          (allFeeders.find? fun f => (s.feederEntry f).any bad).map item
        let point := fun (bad : PointNo → PointEntry → Bool) (item : PointNo → GoLiveItem) =>
          (allPoints.find? fun p => (s.pointEntry p).any (bad p)).map item
        [ (allUnits.find? fun a => (s.unitEntry a).any fun e => e.enabled && !s.unitNamedBack a e).map .unit,
          feeder (fun e => !s.enabledKind e.board .board) .feederBoard,
          feeder (fun e => (s.pointEntry e.point).isNone) .feederPoint,
          feeder (fun e => !(s.accountEntry e.account).any AccountEntry.active) .feederAccount,
          (allSets.find? fun n =>
            (s.setEntry n).any fun e => e.enabled && !s.ownedUnit e.unit .set (n.val + 1)).map .setUnit,
          point (fun _ e => !s.sourcesEnabled e) .pointSource,
          point (fun p e => e.changeUnit.any fun u => !s.ownedUnit u .change (p.val + 1)) .pointUnit,
          (s.classAbsent table).map .accountClass ].findSome? id

/-- The site goes LIVE: every active account opens a SHORT interval with an empty accumulator, and every feeder is NONE (R15,
R163). -/
def State.goLive (s : State) : State :=
  let s := { s with site := { s.site with live := true } }
  let s := forEach s.activeAccounts (fun k s => s.modAccount k fun r => { r with accumulator := 0 }) s
  (s.openIntervals (s.billing.nowSeconds.getD 0) false).clearFeeders

/-- GO LIVE (R15). -/
def reqGoLive (s : State) : State × Reply :=
  if s.site.live then (s, .refuse .state)
  else
    match s.goLiveItem with
    | some item => (s, ⟨.notValid, .item item⟩)
    | none => (s.goLive, .ok)

/-- The close of STAND DOWN; LIVE with no open interval or no clock only becomes COMMISSION (R16; log entry 25). -/
def State.standDown (s : State) : State :=
  match s.billing.interval, s.billing.clock with
  | some i, some now => s.closeIntervals i .standDown now
  | _, _ => { s with site := { s.site with live := false } }

/-- STAND DOWN (R16). -/
def reqStandDown (s : State) : State × Reply :=
  if !s.site.live then (s, .refuse .state)
  else if s.billing.freeRecords < s.activeAccounts.length then (s, .refuse .queueFull)
  else (s.standDown, .ok)

/-! ### The command gate table (R189) -/

/-- The permission of a plain code; an owned code has none. -/
def GateTable.get (g : GateTable) : Code → Option Permission
  | .alarmReset => some g.alarmReset
  | .lampTest => some g.lampTest
  | .indicate => some g.indicate
  | .resetMax => some g.resetMax
  | .identify => some g.identify
  | .message => some g.message
  | .start => none
  | .stop => none
  | .openSwitch => none
  | .closeA => none
  | .closeB => none
  | .permit => none
  | .deny => none
  | .revoke => none

/-- The entry of a plain code takes a permission. -/
def GateTable.put (g : GateTable) (code : Code) (v : Permission) : GateTable :=
  match code with
  | .alarmReset => { g with alarmReset := v }
  | .lampTest => { g with lampTest := v }
  | .indicate => { g with indicate := v }
  | .resetMax => { g with resetMax := v }
  | .identify => { g with identify := v }
  | .message => { g with message := v }
  | .start => g
  | .stop => g
  | .openSwitch => g
  | .closeA => g
  | .closeB => g
  | .permit => g
  | .deny => g
  | .revoke => g

/-- LOAD GATE (R189). -/
def reqLoadGate (kind : Option UnitKind) (code : Option Code) (permission : Option Permission) (s : State) :
    State × Reply :=
  match kind, code, permission with
  | some kind, some code, some v =>
    if codeOwned code || codeKind code ≠ kind then (s, .refuse .badValue)
    else ({ s with port := { s.port with gate := s.port.gate.put code v } }, .ok)
  | _, _, _ => (s, .refuse .badValue)

end Sys2Proof.Machine
end

