-- ==== Sys2Proof/Machine/Gate.lean ====
section
/-! DEFINITION. The command gate: pass-through commands from the office to a field unit (R188, R189). -/

namespace Sys2Proof.Machine

/-- The run states of an idle set (R189). -/
def RunState.idle : RunState → Bool
  | .stopped | .online | .offline => true
  | .unseen | .starting _ _ _ _ | .warming _ | .cooling _ | .stopping | .fault _ => false

/-- The owner of the target unit is idle (R189). -/
def State.ownerIdle (s : State) (e : UnitEntry) : Bool :=
  match e.kind with
  | .set => (numbered 8 e.owner).all fun n => (s.setRec n).run.idle
  | .change => (numbered 12 e.owner).all fun p => (s.pointRec p).seq.isNone
  | .fuel => (numbered 2 e.owner).all fun m => (s.meter m).session.isNone
  | .board => true

/-- Check 5 of R188: the gate table permits the code for the unit now (R189). -/
def State.permitted (s : State) (e : UnitEntry) (code : Code) : Bool :=
  match s.port.gate.get code with
  | some .pass => true
  | some .passIfIdle => s.ownerIdle e
  | some .refuse => false
  | none => false

/-- The first five checks of the gate, in order (R188). -/
def State.gateRefusal (s : State) (a : Addr) (code : Option Code) : Option ResultCode :=
  match (s.unitEntry a).filter UnitEntry.enabled, code with
  | none, _ => some .badIndex
  | some _, none => some .badValue
  | some e, some code =>
    if codeOwned code then some .ownedCommand
    else if codeKind code ≠ e.kind then some .badValue
    else if s.permitted e code then none
    else some .interlock

/-- A pass-through command at the gate: its checks in order, and its entry into the command queue with origin OFFICE and the
frame's tag (R188). -/
def reqPassThrough (a : Addr) (tag : Byte) (code : Option Code) (args : List Byte) (s : State) : State × Reply :=
  if 8 < args.length then (s, .refuse .badRequest)
  else
    match s.gateRefusal a code, code with
    | some refusal, _ => (s, .refuse refusal)
    | none, none => (s, .refuse .badValue)
    | none, some code =>
      match s.enqueue ⟨a, code, args, .office tag⟩ with
      | none => (s, .refuse .queueFull)
      | some s => (s, ⟨.queued, .none⟩)

end Sys2Proof.Machine
end

