-- ==== Sys2Proof/Machine/Resets.lean ====
section
/-! DEFINITION. The two resets (R17), block by block (R41, R58, R72, R98, R122, R146, R160, R178, R195). -/

namespace Sys2Proof.Machine

/-- Power-on reset: every table, value and block at its power-on value; the commands waiting stay the sender's, TEN is a level
outside, and the count of free values goes on (R17; log entries 11, 12, 20). -/
def State.powerOn (s : State) (ten : Bool) : State :=
  { State.reset with ten, freeCount := s.freeCount, pending := s.pending }

/-- The Field Cycle Engine after a line reset (R41). -/
def State.resetEngine (s : State) : State :=
  { s with engine := { s.engine with
      running := false
      pollPointer := 0
      queue := []
      outstanding := none
      acks := Vector.replicate 2 none
      lastAcked := none
      slots := []
      slotsEnded := 0
      header := none
      fde := false } }

/-- One link record after a line reset: ABSENT with no misses for an enabled unit, the forward count 0 (R31, R41). -/
def LinkRec.lineReset (l : LinkRec) (enabled : Bool) : LinkRec :=
  if enabled then { l with state := some .absent, misses := 0, forward := 0 } else { l with forward := 0 }

/-- The links after a line reset (R41). -/
def State.resetLinks (s : State) : State :=
  forEach allUnits (fun a s => s.modLink a fun l => l.lineReset (s.enabledUnit a)) s

/-- A set record after a line reset: UNSEEN for an enabled entry, OFFLINE otherwise; hire counters and LOCAL_START kept
(R72, R77, R98). -/
def SetRec.lineReset (r : SetRec) (enabled : Bool) : SetRec :=
  { SetRec.reset with
    run := if enabled then .unseen else .offline
    hire := r.hire
    localStart := r.localStart }

/-- The set records after a line reset (R98). -/
def State.resetSets (s : State) : State :=
  forEach allSets (fun n s => s.modSet n fun r => r.lineReset (s.setEnabled n)) s

/-- The live total of a session in DISPENSING or TICKETING is added to the delivered totals (R122). -/
def State.settleSession (s : State) (m : MeterNo) : State :=
  match (s.meter m).session with
  | some x => if x.phase = .granting then s else s.addDelivered x.set x.live
  | none => s

/-- The Fuel Controller after a line reset: sessions IDLE, discrepancy counts 0, the rest of the tank accounts and the ticket
store kept (R99, R122). -/
def State.resetFuel (s : State) : State :=
  let s := forEach allMeters (fun m s => s.settleSession m) s
  let s := forEach allSets (fun n s => s.modTank n fun t => { t with discCount := 0 }) s
  { s with meters := Vector.replicate 2 .reset }

/-- The Changeover Sequencer after a line reset: positions UNKNOWN, sequencers IDLE, AUTO_BLOCKED and the schedule kept
(R146). -/
def State.resetPoints (s : State) : State :=
  forEach allPoints (fun p s =>
    s.modPoint p fun r => { PointRec.reset with autoBlocked := r.autoBlocked }) s

/-- The Office Port after a line reset (R195); a frame in reception or transmission is lost (R180, R184). -/
def Port.lineReset (p : Port) : Port :=
  { p with
    rx := .hunting
    rxQueue := []
    response := none
    notices := []
    nextNotice := 0
    overflow := false
    copies := []
    tx := none }

/-- Line reset: the tables, site values, period and site state are kept, and every block re-initialises what it derives from
them; every open interval is marked GAP. TEN is high at the fall of RESETn (R17, R178; log entry 12). -/
def State.lineReset (s : State) : State :=
  let s := { s with ten := true, due := [] }
  let s := s.resetEngine.resetLinks.clearFeeders.resetFuel.resetSets.resetPoints.markGap
  { s with port := s.port.lineReset }

end Sys2Proof.Machine
end

