-- ==== Sys2Proof/Machine/Reads.lean ====
section
/-! DEFINITION. The office's requests that read state or clear flags and counts (R73, R74, R96, R97, R124, R185 to R187),
and the requests that start, stop and clear a set (R80, R84, R88). -/

namespace Sys2Proof.Machine

/-! ### READ STATUS (R186) -/

/-- The figures of READ STATUS (R186). -/
def State.status (s : State) : StatusView where
  live := s.site.live
  clock := s.billing.clock
  ten := s.ten
  running := s.engine.running
  cycleNo := s.engine.cycleNo
  period := s.site.period
  queued := s.engine.queue.length
  officeQueued := s.engine.officeQueued
  outstanding := s.engine.outstanding.map fun q => (q.command.target, q.command.origin)
  limitFlags := s.limitFlags
  autoBlocked := s.points.map PointRec.autoBlocked
  unattributed := s.unattributed
  tariffActive := s.tariff.active.isSome
  pending := s.tariff.pending
  trial := s.tariff.trial
  lockout := s.tariff.lockout
  recordsHeld := s.billing.records.length
  nextRecord := s.billing.nextRecord
  noticesQueued := s.port.notices.length
  overflow := s.port.overflow
  frameErrors := s.port.frameErrors
  rxOverflows := s.port.rxOverflows
  nextNotice := s.port.nextNotice

/-- READ STATUS: the figures, and then the overflow mark becomes clear (R186). -/
def reqReadStatus (s : State) : State × Reply :=
  ({ s with port := { s.port with overflow := false } }, .okWith (.status s.status))

/-! ### Reads of one entry or record -/

/-- An entry of a table, for an index within it (R2, R185). -/
def readEntry {n : Nat} (index : Nat) (data : Fin n → ReplyData) : Reply :=
  match numbered n index with
  | none => .refuse .badIndex
  | some i => .okWith (data i)

/-- READ TABLE; SITE and GATE take index 0 (R185). -/
def reqReadTable (table : Option TableName) (index : Nat) (s : State) : State × Reply :=
  let reply := match table with
    | none => Reply.refuse .badValue
    | some .unit => readEntry index fun a => .unitEntry (s.unitEntry a)
    | some .feeder => readEntry index fun f => .feederEntry (s.feederEntry f)
    | some .set => readEntry index fun n => .setEntry (s.setEntry n)
    | some .point => readEntry index fun p => .pointEntry (s.pointEntry p)
    | some .account => readEntry index fun k => .accountEntry (s.accountEntry k)
    | some .site => if index = 0 then .okWith (.site s.site.values) else .refuse .badIndex
    | some .gate => if index = 0 then .okWith (.gate s.port.gate) else .refuse .badIndex
  (s, reply)

/-- The session record READ UNIT shows, for an enabled FUEL unit (R108, R185). -/
def State.meterOf (s : State) (a : Addr) : Option MeterRec :=
  match s.unitEntry a with
  | some e => if e.enabled && e.kind = .fuel then (numbered 2 e.owner).map s.meter else none
  | none => none

/-- READ UNIT (R29, R31, R108, R185, R194). -/
def reqReadUnit (address : Nat) (s : State) : State × Reply :=
  (s, readEntry address fun a : Addr =>
    .unit { link := s.link a, drops := s.port.copyDrops[a], meter := s.meterOf a })

/-- The set record as READ SET shows it: every field as kept, the run state OFFLINE for an unloaded entry (R73, R74). -/
def State.setView (s : State) (n : SetNo) : SetRec :=
  if (s.setEntry n).isSome then s.setRec n
  else { s.setRec n with run := .offline }

/-- READ SET (R73, R74, R99). -/
def reqReadSet (set : Nat) (s : State) : State × Reply :=
  (s, readEntry set fun n : SetNo => .set { record := s.setView n, tank := s.tank n })

/-- The position READ POINT shows (R123). -/
def State.shownPosition (s : State) (p : PointNo) : PointPos :=
  match s.pointEntry p with
  | none => .notLoaded
  | some e =>
    match e.source with
    | .fixed n => .fixed n
    | .switched _ _ _ => .switched (s.pointRec p).position

/-- READ POINT (R124). -/
def reqReadPoint (point : Nat) (s : State) : State × Reply :=
  (s, readEntry point fun p : PointNo => .point { position := s.shownPosition p, record := s.pointRec p })

/-! ### Clearing flags and counts (R31, R97, R180, R181, R187, R194) -/

/-- CLEAR FLAGS, selection SET_FLAG (R97). -/
def reqClearSetFlag (mask : Nat) (s : State) : State × Reply :=
  (forEach allSets (fun n s =>
    if marked mask n then s.modSet n fun r => { r with localStart := false } else s) s, .ok)

/-- The garbled-slot, missed-poll and copy drop counts of a unit become 0 (R187). -/
def State.clearCounts (s : State) (a : Addr) : State :=
  let s := s.modLink a fun l => { l with garbled := 0, missed := 0 }
  { s with port := { s.port with copyDrops := s.port.copyDrops.set a 0 } }

/-- CLEAR FLAGS, selection UNIT_COUNTS; address 0 names the Office Port's own counts (R187). -/
def reqClearUnitCounts (address : Nat) (s : State) : State × Reply :=
  if address = 0 then
    ({ s with port := { s.port with frameErrors := 0, rxOverflows := 0 } }, .ok)
  else
    match numbered 63 address with
    | none => (s, .refuse .badIndex)
    | some a => (s.clearCounts a, .ok)

/-- CLEAR HIRE for one set, or for all of them with the unattributed energy, set 0 standing for ALL (R64, R96, R196). -/
def reqClearHire (set : Nat) (s : State) : State × Reply :=
  if set = 0 then
    ({ forEach allSets (fun n s => s.modHire n fun _ => .zero) s with unattributed := 0 }, .ok)
  else
    match numbered 8 set with
    | none => (s, .refuse .badIndex)
    | some n => (s.modHire n fun _ => .zero, .ok)

/-! ### The office's requests to a set (R80, R84, R88) -/

/-- STOP is queued, sent or due. -/
def SetRec.stopInHand (r : SetRec) : Bool :=
  r.due = some .stop || r.place = .queued .stop || r.place = .sent .stop

/-- SET START, by the state of the set (R80). -/
def reqSetStart (set : Nat) (s : State) : State × Reply :=
  match numbered 8 set with
  | none => (s, .refuse .badIndex)
  | some n =>
    match (s.setRec n).run with
    | .offline => (s, .refuse .state)
    | .unseen => (s, .refuse .state)
    | .fault _ => (s, .refuse .state)
    | .stopped =>
      if (s.setRec n).unreachable then (s, .refuse .unreachable) else (s.enterStarting n .office, .ok)
    | .starting _ _ _ _ => (s.modSet n SetRec.clearStopPending, .ok)
    | .warming _ => (s, .ok)
    | .online => (s, .ok)
    | .cooling _ => (s.changeRun n .online .office, .ok)
    | .stopping =>
      if (s.setRec n).stopInHand then (s, .refuse .busy) else (s.changeRun n .online .office, .ok)

/-- The engine of a set in FAULT may still be turning: its latest report is RUNNING or CRANKING (R84). -/
def SetRec.turning (r : SetRec) : Bool :=
  r.latest.any fun x => x.engine = .running || x.engine = .cranking

/-- SET STOP is tested for service and reachability in these states (R84). -/
def SetRec.stopTested (r : SetRec) : Bool :=
  match r.run with
  | .online => true
  | .warming _ => true
  | .starting _ _ _ _ => true
  | .fault _ => r.turning
  | .offline => false
  | .unseen => false
  | .stopped => false
  | .cooling _ => false
  | .stopping => false

/-- The stop-pending mark of a STARTING set is set (R82, R84). -/
def SetRec.setStopPending (r : SetRec) : SetRec :=
  match r.run with
  | .starting a m c _ => { r with run := .starting a m c true }
  | _ => r

/-- SET STOP where its checks pass, by the state of the set (R84). -/
def State.stopSet (s : State) (n : SetNo) : State :=
  match (s.setRec n).run with
  | .online => s.enterCooling n (((s.setEntry n).map SetEntry.coolDown).getD 0)
  | .warming _ => s.enterStopping n .office
  | .starting _ _ _ _ => s.modSet n SetRec.setStopPending
  | .fault _ => if (s.setRec n).turning then s.enterStopping n .office else s
  | .offline => s
  | .unseen => s
  | .stopped => s
  | .cooling _ => s
  | .stopping => s

/-- SET STOP, checked in the order of R84. -/
def reqSetStop (set : Nat) (s : State) : State × Reply :=
  match numbered 8 set with
  | none => (s, .refuse .badIndex)
  | some n =>
    let r := s.setRec n
    if r.run = .offline || r.run = .unseen then (s, .refuse .state)
    else if r.stopTested && s.inService n then (s, .refuse .inService)
    else if r.stopTested && r.unreachable then (s, .refuse .unreachable)
    else (s.stopSet n, .ok)

/-- A set leaves FAULT: WARMING with warm-up short where its engine runs, STOPPED otherwise (R83, R88). -/
def State.leaveFault (s : State) (n : SetNo) (engine : EngineState) : State :=
  if engine = .running then
    s.enterWarming n (((s.setEntry n).map SetEntry.warmUpShort).getD 0) .cleared
  else s.changeRun n .stopped .cleared

/-- SET CLEAR FAULT (R88). A set in FAULT has a latest report; the fallback is unreachable (log entry 25). -/
def reqSetClearFault (set : Nat) (s : State) : State × Reply :=
  match numbered 8 set with
  | none => (s, .refuse .badIndex)
  | some n =>
    let r := s.setRec n
    if r.run.name ≠ .fault then (s, .refuse .state)
    else if r.unreachable then (s, .refuse .unreachable)
    else
      match r.latest.map SetReport.engine with
      | some .faulted => (s, .refuse .state)
      | some engine => (s.leaveFault n engine, .ok)
      | none => (s.leaveFault n .stopped, .ok)

end Sys2Proof.Machine
end

