-- ==== Sys2Proof/Machine/Port.lean ====
section
/-! DEFINITION. The Office Port (file 10): the payloads of the management requests (R185, R196), handling a frame (R182, R183),
the transmitter (R184), and the receiver (R180, R181). -/

namespace Sys2Proof.Machine

/-! ### Payloads of the management requests (10.8, R196; log entry 28) -/

/-- A request taken on a state, with its answer. -/
abbrev Request := State → State × Reply

/-- A request that carries nothing. -/
def noFields (r : Request) (payload : List Byte) : Option Request :=
  if payload.isEmpty then some r else none

/-- A request that carries one byte. -/
def oneByte (r : Nat → Request) (payload : List Byte) : Option Request :=
  match payload with
  | [b] => some (r b.toNat)
  | _ => none

/-- A load request: its index, and then nothing for the CLEAR form or the fields of the entry (R196). -/
def loadForm {α : Type} (r : Nat → LoadForm α → Request) (fields : List Byte → Option α) (payload : List Byte) :
    Option Request :=
  match payload with
  | [] => none
  | index :: rest =>
    if rest.isEmpty then some (r index.toNat .clear)
    else (fields rest).map fun u => r index.toNat (.entry u)

/-- The fields of LOAD UNIT. -/
def unitFields (payload : List Byte) : Option UnitFields := do
  match ← fieldsOf [1, 1, 1, 1, 1] payload with
  | [kind, enabled, pollClass, divisor, owner] =>
    some ⟨unitKindOf kind, yesNo enabled, pollClassOf pollClass, divisor, owner⟩
  | _ => none

/-- The fields of LOAD FEEDER. -/
def feederFields (payload : List Byte) : Option FeederFields := do
  match ← fieldsOf [1, 1, 1, 1, 1, 2, 2] payload with
  | [board, position, point, account, mode, low, high] =>
    some ⟨board, position, point, account, windowModeOf mode, low, high⟩
  | _ => none

/-- The fields of LOAD SET. -/
def setFields (payload : List Byte) : Option SetFields := do
  match ← fieldsOf [1, 1, 2, 2, 2, 2, 2, 2, 2, 2, 1, 2, 2, 2, 2, 1, 1, 2] payload with
  | [unit, enabled, rating, capacity, noLoad, incremental, low, reserve, lowLoad, overload, hold, long, short, hot,
      cool, attempts, window, tolerance] =>
    some
      { unit, enabled := yesNo enabled, rating, capacity, noLoadRate := noLoad, incrementalRate := incremental
        lowLevel := low, reserveLevel := reserve, lowLoadLimit := lowLoad, overloadLimit := overload
        overloadHold := hold, warmUpLong := long, warmUpShort := short, hotWindow := hot, coolDown := cool
        crankAttempts := attempts, crankWindow := window, sensorTolerance := tolerance }
  | _ => none

/-- A timing that its presence bit says is there. -/
def timing (present : Bool) (values : List Nat) : Option Nat × List Nat :=
  if present then (values.head?, values.tail) else (none, values)

/-- The widths of the fields that every point carries after those of its kind: the timings present, the dead threshold and the
three flags (R9). Bits of the mark byte above the three timings are ignored (log entry 50). -/
def commonWidths (marks : Nat) : List Nat :=
  (if marks.testBit 0 then [1] else []) ++ (if marks.testBit 1 then [1] else [])
    ++ (if marks.testBit 2 then [2] else []) ++ [2, 1, 1, 1]

/-- The widths of the fields of a point after its kind: those of the kind, and those that every point carries. -/
def pointWidths (kind : Nat) (marks : Nat) : List Nat :=
  List.replicate (if kind = 0 then 1 else 3) 1 ++ commonWidths marks

/-- How a point is fed, and the values after those of its kind. -/
def pointSourceFields (kind : Nat) (values : List Nat) : Option (SourceFields × List Nat) :=
  match kind, values with
  | 0, n :: rest => some (.fixed n, rest)
  | 1, u :: a :: b :: rest => some (.switched u a b, rest)
  | _, _ => none

/-- The fields of LOAD POINT: a mark byte for the three timings, the kind, the fields of the kind, the timings present, the dead
threshold and the flags. A kind byte that names no kind has no layout for the fields of its kind: with room for the fields that
every point carries it passes check 1 of R1, and the rest is left unread (log entry 29). -/
def pointFields (payload : List Byte) : Option PointFields :=
  match payload with
  | marks :: kind :: rest =>
    if 2 ≤ kind.toNat then
      if rest.length < (commonWidths marks.toNat).sum then none
      else some ⟨.unnamed, none, none, none, 0, none, none, none⟩
    else do
      let values ← fieldsOf (pointWidths kind.toNat marks.toNat) rest
      let (source, values) ← pointSourceFields kind.toNat values
      let (dead, values) := timing (marks.toNat.testBit 0) values
      let (confirm, values) := timing (marks.toNat.testBit 1) values
      let (prepare, values) := timing (marks.toNat.testBit 2) values
      match values with
      | [threshold, f, l, u] => some ⟨source, dead, confirm, prepare, threshold, yesNo f, yesNo l, yesNo u⟩
      | _ => none
  | _ => none

/-- The fields of LOAD ACCOUNT. -/
def accountFields (payload : List Byte) : Option AccountFields := do
  match ← fieldsOf [1, 1, 2] payload with
  | [active, cls, customer] => some ⟨yesNo active, cls, customer⟩
  | _ => none

/-- LOAD SITE. -/
def siteRequest (payload : List Byte) : Option Request := do
  match ← fieldsOf [1, 1, 1, 2, 1, 2] payload with
  | [hold, loss, interval, delivery, wait, late] =>
    some (reqLoadSite ⟨hold, loss, intervalMinOf interval, delivery, wait, late⟩)
  | _ => none

/-- A request that carries fields of fixed widths. -/
def fixedForm (widths : List Nat) (r : List Nat → Option Request) (payload : List Byte) : Option Request :=
  (fieldsOf widths payload).bind r

/-- The bands of LOAD TARIFF CLASS, 6 bytes each: a start second of day and a rate. -/
def bandFields : Nat → List Byte → Option (List Band)
  | 0, [] => some []
  | 0, _ :: _ => none
  | n + 1, bytes =>
    if bytes.length < 6 then none
    else (bandFields n (bytes.drop 6)).map
      (⟨beNat (bytes.take 3), beNat ((bytes.take 6).drop 3)⟩ :: ·)

/-- LOAD TARIFF CLASS: identifier, mode, class, and the bands after their count. -/
def tariffRequest (payload : List Byte) : Option Request := do
  match ← fieldsOf [2, 1, 1, 1] (payload.take 5) with
  | [identifier, mode, cls, count] =>
    let bands ← bandFields count (payload.drop 5)
    some (reqLoadTariffClass identifier (roundingOf mode) cls bands)
  | _ => none

/-- The tank flags a mark byte names; its bits above the three are ignored (R196; log entry 50). -/
def tankFlagNames (marks : Nat) : TankFlagNames := ⟨marks.testBit 0, marks.testBit 1, marks.testBit 2⟩

/-- CLEAR FLAGS: the selection, and then its operand (R187). A selection outside the five is refused BAD_VALUE whatever follows it,
since no rule gives its operand a layout (log entry 29). -/
def clearRequest (payload : List Byte) : Option Request :=
  match payload with
  | [] => none
  | selection :: rest =>
    let mask := fun (width : Nat) (r : Nat → Request) =>
      if rest.length = width then some (r (maskNat rest)) else none
    match selection.toNat with
    | 0 => mask 4 reqClearFeederLimit
    | 1 => mask 1 reqClearSetFlag
    | 2 =>
      match rest with
      | [m, names] => some (reqClearTankFlag m.toNat (tankFlagNames names.toNat))
      | _ => none
    | 3 => mask 2 reqClearPointFlag
    | 4 => oneByte reqClearUnitCounts rest
    | _ => some fun s => (s, .refuse .badValue)

/-- The level of a TANK SET as sent: 65535 stands for SENSOR (R196). -/
def tankLevelOf (l : Nat) : TankLevel := if l = 65535 then .sensor else .level l

/-- The management request of a kind number, 1 to 43 in the order of R185, with its payload; none is BAD_REQUEST (R182). -/
def requestOf (kind : Nat) (payload : List Byte) : Option Request :=
  match kind with
  | 1 => noFields reqReadStatus payload
  | 2 => fixedForm [2, 3, 2] (fun | [day, second, ms] => some (reqSetClock day second ms) | _ => none) payload
  | 3 => fixedForm [2] (fun | [period] => some (reqSetCycle period) | _ => none) payload
  | 4 => noFields reqStartCycles payload
  | 5 => noFields reqStopCycles payload
  | 6 => noFields reqGoLive payload
  | 7 => noFields reqStandDown payload
  | 8 => noFields reqFieldRestart payload
  | 9 => loadForm reqLoadUnit unitFields payload
  | 10 => loadForm reqLoadFeeder feederFields payload
  | 11 => loadForm reqLoadSet setFields payload
  | 12 => loadForm reqLoadPoint pointFields payload
  | 13 => loadForm reqLoadAccount accountFields payload
  | 14 => siteRequest payload
  | 15 => fixedForm [1, 1, 1]
      (fun | [k, c, v] => some (reqLoadGate (unitKindOf k) (codeOf c) (permissionOf v)) | _ => none) payload
  | 16 => fixedForm [1, 1] (fun | [table, index] => some (reqReadTable (tableNameOf table) index) | _ => none) payload
  | 17 => oneByte reqReadUnit payload
  | 18 => oneByte reqReadFeeder payload
  | 19 => oneByte reqReadSet payload
  | 20 => oneByte reqReadPoint payload
  | 21 => oneByte reqReadAccount payload
  | 22 => clearRequest payload
  | 23 => oneByte reqSetStart payload
  | 24 => oneByte reqSetStop payload
  | 25 => oneByte reqSetClearFault payload
  | 26 => oneByte reqClearHire payload
  | 27 => fixedForm [1, 1] (fun | [point, side] => some (reqChangeover point (sideOf side)) | _ => none) payload
  | 28 => oneByte reqCancelChangeover payload
  | 29 => fixedForm [2, 3, 1, 1]
      (fun | [day, second, point, side] => some (reqLoadSchedule day second point (sideOf side)) | _ => none) payload
  | 30 => fixedForm [1, 2, 3]
      (fun | [point, day, second] => some (reqDeleteSchedule point day second) | _ => none) payload
  | 31 => noFields reqReadSchedule payload
  | 32 => fixedForm [1, 2] (fun | [set, level] => some (reqTankSet set (tankLevelOf level)) | _ => none) payload
  | 33 => oneByte reqCancelDelivery payload
  | 34 => noFields reqReadTickets payload
  | 35 => oneByte reqReleaseTickets payload
  | 36 => tariffRequest payload
  | 37 => noFields reqCommitTariff payload
  | 38 => noFields reqDiscardTariff payload
  | 39 => oneByte (fun b => reqTrial (yesNo b)) payload
  | 40 => fixedForm [1, 1] (fun | [table, cls] => some (reqReadTariff (tariffNameOf table) cls) | _ => none) payload
  | 41 => noFields reqReadRecords payload
  | 42 => fixedForm [2] (fun | [count] => some (reqReleaseRecords count) | _ => none) payload
  | 43 => oneByte reqCloseBill payload
  | _ => none

/-! ### Handling a frame (R182, R188) -/

/-- The field command code of an office kind, 64 to 77 (10.9). -/
def codeOfKind (kind : Nat) : Option Code := if 64 ≤ kind then codeOf (kind - 64) else none

/-- The argument bytes of a pass-through payload: a count of 0 to 8 and that many bytes (R188). -/
def passArgs : List Byte → Option (List Byte)
  | [] => none
  | n :: args => if n.toNat ≤ 8 ∧ args.length = n.toNat then some args else none

/-- What a frame is answered, by its destination (R182). -/
def handleFrame (f : OfficeFrame) : Request := fun s =>
  if f.destination = 0 then
    match requestOf f.kind.toNat f.payload with
    | none => (s, .refuse .badRequest)
    | some r => r s
  else
    match numbered 63 f.destination.toNat with
    | none => (s, .refuse .badIndex)
    | some a =>
      match passArgs f.payload with
      | none => (s, .refuse .badRequest)
      | some args => reqPassThrough a f.tag (codeOfKind f.kind.toNat) args s

/-- A response is placed in the response slot (R182, R183). -/
def State.respond (destination tag kind : Byte) (x : State × Reply) : State :=
  { x.1 with port := { x.1.port with response := some ⟨destination, tag, kind, x.2⟩ } }

/-- The frame at the head of the receive queue is taken when the response slot is empty (R181, R182). -/
def State.takeFrame (s : State) : State :=
  match s.port.response, s.port.rxQueue with
  | none, f :: rest =>
    let s := { s with port := { s.port with rxQueue := rest } }
    State.respond f.destination f.tag f.kind (handleFrame f s)
  | _, _ => s

/-! ### The transmitter (R184) -/

/-- What the transmitter sends next when it is free (R184). -/
def Port.nextFrame (p : Port) : Option TxFrame :=
  if p.response.isSome then some .response
  else if !p.notices.isEmpty then some .notice
  else if !p.copies.isEmpty then some .copy
  else none

/-- A free transmitter takes the next frame (R184). -/
def Port.startTx (p : Port) : Port :=
  match p.tx with
  | none => { p with tx := p.nextFrame }
  | some _ => p

/-- A free transmitter takes the next frame (R184). -/
def State.startTx (s : State) : State := { s with port := s.port.startTx }

/-! ### What a cycle start or a slot end has left (log entry 6) -/

/-- What a cycle start or slot end has left to commands of its own and no command has taken is taken, in the order in which it
fell due, and a free transmitter takes what it raised; every command but those rows and the power-on reset does this first
(log entry 6). -/
def State.settle (s : State) : State :=
  match s.due with
  | [] => s
  | due => (forEach due (fun x s => s.takeEvent x) s).startTx

/-- A millisecond with no command waiting (log entry 1). -/
def State.idle (s : State) : State := s.settle.idleTick

/-! ### The end of a transmission (R184) -/

/-- The frame in transmission has gone out whole: it leaves its slot or its queue (R184). -/
def Port.sent (p : Port) : Port :=
  match p.tx with
  | none => p
  | some .response => { p with response := none, tx := none }
  | some .notice => { p with notices := p.notices.tail, tx := none }
  | some .copy => { p with copies := p.copies.tail, tx := none }

/-- The last byte of a frame has been transmitted: the next frame received is taken, and the transmitter goes on (R182, R184). -/
def State.frameSent (s : State) : State :=
  ({ s with port := s.port.sent }.takeFrame).startTx

/-! ### The receiver (R180, R181) -/

/-- A complete frame joins the receive queue, or is discarded and counted; it is taken at once where the response slot is empty
(R181, R182). -/
def State.offerFrame (s : State) (f : OfficeFrame) : State :=
  let s := { s with port := { s.port with rx := .hunting } }
  if s.port.rxQueue.length < 4 then
    { s with port := { s.port with rxQueue := s.port.rxQueue ++ [f] } }.takeFrame
  else { s with port := { s.port with rxOverflows := count16 s.port.rxOverflows } }

/-- A frame is discarded and counted (R180). -/
def State.frameError (s : State) : State :=
  { s with port := { s.port with rx := .hunting, frameErrors := count16 s.port.frameErrors } }

/-- One byte time on ORX (R180). -/
def State.orxByte (s : State) (x : OrxByte) : State :=
  match receive s.port.rx x with
  | .receiving rx => { s with port := { s.port with rx } }
  | .complete f => (s.offerFrame f).startTx
  | .frameError => s.frameError

/-- Bytes on ORX, in order, with the level of TEN through them (R180; log entries 10, 11). A fall of TEN found here and the frames are one
event: a free transmitter looks for its next frame when they have been taken, and sends a response before the TARIFF notice of the
fall (R184; log entry 56). -/
def State.officeBytes (s : State) (ten : Bool) (orx : List OrxByte) : State :=
  (forEach orx (fun x s => s.orxByte x) (s.sampleTen ten)).startTx

/-- A gap of more than 2 ms between two bytes: a partial frame is discarded and counted (R180). -/
def State.byteGap (s : State) : State :=
  match s.port.rx with
  | .hunting => s
  | .partialFrame _ => s.frameError

/-! ### A request as a command (R182; log entry 9) -/

/-- The frames already received and their responses go out before a new request is taken (R182, R184). -/
def State.drain : Nat → State → State
  | 0, s => s
  | n + 1, s =>
    if s.port.response.isNone && s.port.rxQueue.isEmpty then s
    else s.takeFrame.startTx.frameSent.drain n

/-- What was left over is taken, and nothing waits in the receive queue or the response slot; two transmissions for each frame are enough. -/
def State.quiet (s : State) : State :=
  let s := s.settle
  s.drain (2 * s.port.rxQueue.length + 2)

/-- A frame arrives, is taken, and its response is placed and begun (R182 to R184). -/
def State.serve (s : State) (destination tag kind : Byte) (r : Request) : State :=
  (State.respond destination tag kind (r s.quiet)).startTx

/-- A request that reads the TEN line, at the level it finds (R149; log entry 11); its response goes out before the notice of a fall that it
finds (R184; log entry 56). -/
def atTen (ten : Bool) (r : Request) : Request := fun s => r (s.sampleTen ten)

end Sys2Proof.Machine
end

