-- ==== Sys2Proof/Machine/Events.lean ====
section
/-! DEFINITION. The meaning of every command that is an event: the resets, the pins, the cycle, the timed events and the office
link. A transmitter left free by an event takes what the event raised (R184). Every event but the timed ones
and the power-on reset first takes what a cycle start or slot end has left over (log entry 6). -/

namespace Sys2Proof.Machine

/-- POWER_ON_RESET: every table, value and block returns to its power-on state (R17). -/
def execPowerOnReset (ten : Bool) (s : State) :
    Host.Outcome State Fault Refusal :=
  .next (s.powerOn ten)

/-- LINE_RESET: the tables, the site values and the site state are kept, and the state derived from them is re-
initialised (R17). -/
def execLineReset (s : State) :
    Host.Outcome State Fault Refusal :=
  .next s.settle.lineReset

/-- TEN_FALL: the tariff store acts by its pending state (R149, R153). -/
def execTenFall (s : State) :
    Host.Outcome State Fault Refusal :=
  .next s.settle.tenFall.startTx

/-- CYCLE_START: the cycle number advances, and the engine and every owning block do their per-cycle work (R18). -/
def execCycleStart (selectLast : Bool) (deferred : List TimedEvent) (s : State) :
    Host.Outcome State Fault Refusal :=
  .next (s.settle.nextCycle selectLast deferred).startTx

/-- LOAD_CHANGEOVER_REQUEST of a set (R91). -/
def execLoadChangeoverRequest (n : SetNo) (s : State) :
    Host.Outcome State Fault Refusal :=
  .next ((s.takeEvent (.loadRequest n)).startTx)

/-- HOLD_LIMIT_CLOSE_OFF of a feeder (R49). -/
def execHoldLimitCloseOff (f : FeederNo) (s : State) :
    Host.Outcome State Fault Refusal :=
  .next ((s.takeEvent (.holdLimit f)).startTx)

/-- WARM_UP_EXPIRY of a set (R83). -/
def execWarmUpExpiry (n : SetNo) (s : State) :
    Host.Outcome State Fault Refusal :=
  .next ((s.takeEvent (.warmUp n)).startTx)

/-- COOL_DOWN_EXPIRY of a set (R85). -/
def execCoolDownExpiry (n : SetNo) (s : State) :
    Host.Outcome State Fault Refusal :=
  .next ((s.takeEvent (.coolDown n)).startTx)

/-- CRANK_WINDOW_EXPIRY of a set (R81, R82). -/
def execCrankWindowExpiry (n : SetNo) (s : State) :
    Host.Outcome State Fault Refusal :=
  .next ((s.takeEvent (.crankWindow n)).startTx)

/-- PREPARE_TIMEOUT of a point (R133). -/
def execPrepareTimeout (p : PointNo) (s : State) :
    Host.Outcome State Fault Refusal :=
  .next ((s.takeEvent (.prepare p)).startTx)

/-- CONFIRM_TIMEOUT of a point (R134, R137, R138). -/
def execConfirmTimeout (p : PointNo) (s : State) :
    Host.Outcome State Fault Refusal :=
  .next ((s.takeEvent (.confirm p)).startTx)

/-- DEAD_TIME_EXPIRY of a point: the first dead check (R135, R136). -/
def execDeadTimeExpiry (p : PointNo) (s : State) :
    Host.Outcome State Fault Refusal :=
  .next ((s.takeEvent (.deadTime p)).startTx)

/-- WINDOW_EXPIRY of a point: the last dead check (R136). -/
def execWindowExpiry (p : PointNo) (s : State) :
    Host.Outcome State Fault Refusal :=
  .next ((s.takeEvent (.window p)).startTx)

/-- TICKET_WAIT_EXPIRY of a meter (R115). -/
def execTicketWaitExpiry (m : MeterNo) (s : State) :
    Host.Outcome State Fault Refusal :=
  .next ((s.takeEvent (.ticketWait m)).startTx)

/-- SCHEDULE_FIRE: the walk of the schedule (R145). -/
def execScheduleFire (s : State) :
    Host.Outcome State Fault Refusal :=
  .next ((s.takeEvent .schedule).startTx)

/-- INTERVAL_CLOSE_DUE: the intervals close, or are extended (R165 to R167). -/
def execIntervalCloseDue (s : State) :
    Host.Outcome State Fault Refusal :=
  .next ((s.takeEvent .intervalClose).startTx)

/-- SLOT_END: the outcome of the next slot is decided and acted on (R25, R26). -/
def execSlotEnd (received : SlotInput) (deferred : List TimedEvent) (s : State) :
    Host.Outcome State Fault Refusal :=
  .next (s.settle.endSlot received deferred).startTx

/-- LINK_LOST of a unit (R30). -/
def execLinkLost (a : Addr) (s : State) :
    Host.Outcome State Fault Refusal :=
  .next ((s.takeEvent (.linkLost a)).startTx)

/-- DISCREPANCY_SET of a set (R106). -/
def execDiscrepancySet (n : SetNo) (s : State) :
    Host.Outcome State Fault Refusal :=
  .next ((s.takeEvent (.discrepancy n)).startTx)

/-- BYTE_GAP_TIMEOUT: a partial office frame is discarded and counted (R180). -/
def execByteGapTimeout (s : State) :
    Host.Outcome State Fault Refusal :=
  .next s.settle.byteGap

/-- OFFICE_FRAME_RECEIVED: bytes on ORX are assembled into frames, which are queued and taken (R180 to R182). -/
def execOfficeFrameReceived (ten : Bool) (orx : List OrxByte) (s : State) :
    Host.Outcome State Fault Refusal :=
  .next (s.settle.officeBytes ten orx)

/-- FRAME_TRANSMITTED: the frame in transmission leaves, the next frame received is taken, and the transmitter goes on
(R182, R184). -/
def execFrameTransmitted (s : State) :
    Host.Outcome State Fault Refusal :=
  .next s.settle.frameSent

/-- HEADER_WINDOW_END: the controller releases the field line (R19). -/
def execHeaderWindowEnd (s : State) :
    Host.Outcome State Fault Refusal :=
  .next s.settle.endHeaderWindow

end Sys2Proof.Machine
end

