-- ==== Sys2Proof/Machine/Requests.lean ====
section
/-! DEFINITION. The meaning of every command that is an office frame: a management request, a pass-through command, or a frame
that is neither. Each is a frame that arrives, is taken and is answered (R182, R183; log entry 9). -/

namespace Sys2Proof.Machine

/-- A management request of a kind number, with its tag (R182, R185). -/
def manage (tag : Byte) (kind : Nat) (r : Request) (s : State) : Host.Outcome State Fault Refusal :=
  .next (s.serve 0 tag (BitVec.ofNat 8 kind) r)

/-- A pass-through command of a code to a unit, with its tag (R188). -/
def passOn (tag : Byte) (a : Addr) (code : Code) (args : List Byte) (s : State) :
    Host.Outcome State Fault Refusal :=
  .next (s.serve (BitVec.ofNat 8 (a.val + 1)) tag (BitVec.ofNat 8 (codeNumber code))
    (reqPassThrough a tag (some code) args))

/-- READ STATUS (R186). -/
def execReadStatus (tag : Byte) (ten : Bool) (s : State) :
    Host.Outcome State Fault Refusal :=
  manage tag 1 (atTen ten reqReadStatus) s

/-- SET CLOCK (R162). -/
def execSetClock (tag : Byte) (day second ms : Nat) (s : State) :
    Host.Outcome State Fault Refusal :=
  manage tag 2 (reqSetClock day second ms) s

/-- SET CYCLE (R13). -/
def execSetCycle (tag : Byte) (period : Nat) (s : State) :
    Host.Outcome State Fault Refusal :=
  manage tag 3 (reqSetCycle period) s

/-- START CYCLES (R38). -/
def execStartCycles (tag : Byte) (s : State) :
    Host.Outcome State Fault Refusal :=
  manage tag 4 reqStartCycles s

/-- STOP CYCLES (R39). -/
def execStopCycles (tag : Byte) (s : State) :
    Host.Outcome State Fault Refusal :=
  manage tag 5 reqStopCycles s

/-- GO LIVE (R15). -/
def execGoLive (tag : Byte) (s : State) :
    Host.Outcome State Fault Refusal :=
  manage tag 6 reqGoLive s

/-- STAND DOWN (R16). -/
def execStandDown (tag : Byte) (s : State) :
    Host.Outcome State Fault Refusal :=
  manage tag 7 reqStandDown s

/-- FIELD RESTART (R40). -/
def execFieldRestart (tag : Byte) (s : State) :
    Host.Outcome State Fault Refusal :=
  manage tag 8 reqFieldRestart s

/-- LOAD UNIT (R1 to R4). -/
def execLoadUnit (tag : Byte) (address : Nat) (form : LoadForm UnitFields) (s : State) :
    Host.Outcome State Fault Refusal :=
  manage tag 9 (reqLoadUnit address form) s

/-- LOAD FEEDER (R1, R2, R5, R6). -/
def execLoadFeeder (tag : Byte) (feeder : Nat) (form : LoadForm FeederFields) (s : State) :
    Host.Outcome State Fault Refusal :=
  manage tag 10 (reqLoadFeeder feeder form) s

/-- LOAD SET (R1, R2, R7, R8). -/
def execLoadSet (tag : Byte) (set : Nat) (form : LoadForm SetFields) (s : State) :
    Host.Outcome State Fault Refusal :=
  manage tag 11 (reqLoadSet set form) s

/-- LOAD POINT (R1, R2, R9, R10, R32). -/
def execLoadPoint (tag : Byte) (point : Nat) (form : LoadForm PointFields) (s : State) :
    Host.Outcome State Fault Refusal :=
  manage tag 12 (reqLoadPoint point form) s

/-- LOAD ACCOUNT (R1, R2, R11). -/
def execLoadAccount (tag : Byte) (account : Nat) (form : LoadForm AccountFields) (s : State) :
    Host.Outcome State Fault Refusal :=
  manage tag 13 (reqLoadAccount account form) s

/-- LOAD SITE (R12). -/
def execLoadSite (tag : Byte) (values : SiteFields) (s : State) :
    Host.Outcome State Fault Refusal :=
  manage tag 14 (reqLoadSite values) s

/-- LOAD GATE (R189). -/
def execLoadGate (tag : Byte) (kind : Option UnitKind) (code : Option Code) (permission : Option Permission) (s : State) :
    Host.Outcome State Fault Refusal :=
  manage tag 15 (reqLoadGate kind code permission) s

/-- READ TABLE (R2, R185, R189). -/
def execReadTable (tag : Byte) (table : Option TableName) (index : Nat) (s : State) :
    Host.Outcome State Fault Refusal :=
  manage tag 16 (reqReadTable table index) s

/-- READ UNIT (R29, R31, R108, R194). -/
def execReadUnit (tag : Byte) (address : Nat) (s : State) :
    Host.Outcome State Fault Refusal :=
  manage tag 17 (reqReadUnit address) s

/-- READ FEEDER (R57). -/
def execReadFeeder (tag : Byte) (feeder : Nat) (s : State) :
    Host.Outcome State Fault Refusal :=
  manage tag 18 (reqReadFeeder feeder) s

/-- READ SET (R73, R74, R99). -/
def execReadSet (tag : Byte) (set : Nat) (s : State) :
    Host.Outcome State Fault Refusal :=
  manage tag 19 (reqReadSet set) s

/-- READ POINT (R124). -/
def execReadPoint (tag : Byte) (point : Nat) (s : State) :
    Host.Outcome State Fault Refusal :=
  manage tag 20 (reqReadPoint point) s

/-- READ ACCOUNT (R177). -/
def execReadAccount (tag : Byte) (account : Nat) (s : State) :
    Host.Outcome State Fault Refusal :=
  manage tag 21 (reqReadAccount account) s

/-- CLEAR FLAGS, selection FEEDER_LIMIT (R54, R187). -/
def execClearFlagsFeederLimit (tag : Byte) (mask : Nat) (s : State) :
    Host.Outcome State Fault Refusal :=
  manage tag 22 (reqClearFeederLimit mask) s

/-- CLEAR FLAGS, selection SET_FLAG (R97, R187). -/
def execClearFlagsSetFlag (tag : Byte) (mask : Nat) (s : State) :
    Host.Outcome State Fault Refusal :=
  manage tag 22 (reqClearSetFlag mask) s

/-- CLEAR FLAGS, selection TANK_FLAG (R107, R187). -/
def execClearFlagsTankFlag (tag : Byte) (mask : Nat) (names : TankFlagNames) (s : State) :
    Host.Outcome State Fault Refusal :=
  manage tag 22 (reqClearTankFlag mask names) s

/-- CLEAR FLAGS, selection POINT_FLAG (R131, R187). -/
def execClearFlagsPointFlag (tag : Byte) (mask : Nat) (s : State) :
    Host.Outcome State Fault Refusal :=
  manage tag 22 (reqClearPointFlag mask) s

/-- CLEAR FLAGS, selection UNIT_COUNTS (R31, R187). -/
def execClearFlagsUnitCounts (tag : Byte) (address : Nat) (s : State) :
    Host.Outcome State Fault Refusal :=
  manage tag 22 (reqClearUnitCounts address) s

/-- SET START (R80). -/
def execSetStart (tag : Byte) (set : Nat) (s : State) :
    Host.Outcome State Fault Refusal :=
  manage tag 23 (reqSetStart set) s

/-- SET STOP (R84). -/
def execSetStop (tag : Byte) (set : Nat) (s : State) :
    Host.Outcome State Fault Refusal :=
  manage tag 24 (reqSetStop set) s

/-- SET CLEAR FAULT (R88). -/
def execSetClearFault (tag : Byte) (set : Nat) (s : State) :
    Host.Outcome State Fault Refusal :=
  manage tag 25 (reqSetClearFault set) s

/-- CLEAR HIRE (R64, R96). -/
def execClearHire (tag : Byte) (set : Nat) (s : State) :
    Host.Outcome State Fault Refusal :=
  manage tag 26 (reqClearHire set) s

/-- CHANGEOVER (R127 to R129). -/
def execChangeover (tag : Byte) (point : Nat) (side : Option Side) (s : State) :
    Host.Outcome State Fault Refusal :=
  manage tag 27 (reqChangeover point side) s

/-- CANCEL CHANGEOVER (R140). -/
def execCancelChangeover (tag : Byte) (point : Nat) (s : State) :
    Host.Outcome State Fault Refusal :=
  manage tag 28 (reqCancelChangeover point) s

/-- LOAD SCHEDULE (R143). -/
def execLoadSchedule (tag : Byte) (day second point : Nat) (side : Option Side) (s : State) :
    Host.Outcome State Fault Refusal :=
  manage tag 29 (reqLoadSchedule day second point side) s

/-- DELETE SCHEDULE (R144). -/
def execDeleteSchedule (tag : Byte) (point day second : Nat) (s : State) :
    Host.Outcome State Fault Refusal :=
  manage tag 30 (reqDeleteSchedule point day second) s

/-- READ SCHEDULE (R144). -/
def execReadSchedule (tag : Byte) (s : State) :
    Host.Outcome State Fault Refusal :=
  manage tag 31 reqReadSchedule s

/-- TANK SET (R103). -/
def execTankSet (tag : Byte) (set : Nat) (level : TankLevel) (s : State) :
    Host.Outcome State Fault Refusal :=
  manage tag 32 (reqTankSet set level) s

/-- CANCEL DELIVERY (R119). -/
def execCancelDelivery (tag : Byte) (meter : Nat) (s : State) :
    Host.Outcome State Fault Refusal :=
  manage tag 33 (reqCancelDelivery meter) s

/-- READ TICKETS (R121). -/
def execReadTickets (tag : Byte) (s : State) :
    Host.Outcome State Fault Refusal :=
  manage tag 34 reqReadTickets s

/-- RELEASE TICKETS (R121). -/
def execReleaseTickets (tag : Byte) (count : Nat) (s : State) :
    Host.Outcome State Fault Refusal :=
  manage tag 35 (reqReleaseTickets count) s

/-- LOAD TARIFF CLASS (R150). -/
def execLoadTariffClass (tag : Byte) (ten : Bool) (identifier : Nat) (mode : Option RoundingMode) (cls : Nat)
    (bands : List Band) (s : State) :
    Host.Outcome State Fault Refusal :=
  manage tag 36 (atTen ten (reqLoadTariffClass identifier mode cls bands)) s

/-- COMMIT TARIFF (R151). -/
def execCommitTariff (tag : Byte) (ten : Bool) (s : State) :
    Host.Outcome State Fault Refusal :=
  manage tag 37 (atTen ten reqCommitTariff) s

/-- DISCARD TARIFF (R154). -/
def execDiscardTariff (tag : Byte) (ten : Bool) (s : State) :
    Host.Outcome State Fault Refusal :=
  manage tag 38 (atTen ten reqDiscardTariff) s

/-- TRIAL (R155). -/
def execTrial (tag : Byte) (on : Option Bool) (s : State) :
    Host.Outcome State Fault Refusal :=
  manage tag 39 (reqTrial on) s

/-- READ TARIFF (R159). -/
def execReadTariff (tag : Byte) (ten : Bool) (table : Option TariffName) (cls : Nat) (s : State) :
    Host.Outcome State Fault Refusal :=
  manage tag 40 (atTen ten (reqReadTariff table cls)) s

/-- READ RECORDS (R174). -/
def execReadRecords (tag : Byte) (s : State) :
    Host.Outcome State Fault Refusal :=
  manage tag 41 reqReadRecords s

/-- RELEASE RECORDS (R175). -/
def execReleaseRecords (tag : Byte) (count : Nat) (s : State) :
    Host.Outcome State Fault Refusal :=
  manage tag 42 (reqReleaseRecords count) s

/-- CLOSE BILL (R171). -/
def execCloseBill (tag : Byte) (account : Nat) (s : State) :
    Host.Outcome State Fault Refusal :=
  manage tag 43 (reqCloseBill account) s

/-- ALARM_RESET, a pass-through command (R188). -/
def execAlarmReset (tag : Byte) (a : Addr) (args : List Byte) (s : State) :
    Host.Outcome State Fault Refusal :=
  passOn tag a .alarmReset args s

/-- LAMP_TEST, a pass-through command (R188). -/
def execLampTest (tag : Byte) (a : Addr) (args : List Byte) (s : State) :
    Host.Outcome State Fault Refusal :=
  passOn tag a .lampTest args s

/-- INDICATE, a pass-through command (R188). -/
def execIndicate (tag : Byte) (a : Addr) (args : List Byte) (s : State) :
    Host.Outcome State Fault Refusal :=
  passOn tag a .indicate args s

/-- RESET_MAX, a pass-through command (R188). -/
def execResetMax (tag : Byte) (a : Addr) (args : List Byte) (s : State) :
    Host.Outcome State Fault Refusal :=
  passOn tag a .resetMax args s

/-- IDENTIFY, a pass-through command (R188). -/
def execIdentify (tag : Byte) (a : Addr) (args : List Byte) (s : State) :
    Host.Outcome State Fault Refusal :=
  passOn tag a .identify args s

/-- MESSAGE, a pass-through command (R188). -/
def execMessage (tag : Byte) (a : Addr) (args : List Byte) (s : State) :
    Host.Outcome State Fault Refusal :=
  passOn tag a .message args s

/-- An office frame that no other row lists: an unknown kind, a payload that does not fit, an owned or unlisted code, or a
destination beyond 63 (R182, R188). -/
def execUnlistedOfficeFrame (destination tag kind : Byte) (payload : List Byte) (s : State) :
    Host.Outcome State Fault Refusal :=
  .next (s.serve destination tag kind (handleFrame ⟨destination, tag, kind, payload⟩))

end Sys2Proof.Machine
end

