-- ==== Sys2Proof/Machine/Dispatch.lean ====
section
/-! DEFINITION. One arm for each command, each a call of its meaning. -/

namespace Sys2Proof.Machine

def exec (i : Instr) (s : State) : Host.Outcome State Fault Refusal :=
  match i with
  | .powerOnReset ten => Sys2Proof.Machine.execPowerOnReset ten s
  | .lineReset => Sys2Proof.Machine.execLineReset s
  | .tenFall => Sys2Proof.Machine.execTenFall s
  | .cycleStart selectLast deferred => Sys2Proof.Machine.execCycleStart selectLast deferred s
  | .loadChangeoverRequest set => Sys2Proof.Machine.execLoadChangeoverRequest set s
  | .holdLimitCloseOff feeder => Sys2Proof.Machine.execHoldLimitCloseOff feeder s
  | .warmUpExpiry set => Sys2Proof.Machine.execWarmUpExpiry set s
  | .coolDownExpiry set => Sys2Proof.Machine.execCoolDownExpiry set s
  | .crankWindowExpiry set => Sys2Proof.Machine.execCrankWindowExpiry set s
  | .prepareTimeout point => Sys2Proof.Machine.execPrepareTimeout point s
  | .confirmTimeout point => Sys2Proof.Machine.execConfirmTimeout point s
  | .deadTimeExpiry point => Sys2Proof.Machine.execDeadTimeExpiry point s
  | .windowExpiry point => Sys2Proof.Machine.execWindowExpiry point s
  | .ticketWaitExpiry meter => Sys2Proof.Machine.execTicketWaitExpiry meter s
  | .scheduleFire => Sys2Proof.Machine.execScheduleFire s
  | .intervalCloseDue => Sys2Proof.Machine.execIntervalCloseDue s
  | .slotEnd received deferred => Sys2Proof.Machine.execSlotEnd received deferred s
  | .linkLost unit => Sys2Proof.Machine.execLinkLost unit s
  | .discrepancySet set => Sys2Proof.Machine.execDiscrepancySet set s
  | .byteGapTimeout => Sys2Proof.Machine.execByteGapTimeout s
  | .officeFrameReceived ten orx => Sys2Proof.Machine.execOfficeFrameReceived ten orx s
  | .frameTransmitted => Sys2Proof.Machine.execFrameTransmitted s
  | .readStatus tag ten => Sys2Proof.Machine.execReadStatus tag ten s
  | .setClock tag day second ms => Sys2Proof.Machine.execSetClock tag day second ms s
  | .setCycle tag period => Sys2Proof.Machine.execSetCycle tag period s
  | .startCycles tag => Sys2Proof.Machine.execStartCycles tag s
  | .stopCycles tag => Sys2Proof.Machine.execStopCycles tag s
  | .goLive tag => Sys2Proof.Machine.execGoLive tag s
  | .standDown tag => Sys2Proof.Machine.execStandDown tag s
  | .fieldRestart tag => Sys2Proof.Machine.execFieldRestart tag s
  | .loadUnit tag address form => Sys2Proof.Machine.execLoadUnit tag address form s
  | .loadFeeder tag feeder form => Sys2Proof.Machine.execLoadFeeder tag feeder form s
  | .loadSet tag set form => Sys2Proof.Machine.execLoadSet tag set form s
  | .loadPoint tag point form => Sys2Proof.Machine.execLoadPoint tag point form s
  | .loadAccount tag account form => Sys2Proof.Machine.execLoadAccount tag account form s
  | .loadSite tag values => Sys2Proof.Machine.execLoadSite tag values s
  | .loadGate tag kind code permission => Sys2Proof.Machine.execLoadGate tag kind code permission s
  | .readTable tag table index => Sys2Proof.Machine.execReadTable tag table index s
  | .readUnit tag address => Sys2Proof.Machine.execReadUnit tag address s
  | .readFeeder tag feeder => Sys2Proof.Machine.execReadFeeder tag feeder s
  | .readSet tag set => Sys2Proof.Machine.execReadSet tag set s
  | .readPoint tag point => Sys2Proof.Machine.execReadPoint tag point s
  | .readAccount tag account => Sys2Proof.Machine.execReadAccount tag account s
  | .clearFlagsFeederLimit tag mask => Sys2Proof.Machine.execClearFlagsFeederLimit tag mask s
  | .clearFlagsSetFlag tag mask => Sys2Proof.Machine.execClearFlagsSetFlag tag mask s
  | .clearFlagsTankFlag tag mask names => Sys2Proof.Machine.execClearFlagsTankFlag tag mask names s
  | .clearFlagsPointFlag tag mask => Sys2Proof.Machine.execClearFlagsPointFlag tag mask s
  | .clearFlagsUnitCounts tag address => Sys2Proof.Machine.execClearFlagsUnitCounts tag address s
  | .setStart tag set => Sys2Proof.Machine.execSetStart tag set s
  | .setStop tag set => Sys2Proof.Machine.execSetStop tag set s
  | .setClearFault tag set => Sys2Proof.Machine.execSetClearFault tag set s
  | .clearHire tag set => Sys2Proof.Machine.execClearHire tag set s
  | .changeover tag point side => Sys2Proof.Machine.execChangeover tag point side s
  | .cancelChangeover tag point => Sys2Proof.Machine.execCancelChangeover tag point s
  | .loadSchedule tag day second point side => Sys2Proof.Machine.execLoadSchedule tag day second point side s
  | .deleteSchedule tag point day second => Sys2Proof.Machine.execDeleteSchedule tag point day second s
  | .readSchedule tag => Sys2Proof.Machine.execReadSchedule tag s
  | .tankSet tag set level => Sys2Proof.Machine.execTankSet tag set level s
  | .cancelDelivery tag meter => Sys2Proof.Machine.execCancelDelivery tag meter s
  | .readTickets tag => Sys2Proof.Machine.execReadTickets tag s
  | .releaseTickets tag count => Sys2Proof.Machine.execReleaseTickets tag count s
  | .loadTariffClass tag ten identifier mode cls bands => Sys2Proof.Machine.execLoadTariffClass tag ten identifier mode cls bands s
  | .commitTariff tag ten => Sys2Proof.Machine.execCommitTariff tag ten s
  | .discardTariff tag ten => Sys2Proof.Machine.execDiscardTariff tag ten s
  | .trial tag on => Sys2Proof.Machine.execTrial tag on s
  | .readTariff tag ten table cls => Sys2Proof.Machine.execReadTariff tag ten table cls s
  | .readRecords tag => Sys2Proof.Machine.execReadRecords tag s
  | .releaseRecords tag count => Sys2Proof.Machine.execReleaseRecords tag count s
  | .closeBill tag account => Sys2Proof.Machine.execCloseBill tag account s
  | .alarmReset tag unit args => Sys2Proof.Machine.execAlarmReset tag unit args s
  | .lampTest tag unit args => Sys2Proof.Machine.execLampTest tag unit args s
  | .indicate tag unit args => Sys2Proof.Machine.execIndicate tag unit args s
  | .resetMax tag unit args => Sys2Proof.Machine.execResetMax tag unit args s
  | .identify tag unit args => Sys2Proof.Machine.execIdentify tag unit args s
  | .message tag unit args => Sys2Proof.Machine.execMessage tag unit args s
  | .headerWindowEnd => Sys2Proof.Machine.execHeaderWindowEnd s
  | .unlistedOfficeFrame destination tag kind payload => Sys2Proof.Machine.execUnlistedOfficeFrame destination tag kind payload s

end Sys2Proof.Machine
end

