-- ==== Sys2Proof/Safety.lean ====
section
/-! DEFINITION. What counts as a safe run: a step that ends in a next state, every queue and store of it within the capacity the
spec gives, and every tank within its bounds. -/

namespace Sys2Proof.Machine

/-- The step ended in a next state; no command of the KP-3160 stops it. -/
def Runs (o : Host.Outcome State Fault Refusal) : Prop := ∃ t, o = .next t

/-- The Office Port within its capacities (R180, R181, R191, R194). -/
structure Port.Bounded (p : Port) : Prop where
  notices : p.notices.length ≤ 32
  copies : p.copies.length ≤ 4
  rxQueue : p.rxQueue.length ≤ 4
  frameErrors : p.frameErrors ≤ 65535
  rxOverflows : p.rxOverflows ≤ 65535

/-- The command queue holds at most 24 entries, at most 8 of them of OFFICE origin (R32). -/
structure QueueBounded (queue : List Command) : Prop where
  entries : queue.length ≤ 24
  office : (queue.filter Command.isOffice).length ≤ 8

/-- Every queue and store is within its capacity; a claimed place of the ticket store counts as taken (R32, R114, R143, R173,
R180, R181, R191, R194). -/
structure State.Bounded (s : State) : Prop where
  queue : QueueBounded s.engine.queue
  schedule : s.schedule.length ≤ 16
  records : s.billing.records.length ≤ 512
  tickets : s.tickets.length + s.placesClaimed ≤ 16
  port : s.port.Bounded

/-- The tank's book lies between 0 and its capacity, its burn residue below one decilitre, its discrepancy count at most 20
(R99, R100, R102, R106). -/
structure Tank.Sound (t : Tank) : Prop where
  book : t.book ≤ t.capacity
  residue : t.residue < decilitre
  discCount : t.discCount ≤ 20

/-- Every tank is sound. -/
def State.TanksSound (s : State) : Prop := ∀ n, (s.tank n).Sound

/-- The site values and the period are within their ranges (R12, R13). -/
structure Site.InRange (x : Site) : Prop where
  hold : 1 ≤ x.values.holdLimit ∧ x.values.holdLimit ≤ 255
  loss : 2 ≤ x.values.lossLimit ∧ x.values.lossLimit ≤ 15
  interval : x.values.intervalMin ∈ intervalMinutes
  delivery : x.values.minDelivery ≤ 65535
  wait : 10 ≤ x.values.ticketWait ∧ x.values.ticketWait ≤ 255
  late : x.values.lateLimit ≤ 3600
  period : 50 ≤ x.period ∧ x.period ≤ 500 ∧ x.period % 10 = 0

/-- The clock, once set, stands within the days it can count (R161). -/
def Billing.ClockInRange (b : Billing) : Prop := ∀ t, b.clock = some t → t ≤ clockEnd

/-- What LIVE rests on: intervals are open in LIVE alone, a LIVE site has its clock and an active tariff table, and a commit
waits in LIVE alone (R15, R16, R151, R163). -/
structure State.LiveSound (s : State) : Prop where
  interval : s.site.live = s.billing.interval.isSome
  clock : s.site.live = true → s.billing.clock.isSome = true
  tariff : s.site.live = true → s.tariff.active.isSome = true
  commit : s.tariff.pending.isCommitted = true → s.site.live = true

/-- While HALTED nothing is left over from a cycle start or a slot end, so no event falls due (R98, R142, R145, R165; log entry 6). -/
def State.DueSound (s : State) : Prop := s.engine.running = false → s.due = []

/-- The phase a phase counter belongs to (R124, R133 to R138). -/
def PhaseCounter.Fits (c : PhaseCounter) (phase : Phase) : Prop :=
  match c with
  | .none => True
  | .prepare _ => phase = .preparing
  | .confirm _ => phase = .opening ∨ phase = .closing ∨ phase = .recovering
  | .dead _ => phase = .dead
  | .window _ => phase = .dead

/-- Where a point stands while its sequencer is in flight: on the side it came from until it opens, OPEN in DEAD and CLOSING,
known in RECOVERING (R124, R128, R134, R135). -/
def PointRec.Sound (r : PointRec) : Prop :=
  ∀ q, r.seq = some q → q.counter.Fits q.phase ∧
    match q.phase with
    | .preparing => r.position = q.originalPos ∧ r.position ≠ .unknown
    | .opening => r.position = q.originalPos ∧ r.position ≠ .unknown
    | .dead => r.position = .opened
    | .closing => r.position = .opened
    | .recovering => r.position ≠ .unknown

/-- Every point is sound. -/
def State.PointsSound (s : State) : Prop := ∀ p, (s.pointRec p).Sound

end Sys2Proof.Machine
end

