-- ==== Sys2Proof/Machine/Encode.lean ====
section
/-! DEFINITION. What leaves the controller, byte by byte: the cycle header on FTX, and responses, notices and report copies on OTX
(R179, R183, R191, R194, 10.8, 10.9; log entries 36, 70). The states of the output pins ATTN and LIVE are here too (R193). These are
readings of the state; nothing here changes it. -/

namespace Sys2Proof.Machine

/-! ### Fields (10.8) -/

/-- A signed integer as `w` bytes, in two's complement. -/
def beInt (w : Nat) (x : Int) : List Byte := beBytes w (x % 256 ^ w).toNat

/-- A mark byte: one bit for each mark, from bit 0. -/
def markByte (marks : List Bool) : Byte :=
  BitVec.ofNat 8 (marks.foldr (fun b acc => b.toNat + 2 * acc) 0)

/-- A field that is sent always, or a field that may be absent. -/
inductive Field where
  | always (bytes : List Byte)
  | maybe (bytes : Option (List Byte))
  deriving DecidableEq, Repr

/-- The bytes a field takes; an absent one takes none. -/
def Field.bytes : Field → List Byte
  | .always bytes => bytes
  | .maybe bytes => bytes.getD []

/-- The presence bit of a field that may be absent. -/
def Field.presence : Field → Option Bool
  | .always _ => none
  | .maybe bytes => some bytes.isSome

/-- Presence bits as mark bytes of 8. -/
def presenceBytes : Nat → List Bool → List Byte
  | 0, _ => []
  | n + 1, marks => if marks.isEmpty then [] else markByte (marks.take 8) :: presenceBytes n (marks.drop 8)

/-- Fields in order, the presence bits of those that may be absent first: 10.8 has it so for notices, and for answers it is a DESIGN
CHOICE, log entry 70. -/
def sendFields (fields : List Field) : List Byte :=
  let marks := fields.filterMap Field.presence
  presenceBytes marks.length marks ++ (fields.map Field.bytes).flatten

/-- An unsigned field of `w` bytes. -/
def num (w n : Nat) : Field := .always (beBytes w n)
/-- A signed field of `w` bytes. -/
def int (w : Nat) (x : Int) : Field := .always (beInt w x)
/-- An unsigned field of `w` bytes that may be absent. -/
def numOpt (w : Nat) (n : Option Nat) : Field := .maybe (n.map (beBytes w))
/-- A signed field of `w` bytes that may be absent. -/
def intOpt (w : Nat) (x : Option Int) : Field := .maybe (x.map (beInt w))
/-- The number of an entry in 1 byte. -/
def entryNo {n : Nat} (i : Fin n) : Field := num 1 (i.val + 1)
/-- The number of an entry, where there is one. -/
def entryOpt {n : Nat} (i : Option (Fin n)) : Field := numOpt 1 (i.map fun k => k.val + 1)
/-- One byte of marks. -/
def marksOf (marks : List Bool) : Field := .always [markByte marks]
/-- A cycle number in 4 bytes. -/
def cycleField (c : CycleNo) : Field := num 4 c.toNat

/-- A clock time of 5 bytes, day and second of day, from seconds (10.8). -/
def clockBytes (seconds : Nat) : List Byte := beBytes 2 (seconds / 86400) ++ beBytes 3 (seconds % 86400)
/-- A clock time that may be UNSET or absent, from seconds. -/
def clockOpt (seconds : Option Nat) : Field := .maybe (seconds.map clockBytes)
/-- A reading of the site clock that may be UNSET, from ms: a clock time is sent as day and second of day (10.8). -/
def clockOfMs (ms : Option Nat) : Field := clockOpt (ms.map fun t => t / 1000)

/-! ### Enumerated fields: the position in the list that defines them -/

/-- A value that its rule lists as yes or no, on or off, or set or clear: the first is true. -/
def yesNoCode (b : Bool) : Nat := if b then 0 else 1
/-- A value that its rule lists with the false one first: COMMISSION or LIVE, HALTED or RUNNING, NONE or ACTIVE, UNSET or SET, OK or
OVERRANGE. A field that its rule names a mark is sent the same way, as a mark field of one bit (10.8; log entry 54). The level of
TEN, which no rule lists, is 0 low and 1 high (R159, R186; log entry 54). -/
def flagCode (b : Bool) : Nat := if b then 1 else 0
def unitKindCode : UnitKind → Nat
  | .set => 0 | .board => 1 | .change => 2 | .fuel => 3
def pollClassCode : PollClass → Nat
  | .every => 0 | .round => 1
def windowModeCode : WindowMode → Nat
  | .off => 0 | .inside => 1 | .above => 2 | .below => 3 | .outside => 4
def sideCode : Side → Nat
  | .a => 0 | .b => 1
def permissionCode : Permission → Nat
  | .pass => 0 | .refuse => 1 | .passIfIdle => 2
def roundingCode : RoundingMode → Nat
  | .halfEven => 0 | .halfUp => 1
def linkStateCode : LinkState → Nat
  | .absent => 0 | .present => 1 | .silent => 2 | .lost => 3
def sampleStateCode : SampleState → Nat
  | .none => 0 | .live => 1 | .held => 2 | .stale => 3
def feederStatusCode : FeederStatus → Nat
  | .ok => 0 | .overrange => 1 | .fault => 2 | .missing => 3
def engineStateCode : EngineState → Nat
  | .stopped => 0 | .cranking => 1 | .running => 2 | .faulted => 3
def runNameCode : RunName → Nat
  | .offline => 0 | .unseen => 1 | .stopped => 2 | .starting => 3 | .warming => 4 | .online => 5 | .cooling => 6
  | .stopping => 7 | .fault => 8
def faultReasonCode : FaultReason → Nat
  | .failedStart => 0 | .unexpectedStop => 1 | .setAlarm => 2
def stateReasonCode : StateReason → Nat
  | .enabled => 0 | .disabled => 1 | .adopted => 2 | .office => 3 | .sequencer => 4 | .running => 5 | .timer => 6
  | .stopped => 7 | .startEnded => 8 | .stopFailed => 9 | .inService => 10 | .cleared => 11 | .localStart => 12
  | .failedStart => 13 | .unexpectedStop => 14 | .setAlarm => 15
def setFlagCode : SetFlag → Nat
  | .localStart => 0 | .low => 1 | .reserve => 2 | .discrepancy => 3
def causeCode : Cause → Nat
  | .office => 0 | .schedule => 1 | .fault => 2 | .load => 3 | .fuel => 4
def phaseCode : Phase → Nat
  | .preparing => 1 | .opening => 2 | .dead => 3 | .closing => 4 | .recovering => 5
def swPosCode : SwPos → Nat
  | .a => 0 | .b => 1 | .opened => 2 | .unknown => 3
def reportedPosCode : ReportedPos → Nat
  | .a => 0 | .b => 1 | .opened => 2 | .fault => 3
def selectorCode : Selector → Nat
  | .remote => 0 | .localPanel => 1
def verificationCode : Option Verification → Nat
  | none => 0 | some .verified => 1 | some .unverified => 2
def abortCode : Option AbortMark → Nat
  | none => 0 | some .cancelled => 1 | some .targetFault => 2
def recoveryCode : RecoveryReason → Nat
  | .notDead => 0 | .targetFault => 1 | .closeFailed => 2 | .cancelled => 3
def seqOutcomeCode : SeqOutcome → Nat
  | .done => 0 | .doneUnverified => 1 | .recovered c => 2 + causeCode c | .dark => 7 | .cancelled => 8
  | .targetFault => 9 | .prepareTimeout => 10 | .openFailed => 11 | .manual => 12 | .unitFault => 13
  | .linkLost => 14 | .restart => 15
def commandOutcomeCode : CommandOutcome → Nat
  | .accepted => 0 | .refused _ => 1 | .noAnswer => 2 | .unitLost => 3 | .restart => 4
/-- The ends of a session in the order of R117, with DENIED, which R109 names apart, last: DESIGN CHOICE, log entry 46. -/
def deliveryResultCode : DeliveryResult → Nat
  | .complete => 0 | .noTicket => 1 | .cancelled => 2 | .linkLost => 3 | .restart => 4 | .refused => 5
  | .noAnswer => 6 | .unitLost => 7 | .denied => 8
def denyCode : DenyReason → Nat
  | .notHired => 0 | .setBusy => 1 | .noRoom => 2
def originCode : Origin → Nat
  | .office _ => 0 | .sets _ => 1 | .changeover _ => 2 | .fuel _ => 3
/-- A result code holds its position in the table of R183. -/
def resultCodeOf : ResultCode → Nat
  | .ok => 0 | .queued => 1 | .badRequest => 2 | .badIndex => 3 | .badValue => 4 | .state => 5 | .busy => 6
  | .disabled => 7 | .lockout => 8 | .interlock => 9 | .inService => 10 | .queueFull => 11 | .noChange => 12
  | .capacity => 13 | .notEligible => 14 | .unreachable => 15 | .localPanel => 16 | .tooLate => 17
  | .ownedCommand => 18 | .duplicate => 19 | .notValid => 20
/-- The position of a field command code in the list of 10.9. -/
def codePosition (c : Code) : Nat := allCodes.findIdx (· = c)

/-! ### The cycle header on FTX (10.9) -/

/-- The contents of a cycle header. -/
def Header.contents (h : Header) : List Byte :=
  let command := h.command.elim [] fun c =>
    beBytes 1 (c.target.val + 1) ++ beBytes 1 (codeNumber c.code) ++ beBytes 1 c.args.length ++ c.args
  let ack := h.ack.elim [] fun a => beBytes 1 (a.unit.val + 1) ++ [a.chunk]
  [0] ++ beBytes 4 h.cycle.toNat ++ beBytes 1 h.slots.length ++ h.slots.map (fun a => BitVec.ofNat 8 (a.val + 1))
    ++ [markByte [h.command.isSome, h.ack.isSome]] ++ command ++ ack

/-- The bytes of the header of the cycle in progress, where one was sent. -/
def State.headerBytes (s : State) : Option (List Byte) := s.engine.header.map fun h => fieldFrame h.contents

/-! ### Notices (R191, R192) -/

/-- The outcome of a command and the unit's reason. -/
def outcomeFields (o : CommandOutcome) : List Field :=
  [num 1 (commandOutcomeCode o), .maybe (match o with
    | .refused reason => some [reason]
    | _ => none)]

/-- The fields of a CHANGEOVER notice: the lists of R126 and R130 as one, in an order that neither gives. The outcome comes before the old
position, the reported one and the selector; the final position stands in every notice, and the cycle number last: DESIGN CHOICE, log
entry 59. -/
def ChangeoverNotice.fields (c : ChangeoverNotice) : List Field :=
  let m := c.manual
  let e := c.ended
  [ entryNo c.point,
    numOpt 1 (e.map fun x => causeCode x.cause), numOpt 1 (e.map fun x => sideCode x.targetSide),
    entryOpt (e.map EndPart.targetSet), numOpt 1 (e.map fun x => swPosCode x.originalPos),
    entryOpt (e.bind EndPart.originalSet), num 1 (seqOutcomeCode c.outcome),
    numOpt 1 (e.bind fun x => x.recovery.map recoveryCode),
    numOpt 1 (e.map fun x => verificationCode x.verification),
    numOpt 1 (m.map fun x => swPosCode x.oldPos), numOpt 1 (m.map fun x => reportedPosCode x.reported),
    numOpt 1 (m.map fun x => selectorCode x.selector),
    num 1 (swPosCode c.finalPos), cycleField c.cycle ]

/-- The fields of a DELIVERY notice (R109, R110, R117, R119): one list for all of them, the live total in each, then the unit's
reason, the denial, the outcome of REVOKE by its code alone, and the ticket figures (log entry 46). The correction, whose range
no rule states, takes four signed bytes, as in the ticket record: DESIGN CHOICE, log entry 47. -/
def DeliveryNotice.fields (d : DeliveryNotice) : List Field :=
  [ entryNo d.meter, num 1 d.set, num 1 (deliveryResultCode d.result), num 2 d.live,
    .maybe (d.unitReason.map fun r => [r]), numOpt 1 (d.denial.map denyCode),
    numOpt 1 (d.revoke.map commandOutcomeCode), numOpt 4 (d.ticket.map CompletePart.number),
    numOpt 2 (d.ticket.map CompletePart.volume), intOpt 4 (d.ticket.map CompletePart.correction) ]

/-- The fields of a notice, in the order its rule lists them; the adjustment of SET FLAG takes four signed bytes (log entry 47). The
result of a SCHEDULE notice is 0 ACCEPTED, 1 LATE or 2 refused, and then the code of the refusal, if any (R145, R10): DESIGN CHOICE, log
entry 60. In a RECORDS notice (R176) the oldest record number has a presence bit, before those of the clock and of the start and next
boundary of an extension: DESIGN CHOICE, log entry 63. A SET FLAG notice has one layout for the lists of R97, R100, R104 and R106, with
presence bits for the book level, the adjustment and the sensor level in that order, the always-listed book level of R104 among them:
DESIGN CHOICE, log entry 71. -/
def NoticeBody.fields : NoticeBody → List Field
  | .commandResult tag target code outcome cycle =>
    [.always [tag], entryNo target, num 1 (codePosition code)] ++ outcomeFields outcome ++ [cycleField cycle]
  | .unitLink a state misses => [entryNo a, num 1 (linkStateCode state), num 1 misses]
  | .feederLimit f board position mode low high current cycle =>
    [entryNo f, entryNo board, num 1 position, num 1 (windowModeCode mode), num 2 low, num 2 high, num 2 current,
      cycleField cycle]
  | .setState n previous new reason attempts cycle =>
    [entryNo n, num 1 (runNameCode previous), num 1 (runNameCode new), num 1 (stateReasonCode reason),
      cycleField cycle, numOpt 1 attempts]
  | .setFlag n flag book adjustment sensor cycle =>
    [entryNo n, num 1 (setFlagCode flag), numOpt 2 book, intOpt 4 adjustment, numOpt 2 sensor, cycleField cycle]
  | .changeover c => c.fields
  | .schedule p day second side result =>
    [entryNo p, .always (clockBytes (daySeconds day second)), num 1 (sideCode side)] ++
      match result with
      | .accepted => [num 1 0, .maybe none]
      | .late => [num 1 1, .maybe none]
      | .refused code => [num 1 2, .maybe (some (beBytes 1 (resultCodeOf code)))]
  | .delivery d => d.fields
  | .tariff inForce identifier cycle clock replaced =>
    [num 1 (yesNoCode inForce), num 2 identifier, cycleField cycle, clockOfMs clock, numOpt 2 replaced]
  | .records reason held oldest clock cycle =>
    let extended := match reason with
      | .highWater => none
      | .extended start next => some (clockBytes start, clockBytes next)
    [num 1 (flagCode extended.isSome), num 2 held, numOpt 4 oldest, clockOfMs clock, cycleField cycle,
      .maybe (extended.map Prod.fst), .maybe (extended.map Prod.snd)]

/-- The kind of a notice, 128 to 137 in the order of the notice table (10.9). -/
def NoticeBody.kind : NoticeBody → Nat
  | .commandResult _ _ _ _ _ => 128
  | .unitLink _ _ _ => 129
  | .feederLimit _ _ _ _ _ _ _ _ => 130
  | .setState _ _ _ _ _ _ => 131
  | .setFlag _ _ _ _ _ _ => 132
  | .changeover _ => 133
  | .schedule _ _ _ _ _ => 134
  | .delivery _ => 135
  | .tariff _ _ _ _ _ => 136
  | .records _ _ _ _ _ => 137

/-- A notice as an office frame: destination 0 and tag 0, its number and urgent mark, then its fields (10.8, 10.9). -/
def Notice.frame (n : Notice) : OfficeFrame :=
  { destination := 0, tag := 0, kind := BitVec.ofNat 8 n.body.kind
    payload := beBytes 2 n.number.toNat ++ [markByte [n.urgent]] ++ sendFields n.body.fields }

/-! ### Records and tickets (10.9) -/

/-- The marks of an interval in their order (R163). -/
def Marks.list (m : Marks) : List Bool := [m.short, m.extended, m.estimated, m.gap, m.timeSet, m.clamped]

/-- An interval record: 45 bytes, or 56 with a trial. -/
def IntervalRecord.bytes (r : IntervalRecord) : List Byte :=
  [0] ++ beBytes 4 r.number ++ beBytes 1 (r.account.val + 1) ++ beBytes 2 r.customer ++ clockBytes r.start
    ++ beBytes 4 r.length ++ beBytes 2 r.identifier ++ beBytes 1 r.band ++ beBytes 4 r.rate ++ beBytes 8 r.units
    ++ beBytes 8 r.charge ++ beInt 4 r.carry ++ [markByte (r.flags.list ++ [r.trial.isSome])]
    ++ r.trial.elim [] fun t => beBytes 2 t.identifier ++ beBytes 1 t.band ++ beBytes 8 t.charge

/-- A bill record: 49 bytes. -/
def BillRecord.bytes (r : BillRecord) : List Byte :=
  [1] ++ beBytes 4 r.number ++ beBytes 1 (r.account.val + 1) ++ beBytes 2 r.customer ++ beBytes 4 r.billNumber
    ++ [markByte [r.periodStart.isSome, r.periodEnd.isSome]] ++ clockBytes (r.periodStart.getD 0)
    ++ clockBytes (r.periodEnd.getD 0) ++ beBytes 8 r.units ++ beBytes 8 r.charge ++ beBytes 8 r.cents
    ++ beInt 2 r.carry

/-- A record of the record queue. -/
def Record.bytes : Record → List Byte
  | .interval r => r.bytes
  | .bill r => r.bytes

/-- A ticket record of a READ TICKETS response. -/
def TicketRecord.bytes (r : TicketRecord) : List Byte :=
  let t := r.ticket
  let time := fun x : Option DayTime => x.elim [] fun d => beBytes 2 d.day ++ beBytes 3 d.second
  let number := fun (w : Nat) (x : Option Nat) => x.elim [] (beBytes w)
  beBytes 4 t.number ++ beBytes 1 (r.meter.val + 1) ++ beBytes 1 t.set ++ beBytes 2 t.volume ++ beBytes 2 r.live
    ++ beInt 4 r.correction
    ++ [markByte [t.startTime.isSome, t.endTime.isSome, t.price.isSome, t.corrected.isSome, t.driver.isSome]]
    ++ time t.startTime ++ time t.endTime ++ number 4 t.price ++ number 2 t.corrected ++ number 2 t.driver

/-! ### Responses (R183) -/

/-- An entry as stored, or the mark unloaded: a mark byte that is 1 for a loaded entry and 0 otherwise, first (DESIGN CHOICE, log entry
70). -/
def entryFields {α : Type} (e : Option α) (fields : α → List Field) : List Byte :=
  markByte [e.isSome] :: e.elim [] fun x => sendFields (fields x)

def UnitEntry.fields (e : UnitEntry) : List Field :=
  [num 1 (unitKindCode e.kind), num 1 (yesNoCode e.enabled), num 1 (pollClassCode e.pollClass),
    num 1 e.forwardDivisor, num 1 e.owner]

def FeederEntry.fields (e : FeederEntry) : List Field :=
  [entryNo e.board, num 1 e.position, entryNo e.point, entryNo e.account, num 1 (windowModeCode e.mode), num 2 e.low,
    num 2 e.high]

def SetEntry.fields (e : SetEntry) : List Field :=
  [entryNo e.unit, num 1 (yesNoCode e.enabled), num 2 e.rating, num 2 e.capacity, num 2 e.noLoadRate,
    num 2 e.incrementalRate, num 2 e.lowLevel, num 2 e.reserveLevel, num 2 e.lowLoadLimit, num 2 e.overloadLimit,
    num 1 e.overloadHold, num 2 e.warmUpLong, num 2 e.warmUpShort, num 2 e.hotWindow, num 2 e.coolDown,
    num 1 e.crankAttempts, num 1 e.crankWindow, num 2 e.sensorTolerance]

def PointEntry.fields (e : PointEntry) : List Field :=
  (match e.source with
    | .fixed n => [num 1 0, entryNo n]
    | .switched u a b => [num 1 1, entryNo u, entryNo a, entryNo b])
  ++ [num 1 e.deadTime, num 1 e.confirmTimeout, num 2 e.prepareLimit, num 2 e.deadThreshold,
    num 1 (yesNoCode e.autoFault), num 1 (yesNoCode e.autoLoad), num 1 (yesNoCode e.autoFuel)]

def AccountEntry.fields (e : AccountEntry) : List Field :=
  [num 1 (yesNoCode e.active), entryNo e.tariffClass, num 2 e.customer]

def SiteValues.fields (v : SiteValues) : List Field :=
  [num 1 v.holdLimit, num 1 v.lossLimit, num 1 (intervalMinutes.findIdx (· = v.intervalMin)), num 2 v.minDelivery,
    num 1 v.ticketWait, num 2 v.lateLimit]

/-- The gate table as READ TABLE sends it (R189): the six permissions alone, in the order of the plain codes in 10.3, with no kind and no
code beside them: DESIGN CHOICE, log entry 73. -/
def GateTable.fields (g : GateTable) : List Field :=
  [g.alarmReset, g.lampTest, g.indicate, g.resetMax, g.identify, g.message].map fun p => num 1 (permissionCode p)

/-- The pending state: EMPTY, LOADED or COMMIT_PENDING. -/
def PendingTariff.code : PendingTariff → Nat
  | .empty => 0
  | .loaded _ => 1
  | .commitPending _ => 2

/-- READ STATUS (R186). One presence bit stands for the target and the origin of the outstanding command together: DESIGN CHOICE, log
entry 70. -/
def StatusView.fields (v : StatusView) : List Field :=
  [ num 1 (flagCode v.live), num 1 (flagCode v.clock.isSome), clockOfMs v.clock, num 1 (flagCode v.ten),
    num 1 (flagCode v.running), cycleField v.cycleNo, num 2 v.period, num 1 v.queued, num 1 v.officeQueued,
    .maybe (v.outstanding.map fun x =>
      beBytes 1 (x.1.val + 1) ++ beBytes 1 (originCode x.2)),
    .always (presenceBytes 4 v.limitFlags.toList), .always (presenceBytes 2 v.autoBlocked.toList),
    num 8 v.unattributed, num 1 (flagCode v.tariffActive), num 1 v.pending.code, num 1 (yesNoCode v.trial),
    num 1 (yesNoCode v.lockout), num 2 v.recordsHeld, num 4 v.nextRecord, num 1 v.noticesQueued,
    num 1 (flagCode v.overflow), num 2 v.frameErrors, num 2 v.rxOverflows, num 2 v.nextNotice.toNat ]

/-- The item a refused GO LIVE names: its position in the list of checks, and the index where it has one (R15), with a presence bit in
every answer: DESIGN CHOICE, log entry 70. -/
def GoLiveItem.fields : GoLiveItem → List Field
  | .clock => [num 1 0, .maybe none]
  | .cycles => [num 1 1, .maybe none]
  | .tariff => [num 1 2, .maybe none]
  | .slots => [num 1 3, .maybe none]
  | .unit a => [num 1 4, entryOpt (some a)]
  | .feederBoard f => [num 1 5, entryOpt (some f)]
  | .feederPoint f => [num 1 6, entryOpt (some f)]
  | .feederAccount f => [num 1 7, entryOpt (some f)]
  | .setUnit n => [num 1 8, entryOpt (some n)]
  | .pointSource p => [num 1 9, entryOpt (some p)]
  | .pointUnit p => [num 1 10, entryOpt (some p)]
  | .accountClass k => [num 1 11, entryOpt (some k)]

/-- A command place: FREE, QUEUED or SENT, with its code. -/
def Place.fields : Place → List Field
  | .free => [num 1 0, .maybe none]
  | .queued c => [num 1 1, numOpt 1 (some (codePosition c))]
  | .sent c => [num 1 2, numOpt 1 (some (codePosition c))]

/-- A session record (R108). The ticket buffer is sent as its length, its last chunk index, a count byte, and the bytes: DESIGN CHOICE, log
entry 67. One presence bit stands for the whole buffer (log entry 70). In IDLE the live total is absent, as the end of a session drops it:
DESIGN CHOICE, log entry 72. A due REVOKE is sent as the due command of a set or a point is, its code with a presence bit: DESIGN CHOICE,
log entry 54. -/
def MeterRec.fields (r : MeterRec) : List Field :=
  let x := r.session
  let phase := x.map Session.phase
  let wait := phase.bind fun p => match p with
    | .ticketing w _ => w
    | .granting => none
    | .dispensing => none
  let buffer := phase.bind fun p => match p with
    | .ticketing _ b => b
    | .granting => none
    | .dispensing => none
  let state := match phase with
    | none => 0
    | some .granting => 1
    | some .dispensing => 2
    | some (.ticketing _ _) => 3
  [ num 1 state, entryOpt (x.map Session.set), numOpt 2 (x.map Session.permitLimit), numOpt 2 (x.map Session.highWater),
    numOpt 2 (x.map Session.live), num 1 (flagCode (x.any Session.cancel)), num 1 (flagCode (state = 3 && wait.isNone)),
    numOpt 1 wait,
    .maybe (buffer.map fun b => beBytes 1 b.length ++ [b.lastChunk] ++ beBytes 1 b.bytes.length ++ b.bytes),
    num 1 (flagCode buffer.isSome), num 1 (flagCode r.promoted), numOpt 1 r.requestMark ]
  ++ r.place.fields ++ [numOpt 1 (if r.due then some (codePosition .revoke) else none), .maybe (r.lastChunk.map fun c => [c])]

/-- READ UNIT. One presence bit stands for the session record of a meter, which has mark bytes of its own: DESIGN CHOICE, log entry 70. -/
def UnitView.fields (v : UnitView) : List Field :=
  [ numOpt 1 (v.link.state.map linkStateCode), num 1 v.link.misses, num 2 v.link.garbled, num 2 v.link.missed,
    num 2 v.link.forward, num 2 v.drops, .maybe (v.meter.map fun r => sendFields r.fields) ]

/-- READ FEEDER (R57). A feeder that is not loaded is shown by the absence of its state: DESIGN CHOICE, log entry 58. One presence bit
stands for the latest sample and one for the baseline, and the presence bit of a connected set that is none stands in a mark byte of its
own, which begins the baseline's bytes: DESIGN CHOICE, log entry 70. -/
def FeederView.fields (v : FeederView) : List Field :=
  let latest := v.record.bind FeederRec.latest
  let base := v.record.bind FeederRec.baseline
  [ numOpt 1 (v.record.map fun r => sampleStateCode r.state),
    .maybe (latest.map fun x => sendFields
      [num 2 x.power, num 2 x.current, num 2 x.voltage, num 1 (flagCode x.overrange), num 1 (flagCode x.clamped),
        cycleField x.cycle]),
    .maybe (base.map fun b => sendFields [cycleField b.cycle, entryOpt b.connected]),
    numOpt 1 (v.record.map fun r => feederStatusCode r.status), num 1 (yesNoCode v.limitFlag) ]

/-- The fields a run state carries (R74): fault reason, attempt, crank counter, stop-pending mark, warm-up counter, cool-down
counter. -/
def RunState.fields (r : RunState) : List Field :=
  let start := match r with
    | .starting a _ c p => some (a, c, p)
    | _ => none
  let warm := match r with
    | .warming c => some c
    | _ => none
  let cool := match r with
    | .cooling c => some c
    | _ => none
  let fault := match r with
    | .fault reason => some (faultReasonCode reason)
    | _ => none
  [ num 1 (runNameCode r.name), numOpt 1 fault, numOpt 1 (start.map fun x => x.1), numOpt 1 (start.bind fun x => x.2.1),
    num 1 (flagCode (start.any fun x => x.2.2)), numOpt 2 warm, numOpt 2 cool ]

/-- The hire counters and marks (R64, R71, R96). -/
def Hire.fields (h : Hire) : List Field :=
  [ num 8 h.runMs, num 8 h.lowLoadMs, num 8 h.overloadMs, num 8 h.starts, num 8 h.delivered, num 8 h.burnt,
    int 8 h.adjustments, num 8 h.outputMj, num 8 h.meteredMj, marksOf [h.gap, h.clamped] ]

/-- The reservation list, its count first (R95; log entries 66, 70). -/
def reservationBytes (rs : List Reservation) : List Byte :=
  beBytes 1 rs.length ++ (rs.map fun r => beBytes 1 (r.point.val + 1) ++ beBytes 3 r.load).flatten

/-- The set record. R73, R74 and R96 list it in parts that no rule puts into one order: the fields of R74 in their order, the hire
counters with the energy of R64 and the marks of R71 where R74 has the hire counters, and the baseline of R73 after LOCAL_START; the
tank of R99 follows it in READ SET (log entry 51). One presence bit stands for the latest report and one for the baseline: DESIGN
CHOICE, log entry 70. -/
def SetRec.fields (r : SetRec) : List Field :=
  r.run.fields ++ [numOpt 4 (r.stopCycle.map BitVec.toNat)] ++ r.place.fields
  ++ [ numOpt 1 (r.due.map codePosition), num 1 (flagCode r.unreachable),
    .maybe (r.latest.map fun x => sendFields
      [num 1 (engineStateCode x.engine), num 2 x.power, num 2 x.sensor, .always [x.alarm], cycleField x.cycle]),
    numOpt 3 r.loadFraction, num 2 r.overloadRun, .always (reservationBytes r.reservations) ]
  ++ r.hire.fields ++ [num 1 (yesNoCode r.localStart),
    .maybe (r.baseline.map fun b => sendFields [num 2 b.power, cycleField b.cycle, num 1 (flagCode b.clamped)])]

/-- The tank account (R99). -/
def Tank.fields (t : Tank) : List Field :=
  [ num 2 t.capacity, num 2 t.book, num 5 t.residue, num 8 t.delivered, int 8 t.adjustments,
    marksOf [t.low, t.reserve, t.discrepancy], num 1 t.discCount ]

/-- A position as READ POINT shows it (R124): 0 not loaded, 1 FIXED with its set, 2 SWITCHED with A, B, OPEN or UNKNOWN. The spec prints no
list of these values: DESIGN CHOICE, log entry 58. -/
def PointPos.fields : PointPos → List Field
  | .notLoaded => [num 1 0, .maybe none, .maybe none]
  | .fixed n => [num 1 1, entryOpt (some n), .maybe none]
  | .switched pos => [num 1 2, .maybe none, numOpt 1 (some (swPosCode pos))]

/-- The phase counter, whichever the phase uses: READ POINT sends it as one field, and the sequencer state tells which counter it is
(R124; DESIGN CHOICE, log entry 75). -/
def PhaseCounter.value : PhaseCounter → Option Nat
  | .none => Option.none
  | .prepare n => some n
  | .confirm n => some n
  | .dead n => some n
  | .window n => some n

/-- The fields of a sequence in flight (R124), with a mark byte of their own for those that may be none: DESIGN CHOICE, log entry 70.
A verification NONE and an abort mark of none are the first of their lists, sent as 0: DESIGN CHOICE, log entry 54. -/
def Sequence.fields (q : Sequence) : List Field :=
  [ num 1 (sideCode q.targetSide), entryNo q.targetSet, num 1 (swPosCode q.originalPos), entryOpt q.originalSet,
    num 1 (causeCode q.cause), num 3 q.reservedLoad, num 1 (verificationCode q.verification),
    numOpt 4 (q.openCycle.map BitVec.toNat), num 1 (abortCode q.abort), numOpt 1 (q.recovery.map recoveryCode),
    numOpt 2 q.counter.value ]

/-- READ POINT (R124). One presence bit stands for the whole of the fields in flight, one for the last outcome and one for the last
refusal, and the mark byte of the fields in flight begins their bytes: DESIGN CHOICE, log entry 70. -/
def PointView.fields (v : PointView) : List Field :=
  let r := v.record
  v.position.fields ++ [ numOpt 1 (r.selector.map selectorCode),
    num 1 (r.seq.elim 0 fun q => phaseCode q.phase), .maybe (r.seq.map fun q => sendFields q.fields) ]
  ++ r.place.fields ++ [ numOpt 1 (r.due.map codePosition), num 1 (yesNoCode r.autoBlocked),
    .maybe (r.lastOutcome.map fun x => sendFields
      [num 1 (seqOutcomeCode x.outcome), num 1 (causeCode x.cause), cycleField x.cycle]),
    .maybe (r.lastRefusal.map fun x => sendFields
      [num 1 (causeCode x.cause), num 1 (resultCodeOf x.code), cycleField x.cycle]) ]

/-- READ ACCOUNT (R177). The units since the last bill and the charge accumulator take 8 bytes each, as in the bill record: DESIGN
CHOICE, log entry 64. One presence bit stands for the entry, and one shows whether there is an open interval and stands for all of it:
DESIGN CHOICE, log entry 70. -/
def AccountView.fields (v : AccountView) : List Field :=
  let r := v.record
  [ .maybe (v.entry.map fun e => sendFields e.fields),
    .maybe (v.interval.map fun i => sendFields
      [ .always (clockBytes i.start), .always (clockBytes i.nextBoundary), num 12 r.accumulator,
        marksOf r.marks.list ]),
    int 4 r.carry, num 8 r.units, num 8 r.charge, int 2 r.chargeCarry, num 4 r.nextBill, clockOpt r.lastBill ]

/-- A list of items, its count in one byte first, as R196 has it for requests: DESIGN CHOICE for answers, log entry 70. -/
def listBytes {α : Type} (xs : List α) (bytes : α → List Byte) : List Byte :=
  beBytes 1 xs.length ++ (xs.map bytes).flatten

/-- A band: start and rate. -/
def Band.bytes (b : Band) : List Byte := beBytes 3 b.start ++ beBytes 3 b.rate

/-- READ TARIFF (R159): the states in the order of their lists in R147, trial on or off, the latch set or clear; and the level of TEN,
high 1 and low 0 (log entry 54). One presence bit stands for the whole of what is added, and is 0 for an absent table and for an absent
class alike: DESIGN CHOICE, log entry 69. -/
def TariffView.fields (v : TariffView) : List Field :=
  [ num 1 (flagCode v.active), num 1 v.pending.code, num 1 (yesNoCode v.trial), num 1 (yesNoCode v.lockout),
    num 1 (flagCode v.ten) ] ++
  match v.detail with
  | .tableAbsent => [.maybe none]
  | .table identifier mode classes =>
    [.maybe (some (beBytes 2 identifier ++ beBytes 1 (roundingCode mode)
      ++ listBytes classes fun c => beBytes 1 (c.val + 1)))]
  | .cls bands => [.maybe (bands.map fun bs => listBytes bs Band.bytes)]

/-- The data of a reply, in the order its rule lists them; the classes of a tariff table are sent as a list of their numbers (DESIGN
CHOICE, log entry 75). The adjustment of TANK SET, whose range no rule states, takes four signed
bytes (R103; log entry 47). The presence bit of READ SCHEDULE's clock time stands after the list of entries: DESIGN CHOICE, log entry
70. -/
def ReplyData.bytes : ReplyData → List Byte
  | .none => []
  | .clock ms => clockBytes (ms / 1000)
  | .period ms => beBytes 2 ms
  | .status v => sendFields v.fields
  | .item i => sendFields i.fields
  | .accountItem k => beBytes 1 (k.val + 1)
  | .unitEntry e => entryFields e UnitEntry.fields
  | .feederEntry e => entryFields e FeederEntry.fields
  | .setEntry e => entryFields e SetEntry.fields
  | .pointEntry e => entryFields e PointEntry.fields
  | .accountEntry e => entryFields e AccountEntry.fields
  | .site v => sendFields v.fields
  | .gate g => sendFields g.fields
  | .unit v => sendFields v.fields
  | .feeder v => sendFields v.fields
  | .set v => sendFields (v.record.fields ++ v.tank.fields)
  | .point v => sendFields v.fields
  | .account v => sendFields v.fields
  | .accepted phase load => beBytes 1 (phase.elim 0 phaseCode) ++ beBytes 3 load
  | .schedule entries now =>
    listBytes entries (fun e => clockBytes e.time ++ beBytes 1 (e.point.val + 1) ++ beBytes 1 (sideCode e.side))
      ++ sendFields [clockOfMs now]
  | .tank book adjustment => beBytes 2 book ++ beInt 4 adjustment
  | .tickets held claimed xs =>
    beBytes 1 held ++ beBytes 1 claimed ++ beBytes 1 xs.length ++ (xs.map TicketRecord.bytes).flatten
  | .removed count => beBytes 1 count
  | .classes identifier present => beBytes 2 identifier ++ listBytes present fun c => beBytes 1 (c.val + 1)
  | .tariff v => sendFields v.fields
  | .records held xs =>
    beBytes 2 held ++ beBytes 1 xs.length ++ (xs.map Record.bytes).flatten
  | .released count oldest => sendFields [num 2 count, numOpt 4 oldest]
  | .bills count => beBytes 1 count

/-- A response as an office frame: the destination, tag and kind of the frame it answers, then the result code and the data
(R183). -/
def Response.frame (r : Response) : OfficeFrame :=
  { destination := r.destination, tag := r.tag, kind := r.kind
    payload := beBytes 1 (resultCodeOf r.reply.result) ++ r.reply.data.bytes }

/-- A report copy as an office frame: kind 144, the unit's address as destination, the cycle number and the report (R194, 10.9). -/
def Copy.frame (c : Copy) : OfficeFrame :=
  { destination := BitVec.ofNat 8 (c.unit.val + 1), tag := 0, kind := 144
    payload := beBytes 4 c.cycle.toNat ++ c.report }

/-! ### OTX, ATTN and LIVE (R184, R193) -/

/-- The office frame in transmission (R184). -/
def Port.outFrame (p : Port) : Option OfficeFrame :=
  match p.tx with
  | none => none
  | some .response => p.response.map Response.frame
  | some .notice => p.notices.head?.map Notice.frame
  | some .copy => p.copies.head?.map Copy.frame

/-- The bytes of the frame in transmission on OTX (R179, R184). -/
def State.otxBytes (s : State) : Option (List Byte) := s.port.outFrame.map officeFrameBytes

/-- ATTN is high while the notice queue holds a notice (R193). -/
def State.attn (s : State) : Bool := !s.port.notices.isEmpty

/-- LIVE is high while the site state is LIVE (R193). -/
def State.liveLine (s : State) : Bool := s.site.live

end Sys2Proof.Machine
end

