-- ==== Sys2Proof/Machine/Frames.lean ====
section
/-! DEFINITION. The office frame that carries a command: kind number and payload of every management request (R185, R196), and of
every pass-through command (R188). A value that an enumerated field does not name is sent as 255. -/

namespace Sys2Proof.Machine

/-- Values sent in the given widths. -/
def packed : List Nat → List Nat → List Byte
  | w :: ws, v :: vs => beBytes w v ++ packed ws vs
  | _, _ => []

/-- The byte of an enumerated value. -/
def nameCode {α : Type} (code : α → Nat) (x : Option α) : Nat := x.elim 255 code

def tableNameCode : TableName → Nat
  | .unit => 0 | .feeder => 1 | .set => 2 | .point => 3 | .account => 4 | .site => 5 | .gate => 6
def tariffNameCode : TariffName → Nat
  | .active => 0 | .pending => 1

/-- A mask of `w` bytes, position 1 in bit 0 of the first byte (R196). -/
def maskBytes : Nat → Nat → List Byte
  | 0, _ => []
  | w + 1, mask => BitVec.ofNat 8 mask :: maskBytes w (mask / 256)

/-- A load request's payload: its index, then nothing or the fields (R196). -/
def loadPayload {α : Type} (index : Nat) (form : LoadForm α) (fields : α → List Byte) : List Byte :=
  beBytes 1 index ++
    match form with
    | .clear => []
    | .entry u => fields u

def unitBytes (u : UnitFields) : List Byte :=
  packed [1, 1, 1, 1, 1]
    [nameCode unitKindCode u.kind, nameCode yesNoCode u.enabled, nameCode pollClassCode u.pollClass,
      u.forwardDivisor, u.owner]

def feederBytes (u : FeederFields) : List Byte :=
  packed [1, 1, 1, 1, 1, 2, 2]
    [u.board, u.position, u.point, u.account, nameCode windowModeCode u.mode, u.low, u.high]

def setBytes (u : SetFields) : List Byte :=
  packed [1, 1, 2, 2, 2, 2, 2, 2, 2, 2, 1, 2, 2, 2, 2, 1, 1, 2]
    [u.unit, nameCode yesNoCode u.enabled, u.rating, u.capacity, u.noLoadRate, u.incrementalRate, u.lowLevel,
      u.reserveLevel, u.lowLoadLimit, u.overloadLimit, u.overloadHold, u.warmUpLong, u.warmUpShort, u.hotWindow,
      u.coolDown, u.crankAttempts, u.crankWindow, u.sensorTolerance]

/-- The kind byte of a point and the fields of that kind. -/
def sourceParts : SourceFields → Nat × List Nat
  | .fixed n => (0, [n])
  | .switched u a b => (1, [u, a, b])
  | .unnamed => (255, [])

/-- The fields of LOAD POINT: the mark byte of the timings, the kind, its fields, the timings present, and the rest. A kind byte
that names no kind has no fields of its own (log entry 29). -/
def pointBytes (u : PointFields) : List Byte :=
  let parts := sourceParts u.source
  let marks := [u.deadTime.isSome, u.confirmTimeout.isSome, u.prepareLimit.isSome]
  let mark := marks.foldr (fun b acc => b.toNat + 2 * acc) 0
  let widths := if u.source = .unnamed then commonWidths mark else pointWidths parts.1 mark
  beBytes 1 mark ++ beBytes 1 parts.1 ++
    packed widths
      (parts.2 ++ u.deadTime.toList ++ u.confirmTimeout.toList ++ u.prepareLimit.toList ++
        [u.deadThreshold, nameCode yesNoCode u.autoFault, nameCode yesNoCode u.autoLoad, nameCode yesNoCode u.autoFuel])

def accountBytes (u : AccountFields) : List Byte :=
  packed [1, 1, 2] [nameCode yesNoCode u.active, u.tariffClass, u.customer]

def siteBytes (u : SiteFields) : List Byte :=
  packed [1, 1, 1, 2, 1, 2]
    [u.holdLimit, u.lossLimit, intervalMinutes.findIdx (· = u.intervalMin), u.minDelivery, u.ticketWait, u.lateLimit]

/-- The level of a TANK SET as sent (R196). -/
def tankNumber : TankLevel → Nat
  | .level l => l
  | .sensor => 65535

/-- A management request's frame. -/
def manageFrame (tag : Byte) (kind : Nat) (payload : List Byte) : Option OfficeFrame :=
  some ⟨0, tag, BitVec.ofNat 8 kind, payload⟩

/-- A pass-through command's frame: an argument count and the argument bytes (R188). -/
def passFrame (tag : Byte) (a : Addr) (code : Code) (args : List Byte) : Option OfficeFrame :=
  some ⟨BitVec.ofNat 8 (a.val + 1), tag, BitVec.ofNat 8 (codeNumber code), beBytes 1 args.length ++ args⟩

/-- The office frame that carries a command; none for a command that is no frame of its own. -/
def officeFrameOf : Instr → Option OfficeFrame
  | .readStatus tag _ => manageFrame tag 1 []
  | .setClock tag day second ms => manageFrame tag 2 (packed [2, 3, 2] [day, second, ms])
  | .setCycle tag period => manageFrame tag 3 (packed [2] [period])
  | .startCycles tag => manageFrame tag 4 []
  | .stopCycles tag => manageFrame tag 5 []
  | .goLive tag => manageFrame tag 6 []
  | .standDown tag => manageFrame tag 7 []
  | .fieldRestart tag => manageFrame tag 8 []
  | .loadUnit tag address form => manageFrame tag 9 (loadPayload address form unitBytes)
  | .loadFeeder tag feeder form => manageFrame tag 10 (loadPayload feeder form feederBytes)
  | .loadSet tag set form => manageFrame tag 11 (loadPayload set form setBytes)
  | .loadPoint tag point form => manageFrame tag 12 (loadPayload point form pointBytes)
  | .loadAccount tag account form => manageFrame tag 13 (loadPayload account form accountBytes)
  | .loadSite tag values => manageFrame tag 14 (siteBytes values)
  | .loadGate tag kind code permission =>
    manageFrame tag 15 (packed [1, 1, 1]
      [nameCode unitKindCode kind, nameCode codePosition code, nameCode permissionCode permission])
  | .readTable tag table index => manageFrame tag 16 (packed [1, 1] [nameCode tableNameCode table, index])
  | .readUnit tag address => manageFrame tag 17 (packed [1] [address])
  | .readFeeder tag feeder => manageFrame tag 18 (packed [1] [feeder])
  | .readSet tag set => manageFrame tag 19 (packed [1] [set])
  | .readPoint tag point => manageFrame tag 20 (packed [1] [point])
  | .readAccount tag account => manageFrame tag 21 (packed [1] [account])
  | .clearFlagsFeederLimit tag mask => manageFrame tag 22 (beBytes 1 0 ++ maskBytes 4 mask)
  | .clearFlagsSetFlag tag mask => manageFrame tag 22 (beBytes 1 1 ++ maskBytes 1 mask)
  | .clearFlagsTankFlag tag mask names =>
    manageFrame tag 22 (beBytes 1 2 ++ maskBytes 1 mask ++ [markByte [names.low, names.reserve, names.discrepancy]])
  | .clearFlagsPointFlag tag mask => manageFrame tag 22 (beBytes 1 3 ++ maskBytes 2 mask)
  | .clearFlagsUnitCounts tag address => manageFrame tag 22 (packed [1, 1] [4, address])
  | .setStart tag set => manageFrame tag 23 (packed [1] [set])
  | .setStop tag set => manageFrame tag 24 (packed [1] [set])
  | .setClearFault tag set => manageFrame tag 25 (packed [1] [set])
  | .clearHire tag set => manageFrame tag 26 (packed [1] [set])
  | .changeover tag point side => manageFrame tag 27 (packed [1, 1] [point, nameCode sideCode side])
  | .cancelChangeover tag point => manageFrame tag 28 (packed [1] [point])
  | .loadSchedule tag day second point side =>
    manageFrame tag 29 (packed [2, 3, 1, 1] [day, second, point, nameCode sideCode side])
  | .deleteSchedule tag point day second => manageFrame tag 30 (packed [1, 2, 3] [point, day, second])
  | .readSchedule tag => manageFrame tag 31 []
  | .tankSet tag set level => manageFrame tag 32 (packed [1, 2] [set, tankNumber level])
  | .cancelDelivery tag meter => manageFrame tag 33 (packed [1] [meter])
  | .readTickets tag => manageFrame tag 34 []
  | .releaseTickets tag count => manageFrame tag 35 (packed [1] [count])
  | .loadTariffClass tag _ identifier mode cls bands =>
    manageFrame tag 36 (packed [2, 1, 1, 1] [identifier, nameCode roundingCode mode, cls, bands.length]
      ++ (bands.map Band.bytes).flatten)
  | .commitTariff tag _ => manageFrame tag 37 []
  | .discardTariff tag _ => manageFrame tag 38 []
  | .trial tag on => manageFrame tag 39 (packed [1] [nameCode yesNoCode on])
  | .readTariff tag _ table cls => manageFrame tag 40 (packed [1, 1] [nameCode tariffNameCode table, cls])
  | .readRecords tag => manageFrame tag 41 []
  | .releaseRecords tag count => manageFrame tag 42 (packed [2] [count])
  | .closeBill tag account => manageFrame tag 43 (packed [1] [account])
  | .alarmReset tag a args => passFrame tag a .alarmReset args
  | .lampTest tag a args => passFrame tag a .lampTest args
  | .indicate tag a args => passFrame tag a .indicate args
  | .resetMax tag a args => passFrame tag a .resetMax args
  | .identify tag a args => passFrame tag a .identify args
  | .message tag a args => passFrame tag a .message args
  | .unlistedOfficeFrame destination tag kind payload => some ⟨destination, tag, kind, payload⟩
  | .powerOnReset _ => none
  | .lineReset => none
  | .tenFall => none
  | .cycleStart _ _ => none
  | .loadChangeoverRequest _ => none
  | .holdLimitCloseOff _ => none
  | .warmUpExpiry _ => none
  | .coolDownExpiry _ => none
  | .crankWindowExpiry _ => none
  | .prepareTimeout _ => none
  | .confirmTimeout _ => none
  | .deadTimeExpiry _ => none
  | .windowExpiry _ => none
  | .ticketWaitExpiry _ => none
  | .scheduleFire => none
  | .intervalCloseDue => none
  | .slotEnd _ _ => none
  | .linkLost _ => none
  | .discrepancySet _ => none
  | .byteGapTimeout => none
  | .officeFrameReceived _ _ => none
  | .frameTransmitted => none
  | .headerWindowEnd => none

/-- The level of TEN a command finds, where it carries one (R149; log entry 11). -/
def tenLevel : Instr → Option Bool
  | .readStatus _ ten => some ten
  | .loadTariffClass _ ten _ _ _ _ => some ten
  | .commitTariff _ ten => some ten
  | .discardTariff _ ten => some ten
  | .readTariff _ ten _ _ => some ten
  | _ => none

end Sys2Proof.Machine
end

