-- ==== Sys2Proof/WellFormed.lean ====
section
/-! DEFINITION. Well-formed commands: each operand within what the line that carries it can say (10.8, 10.9, R196). A value that
a rule refuses or clamps is well-formed; one that no frame can hold is not. -/

namespace Sys2Proof

open Machine

/-- A value of one byte. -/
def byteFits (n : Nat) : Bool := n < 256
/-- A value of two bytes. -/
def wordFits (n : Nat) : Bool := n < 65536
/-- A value of three bytes. -/
def tripleFits (n : Nat) : Bool := n < 16777216

def UnitFields.fits (u : UnitFields) : Bool := byteFits u.forwardDivisor && byteFits u.owner

def FeederFields.fits (u : FeederFields) : Bool :=
  [u.board, u.position, u.point, u.account].all byteFits && [u.low, u.high].all wordFits

def SetFields.fits (u : SetFields) : Bool :=
  [u.unit, u.overloadHold, u.crankAttempts, u.crankWindow].all byteFits
    && [u.rating, u.capacity, u.noLoadRate, u.incrementalRate, u.lowLevel, u.reserveLevel, u.lowLoadLimit,
      u.overloadLimit, u.warmUpLong, u.warmUpShort, u.hotWindow, u.coolDown, u.sensorTolerance].all wordFits

def SourceFields.fits : SourceFields → Bool
  | .fixed n => byteFits n
  | .switched u a b => byteFits u && byteFits a && byteFits b
  | .unnamed => true

/-- A kind byte that names no kind carries no fields that could be read. -/
def PointFields.fits (u : PointFields) : Bool :=
  u.source.fits && u.deadTime.all byteFits && u.confirmTimeout.all byteFits && u.prepareLimit.all wordFits
    && wordFits u.deadThreshold && (u.source ≠ .unnamed || u = ⟨.unnamed, none, none, none, 0, none, none, none⟩)

def AccountFields.fits (u : AccountFields) : Bool := byteFits u.tariffClass && wordFits u.customer

/-- The interval length is one of R12, or 0 for a byte that names none. -/
def SiteFields.fits (u : SiteFields) : Bool :=
  [u.holdLimit, u.lossLimit, u.ticketWait].all byteFits && [u.minDelivery, u.lateLimit].all wordFits
    && (u.intervalMin = 0 || intervalMinutes.contains u.intervalMin)

/-- A load request fits when its index and its fields do. -/
def LoadForm.fits {α : Type} (fields : α → Bool) : LoadForm α → Bool
  | .clear => true
  | .entry u => fields u

/-- 65535 is how SENSOR is sent (R196). -/
def TankLevel.fits : TankLevel → Bool
  | .level l => l < 65535
  | .sensor => true

/-- The bands of LOAD TARIFF CLASS: at most 255, each of 6 bytes, in a payload of at most 1024. -/
def bandsFit (bands : List Band) : Bool :=
  bands.length ≤ 169 && bands.all fun b => tripleFits b.start && tripleFits b.rate

/-- The events a cycle start may leave to commands of their own. -/
def TimedEvent.ofCycleStart : TimedEvent → Bool
  | .linkLost _ => false
  | .discrepancy _ => false
  | _ => true

/-- The events a slot end may leave to commands of their own. -/
def TimedEvent.ofSlotEnd : TimedEvent → Bool
  | .linkLost _ => true
  | .discrepancy _ => true
  | _ => false

/-- A frame received in a slot is no longer than a field frame can be. -/
def SlotInput.fits : SlotInput → Bool
  | .nothing => true
  | .contention => true
  | .frame bytes => bytes.length ≤ 259

/-- A frame that another row lists: a request whose payload fits, or a pass-through of a plain code (R182, R188). -/
def listedFrame (f : OfficeFrame) : Bool :=
  if f.destination = 0 then (requestOf f.kind.toNat f.payload).isSome
  else
    f.destination.toNat ≤ 63 && (passArgs f.payload).isSome
      && (codeOfKind f.kind.toNat).any fun c => !codeOwned c

/-- A well-formed command. -/
def Instr.wellFormed : Instr → Bool
  | .cycleStart _ deferred => deferred.all TimedEvent.ofCycleStart
  | .slotEnd received deferred => received.fits && deferred.all TimedEvent.ofSlotEnd
  | .setClock _ day second ms => wordFits day && tripleFits second && wordFits ms
  | .setCycle _ period => wordFits period
  | .loadUnit _ address form => byteFits address && form.fits UnitFields.fits
  | .loadFeeder _ feeder form => byteFits feeder && form.fits FeederFields.fits
  | .loadSet _ set form => byteFits set && form.fits SetFields.fits
  | .loadPoint _ point form => byteFits point && form.fits PointFields.fits
  | .loadAccount _ account form => byteFits account && form.fits AccountFields.fits
  | .loadSite _ values => values.fits
  | .readTable _ _ index => byteFits index
  | .readUnit _ address => byteFits address
  | .readFeeder _ feeder => byteFits feeder
  | .readSet _ set => byteFits set
  | .readPoint _ point => byteFits point
  | .readAccount _ account => byteFits account
  | .clearFlagsFeederLimit _ mask => mask < 2 ^ 32
  | .clearFlagsSetFlag _ mask => byteFits mask
  | .clearFlagsTankFlag _ mask _ => byteFits mask
  | .clearFlagsPointFlag _ mask => wordFits mask
  | .clearFlagsUnitCounts _ address => byteFits address
  | .setStart _ set => byteFits set
  | .setStop _ set => byteFits set
  | .setClearFault _ set => byteFits set
  | .clearHire _ set => byteFits set
  | .changeover _ point _ => byteFits point
  | .cancelChangeover _ point => byteFits point
  | .loadSchedule _ day second point _ => wordFits day && tripleFits second && byteFits point
  | .deleteSchedule _ point day second => byteFits point && wordFits day && tripleFits second
  | .tankSet _ set level => byteFits set && level.fits
  | .cancelDelivery _ meter => byteFits meter
  | .releaseTickets _ count => byteFits count
  | .loadTariffClass _ _ identifier _ cls bands => wordFits identifier && byteFits cls && bandsFit bands
  | .readTariff _ _ _ cls => byteFits cls
  | .releaseRecords _ count => wordFits count
  | .closeBill _ account => byteFits account
  | .alarmReset _ _ args => args.length ≤ 8
  | .lampTest _ _ args => args.length ≤ 8
  | .indicate _ _ args => args.length ≤ 8
  | .resetMax _ _ args => args.length ≤ 8
  | .identify _ _ args => args.length ≤ 8
  | .message _ _ args => args.length ≤ 8
  | .unlistedOfficeFrame destination tag kind payload =>
    payload.length ≤ 1024 && !listedFrame ⟨destination, tag, kind, payload⟩
  | .powerOnReset _ => true
  | .lineReset => true
  | .tenFall => true
  | .loadChangeoverRequest _ => true
  | .holdLimitCloseOff _ => true
  | .warmUpExpiry _ => true
  | .coolDownExpiry _ => true
  | .crankWindowExpiry _ => true
  | .prepareTimeout _ => true
  | .confirmTimeout _ => true
  | .deadTimeExpiry _ => true
  | .windowExpiry _ => true
  | .ticketWaitExpiry _ => true
  | .scheduleFire => true
  | .intervalCloseDue => true
  | .linkLost _ => true
  | .discrepancySet _ => true
  | .byteGapTimeout => true
  | .officeFrameReceived _ _ => true
  | .frameTransmitted => true
  | .readStatus _ _ => true
  | .startCycles _ => true
  | .stopCycles _ => true
  | .goLive _ => true
  | .standDown _ => true
  | .fieldRestart _ => true
  | .loadGate _ _ _ _ => true
  | .readSchedule _ => true
  | .readTickets _ => true
  | .commitTariff _ _ => true
  | .discardTariff _ _ => true
  | .trial _ _ => true
  | .readRecords _ => true
  | .headerWindowEnd => true

end Sys2Proof
end

