-- ==== Sys2Proof/Certificates/Slice0/Obligations.lean ====
section
/-! DEFINITION. The statements for the provers, with the words they share. An equation `exec c s = .next t` gives the whole next
state, so it is its own frame. -/

namespace Sys2Proof.Stated

open Sys2Proof Sys2Proof.Machine

/-! ### Words of the statements -/

/-- No response waits, no received frame waits, and no cycle start or slot end has left anything over (log entry 6): a request that
arrives is taken at once (R182). -/
def Calm (s : State) : Prop := s.port.response = none ∧ s.port.rxQueue = [] ∧ s.due = []

/-- The row of a timed event. -/
def rowOf : TimedEvent → Instr
  | .loadRequest n => .loadChangeoverRequest n
  | .holdLimit f => .holdLimitCloseOff f
  | .warmUp n => .warmUpExpiry n
  | .coolDown n => .coolDownExpiry n
  | .crankWindow n => .crankWindowExpiry n
  | .prepare p => .prepareTimeout p
  | .confirm p => .confirmTimeout p
  | .deadTime p => .deadTimeExpiry p
  | .window p => .windowExpiry p
  | .ticketWait m => .ticketWaitExpiry m
  | .schedule => .scheduleFire
  | .intervalClose => .intervalCloseDue
  | .linkLost a => .linkLost a
  | .discrepancy n => .discrepancySet n

/-- The cycle is RUNNING, every slot of it has ended, and nothing is left over: the moment before a cycle start. -/
structure CycleDone (s : State) : Prop where
  running : s.engine.running = true
  ended : s.engine.slots.length ≤ s.engine.slotsEnded
  settled : s.due = []

/-- The unit has a slot in the EVERY pass: an enabled unit of class EVERY, or of a meter held promoted (R20). -/
def everyPass (s : State) (a : Addr) : Bool :=
  (s.unitEntry a).any fun e => e.enabled && (e.pollClass = .every ||
    allMeters.any fun m => (s.meter m).promoted && s.meterUnit m = some a)

/-- The unit takes part in the ROUND pass: any other enabled unit (R21). -/
def inRound (s : State) (a : Addr) : Bool := (s.unitEntry a).any UnitEntry.enabled && !everyPass s a

/-- The slots of a new cycle: the reply slot, the EVERY pass in ascending order, and the ROUND pass from the poll pointer up and around,
16 at most; the poll pointer goes one above the last unit of the ROUND pass (R20, R21). -/
def SlotsAllocated (s t : State) (reply : Option Addr) : Prop :=
  let first := (reply.toList ++ allUnits.filter fun a => everyPass s a && reply ≠ some a).take 16
  let around := (allUnits.filter fun a => s.engine.pollPointer ≤ a) ++ allUnits.filter fun a => a < s.engine.pollPointer
  let round := (around.filter fun a => inRound s a && !first.contains a).take (16 - first.length)
  t.engine.slots = first ++ round ∧ (∀ a, round.getLast? = some a → t.engine.pollPointer = a + 1) ∧
    (round = [] → t.engine.pollPointer = s.engine.pollPointer)

/-- The engine has taken an entry into the header: it is outstanding, and its origin's place is SENT (R23, R35, R78, R108, R132). -/
structure CommandSent (s t : State) (c : Command) : Prop where
  outstanding : t.engine.outstanding = some ⟨c, false, false⟩
  header : t.engine.slots ≠ [] → ∃ h, t.engine.header = some h ∧ h.command = some c
  sets : ∀ n, c.origin = .sets n → (t.setRec n).place = .sent c.code
  points : ∀ p, c.origin = .changeover p → (t.pointRec p).place = .sent c.code
  meters : ∀ m, c.origin = .fuel m → (t.meter m).place = .sent c.code

/-- The state with a management request answered: the response in its slot, and begun where the transmitter is free (R183,
R184). -/
def answered (s : State) (tag : Byte) (kind : Nat) (reply : Reply) : State :=
  { s with port := { s.port with
      response := some ⟨0, tag, BitVec.ofNat 8 kind, reply⟩
      tx := s.port.tx.or (some .response) } }

/-- A notice raised in the event is queued, where the queue has ample room for what one event raises (R191, R192). -/
def Told (s t : State) (body : NoticeBody) : Prop :=
  s.port.notices.length ≤ 4 → ∃ x ∈ t.port.notices, x.body = body

/-- A notice is raised in the port (R191, R192): it takes the next number whether or not it finds room; it joins the tail where fewer than 32
are queued; where 32 are, the overflow mark is set, an ordinary notice is lost, and an urgent one takes the place of the newest notice
that is neither urgent nor in transmission, or is lost where there is none. -/
structure NoticeRaised (p q : Port) (urgent : Bool) (body : NoticeBody) : Prop where
  number : q.nextNotice = p.nextNotice + 1
  room : p.notices.length < 32 → q.notices = p.notices ++ [⟨p.nextNotice, urgent, body⟩] ∧ q.overflow = p.overflow
  lost : 32 ≤ p.notices.length → urgent = false → q.notices = p.notices ∧ q.overflow = true
  displacing : ∀ kept x newer, 32 ≤ p.notices.length → urgent = true → p.notices = kept ++ x :: newer →
    x.urgent = false → (p.tx = some .notice → kept ≠ []) → (∀ y ∈ newer, y.urgent = true) →
    q.notices = kept ++ newer ++ [⟨p.nextNotice, urgent, body⟩] ∧ q.overflow = true
  noPlace : 32 ≤ p.notices.length → urgent = true →
    (∀ x ∈ if p.tx = some .notice then p.notices.tail else p.notices, x.urgent = true) →
    q.notices = p.notices ∧ q.overflow = true

/-- What no event of a set or a point touches. -/
structure SameOutside (s t : State) : Prop where
  tables : t.tables = s.tables
  site : t.site = s.site
  engine : { t.engine with queue := s.engine.queue } = s.engine
  feeders : t.feeders = s.feeders
  limitFlags : t.limitFlags = s.limitFlags
  unattributed : t.unattributed = s.unattributed
  tanks : t.tanks = s.tanks
  meters : t.meters = s.meters
  tickets : t.tickets = s.tickets
  schedule : t.schedule = s.schedule
  tariff : t.tariff = s.tariff
  ten : t.ten = s.ten
  billing : t.billing = s.billing
  pending : t.pending = s.pending

/-- The causes of automatic requests (R127). -/
def autoCause (c : Cause) : Prop := c = .fault ∨ c = .load ∨ c = .fuel

/-- The CHANGEOVER notice of the end of a sequence (R126, R130). -/
def endNotice (s : State) (p : PointNo) (q : Sequence) (o : SeqOutcome) (manual : Option ManualPart) (pos : SwPos) :
    NoticeBody :=
  .changeover
    { point := p, outcome := o, manual
      ended := some
        { cause := q.cause, targetSide := q.targetSide, targetSet := q.targetSet
          originalPos := q.originalPos, originalSet := q.originalSet
          recovery := q.recovery, verification := q.verification }
      finalPos := pos, cycle := s.engine.cycleNo }

/-- A sequence has ended with an outcome (R130, R131), `manual` what a manual operation or a unit fault adds to the notice (R126): what
the end does, and what it leaves alone. -/
structure EndedBy (s t : State) (p : PointNo) (q : Sequence) (o : SeqOutcome) (manual : Option ManualPart) :
    Prop where
  idle : (t.pointRec p).seq = none
  due : (t.pointRec p).due = none
  place : (t.pointRec p).place = (s.pointRec p).place.unqueue
  withdrawn : ∀ c ∈ t.engine.queue, c ∈ s.engine.queue ∧ c.origin ≠ .changeover p
  released : (t.setRec q.targetSet).reservations =
    (s.setRec q.targetSet).reservations.filter fun x => x.point ≠ p
  last : (t.pointRec p).lastOutcome = some ⟨o, q.cause, s.engine.cycleNo⟩
  blocked : (t.pointRec p).autoBlocked = true ↔ (s.pointRec p).autoBlocked = true ∨ o = .dark ∨
    (autoCause q.cause ∧ o ≠ .done ∧ o ≠ .doneUnverified ∧ o ≠ .cancelled)
  position : (t.pointRec p).position = (s.pointRec p).position
  others : ∀ k, k ≠ p → t.pointRec k = s.pointRec k
  sets : ∀ n, { t.setRec n with reservations := [] } = { s.setRec n with reservations := [] }
  told : s.port.notices.length ≤ 4 → ∃ x ∈ t.port.notices, x.urgent = decide (o = .dark) ∧
    x.body = endNotice s p q o manual (s.pointRec p).position

/-- A sequence has ended with an outcome, by no hand at its unit. -/
def Ended (s t : State) (p : PointNo) (q : Sequence) (o : SeqOutcome) : Prop := EndedBy s t p q o none

/-- A set is ONLINE with its unreachable mark clear. -/
def Online (s : State) (n : SetNo) : Prop := (s.setRec n).run = .online ∧ (s.setRec n).unreachable = false

/-- The original source of a sequence can be restored (R138). -/
def Restorable (s : State) (q : Sequence) : Prop :=
  (q.originalPos = .a ∨ q.originalPos = .b) ∧ ∃ n, q.originalSet = some n ∧ Online s n

/-- The account has an open interval (R163). -/
def OpenFor (s : State) (k : AccountNo) : Prop :=
  s.site.live = true ∧ s.billing.interval.isSome = true ∧ ∃ e, s.accountEntry k = some e ∧ e.active = true

/-- A feeder of the point in LIVE, its close-off not left over by the cycle start (R49, R56; log entry 6). -/
def LiveFeeder (s : State) (p : PointNo) (f : FeederNo) : Prop :=
  (∃ e, s.feederEntry f = some e ∧ e.point = p) ∧ (s.feederRec f).state = .live ∧ .holdLimit f ∉ s.due

/-- The latest sample of a feeder counts for the dead check of a sequence (R136). -/
def Counting (s : State) (q : Sequence) (f : FeederNo) (x : Sample) : Prop :=
  (s.feederRec f).latest = some x ∧ ∃ c, q.openCycle = some c ∧ cycleAfter x.cycle c = true

/-- The cases of the dead check, in their order (R136). -/
structure DeadChecked (s t : State) (p : PointNo) (e : PointEntry) (q : Sequence) (undecided : Sequence) :
    Prop where
  none : (∀ f, ¬ LiveFeeder s p f) → Online s q.targetSet → (t.pointRec p).seq =
    some { q with phase := .closing, counter := .none, verification := some .unverified }
  live : (∃ f x, LiveFeeder s p f ∧ Counting s q f x ∧ e.deadThreshold < x.current) → Restorable s q →
    (t.pointRec p).seq = some { q with phase := .recovering, recovery := some .notDead, counter := .none }
  dark : (∃ f x, LiveFeeder s p f ∧ Counting s q f x ∧ e.deadThreshold < x.current) → ¬ Restorable s q →
    Ended s t p { q with phase := .recovering, recovery := some .notDead, counter := .none } .dark
  dead : (∃ f, LiveFeeder s p f) →
    (∀ f, LiveFeeder s p f → ∃ x, Counting s q f x ∧ x.current ≤ e.deadThreshold) → Online s q.targetSet →
    (t.pointRec p).seq = some { q with phase := .closing, counter := .none, verification := some .verified }
  open_ : (∀ f x, LiveFeeder s p f → Counting s q f x → x.current ≤ e.deadThreshold) →
    (∃ f, LiveFeeder s p f ∧ ∀ x, ¬ Counting s q f x) → Online s q.targetSet →
    (t.pointRec p).seq = some undecided

/-- A feeder of the point is in LIVE at the next cycle start, its baseline within the hold limit (R49, R56). -/
def LiveNext (s : State) (p : PointNo) (f : FeederNo) : Prop :=
  (∃ e, s.feederEntry f = some e ∧ e.point = p) ∧ (s.feederRec f).state = .live ∧
    ∀ b, (s.feederRec f).baseline = some b → (s.engine.cycleNo + 1 - b.cycle).toNat ≤ s.site.values.holdLimit

/-- The original source of a sequence is none, out of reach, or in a state that no cycle start leads from to ONLINE (R138). -/
def PastRestoring (s : State) (q : Sequence) : Prop :=
  q.originalPos = .opened ∨ q.originalPos = .unknown ∨ q.originalSet = none ∨ ∃ n, q.originalSet = some n ∧
    ((s.setRec n).unreachable = true ∨ (s.setRec n).run = .stopped ∨ ∃ why, (s.setRec n).run = .fault why)

/-- A cycle start makes a later dead check, the window counter decreased to `left`, in the cases of R136 in their order. -/
structure WindowChecked (s t : State) (p : PointNo) (e : PointEntry) (q : Sequence) (left : Nat) : Prop where
  none : (∀ f, ¬ LiveNext s p f) → (t.pointRec p).seq =
    some { q with phase := .closing, counter := .none, verification := some .unverified }
  live : (∃ f x, LiveNext s p f ∧ Counting s q f x ∧ e.deadThreshold < x.current) → Restorable s q →
    (t.pointRec p).seq = some { q with phase := .recovering, recovery := some .notDead, counter := .none }
  dark : (∃ f x, LiveNext s p f ∧ Counting s q f x ∧ e.deadThreshold < x.current) → PastRestoring s q →
    s.schedule = [] → (t.pointRec p).seq = .none ∧ (t.pointRec p).autoBlocked = true ∧
      (t.pointRec p).lastOutcome = some ⟨.dark, q.cause, s.engine.cycleNo + 1⟩
  dead : (∃ f, LiveNext s p f) →
    (∀ f, LiveNext s p f → ∃ x, Counting s q f x ∧ x.current ≤ e.deadThreshold) →
    (t.pointRec p).seq = some { q with phase := .closing, counter := .none, verification := some .verified }
  open_ : (∀ f x, LiveNext s p f → Counting s q f x → x.current ≤ e.deadThreshold) →
    (∃ f, LiveNext s p f ∧ ∀ x, ¬ Counting s q f x) →
    (t.pointRec p).seq = some { q with counter := .window left }

/-- No command of an origin is queued or outstanding. -/
def Unasked (s : State) (o : Origin) : Prop :=
  (∀ c ∈ s.engine.queue, c.origin ≠ o) ∧ ∀ q, s.engine.outstanding = some q → q.command.origin ≠ o

/-- The end of a session out of DISPENSING or TICKETING, other than COMPLETE (R117). -/
structure SessionEnded (s t : State) (m : MeterNo) (x : Session) (result : DeliveryResult) : Prop where
  meter : t.meter m =
    { s.meter m with
      session := none, promoted := false, lastChunk := none, due := false, place := (s.meter m).place.unqueue }
  others : ∀ k, k ≠ m → t.meter k = s.meter k
  withdrawn : ∀ c ∈ t.engine.queue, c ∈ s.engine.queue ∧ c.origin ≠ .fuel m
  tank : t.tank x.set =
    { s.tank x.set with delivered := min (2 ^ 64 - 1) ((s.tank x.set).delivered + x.live), discCount := 0 }
  tanks : ∀ n, n ≠ x.set → t.tank n = s.tank n
  hire : t.setRec x.set =
    { s.setRec x.set with hire := { (s.setRec x.set).hire with
        delivered := min (2 ^ 64 - 1) ((s.setRec x.set).hire.delivered + x.live) } }
  sets : ∀ n, n ≠ x.set → t.setRec n = s.setRec n
  told : Told s t (.delivery
    { meter := m, set := x.set.val + 1, result, live := x.live, unitReason := none, denial := none
      revoke := none, ticket := none })
  rest : t.tables = s.tables ∧ t.site = s.site ∧ t.tickets = s.tickets ∧ t.points = s.points ∧
    t.billing = s.billing ∧ t.tariff = s.tariff ∧ t.feeders = s.feeders ∧ t.schedule = s.schedule

/-- An integer nearest to a quotient: a tie goes to the even one under HALF_EVEN, and to the larger under HALF_UP (R168, R172). -/
def NearestTo (mode : RoundingMode) (q : Int) (d : Nat) (n : Int) : Prop :=
  -(d : Int) ≤ 2 * (q - n * d) ∧ 2 * (q - n * d) ≤ d ∧
    (2 * (q - n * d) = d → mode = .halfEven ∧ n % 2 = 0) ∧
    (2 * (q - n * d) = -(d : Int) → mode = .halfUp ∨ n % 2 = 0)

/-- The rounding mode the store gives: the active table's, and HALF_EVEN while there is none (R156, R158). -/
def modeInForce (s : State) : RoundingMode := s.tariff.active.elim .halfEven TariffTable.mode

/-- The band of a class that a second of day lies in, its index counted from 0: the last whose start is at or before it (R156). -/
def BandOf (table : TariffTable) (cls : ClassNo) (second index : Nat) (b : Band) : Prop :=
  ∃ bands, table.classes[cls] = some bands ∧ bands[index]? = some b ∧ b.start ≤ second ∧
    ∀ j c, bands[j]? = some c → index < j → second < c.start

/-- The interval record of an account at a close, and what it adds to the account (R164, R167 to R170): the energy in units of 0.01 kWh, a
tie by the mode of the active table; the charge at the rate of the band that the interval's start lies in (R156); and while trial is on the
charge at the pending table's rate, where that has the class (R157). -/
structure Priced (s t : State) (i : OpenInterval) (length : Int) (short : Bool) (k : AccountNo) (r : IntervalRecord) :
    Prop where
  account : r.account = k
  customer : ∀ e, s.accountEntry k = some e → r.customer = e.customer
  start : r.start = i.start
  length : (r.length : Int) = max 0 length
  flags : r.flags = { (s.account k).marks with short := (s.account k).marks.short || short }
  units : NearestTo (modeInForce s) ((s.account k).carry + (s.account k).accumulator) 36000000 r.units
  carry : r.carry = (s.account k).carry + (s.account k).accumulator - 36000000 * r.units
  rate : ∀ e table index b, s.accountEntry k = some e → s.tariff.active = some table →
    BandOf table e.tariffClass (i.start % 86400) index b →
    r.identifier = table.identifier ∧ r.band = index + 1 ∧ r.rate = b.rate
  charge : r.charge = r.units * r.rate
  trialOff : s.tariff.trial = false ∨ s.tariff.pending = .empty → r.trial = none
  trialOn : ∀ e table, s.tariff.trial = true → s.accountEntry k = some e →
    s.tariff.pending = .loaded table ∨ s.tariff.pending = .commitPending table →
    (table.classes[e.tariffClass] = none → r.trial = none) ∧
      ∀ index b, BandOf table e.tariffClass (i.start % 86400) index b →
        r.trial = some ⟨table.identifier, index + 1, r.units * b.rate⟩
  added : (t.account k).units = (s.account k).units + r.units ∧
    (t.account k).charge = (s.account k).charge + r.charge ∧ (t.account k).carry = r.carry

/-- The length of an interval that closes at a time in ms, in whole seconds: below 0 it is taken as 0 (R167). -/
def ranFor (i : OpenInterval) (endMs : Nat) : Int := (endMs - 1000 * (i.start : Int) + i.offset) / 1000

/-- An interval close puts a waiting commit into force, with the notice, and leaves the store alone otherwise (R152, R159). -/
structure CommitTakesForce (s t : State) : Prop where
  waiting : ∀ table, s.tariff.pending = .commitPending table →
    t.tariff = ⟨some table, .empty, false, s.tariff.lockout⟩ ∧
      Told s t (.tariff true table.identifier s.engine.cycleNo s.billing.clock
        (s.tariff.active.map TariffTable.identifier))
  none : s.tariff.pending.isCommitted = false → t.tariff = s.tariff

/-- The record number after a number: 1 after 4,294,967,295 (R173). -/
def numberAfter (number : Nat) : Nat := if number < 4294967295 then number + 1 else 1

/-- The records that one event produces: they join at the tail, the first takes the next record number, each other one the number after
the one before it, and the next record number follows the last (R173). A HIGH_WATER notice is raised where they take the records held from 384
or fewer past 384, and nowhere else (R176). -/
structure RecordsProduced (s t : State) (new : List Record) : Prop where
  tail : t.billing.records = s.billing.records ++ new
  first : ∀ r, new.head? = some r → r.number = s.billing.nextRecord
  following : ∀ (i : Nat) (r x : Record), new[i]? = some r → new[i + 1]? = some x → x.number = numberAfter r.number
  next : t.billing.nextRecord = (new.getLast?.map fun r => numberAfter r.number).getD s.billing.nextRecord
  highWater : s.billing.records.length ≤ 384 → 384 < t.billing.records.length →
    Told s t (.records .highWater t.billing.records.length (t.billing.records.head?.map Record.number)
      s.billing.clock s.engine.cycleNo)
  uncrossed : 384 < s.billing.records.length ∨ t.billing.records.length ≤ 384 → ∀ x ∈ t.port.notices,
    x ∈ s.port.notices ∨ ∀ held oldest clock cycle, x.body ≠ .records .highWater held oldest clock cycle

/-- The account a record is for. -/
def recordAccount : Record → AccountNo
  | .interval r => r.account
  | .bill r => r.account

/-- A point qualifies for the LOAD request of a set, toward a partner (R91). -/
structure Qualifies (s : State) (n : SetNo) (p : PointNo) (partner : SetNo) : Prop where
  entry : ∃ e, s.pointEntry p = some e ∧ e.autoLoad = true
  sides : (∃ u, s.switched p = some (u, n, partner) ∧ (s.pointRec p).position = .a) ∨
    (∃ u, s.switched p = some (u, partner, n) ∧ (s.pointRec p).position = .b)
  clear : (s.pointRec p).autoBlocked = false
  idle : (s.pointRec p).seq = none
  eligible : s.eligible partner = true
  room : (s.pointLoad p : Int) ≤ s.headroom partner

/-- What a slot received is no valid report of its owner: line activity, a frame that cannot be read, another source or another
kind (R25). -/
def Garbled (a : Addr) (e : UnitEntry) (received : SlotInput) : Prop :=
  received = .contention ∨ ∃ bytes, received = .frame bytes ∧
    ∀ r, parseReport bytes = some r → r.source.toNat ≠ a.val + 1 ∨ r.kind ≠ e.kind

/-- What a slot received is a valid report of its owner (R25). -/
def ValidFrom (a : Addr) (e : UnitEntry) (received : SlotInput) (r : FieldReport) : Prop :=
  ∃ bytes, received = .frame bytes ∧ parseReport bytes = some r ∧ r.source.toNat = a.val + 1 ∧ r.kind = e.kind

/-- The next slot of the cycle is open, and is an enabled unit's. -/
structure SlotOf (s : State) (a : Addr) (e : UnitEntry) : Prop where
  running : s.engine.running = true
  owner : s.engine.slots[s.engine.slotsEnded]? = some a
  entry : s.unitEntry a = some e
  enabled : e.enabled = true
  kept : ∀ q, s.engine.outstanding = some q → q.orphan = false
  settled : s.due = []

/-- The next slot of the cycle is open. -/
structure OpenSlot (s : State) (a : Addr) : Prop where
  running : s.engine.running = true
  owner : s.engine.slots[s.engine.slotsEnded]? = some a
  settled : s.due = []

/-- A slot whose report is discarded: it ends, and no link, count or copy is updated (R36). -/
structure SlotDiscarded (s t : State) : Prop where
  ended : t.engine.slotsEnded = s.engine.slotsEnded + 1 ∧ t.engine.slots = s.engine.slots
  links : ∀ k, t.link k = s.link k
  copies : t.port.copies = s.port.copies ∧ t.port.copyDrops = s.port.copyDrops
  limits : t.limitFlags = s.limitFlags ∧ t.unattributed = s.unattributed
  stores : t.tickets = s.tickets ∧ t.schedule = s.schedule ∧ t.tariff = s.tariff
  tables : t.tables = s.tables ∧ t.site = s.site
  pending : t.pending = s.pending

/-- No set, tank, meter or point is touched. -/
def OwnersKept (s t : State) : Prop :=
  t.sets = s.sets ∧ t.tanks = s.tanks ∧ t.meters = s.meters ∧ t.points = s.points

/-- A feeder whose board's poll is missed (R45). -/
def missedPoll (r : FeederRec) : FeederRec :=
  { r with state := if r.state = .live then .held else r.state, status := .missing }

/-- What a slot does with a unit's forward count, and the copy of the report that it offers (R31, R194). -/
def Forwarded (s t : State) (a : Addr) (e : UnitEntry) (r : FieldReport) : Prop :=
  let next := min 65535 ((s.link a).forward + 1)
  let kept := t.port.copies = s.port.copies ∧ t.port.copyDrops = s.port.copyDrops
  (e.forwardDivisor = 0 → (t.link a).forward = 0 ∧ kept) ∧
    (next < e.forwardDivisor → (t.link a).forward = next ∧ kept) ∧
    (0 < e.forwardDivisor → e.forwardDivisor ≤ next → (t.link a).forward = 0 ∧
      (s.port.copies.length < 4 → t.port.copies = s.port.copies ++ [⟨a, s.engine.cycleNo, r.raw⟩] ∧
        t.port.copyDrops = s.port.copyDrops) ∧
      (4 ≤ s.port.copies.length → t.port.copies = s.port.copies ∧
        t.port.copyDrops = s.port.copyDrops.set a (min 65535 (s.port.copyDrops[a] + 1))))

/-- The energy of a set step, in mJ (R67). -/
def setEnergy (s : State) (b : SetBaseline) (power : Nat) : Nat :=
  (b.power + power) * 50 * min (s.engine.cycleNo - b.cycle).toNat s.engine.holdInForce * s.engine.cycleLen

/-- The energy side of a SET report (R66 to R68, R71, R101, R102): a step from the baseline raises the output energy and, in a report
of RUNNING, burns the fuel of the step, whole decilitres out of the book; a baseline older than the hold limit marks GAP. -/
structure SetStepped (s t : State) (n : SetNo) (x : SetEntry) (engine : EngineState) (power : Nat) : Prop where
  first : (s.setRec n).baseline = none →
    { (t.setRec n).hire with starts := 0 } = { (s.setRec n).hire with starts := 0 } ∧
      (t.tank n).book = (s.tank n).book ∧ (t.tank n).residue = (s.tank n).residue
  output : ∀ b, (s.setRec n).baseline = some b →
    (t.setRec n).hire.outputMj =
        min (2 ^ 64 - 1) ((s.setRec n).hire.outputMj + setEnergy s b (min 30000 power)) ∧
      ((t.setRec n).hire.gap = true ↔
        (s.setRec n).hire.gap = true ∨ s.engine.holdInForce < (s.engine.cycleNo - b.cycle).toNat) ∧
      ((t.setRec n).hire.clamped = true ↔ (s.setRec n).hire.clamped = true ∨ b.clamped = true ∨ 30000 < power)
  burnt : ∀ b, (s.setRec n).baseline = some b → engine = .running → (s.tank n).book ≤ (s.tank n).capacity →
    let delta := min (s.engine.cycleNo - b.cycle).toNat s.engine.holdInForce
    let total := (s.tank n).residue + x.noLoadRate * s.engine.cycleLen * delta * 1000 +
      x.incrementalRate * setEnergy s b (min 30000 power)
    (t.tank n).residue = total % 360000000000 ∧ (t.tank n).book = (s.tank n).book - total / 360000000000 ∧
      ((s.setRec n).hire.burnt ≤ 2 ^ 64 - 1 → (t.setRec n).hire.burnt =
        min (2 ^ 64 - 1) ((s.setRec n).hire.burnt + total / 360000000000))
  still : engine ≠ .running → (t.tank n).residue = (s.tank n).residue ∧ (t.tank n).book = (s.tank n).book ∧
    (t.setRec n).hire.burnt = (s.setRec n).hire.burnt
  others : ∀ k, k ≠ n → (t.setRec k).hire = (s.setRec k).hire ∧ t.tank k = s.tank k

/-- The report of a STARTING set decides its start (R81 to R83): RUNNING takes it to WARMING, on to ONLINE where the counter loaded is 0, or under
a stop-pending mark and out of service to STOPPING; FAULTED is an alarm under the mark, and otherwise ends the attempt. -/
structure StartReported (s t : State) (n : SetNo) (x : SetEntry) (engine : EngineState) (attempt allowed : Nat)
    (mark : Bool) : Prop where
  warms : ∀ load, engine = .running → mark = false ∨ s.inService n = true →
    ((∃ c, (s.setRec n).stopCycle = some c ∧ (s.engine.cycleNo - c).toNat ≤ x.hotWindow) ∧ load = x.warmUpShort) ∨
      ((∀ c, (s.setRec n).stopCycle = some c → x.hotWindow < (s.engine.cycleNo - c).toNat) ∧ load = x.warmUpLong) →
    (0 < load → (t.setRec n).run = .warming load) ∧ (load = 0 → (t.setRec n).run = .online) ∧
      (t.setRec n).hire.starts = min (2 ^ 64 - 1) ((s.setRec n).hire.starts + 1) ∧
      Told s t (.setState n .starting .warming .running none s.engine.cycleNo)
  stops : engine = .running → mark = true → s.inService n = false →
    (t.setRec n).run = .stopping ∧ ((t.setRec n).due = some .stop ∨ (t.setRec n).place = .queued .stop) ∧
      (t.setRec n).hire.starts = (s.setRec n).hire.starts ∧
      Told s t (.setState n .starting .stopping .running none s.engine.cycleNo)
  alarm : engine = .faulted → mark = true → (t.setRec n).run = .fault .setAlarm ∧
    Told s t (.setState n .starting .fault .setAlarm none s.engine.cycleNo)
  again : engine = .faulted → mark = false → attempt < allowed →
    (t.setRec n).run = .starting (attempt + 1) x.crankAttempts none false ∧
      ((t.setRec n).due = some .start ∨ (t.setRec n).place = .queued .start)
  failed : engine = .faulted → mark = false → allowed ≤ attempt → (t.setRec n).run = .fault .failedStart ∧
    Told s t (.setState n .starting .fault .failedStart (some attempt) s.engine.cycleNo)
  stopCycle : (t.setRec n).stopCycle = (s.setRec n).stopCycle

/-- The sensor check of a SET report (R106): no level and a session at the set leave the count; a level within the tolerance takes it to
0, one outside adds one up to 20, and at 20 DISCREPANCY is set, or left to a command of its own (log entry 6). -/
structure SensorChecked (s t : State) (n : SetNo) (x : SetEntry) (sensor : Nat) (left : Prop) : Prop where
  skipped : (sensor = 65535 ∨ ∃ m y, (s.meter m).session = some y ∧ y.set = n) →
    (t.tank n).discCount = (s.tank n).discCount
  near : sensor ≠ 65535 → (∀ m y, (s.meter m).session = some y → y.set ≠ n) →
    (t.tank n).book ≤ sensor + x.sensorTolerance → sensor ≤ (t.tank n).book + x.sensorTolerance →
    (t.tank n).discCount = 0
  outside : sensor ≠ 65535 → (∀ m y, (s.meter m).session = some y → y.set ≠ n) →
    sensor + x.sensorTolerance < (t.tank n).book ∨ (t.tank n).book + x.sensorTolerance < sensor →
    (t.tank n).discCount = min 20 ((s.tank n).discCount + 1) ∧
      (19 ≤ (s.tank n).discCount → left → TimedEvent.discrepancy n ∈ t.due) ∧
      (19 ≤ (s.tank n).discCount → ¬ left → (t.tank n).discrepancy = true ∧
        ((s.tank n).discrepancy = false → (s.tank n).book ≤ (s.tank n).capacity → Told s t
          (.setFlag n .discrepancy (some (t.tank n).book) none (some sensor) s.engine.cycleNo)))

/-- The step that a board's report makes for a feeder of the board: the first sample for the feeder's position, where it is no fault,
and the baseline of a feeder in LIVE or HELD (R43, R44, R48). -/
def stepOf (s : State) (a : Addr) (samples : List BoardSample) (f : FeederNo) :
    Option (FeederEntry × Baseline × BoardSample) :=
  match s.feederEntry f, (s.feederRec f).state, (s.feederRec f).baseline with
  | some e, .live, some b => ((samples.find? fun y => y.position = e.position).filter fun y =>
      e.board = a && y.status ≠ .fault).map fun y => (e, b, y)
  | some e, .held, some b => ((samples.find? fun y => y.position = e.position).filter fun y =>
      e.board = a && y.status ≠ .fault).map fun y => (e, b, y)
  | _, _, _ => none

/-- The energy of that step, in mJ, and 0 where there is none (R59, R60). -/
def stepEnergy (s : State) (x : Option (FeederEntry × Baseline × BoardSample)) : Nat :=
  match x with
  | some (_, b, y) => (b.power + min 60000 y.power) * 5 * (s.engine.cycleNo - b.cycle).toNat * s.engine.cycleLen
  | none => 0

/-- The set side of that step: the set connected at its end, else the one connected at its start (R63). -/
def stepSet (s : State) (x : Option (FeederEntry × Baseline × BoardSample)) : Option SetNo :=
  match x with
  | some (e, b, _) => (s.connectedSet e.point).or b.connected
  | none => none

/-- The energy side of a BOARD report (R48, R59 to R63): every step goes whole to its account, where that has an open interval, and whole
to one place on the set side. -/
structure BoardStepped (s t : State) (a : Addr) (samples : List BoardSample) : Prop where
  account : ∀ k, OpenFor s k → (t.account k).accumulator = (s.account k).accumulator +
    (((allFeeders.map fun f => stepOf s a samples f).filter fun x => x.any fun y => y.1.account = k).map
      (stepEnergy s)).sum
  estimated : ∀ k, OpenFor s k → ((t.account k).marks.estimated = true ↔ (s.account k).marks.estimated = true ∨
    ∃ f x, stepOf s a samples f = some x ∧ x.1.account = k ∧ (s.feederRec f).state = .held)
  clamped : ∀ k, OpenFor s k → ((t.account k).marks.clamped = true ↔ (s.account k).marks.clamped = true ∨
    ∃ f x, stepOf s a samples f = some x ∧ x.1.account = k ∧
      (x.2.1.clamped = true ∨ 60000 < x.2.2.power ∨ x.2.2.status = .overrange))
  gap : ∀ k, OpenFor s k → ((t.account k).marks.gap = true ↔ (s.account k).marks.gap = true ∨
    ∃ f e y, s.feederEntry f = some e ∧ e.board = a ∧ e.account = k ∧ (s.feederRec f).state = .stale ∧
      samples.find? (fun y => y.position = e.position) = some y ∧ y.status ≠ .fault)
  closed : ∀ k, ¬ OpenFor s k → t.account k = s.account k
  metered : ∀ n, (s.setRec n).hire.meteredMj ≤ 2 ^ 64 - 1 → (t.setRec n).hire.meteredMj =
    min (2 ^ 64 - 1) ((s.setRec n).hire.meteredMj +
      (((allFeeders.map fun f => stepOf s a samples f).filter fun x => stepSet s x = some n).map (stepEnergy s)).sum)
  unattributed : s.unattributed ≤ 2 ^ 64 - 1 → t.unattributed = min (2 ^ 64 - 1) (s.unattributed +
    (((allFeeders.map fun f => stepOf s a samples f).filter fun x => x.isSome && stepSet s x = none).map
      (stepEnergy s)).sum)

/-- The point with the position and the selector that a report gives. -/
def reported (s : State) (p : PointNo) (pos : SwPos) (selector : Option Selector) : State :=
  { s with points := s.points.set p { s.pointRec p with position := pos, selector } }

/-- The position that a reported position is (R125). -/
def mapped : ReportedPos → SwPos
  | .a => .a
  | .b => .b
  | .opened => .opened
  | .fault => .unknown

/-- The changes of position that a sequence waits for: OPEN in OPENING, the target side in CLOSING, the target side and the side it
came from in RECOVERING (R125, R138). -/
def Awaited (q : Sequence) (x : ReportedPos) : Prop :=
  (q.phase = .opening ∧ x = .opened) ∨ (q.phase = .closing ∧ mapped x = sidePos q.targetSide) ∨
    (q.phase = .recovering ∧ (mapped x = sidePos q.targetSide ∨ (mapped x = q.originalPos ∧ q.originalSet ≠ none)))

/-- The recovery reason that an abort mark gives (R134). -/
def recoveryOf : AbortMark → RecoveryReason
  | .cancelled => .cancelled
  | .targetFault => .targetFault

/-- The outcome that an abort mark gives an end in OPENING (R134). -/
def outcomeOf : Option AbortMark → SeqOutcome
  | none => .openFailed
  | some .cancelled => .cancelled
  | some .targetFault => .targetFault

/-- What OPEN, the close to the target and the close back wait for (R134, R137, R138). -/
def awaitedCode (q : Sequence) : Option Code :=
  match q.phase, q.originalPos with
  | .opening, _ => some .openSwitch
  | .closing, _ => some (sideClose q.targetSide)
  | .recovering, .a => some .closeA
  | .recovering, .b => some .closeB
  | _, _ => none

/-- The outcome that the reply slot returns: NO_ANSWER for a slot that is missed, the answer of a valid report with a body of some form
otherwise (R35). -/
def Returned (a : Addr) (e : UnitEntry) (received : SlotInput) (o : CommandOutcome) (body : ReportBody → Prop) : Prop :=
  ((received = .nothing ∨ Garbled a e received) ∧ o = .noAnswer) ∨
    ∃ r, ValidFrom a e received r ∧ body r.body ∧
      ((r.answer = .none ∧ o = .noAnswer) ∨ (r.answer = .accept ∧ o = .accepted) ∨
        ∃ why, r.answer = .refuse why ∧ o = .refused why)

/-- The unit is not LOST, and no one slot makes it so (R28). -/
def FarFromLost (s : State) (a : Addr) : Prop :=
  (s.link a).state ≠ some .lost ∧ min 255 ((s.link a).misses + 1) < s.site.values.lossLimit

/-- The reply slot of the outstanding command is the next slot, and its owner's. -/
structure ReplySlotOf (s : State) (a : Addr) (e : UnitEntry) (q : Outstanding) : Prop where
  slot : SlotOf s a e
  first : s.engine.slotsEnded = 0
  outstanding : s.engine.outstanding = some q
  allocated : q.replyAllocated = true

/-- What NO_ANSWER does to a set that waits for it: the attempt ends, or STOP has failed (R81, R82, R86). -/
structure SetUnanswered (s t : State) (n : SetNo) (x : SetEntry) (code : Code) : Prop where
  marked : ∀ attempt allowed crank, code = .start → (s.setRec n).run = .starting attempt allowed crank true →
    (t.setRec n).run = .stopped ∧ (t.setRec n).stopCycle = (s.setRec n).stopCycle ∧
      Told s t (.setState n .starting .stopped .startEnded none s.engine.cycleNo)
  again : ∀ attempt allowed crank, code = .start → (s.setRec n).run = .starting attempt allowed crank false →
    attempt < allowed → (t.setRec n).run = .starting (attempt + 1) x.crankAttempts none false ∧
      ((t.setRec n).due = some .start ∨ (t.setRec n).place = .queued .start)
  failed : ∀ attempt allowed crank, code = .start → (s.setRec n).run = .starting attempt allowed crank false →
    allowed ≤ attempt → (t.setRec n).run = .fault .failedStart ∧
      Told s t (.setState n .starting .fault .failedStart (some attempt) s.engine.cycleNo)
  stop : code = .stop → (s.setRec n).run = .stopping → (t.setRec n).run = .online ∧ (t.setRec n).place = .free ∧
    Told s t (.setState n .stopping .online .stopFailed none s.engine.cycleNo)

/-- The state with a point's command place free, as the return of its outcome leaves it (R132). -/
def freed (s : State) (p : PointNo) : State :=
  { s with points := s.points.set p { s.pointRec p with place := .free } }

/-- What NO_ANSWER does to a sequence whose phase waits for it: OPENING ends, CLOSING goes to RECOVERING, RECOVERING ends DARK (R134,
R137, R138). -/
structure PointUnanswered (s t : State) (p : PointNo) (y : Sequence) : Prop where
  opening : y.phase = .opening → Ended (freed s p) t p y (outcomeOf y.abort)
  restoring : y.phase = .closing → Restorable s y → (t.pointRec p).seq =
    some { y with phase := .recovering, recovery := some .closeFailed, counter := .none }
  lost : y.phase = .closing → ¬ Restorable s y →
    Ended (freed s p) t p { y with phase := .recovering, recovery := some .closeFailed, counter := .none } .dark
  recovering : y.phase = .recovering → Ended (freed s p) t p y .dark

/-- What NO_ANSWER does to a session that waits for it: an unanswered PERMIT ends it, CANCELLED under the cancel mark, and an unanswered
REVOKE ends it CANCELLED (R110, R117, R119). -/
structure MeterUnanswered (s t : State) (m : MeterNo) (x : Session) (code : Code) : Prop where
  permit : code = .permit → x.phase = .granting →
    (t.meter m).session = none ∧ (t.meter m).promoted = false ∧ (t.meter m).place = .free ∧ (t.meter m).due = false ∧
      (t.tank x.set).delivered = (s.tank x.set).delivered ∧
      (x.cancel = true → Told s t (.delivery ⟨m, x.set.val + 1, .cancelled, x.live, none, none, none, none⟩)) ∧
      (x.cancel = false → Told s t (.delivery ⟨m, x.set.val + 1, .noAnswer, x.live, none, none, none, none⟩))
  revoke : code = .revoke → x.phase = .dispensing → x.cancel = true → (s.meter m).due = false →
    (t.meter m).session = none ∧ (t.meter m).promoted = false ∧ (t.meter m).place = .free ∧
      (t.tank x.set).delivered = min (2 ^ 64 - 1) ((s.tank x.set).delivered + x.live) ∧
      Told s t (.delivery ⟨m, x.set.val + 1, .cancelled, x.live, none, none, some .noAnswer, none⟩)

/-- The commands that FIELD RESTART ends, in their order: the outstanding one, then the queue, oldest first (R40). -/
def endedByRestart (s : State) : List Command :=
  (s.engine.outstanding.map Outstanding.command).toList ++ s.engine.queue

/-- A notice raised in a FIELD RESTART is queued, where the notice queue has room for what one raises: a notice for each command, for each of
12 sequences, and for each of 8 sets that returns to ONLINE. -/
def ToldAtRestart (s t : State) (body : NoticeBody) : Prop :=
  s.port.notices.length + s.engine.queue.length ≤ 11 → ∃ x ∈ t.port.notices, x.body = body

/-- FIELD RESTART at a set (R40, R78, R81, R86, R89, R98). A START or STOP that its run state calls for is enqueued again, the attempt as
it was; but a STOP that finds the set at a FIXED point returns it to ONLINE (R79). A command that waited only for the unreachable mark is
enqueued. A set with neither keeps its run state and command place. -/
structure SetRestarted (s t : State) (n : SetNo) : Prop where
  start : ∀ c ∈ endedByRestart s, c.origin = .sets n → s.setEntry n ≠ none →
    (∃ attempt allowed crank mark, (s.setRec n).run = .starting attempt allowed crank mark) →
    (s.setRec n).due = some .start ∨ ((s.setRec n).due = none ∧ c.code = .start) →
    (t.setRec n).run = (s.setRec n).run ∧ (t.setRec n).place = .queued .start ∧ (t.setRec n).due = none
  stop : ∀ c ∈ endedByRestart s, c.origin = .sets n → s.setEntry n ≠ none → (s.setRec n).run = .stopping →
    (s.setRec n).due = some .stop ∨ ((s.setRec n).due = none ∧ c.code = .stop) →
    ((∀ p e, s.pointEntry p = some e → e.source ≠ .fixed n) → (s.setRec n).reservations = [] →
      (t.setRec n).run = .stopping ∧ (t.setRec n).place = .queued .stop ∧ (t.setRec n).due = none) ∧
    ((∃ p e, s.pointEntry p = some e ∧ e.source = .fixed n) →
      (t.setRec n).run = .online ∧ (t.setRec n).place = .free ∧ (t.setRec n).due = none ∧
        ToldAtRestart s t (.setState n .stopping .online .inService none s.engine.cycleNo))
  waiting : ∀ code, Unasked s (.sets n) → s.setEntry n ≠ none → (s.setRec n).unreachable = true →
    (s.setRec n).place = .free → (s.setRec n).due = some code → code = .start ∨ s.inService n = false →
    (t.setRec n).run = (s.setRec n).run ∧ (t.setRec n).place = .queued code ∧ (t.setRec n).due = none
  kept : Unasked s (.sets n) → (s.setRec n).unreachable = false → (t.setRec n).run = (s.setRec n).run ∧
    (t.setRec n).place = (s.setRec n).place ∧ (t.setRec n).due = (s.setRec n).due

/-- FIELD RESTART ends a sequence RESTART, by the outcome of the command its phase waits for or by the news of step 7 (R40, R130, R131, R142):
its reservation goes, and its notice carries the position UNKNOWN (log entry 43). -/
structure PointRestarted (s t : State) (p : PointNo) (q : Sequence) : Prop where
  last : (t.pointRec p).lastOutcome = some ⟨.restart, q.cause, s.engine.cycleNo⟩
  blocked : (t.pointRec p).autoBlocked = true ↔ (s.pointRec p).autoBlocked = true ∨ autoCause q.cause
  command : (t.pointRec p).due = none ∧ ∀ c, (t.pointRec p).place ≠ .queued c
  released : ∀ x ∈ (t.setRec q.targetSet).reservations, x.point ≠ p
  told : ToldAtRestart s t (endNotice s p q .restart none .unknown)

/-- FIELD RESTART at a session (R40, R108, R110, R112, R117, R119, R120): the RESTART of the PERMIT or REVOKE it waits for ends it RESTART; in
TICKETING it goes on all the same (log entry 52); with no command queued or outstanding nothing changes. -/
structure MeterRestarted (s t : State) (m : MeterNo) (x : Session) : Prop where
  permit : ∀ c ∈ endedByRestart s, c.origin = .fuel m → c.code = .permit → x.phase = .granting →
    (t.meter m).session = none ∧ (t.meter m).promoted = false ∧ (t.meter m).place = .free ∧ (t.meter m).due = false ∧
      ToldAtRestart s t (.delivery ⟨m, x.set.val + 1, .restart, x.live, none, none, none, none⟩)
  revoke : ∀ c ∈ endedByRestart s, c.origin = .fuel m → c.code = .revoke → x.phase = .dispensing → x.cancel = true →
    (s.meter m).due = false →
    (t.meter m).session = none ∧ (t.meter m).promoted = false ∧ (t.meter m).place = .free ∧
      ((∀ k y, k ≠ m → (s.meter k).session = some y → y.set ≠ x.set) → (t.tank x.set).delivered =
        min (2 ^ 64 - 1) ((s.tank x.set).delivered + x.live)) ∧
      ToldAtRestart s t (.delivery ⟨m, x.set.val + 1, .restart, x.live, none, none, none, none⟩)
  ticketing : ∀ wait buffer, x.phase = .ticketing wait buffer → (t.meter m).session = some x
  kept : Unasked s (.fuel m) → t.meter m = s.meter m

/-- The meter's record once a report has been by its request mark, which goes unless the meter state is REQUEST (R109). -/
def seen (s : State) (m : MeterNo) (f : FuelBody) : MeterRec :=
  { s.meter m with requestMark := if f.state = .request then (s.meter m).requestMark else none }

/-- The state as the session finds it in a report: that record, and the clock of the slot's end. -/
def atMeter (s t : State) (m : MeterNo) (f : FuelBody) : State :=
  { s with meters := s.meters.set m (seen s m f), billing := t.billing }

/-- The command queue takes one command of the meter (R32). -/
def MeterRoom (s : State) (m : MeterNo) : Prop :=
  s.engine.queue.length < 24 ∧ (∀ c ∈ s.engine.queue, c.origin ≠ .fuel m) ∧
    ∀ q, s.engine.outstanding = some q → q.command.origin ≠ .fuel m

/-- The set number that a REQUEST names is that of an enabled set (R109). -/
def Hired (s : State) (k : Nat) (n : SetNo) : Prop :=
  k = n.val + 1 ∧ ∃ x, s.setEntry n = some x ∧ x.enabled = true

/-- What a REQUEST naming a set is answered, by the first test of R109 that fails: a reason, or none for PERMIT. -/
inductive Denial (s : State) (m : MeterNo) (k : Nat) : Option DenyReason → Prop where
  | notHired : (∀ n, ¬ Hired s k n) → Denial s m k (some .notHired)
  | setBusy (n : SetNo) : Hired s k n → (∃ j x, j ≠ m ∧ (s.meter j).session = some x ∧ x.set = n) →
    Denial s m k (some .setBusy)
  | noRoom (n : SetNo) : Hired s k n → (∀ j x, j ≠ m → (s.meter j).session = some x → x.set ≠ n) →
    (s.tank n).capacity - (s.tank n).book < s.site.values.minDelivery → Denial s m k (some .noRoom)
  | none (n : SetNo) : Hired s k n → (∀ j x, j ≠ m → (s.meter j).session = some x → x.set ≠ n) →
    s.site.values.minDelivery ≤ (s.tank n).capacity - (s.tank n).book → Denial s m k none

/-- The byte of a denial reason, in the order of section 2.6 (log entry 28). -/
def denialByte : DenyReason → Byte
  | .notHired => 0
  | .setBusy => 1
  | .noRoom => 2

/-- A report that reaches an IDLE session (R109, R118): a repeat of the last completed chunk is acknowledged again, and a REQUEST that is
new is denied or permitted, where the queue takes the command. -/
structure IdleReported (s t : State) (a : Addr) (m : MeterNo) (f : FuelBody) : Prop where
  again : ∀ i bytes, f.chunk = some (i, bytes) → (s.meter m).lastChunk = some i → t.engine.acks[m] = some ⟨a, i⟩
  quiet : (∀ i bytes, f.chunk = some (i, bytes) → (s.meter m).lastChunk ≠ some i) → t.engine.acks = s.engine.acks
  other : f.state ≠ .request ∨ (s.meter m).place ≠ .free ∨ (s.meter m).requestMark = some f.requested ∨
      ¬ MeterRoom s m →
    t.meter m = { seen s m f with lastChunk := if f.state = .ticket then (s.meter m).lastChunk else none } ∧
      t.engine.queue = s.engine.queue
  denied : ∀ why, f.state = .request → (s.meter m).place = .free → (s.meter m).requestMark ≠ some f.requested →
    MeterRoom s m → Denial s m f.requested (some why) →
    t.meter m =
        { s.meter m with lastChunk := none, place := .queued .deny, requestMark := some f.requested } ∧
      t.engine.queue = s.engine.queue ++ [⟨a, .deny, [denialByte why], .fuel m⟩] ∧
      Told s t (.delivery ⟨m, f.requested, .denied, 0, none, some why, none, none⟩)
  permitted : ∀ n, f.state = .request → (s.meter m).place = .free → (s.meter m).requestMark ≠ some f.requested →
    MeterRoom s m → Hired s f.requested n → Denial s m f.requested none →
    let room := (s.tank n).capacity - (s.tank n).book
    t.meter m =
        { s.meter m with
          session := some ⟨.granting, n, room, 0, 0, false⟩
          lastChunk := none, place := .queued .permit, requestMark := some f.requested } ∧
      t.engine.queue = s.engine.queue ++
        [⟨a, .permit, [BitVec.ofNat 8 f.requested, BitVec.ofNat 8 (room / 256), BitVec.ofNat 8 room], .fuel m⟩]
  tanks : t.tanks = s.tanks ∧ t.sets = s.sets

/-- The session after the volume of a report has been booked to it (R111). -/
def dispensed (x : Session) (volume : Nat) : Session :=
  if x.highWater < volume then { x with live := x.live + (volume - x.highWater), highWater := volume } else x

/-- A report that reaches a session in DISPENSING (R111 to R113): the increase above the high-water volume is booked, clamped to the
capacity in force; ENDED and TICKET open TICKETING, and IDLE and REQUEST end the session NO_TICKET. A TICKET with a chunk
acts as it would in TICKETING. -/
structure DispensingReported (s t : State) (m : MeterNo) (x : Session) (f : FuelBody) : Prop where
  booked : x.highWater < f.volume → (s.tank x.set).book ≤ (s.tank x.set).capacity →
    f.state = .dispensing ∨ f.state = .ended →
    let level := (s.tank x.set).book + (f.volume - x.highWater)
    (t.tank x.set).book = min (s.tank x.set).capacity level ∧
      ((s.tank x.set).capacity < level → (t.tank x.set).discrepancy = true ∧
        (t.tank x.set).adjustments = max (-(2 ^ 63)) (min (2 ^ 63 - 1)
          ((s.tank x.set).adjustments + ((s.tank x.set).capacity - level : Int))))
  unbooked : f.volume ≤ x.highWater → f.state = .dispensing ∨ f.state = .ended → t.tanks = s.tanks ∧ t.sets = s.sets
  dispensing : f.state = .dispensing → t.meter m = { seen s m f with session := some (dispensed x f.volume) } ∧
    t.engine.queue = s.engine.queue
  ended : f.state = .ended ∨ (f.state = .ticket ∧ f.chunk = none) →
    t.meter m =
        { seen s m f with
          session := some
            { dispensed x f.volume with
              cancel := false, phase := .ticketing (some s.site.values.ticketWait) none }
          place := (s.meter m).place.unqueue, due := false } ∧
      ∀ c ∈ t.engine.queue, c ∈ s.engine.queue ∧ c.origin ≠ .fuel m
  gone : f.state = .idle ∨ f.state = .request →
    (t.meter m).session = none ∧ (t.meter m).promoted = false ∧
      (t.tank x.set).delivered = min (2 ^ 64 - 1) ((s.tank x.set).delivered + (dispensed x f.volume).live) ∧
      Told s t (.delivery ⟨m, x.set.val + 1, .noTicket, (dispensed x f.volume).live, none, none, none, none⟩) ∧
      (f.volume ≤ x.highWater → SessionEnded (atMeter s t m f) t m x .noTicket)

/-- A chunk accepted in TICKETING, `buffer` the buffer with it (R113, R114, R116): it is acknowledged; short of the ticket length the wait
is loaded again; a ticket that can be read and is for the session's set is taken, its correction booked, and ends the
session COMPLETE; any other ends it NO_TICKET. -/
structure ChunkAccepted (s t : State) (a : Addr) (m : MeterNo) (x : Session) (f : FuelBody) (buffer : TicketBuffer) :
    Prop where
  ack : t.engine.acks[m] = some ⟨a, buffer.lastChunk⟩
  part : buffer.bytes.length < buffer.length → t.meter m =
    { seen s m f with
      session := some { x with phase := .ticketing (some s.site.values.ticketWait) (some buffer) } } ∧
    t.tanks = s.tanks ∧ t.sets = s.sets ∧ t.tickets = s.tickets
  complete : ∀ y, buffer.length ≤ buffer.bytes.length → parseTicket (buffer.bytes.take buffer.length) = some y →
    y.set = x.set.val + 1 →
    let correction := (y.volume : Int) - x.live
    t.meter m =
        { seen s m f with
          session := none, promoted := false, lastChunk := some buffer.lastChunk, due := false
          place := (s.meter m).place.unqueue } ∧
      t.tickets = s.tickets ++ [⟨y, m, x.live, correction⟩] ∧
      ((t.tank x.set).book : Int) =
        max 0 (min ((s.tank x.set).capacity : Int) ((s.tank x.set).book + correction)) ∧
      (t.tank x.set).delivered = min (2 ^ 64 - 1) ((s.tank x.set).delivered + y.volume) ∧
      (t.tank x.set).discCount = 0 ∧
      (t.setRec x.set).hire.delivered = min (2 ^ 64 - 1) ((s.setRec x.set).hire.delivered + y.volume) ∧
      Told s t (.delivery ⟨m, x.set.val + 1, .complete, x.live, none, none, none,
        some ⟨y.number, y.volume, correction⟩⟩)
  unreadable : buffer.length ≤ buffer.bytes.length →
    (∀ y, parseTicket (buffer.bytes.take buffer.length) = some y → y.set ≠ x.set.val + 1) →
    SessionEnded (atMeter s t m f) t m x .noTicket

/-- The places of the ticket store taken: tickets held, and places claimed by a session with a buffer (R114). -/
def placesTaken (s : State) : Nat :=
  s.tickets.length + (allMeters.filter fun m =>
    match (s.meter m).session.map Session.phase with
    | some (.ticketing _ (some _)) => true
    | _ => false).length

/-- A report that reaches a session in TICKETING (R113, R114): with no chunk, IDLE and REQUEST end it NO_TICKET and the rest do nothing;
chunk 0 opens a ticket of 12 to 40 bytes, or waits where no place is free; the next chunk is accepted, the last one is
acknowledged again, and any other ends the session. -/
structure TicketingReported (s t : State) (a : Addr) (m : MeterNo) (x : Session) (buffer : Option TicketBuffer)
    (f : FuelBody) : Prop where
  chunkless : f.chunk = none → (f.state = .idle ∨ f.state = .request → SessionEnded (atMeter s t m f) t m x .noTicket) ∧
    (f.state ≠ .idle → f.state ≠ .request → t.meter m = seen s m f ∧ t.engine.acks = s.engine.acks)
  early : ∀ i bytes, f.chunk = some (i, bytes) → buffer = none → i ≠ 0 ∨ bytes = [] →
    SessionEnded (atMeter s t m f) t m x .noTicket
  held : ∀ bytes, f.chunk = some (0, bytes) → buffer = none → bytes ≠ [] → 16 ≤ placesTaken s →
    t.meter m = { seen s m f with session := some { x with phase := .ticketing none none } } ∧
      t.engine.acks = s.engine.acks
  first : ∀ b bytes, f.chunk = some (0, b :: bytes) → buffer = none → placesTaken s < 16 →
    (12 ≤ b.toNat ∧ b.toNat ≤ 40 → ChunkAccepted s t a m x f ⟨b :: bytes, b.toNat, 0⟩) ∧
      (b.toNat < 12 ∨ 40 < b.toNat → SessionEnded (atMeter s t m f) t m x .noTicket)
  next : ∀ i bytes y, f.chunk = some (i, bytes) → buffer = some y →
    (i.toNat = y.lastChunk.toNat + 1 → ChunkAccepted s t a m x f ⟨y.bytes ++ bytes, y.length, i⟩) ∧
      (i = y.lastChunk → t.engine.acks[m] = some ⟨a, i⟩ ∧ t.meter m = seen s m f) ∧
      (i ≠ y.lastChunk → i.toNat ≠ y.lastChunk.toNat + 1 → SessionEnded (atMeter s t m f) t m x .noTicket)

/-- The condition of a limit window (R52). -/
def WindowMet (mode : WindowMode) (low high current : Nat) : Prop :=
  match mode with
  | .off => False
  | .above => high < current
  | .below => current < low
  | .outside => high < current ∨ current < low
  | .inside => low ≤ current ∧ current ≤ high

/-- What a free transmitter sends when no response waits (R184). -/
def afterResponse (notices : List Notice) (copies : List Copy) : Option TxFrame :=
  if notices ≠ [] then some .notice else if copies ≠ [] then some .copy else none

/-- A request refused with a code: answered, and nothing else changed. -/
def refused (s : State) (tag : Byte) (kind : Nat) (code : ResultCode) : State :=
  answered s tag kind ⟨code, .none⟩

/-- A request answered with a reply, in a state described by its parts. -/
def Answers (t : State) (tag : Byte) (kind : Nat) (reply : Reply) : Prop :=
  t.port.response = some ⟨0, tag, BitVec.ofNat 8 kind, reply⟩

/-- A unit answers for the entry that names it (R15, check 5). -/
def NamedBack (s : State) (a : Addr) (e : UnitEntry) : Prop :=
  match e.kind with
  | .set => ∃ n x, e.owner = n.val + 1 ∧ s.setEntry n = some x ∧ x.unit = a
  | .change => ∃ p x y, e.owner = p.val + 1 ∧ s.switched p = some (a, x, y)
  | .board => ∃ f x, s.feederEntry f = some x ∧ x.board = a
  | .fuel => True

/-- A check of GO LIVE fails at an item (R15). -/
def GoLiveFails (s : State) : GoLiveItem → Prop
  | .clock => s.billing.clock = none
  | .cycles => s.engine.running = false
  | .tariff => s.tariff.active = none
  | .slots => s.tables.slotsFit = false
  | .unit a => ∃ e, s.unitEntry a = some e ∧ e.enabled = true ∧ ¬ NamedBack s a e
  | .feederBoard f => ∃ e, s.feederEntry f = some e ∧
    ∀ u, s.unitEntry e.board = some u → u.enabled = false ∨ u.kind ≠ .board
  | .feederPoint f => ∃ e, s.feederEntry f = some e ∧ s.pointEntry e.point = none
  | .feederAccount f => ∃ e, s.feederEntry f = some e ∧
    ∀ x, s.accountEntry e.account = some x → x.active = false
  | .setUnit n => ∃ e, s.setEntry n = some e ∧ e.enabled = true ∧
    ∀ u, s.unitEntry e.unit = some u → u.enabled = false ∨ u.kind ≠ .set ∨ u.owner ≠ n.val + 1
  | .pointSource p => ∃ e, s.pointEntry p = some e ∧ ∃ n,
    (e.source = .fixed n ∨ ∃ u k, e.source = .switched u n k ∨ e.source = .switched u k n) ∧
    ∀ x, s.setEntry n = some x → x.enabled = false
  | .pointUnit p => ∃ u x y, s.switched p = some (u, x, y) ∧
    ∀ e, s.unitEntry u = some e → e.enabled = false ∨ e.kind ≠ .change ∨ e.owner ≠ p.val + 1
  | .accountClass k => ∃ e table, s.accountEntry k = some e ∧ e.active = true ∧
    s.tariff.active = some table ∧ table.classes[e.tariffClass] = none

/-- The order of the checks of GO LIVE, and of the items of one check (R15). -/
def goLiveRank : GoLiveItem → Nat
  | .clock => 100
  | .cycles => 200
  | .tariff => 300
  | .slots => 400
  | .unit a => 500 + a.val
  | .feederBoard f => 600 + f.val
  | .feederPoint f => 700 + f.val
  | .feederAccount f => 800 + f.val
  | .setUnit n => 900 + n.val
  | .pointSource p => 1000 + p.val
  | .pointUnit p => 1100 + p.val
  | .accountClass k => 1200 + k.val

/-- A run state in which a set entry is in use (R1). -/
def InFlight : RunState → Prop
  | .starting _ _ _ _ | .warming _ | .cooling _ | .stopping => True
  | .offline | .unseen | .stopped | .online | .fault _ => False

/-- What a unit entry belongs to is in use (R1). -/
def OwnerBusy (s : State) (e : UnitEntry) : Prop :=
  (e.kind = .set ∧ ∃ n, e.owner = n.val + 1 ∧ InFlight (s.setRec n).run) ∨
    (e.kind = .change ∧ ∃ p, e.owner = p.val + 1 ∧ (s.pointRec p).seq ≠ none) ∨
    (e.kind = .fuel ∧ ∃ m, e.owner = m.val + 1 ∧ (s.meter m).session ≠ none)

/-- The unit entry is named in a way that needs its kind (R3, R4). -/
def KindNamed (s : State) (a : Addr) (kind : UnitKind) : Prop :=
  (kind = .board ∧ ∃ f x, s.feederEntry f = some x ∧ x.board = a) ∨
    (kind = .set ∧ ∃ n x, s.setEntry n = some x ∧ x.unit = a) ∨
    (kind = .change ∧ ∃ p x y, s.switched p = some (a, x, y))

/-- The owner indexes of a kind of unit (R3). -/
def owners : UnitKind → Nat
  | .set => 8
  | .board => 16
  | .change => 12
  | .fuel => 2

/-- A value brought to the nearer end of its range. -/
def within (lo hi x : Nat) : Nat := max lo (min hi x)

/-- The set entry that a load stores (R7). -/
def storedSet (unit : Addr) (enabled : Bool) (u : SetFields) : SetEntry :=
  let capacity := within 10 65000 u.capacity
  { unit, enabled, rating := within 10 3000 u.rating, capacity, noLoadRate := min 20000 u.noLoadRate
    incrementalRate := min 400 u.incrementalRate, lowLevel := min capacity u.lowLevel
    reserveLevel := min capacity u.reserveLevel, lowLoadLimit := min 1500 u.lowLoadLimit
    overloadLimit := min 1500 u.overloadLimit, overloadHold := within 1 255 u.overloadHold
    warmUpLong := u.warmUpLong, warmUpShort := u.warmUpShort, hotWindow := u.hotWindow, coolDown := u.coolDown
    crankAttempts := within 1 5 u.crankAttempts, crankWindow := within 10 255 u.crankWindow
    sensorTolerance := min 10000 u.sensorTolerance }

/-- The supply point entry that a load stores, its timings 20, 30 and 600 cycles where omitted (R9). -/
def storedPoint (source : PointSource) (fault load fuel : Bool) (u : PointFields) : PointEntry :=
  { source, deadTime := within 5 255 (u.deadTime.getD 20)
    confirmTimeout := within 5 255 (u.confirmTimeout.getD 30)
    prepareLimit := within 10 65535 (u.prepareLimit.getD 600), deadThreshold := u.deadThreshold
    autoFault := fault, autoLoad := load, autoFuel := fuel }

/-- The fields of a loaded point name a source as it is stored (R9). -/
def SourceNamed : SourceFields → PointSource → Prop
  | .fixed k, .fixed n => k = n.val + 1
  | .switched u a b, .switched v x y => u = v.val + 1 ∧ a = x.val + 1 ∧ b = y.val + 1 ∧ x ≠ y
  | _, _ => False

/-- The source of an entry is SWITCHED. -/
def Switched (e : PointEntry) : Prop := ∃ u a b, e.source = .switched u a b

/-- What a load of one table leaves alone. -/
structure LoadFrame (s t : State) : Prop where
  site : t.site = s.site
  ten : t.ten = s.ten
  tariff : t.tariff = s.tariff
  billing : t.billing = s.billing
  tickets : t.tickets = s.tickets
  limitFlags : t.limitFlags = s.limitFlags
  unattributed : t.unattributed = s.unattributed
  cycle : t.engine.running = s.engine.running ∧ t.engine.cycleNo = s.engine.cycleNo ∧
    t.engine.pollPointer = s.engine.pollPointer ∧ t.engine.slots = s.engine.slots
  pending : t.pending = s.pending

/-- The conservation of energy at a close: the account's energy goes whole into units of 0.01 kWh and the carry (R168). -/
def Rounded (s t : State) (k : AccountNo) : Prop :=
  (t.account k).accumulator = 0 ∧ -18000000 ≤ (t.account k).carry ∧ (t.account k).carry ≤ 18000000 ∧
    (s.account k).units ≤ (t.account k).units ∧
    36000000 * (((t.account k).units : Int) - (s.account k).units) + (t.account k).carry =
      (s.account k).carry + (s.account k).accumulator

/-- A run of reasons to refuse a changeover to a side, in their order (R128). -/
inductive Accepts (s : State) (p : PointNo) (side : Side) : Option ResultCode → Prop where
  | notSwitched : s.switched p = none → Accepts s p side (some .notValid)
  | noChange : s.switched p ≠ none → (s.pointRec p).position = sidePos side → Accepts s p side (some .noChange)
  | unreachable (u : Addr) (a b : SetNo) : s.switched p = some (u, a, b) → (s.pointRec p).position ≠ sidePos side →
    s.reachable u = false ∨ (s.pointRec p).position = .unknown → Accepts s p side (some .unreachable)
  | localPanel (u : Addr) (a b : SetNo) : s.switched p = some (u, a, b) → (s.pointRec p).position ≠ sidePos side →
    s.reachable u = true → (s.pointRec p).position ≠ .unknown → (s.pointRec p).selector ≠ some .remote →
    Accepts s p side (some .localPanel)
  | notEligible (u : Addr) (a b : SetNo) : s.switched p = some (u, a, b) → (s.pointRec p).position ≠ sidePos side →
    s.reachable u = true → (s.pointRec p).position ≠ .unknown → (s.pointRec p).selector = some .remote →
    s.eligible (sideSource side a b) = false → Accepts s p side (some .notEligible)
  | capacity (u : Addr) (a b : SetNo) : s.switched p = some (u, a, b) → (s.pointRec p).position ≠ sidePos side →
    s.reachable u = true → (s.pointRec p).position ≠ .unknown → (s.pointRec p).selector = some .remote →
    s.eligible (sideSource side a b) = true → s.headroom (sideSource side a b) < s.pointLoad p →
    Accepts s p side (some .capacity)
  | passes (u : Addr) (a b : SetNo) : s.switched p = some (u, a, b) → (s.pointRec p).position ≠ sidePos side →
    s.reachable u = true → (s.pointRec p).position ≠ .unknown → (s.pointRec p).selector = some .remote →
    s.eligible (sideSource side a b) = true → (s.pointLoad p : Int) ≤ s.headroom (sideSource side a b) →
    Accepts s p side none

/-- The context of an accepted request (R129). -/
structure Accepted (s : State) (p : PointNo) (side : Side) (cause : Cause) (q : Sequence) : Prop where
  toward : q.targetSide = side
  set : ∃ u a b, s.switched p = some (u, a, b) ∧ q.targetSet = sideSource side a b ∧
    q.originalSet = (s.pointRec p).position.connects a b
  position : q.originalPos = (s.pointRec p).position
  because : q.cause = cause
  load : q.reservedLoad = s.pointLoad p
  marks : q.verification = none ∧ q.abort = none ∧ q.recovery = none

/-- A pass-through command answered at the gate (R183, R188). -/
def passed (s : State) (a : Addr) (tag : Byte) (number : Nat) (result : ResultCode) : State :=
  { s with port := { s.port with
      response := some ⟨BitVec.ofNat 8 (a.val + 1), tag, BitVec.ofNat 8 number, ⟨result, .none⟩⟩
      tx := s.port.tx.or (some .response) } }

/-- The owner of a unit is idle (R189). -/
def OwnerIdle (s : State) (e : UnitEntry) : Prop :=
  (e.kind = .set → ∀ n : SetNo, e.owner = n.val + 1 →
    (s.setRec n).run = .stopped ∨ (s.setRec n).run = .online ∨ (s.setRec n).run = .offline) ∧
  (e.kind = .change → ∀ p : PointNo, e.owner = p.val + 1 → (s.pointRec p).seq = none) ∧
  (e.kind = .fuel → ∀ m : MeterNo, e.owner = m.val + 1 → (s.meter m).session = none)

/-- The office share of the command queue has room (R32). -/
def OfficeRoom (s : State) : Prop :=
  s.engine.queue.length < 24 ∧ (s.engine.queue.filter Command.isOffice).length < 8 ∧
    (s.engine.queue.filter Command.isOffice).length < 24 - (10 + s.tables.switchedCount)

/-- The six pass-through commands: how each is sent, its code, and its number (R188, 10.9). -/
def plainCommands : List ((Byte → Addr → List Byte → Instr) × Code × Nat) :=
  [(.alarmReset, .alarmReset, 66), (.lampTest, .lampTest, 67), (.indicate, .indicate, 71),
    (.resetMax, .resetMax, 72), (.identify, .identify, 73), (.message, .message, 77)]

/-- The lengths that the payload of a management request may have, for the requests whose layout has one length, or one with the entry's
fields and one without (10.8). -/
def layoutLengths : List (Nat × List Nat) :=
  [(1, [0]), (2, [7]), (3, [2]), (4, [0]), (5, [0]), (6, [0]), (7, [0]), (8, [0]), (9, [1, 6]), (10, [1, 10]),
    (11, [1, 32]), (13, [1, 5]), (14, [8]), (15, [3]), (16, [2]), (17, [1]), (18, [1]), (19, [1]), (20, [1])] ++
  [(21, [1]), (23, [1]), (24, [1]), (25, [1]), (26, [1]), (27, [2]), (28, [1]), (29, [7]), (30, [6]), (31, [0]),
    (32, [3]), (33, [1]), (34, [0]), (35, [1]), (37, [0]), (38, [0]), (39, [1]), (40, [2]), (41, [0]), (42, [2]),
    (43, [1])]

/-- A band list that a class may hold (R148). -/
def ValidBands (intervalSeconds : Nat) (bands : List Band) : Prop :=
  bands.length ≤ 6 ∧ (∃ b, bands.head? = some b ∧ b.start = 0) ∧
    bands.Pairwise (fun a b => a.start < b.start) ∧ ∀ b ∈ bands, b.start % intervalSeconds = 0

/-- The seconds of an entry of the schedule, from day 0 (R143). -/
def entrySeconds (e : ScheduleEntry) : Nat := e.day * 86400 + e.second

/-- A run state that SET STOP tests for service and for reachability (R84). -/
def StopTested (r : SetRec) : Prop :=
  r.run = .online ∨ (∃ c, r.run = .warming c) ∨ (∃ a m c x, r.run = .starting a m c x) ∨
    ((∃ why, r.run = .fault why) ∧ ∃ x, r.latest = some x ∧ (x.engine = .running ∨ x.engine = .cranking))

/-- What a set request leaves alone, apart from the set it names and the points it moves. -/
structure SetFrame (s t : State) (n : SetNo) : Prop where
  others : ∀ k, k ≠ n → (t.setRec k).run = (s.setRec k).run
  stopCycle : ∀ k, (t.setRec k).stopCycle = (s.setRec k).stopCycle
  latest : ∀ k, (t.setRec k).latest = (s.setRec k).latest
  run : ∀ k, k ≠ n → (t.setRec k).hire = (s.setRec k).hire
  outside : SameOutside s t
  due : t.due = s.due

end Sys2Proof.Stated

open Sys2Proof Sys2Proof.Machine Sys2Proof.Stated

/-! ### The machine -/

/-- A step takes the queue first in, first out: it runs the command at the front on the state with the rest of the queue. The queue
is the model's choice (log entry 1), and so is what an empty one does: what a cycle start or slot end has left to commands
of their own is taken, and then a step is one millisecond of time, which stands while the next cycle start is due. By
the model's choice too, every other command takes what is left over before it acts, so that nothing comes between an
event and its moment (log entry 6); and the row of an event that is not left over does nothing (log entry 7). -/
def Obligations.StepTakesTheFront : Prop :=
  (∀ (c : Instr) (rest : List Instr) (s : State), s.pending = c :: rest →
    step s = exec c { s with pending := rest }) ∧
  (∀ s : State, s.pending = [] → s.due = [] → step s = .next
    (if s.engine.running = true ∧ s.engine.cycleLen ≤ s.engine.age then s
    else
      { s with
        billing := { s.billing with clock := s.billing.clock.map fun ms => min clockEnd (ms + 1) }
        engine := { s.engine with age := s.engine.age + 1 } })) ∧
  (∀ s : State, s.pending = [] → step s = step s.settle) ∧
  (∀ (c : Instr) (s : State), (∀ x, c ≠ rowOf x) → (∀ ten, c ≠ .powerOnReset ten) → exec c s = exec c s.settle) ∧
  (∀ (x : TimedEvent) (s : State), s.due = [x] → exec (rowOf x) s = .next s.settle) ∧
  (∀ (x : TimedEvent) (s : State), x ∉ s.due → exec (rowOf x) s = .next s.startTx) ∧
  (∀ s : State, s.settle.due = [] ∧ s.settle.pending = s.pending ∧
    s.settle.engine.running = s.engine.running ∧ s.settle.engine.cycleNo = s.engine.cycleNo)

/-- Every command ends in a next state, and none touches the queue of commands; by the model's choice the queue is the sender's, and
both resets keep it (log entries 1, 12). -/
def Obligations.EveryCommandKeepsTheQueue : Prop :=
  ∀ (c : Instr) (s : State), ∃ t, exec c s = .next t ∧ t.pending = s.pending

/-! ### Invariants -/

/-- The state after reset meets every invariant below. -/
def Obligations.ResetMeetsTheInvariants : Prop :=
  State.reset.Bounded ∧ State.reset.TanksSound ∧ State.reset.site.InRange ∧ State.reset.billing.ClockInRange ∧
    State.reset.LiveSound ∧ State.reset.DueSound ∧ State.reset.PointsSound

/-- No queue and no store ever exceeds its capacity (R32, R114, R143, R173, R181, R191, R194). -/
def Obligations.StepKeepsCapacities : Prop :=
  ∀ s t : State, s.Bounded → step s = .next t → t.Bounded

/-- Every book stays between 0 and its capacity, every burn residue below a decilitre (R99, R100, R102). -/
def Obligations.StepKeepsTanksSound : Prop :=
  ∀ s t : State, s.TanksSound → step s = .next t → t.TanksSound

/-- Whenever a sequencer is in DEAD or CLOSING its point is OPEN (R135), with what that rests on in the other phases. -/
def Obligations.StepKeepsDeadPointsOpen : Prop :=
  ∀ s t : State, s.PointsSound → step s = .next t → t.PointsSound

/-- Site values, period and clock stay in their ranges under every well-formed command (R12, R13, R161). -/
def Obligations.CommandsKeepRanges : Prop :=
  ∀ (c : Instr) (s t : State), c.wellFormed = true → s.site.InRange → s.billing.ClockInRange →
    exec c s = .next t → t.site.InRange ∧ t.billing.ClockInRange

/-- LIVE goes with open intervals, a clock and an active table, and no commit waits outside LIVE (R15, R16, R151, R163); and while HALTED
nothing is left over that could still close, check, fire or raise a request (R98, R142, R145, R165; by the model's choice of
log entry 6). -/
def Obligations.StepKeepsLiveSound : Prop :=
  ∀ s t : State, step s = .next t → (s.LiveSound → t.LiveSound) ∧ (s.DueSound → t.DueSound)

/-! ### Commands and the frames that carry them -/

/-- Encode and decode agree: the frame that spells a well-formed command is read by the Office Port as that command. Every
operand of every request, at every value the encoding admits. By the model's choice a request finds the frames before it
sent, and the level of TEN it carries, the notice of a fall after the response (log entries 9, 11, 56), and the enumerated bytes and the layout of LOAD POINT are the
model's where the rules give them no number and no place (log entries 28, 29). -/
def Obligations.FrameSpellsTheCommand : Prop :=
  ∀ (i : Instr) (f : OfficeFrame) (s : State), i.wellFormed = true → officeFrameOf i = some f →
    exec i s = .next (State.respond f.destination f.tag f.kind
      (handleFrame f ((tenLevel i).elim s.quiet s.quiet.sampleTen))).startTx

/-- The bytes of an office frame, received while the Port is calm and between frames, are taken as that frame and answered
(R179 to R183). While a response is in its slot the frame waits in the receive queue; where four wait it is discarded and counted as an
overflow (R181). A bad check, a length below 3 or above 1027 and a missing stop bit within a frame each discard what has come of the
frame and count a frame error; between frames a byte that is no delimiter is passed over (R179, R180). The bytes come with no gap
between them (log entry 10), and what is left over is taken before them (log entry 6), both by the model's choice. -/
def Obligations.FrameBytesAreTaken : Prop :=
  (∀ (f : OfficeFrame) (s : State), f.payload.length ≤ 1024 → Calm s → s.port.rx = .hunting →
    exec (.officeFrameReceived s.ten ((officeFrameBytes f).map .byte)) s =
      .next (State.respond f.destination f.tag f.kind (handleFrame f s)).startTx) ∧
  (∀ (f : OfficeFrame) (s : State), f.payload.length ≤ 1024 → s.due = [] → s.port.rx = .hunting →
    (s.port.response ≠ none → s.port.rxQueue.length < 4 →
      exec (.officeFrameReceived s.ten ((officeFrameBytes f).map .byte)) s =
        .next { s with port := { s.port with rxQueue := s.port.rxQueue ++ [f] } }.startTx) ∧
    (4 ≤ s.port.rxQueue.length →
      exec (.officeFrameReceived s.ten ((officeFrameBytes f).map .byte)) s =
        .next { s with port := { s.port with rxOverflows := min 65535 (s.port.rxOverflows + 1) } }.startTx) ∧
    (∀ hi lo : Byte, (officeFrameBytes f).drop ((officeFrameBytes f).length - 2) ≠ [hi, lo] →
      exec (.officeFrameReceived s.ten
        (((officeFrameBytes f).take ((officeFrameBytes f).length - 2) ++ [hi, lo]).map .byte)) s =
        .next { s with port := { s.port with frameErrors := min 65535 (s.port.frameErrors + 1) } }.startTx)) ∧
  (∀ (hi lo : Byte) (s : State), s.due = [] → s.port.rx = .hunting →
    hi.toNat * 256 + lo.toNat < 3 ∨ 1027 < hi.toNat * 256 + lo.toNat →
    exec (.officeFrameReceived s.ten ([0xC3, hi, lo].map .byte)) s =
      .next { s with port := { s.port with frameErrors := min 65535 (s.port.frameErrors + 1) } }.startTx) ∧
  (∀ (bytes : List Byte) (s : State), s.due = [] → s.port.rx = .partialFrame bytes →
    exec (.officeFrameReceived s.ten [.framingError]) s = .next
      { s with port := { s.port with
        rx := .hunting, frameErrors := min 65535 (s.port.frameErrors + 1) } }.startTx) ∧
  (∀ (b : Byte) (s : State), s.due = [] → s.port.rx = .hunting → b ≠ 0xC3 →
    exec (.officeFrameReceived s.ten [.byte b]) s = .next s.startTx)

/-! ### Resets -/

/-- Power-on reset leaves the power-on value of every table, site value and block (R17, R31, R41, R58, R72, R98, R99, R122, R146, R160,
R178, R195), with nothing left over and no slot open. By the model's choice TEN is at the level the command carries, and the
queue of commands is kept (log entry 12); the fields whose power-on value no rule states are by log entries 13 and 32. -/
def Obligations.PowerOnReset : Prop :=
  ∀ (ten : Bool) (s : State), ∃ t, exec (.powerOnReset ten) s = .next t ∧
    -- the tables and the site
    (∀ a, t.unitEntry a = none) ∧ (∀ f, t.feederEntry f = none) ∧ (∀ n, t.setEntry n = none) ∧
    (∀ p, t.pointEntry p = none) ∧ (∀ k, t.accountEntry k = none) ∧
    t.site = ⟨⟨20, 5, 15, 200, 50, 600⟩, 100, false⟩ ∧
    -- the Field Cycle Engine
    (∀ a, t.link a = ⟨none, 0, 0, 0, 0⟩) ∧ t.engine.running = false ∧ t.engine.cycleNo = 0 ∧
    t.engine.pollPointer = 0 ∧ t.engine.queue = [] ∧ t.engine.outstanding = none ∧
    (∀ m : MeterNo, t.engine.acks[m] = none) ∧ t.engine.lastAcked = none ∧ t.engine.slots = [] ∧
    t.engine.slotsEnded = 0 ∧ t.engine.header = none ∧ t.engine.fde = false ∧
    -- the Feeder Monitor and the energy path
    (∀ f, t.feederRec f = ⟨.none, none, none, .missing⟩ ∧ t.limitFlag f = false) ∧ t.unattributed = 0 ∧
    -- the Set Supervisor
    (∀ n, t.setRec n = ⟨.offline, none, .free, none, false, none, none, 0, [], none,
      ⟨0, 0, 0, 0, 0, 0, 0, 0, 0, false, false⟩, false⟩) ∧
    -- the Fuel Controller
    (∀ n, t.tank n = ⟨0, 0, 0, 0, 0, false, false, false, 0⟩) ∧
    (∀ m, t.meter m = ⟨none, false, none, .free, false, none⟩) ∧ t.tickets = [] ∧
    -- the Changeover Sequencer
    (∀ p, t.pointRec p = ⟨.unknown, none, none, .free, none, false, none, none⟩) ∧ t.schedule = [] ∧
    -- the Tariff Store and the Billing Engine
    t.tariff = ⟨none, .empty, false, false⟩ ∧ t.billing.clock = none ∧ t.billing.interval = none ∧
    (∀ k, t.account k = ⟨0, .clear, 0, 0, 0, 0, 1, none⟩) ∧ t.billing.records = [] ∧ t.billing.nextRecord = 1 ∧
    -- the Office Port
    t.port.rx = .hunting ∧ t.port.rxQueue = [] ∧ t.port.response = none ∧ t.port.notices = [] ∧
    t.port.nextNotice = 0 ∧ t.port.overflow = false ∧ t.port.copies = [] ∧ (∀ a : Addr, t.port.copyDrops[a] = 0) ∧
    t.port.frameErrors = 0 ∧ t.port.rxOverflows = 0 ∧ t.port.gate = ⟨.pass, .pass, .pass, .pass, .pass, .pass⟩ ∧
    t.port.tx = none ∧
    -- the model's own
    t.ten = ten ∧ t.due = [] ∧ t.pending = s.pending

/-- Line reset keeps the tables, the site and what each block's reset table keeps, and re-initialises the rest. By the model's choice it
keeps the queue of commands and finds TEN high (log entry 12); what is left over it takes first, so that it meets states with
nothing left over (log entry 6). -/
def Obligations.LineReset : Prop :=
  ∀ s : State, s.due = [] → ∃ t, exec .lineReset s = .next t ∧
    t.tables = s.tables ∧ t.site = s.site ∧ t.ten = true ∧ t.due = [] ∧ t.pending = s.pending ∧
    -- the Field Cycle Engine
    t.engine.running = false ∧ t.engine.cycleNo = s.engine.cycleNo ∧ t.engine.pollPointer = 0 ∧
    t.engine.queue = [] ∧ t.engine.outstanding = none ∧ (∀ m : MeterNo, t.engine.acks[m] = none) ∧
    (∀ a, (t.link a).garbled = (s.link a).garbled ∧ (t.link a).missed = (s.link a).missed ∧
      (t.link a).forward = 0 ∧
      (s.enabledUnit a = true → (t.link a).state = some .absent ∧ (t.link a).misses = 0) ∧
      (s.enabledUnit a = false → (t.link a).state = (s.link a).state)) ∧
    -- the Feeder Monitor and the energy path
    (∀ f, t.feederRec f = ⟨.none, none, none, .missing⟩) ∧ t.limitFlags = s.limitFlags ∧
    t.unattributed = s.unattributed ∧
    -- the Set Supervisor
    (∀ n, (t.setRec n).run = (if s.setEnabled n then .unseen else .offline) ∧ (t.setRec n).stopCycle = none ∧
      (t.setRec n).place = .free ∧ (t.setRec n).due = none ∧ (t.setRec n).unreachable = false ∧
      (t.setRec n).latest = none ∧ (t.setRec n).loadFraction = none ∧ (t.setRec n).overloadRun = 0 ∧
      (t.setRec n).reservations = [] ∧ (t.setRec n).baseline = none ∧
      { (t.setRec n).hire with delivered := 0 } = { (s.setRec n).hire with delivered := 0 } ∧
      (t.setRec n).localStart = (s.setRec n).localStart) ∧
    -- the Fuel Controller
    (∀ n, { t.tank n with delivered := 0 } = { s.tank n with delivered := 0, discCount := 0 }) ∧
    (∀ m x, (s.meter m).session = some x → x.phase ≠ .granting →
      (∀ k y, k ≠ m → (s.meter k).session = some y → y.set ≠ x.set) →
      (t.tank x.set).delivered = min (2 ^ 64 - 1) ((s.tank x.set).delivered + x.live) ∧
      (t.setRec x.set).hire.delivered = min (2 ^ 64 - 1) ((s.setRec x.set).hire.delivered + x.live)) ∧
    (∀ n, (∀ m x, (s.meter m).session = some x → x.set = n → x.phase = .granting) →
      (t.tank n).delivered = (s.tank n).delivered ∧
      (t.setRec n).hire.delivered = (s.setRec n).hire.delivered) ∧
    (∀ m, t.meter m = ⟨none, false, none, .free, false, none⟩) ∧ t.tickets = s.tickets ∧
    -- the Changeover Sequencer
    (∀ p, t.pointRec p = ⟨.unknown, none, none, .free, none, (s.pointRec p).autoBlocked, none, none⟩) ∧
    t.schedule = s.schedule ∧
    -- the Tariff Store and the Billing Engine
    t.tariff = s.tariff ∧ t.billing.clock = s.billing.clock ∧ t.billing.interval = s.billing.interval ∧
    t.billing.records = s.billing.records ∧ t.billing.nextRecord = s.billing.nextRecord ∧
    (∀ k, OpenFor s k → t.account k =
      { s.account k with marks := { (s.account k).marks with gap := true } }) ∧
    (∀ k, ¬ OpenFor s k → t.account k = s.account k) ∧
    -- the Office Port
    t.port = { s.port with
      rx := .hunting, rxQueue := [], response := none, notices := [], nextNotice := 0, overflow := false
      copies := [], tx := none }

/-- A TEN fall cancels a waiting commit and sets the lockout latch; it does nothing else to the store (R149, R153). By the model's
choice a request that finds TEN low after high takes the same fall first (log entry 11), and what is left over is taken
before the fall (log entry 6). -/
def Obligations.TenFall : Prop :=
  (∀ (s : State) (table : TariffTable), s.due = [] → s.tariff.pending = .commitPending table →
    exec .tenFall s = .next
      ({ s with
        ten := false
        tariff := { s.tariff with pending := .loaded table, lockout := true } }.raise
          (.tariff false table.identifier s.engine.cycleNo s.billing.clock none)).startTx) ∧
  (∀ s : State, s.due = [] → s.tariff.pending.isCommitted = false →
    exec .tenFall s = .next { s with ten := false }.startTx) ∧
  (∀ s : State, s.sampleTen true = { s with ten := true }) ∧
  (∀ s : State, s.ten = false → s.sampleTen false = s) ∧
  (∀ s : State, s.due = [] → s.ten = true → exec .tenFall s = .next (s.sampleTen false).startTx)

/-! ### The cycle -/

/-- A cycle start while RUNNING adds one to the cycle number and takes the period and hold limit in force (R12, R13, R18). Once every slot
of the closing cycle has ended it credits every set with its run time and its time outside the load window, by the limits
as loaded at this cycle start (R90, R96; log entry 44) and by the state in which each set stands when the cycle closes, the model's reading
of 'through the cycle' (log entry 42); that the hold limit is latched with the period is its reading too (log entry 24). Every counter of cycles decreases by one: of sets (R83, R85), of
sequences whose target stays ONLINE (R133 to R138) and of ticket waits (R115). While HALTED no cycle start occurs, and the
command does nothing by the model's choice (log entry 8). The crank counter of a STARTING set decreases too (R81), and the prepare counter of a
sequence whose target is STARTING or WARMING (R133). An open window makes its later dead check, by the readings of the feeders
LIVE at this cycle start, and an undecided one decreases the window counter (R136); that a reading counts when its cycle is later modulo 2^32 is
the model's choice (log entry 17), and that the end DARK carries the number of the cycle that starts its reading (log entry 18). -/
def Obligations.CycleStartCounts : Prop :=
  (∀ (last : Bool) (deferred : List TimedEvent) (s : State), s.engine.running = true →
    ∃ t, exec (.cycleStart last deferred) s = .next t ∧ t.engine.cycleNo = s.engine.cycleNo + 1 ∧
      t.engine.running = true ∧ t.engine.cycleLen = s.site.period ∧
      t.engine.holdInForce = s.site.values.holdLimit ∧ t.engine.age = 0 ∧
      t.tables = s.tables ∧ t.site = s.site ∧ t.ten = s.ten ∧ t.limitFlags = s.limitFlags ∧
      t.port.gate = s.port.gate ∧ t.pending = s.pending) ∧
  (∀ (last : Bool) (deferred : List TimedEvent) (s : State), s.due = [] → s.engine.running = false →
    exec (.cycleStart last deferred) s = .next s.startTx) ∧
  (∀ (last : Bool) (deferred : List TimedEvent) (s : State), CycleDone s →
    ∃ t, exec (.cycleStart last deferred) s = .next t ∧
      (∀ n : SetNo,
        let r := s.setRec n
        let hired := r.run = .online ∨ (∃ c, r.run = .warming c) ∨ ∃ c, r.run = .cooling c
        let tested := (r.run = .online ∨ ∃ c, r.run = .cooling c) ∧ r.unreachable = false
        let fraction := r.loadFraction.getD 0
        (hired → (t.setRec n).hire.runMs = min (2 ^ 64 - 1) (r.hire.runMs + s.engine.cycleLen)) ∧
        (¬ hired → (t.setRec n).hire.runMs = r.hire.runMs) ∧
        (∀ e, s.setEntry n = some e → tested →
          (fraction < e.lowLoadLimit → (t.setRec n).hire.lowLoadMs =
            min (2 ^ 64 - 1) (r.hire.lowLoadMs + s.engine.cycleLen)) ∧
          (e.lowLoadLimit ≤ fraction → (t.setRec n).hire.lowLoadMs = r.hire.lowLoadMs) ∧
          (e.overloadLimit < fraction → (t.setRec n).hire.overloadMs =
            min (2 ^ 64 - 1) (r.hire.overloadMs + s.engine.cycleLen)) ∧
          (fraction ≤ e.overloadLimit → (t.setRec n).hire.overloadMs = r.hire.overloadMs) ∧
          (r.run = .online → r.due = none → (t.setRec n).overloadRun =
            if e.overloadLimit < fraction then min 65535 (r.overloadRun + 1) else 0)) ∧
        (¬ tested → (t.setRec n).hire.lowLoadMs = r.hire.lowLoadMs ∧
          (t.setRec n).hire.overloadMs = r.hire.overloadMs) ∧
        (∀ c, r.run = .warming (c + 2) → r.due = none → (t.setRec n).run = .warming (c + 1)) ∧
        (∀ c, r.run = .cooling (c + 2) → r.due = none → (t.setRec n).run = .cooling (c + 1)) ∧
        -- a start request of this cycle start may clear the stop-pending mark (R80)
        (∀ attempt allowed c mark, r.run = .starting attempt allowed (some (c + 2)) mark → r.due = none →
          Unasked s (.sets n) → ∃ kept, (kept = true → mark = true) ∧
            (t.setRec n).run = .starting attempt allowed (some (c + 1)) kept)) ∧
      (∀ (p : PointNo) (q : Sequence) (c : Nat), (s.pointRec p).seq = some q → q.phase = .preparing →
        q.counter = .prepare (c + 2) → (s.setRec q.targetSet).unreachable = false →
        (s.setRec q.targetSet).due = none → Unasked s (.sets q.targetSet) →
        (∃ left, (s.setRec q.targetSet).run = .warming (left + 2)) ∨
          (∃ attempt allowed crank mark, (s.setRec q.targetSet).run = .starting attempt allowed crank mark ∧
            (crank = none ∨ ∃ left, crank = some (left + 2))) →
        (t.pointRec p).seq = some { q with counter := .prepare (c + 1) }) ∧
      (∀ (p : PointNo) (e : PointEntry) (q : Sequence) (c : Nat), s.pointEntry p = some e →
        (s.pointRec p).seq = some q → q.phase = .dead → q.counter = .window (c + 2) → (s.pointRec p).due = none →
        (∀ c, (s.pointRec p).place ≠ .queued c) → Unasked s (.changeover p) → Online s q.targetSet →
        (s.setRec q.targetSet).due = none → (∀ u a b, s.switched p = some (u, a, b) → s.reachable u = true) →
        WindowChecked s t p e q (c + 1)) ∧
      (∀ (p : PointNo) (q : Sequence), (s.pointRec p).seq = some q → (s.pointRec p).due = none →
        (∀ c, (s.pointRec p).place ≠ .queued c) → (∀ c ∈ s.engine.queue, c.origin ≠ .changeover p) →
        (∀ x, s.engine.outstanding = some x → x.command.origin ≠ .changeover p) →
        Online s q.targetSet → (s.setRec q.targetSet).due = none →
        ∀ count ∈ [PhaseCounter.prepare, .confirm, .dead], ∀ c, q.counter = count (c + 2) →
          (t.pointRec p).seq = some { q with counter := count (c + 1) }) ∧
      (∀ (m : MeterNo) (x : Session) (c : Nat) (b : Option TicketBuffer), (s.meter m).session = some x →
        x.phase = .ticketing (some (c + 2)) b →
        (t.meter m).session = some { x with phase := .ticketing (some (c + 1)) b }))

/-- The slot list of a cycle: at most 16 slots, no unit twice, only enabled units and the target of the command being answered,
and under the slot budget every enabled unit of class EVERY; the header names exactly these slots, and an empty cycle
has none (R19 to R23). With the engine's work before the owners': a command outstanding is answered in the first slot; with
none, the first entry of the queue whose target can be reached is sent, office entries before it whose targets cannot leaving
the queue (R34); the EVERY pass, the ROUND pass and the poll pointer (R20, R21); the acknowledgement of the meter that was
not acknowledged last (R24); and a command whose target was disabled before its reply slot ends NO_ANSWER (R36). -/
def Obligations.CycleStartOpensSlots : Prop :=
  (∀ (last : Bool) (deferred : List TimedEvent) (s : State), s.engine.running = true →
    ∃ t, exec (.cycleStart last deferred) s = .next t ∧
      t.engine.slots.Nodup ∧ t.engine.slots.length ≤ 16 ∧ t.engine.slotsEnded = 0 ∧
      (∀ a ∈ t.engine.slots, s.enabledUnit a = true ∨
        ∃ q, s.engine.outstanding = some q ∧ q.command.target = a) ∧
      (s.tables.slotsFit = true → ∀ a e, s.unitEntry a = some e → e.enabled = true → e.pollClass = .every →
        a ∈ t.engine.slots) ∧
      (t.engine.slots = [] → t.engine.header = none ∧ t.engine.fde = false) ∧
      (t.engine.slots ≠ [] → t.engine.fde = true ∧
        ∃ h, t.engine.header = some h ∧ h.cycle = t.engine.cycleNo ∧ h.slots = t.engine.slots)) ∧
  (∀ (deferred : List TimedEvent) (s : State), CycleDone s →
    ∃ t, exec (.cycleStart false deferred) s = .next t ∧
      -- a command being answered
      (∀ q, s.engine.outstanding = some q → q.orphan = false → SlotsAllocated s t (some q.command.target) ∧
        t.engine.outstanding = some { q with replyAllocated := true } ∧
        ∀ h, t.engine.header = some h → h.command = none) ∧
      -- the selection
      (∀ passed rest : List Command, s.engine.outstanding = none → s.engine.queue = passed ++ rest →
        passed.length ≤ 24 → (∀ c ∈ passed, (∃ o, c.origin = .office o) ∧ s.reachable c.target = false) →
        (rest = [] → SlotsAllocated s t none ∧ t.engine.outstanding = none ∧
          ∀ h, t.engine.header = some h → h.command = none) ∧
        (∀ c, rest.head? = some c → s.reachable c.target = true → SlotsAllocated s t none ∧ CommandSent s t c)) ∧
      -- the acknowledgement
      (∀ h, t.engine.header = some h →
        ((∀ m : MeterNo, s.engine.acks[m] = none) → h.ack = none) ∧
        (∀ (m : MeterNo) x, s.engine.acks[m] = some x →
          (∀ k : MeterNo, k ≠ m → s.engine.acks[k] = none ∨ (m = 0 ∧ s.engine.lastAcked ≠ some m) ∨
            s.engine.lastAcked = some k) →
          h.ack = some x ∧ t.engine.acks[m] = none ∧ t.engine.lastAcked = some m ∧
            ∀ k : MeterNo, k ≠ m → t.engine.acks[k] = s.engine.acks[k])) ∧
      -- a command that can no longer be answered
      (∀ (q : Outstanding) (n : SetNo), s.engine.outstanding = some q → q.orphan = true →
        q.replyAllocated = false → q.command.origin = .sets n → q.command.code = .stop →
        (s.setRec n).run = .stopping → (s.setRec n).due = none → (∀ c ∈ s.engine.queue, c.origin ≠ .sets n) →
        (t.setRec n).run = .online ∧ (t.setRec n).place = .free ∧ t.engine.outstanding ≠ some q))

/-! ### Timed events, each where CYCLE_START or SLOT_END has left it to a command of its own (log entry 6) -/

/-- The warm-up counter at 0 takes a WARMING set to ONLINE (R83); the cool-down counter at 0 takes a COOLING set to STOPPING, and
back to ONLINE where it is the connected source of a point (R79, R85). -/
def Obligations.WarmUpAndCoolDownExpire : Prop :=
  (∀ (n : SetNo) (s : State), .warmUp n ∈ s.due → (s.setRec n).run = .warming 0 →
    ∃ t, exec (.warmUpExpiry n) s = .next t ∧ (t.setRec n).run = .online ∧ (t.setRec n).overloadRun = 0 ∧
      Told s t (.setState n .warming .online .timer none s.engine.cycleNo) ∧
      (∀ k, k ≠ n → (t.setRec k).run = (s.setRec k).run) ∧ (∀ k, (t.setRec k).hire = (s.setRec k).hire) ∧
      t.due = s.due.erase (.warmUp n) ∧ SameOutside s t) ∧
  (∀ (n : SetNo) (s : State), .coolDown n ∈ s.due → (s.setRec n).run = .cooling 0 → s.inService n = false →
    ∃ t, exec (.coolDownExpiry n) s = .next t ∧ (t.setRec n).run = .stopping ∧
      ((t.setRec n).due = some .stop ∨ (t.setRec n).place = .queued .stop) ∧
      Told s t (.setState n .cooling .stopping .timer none s.engine.cycleNo) ∧
      (∀ k, k ≠ n → (t.setRec k).run = (s.setRec k).run) ∧ (∀ k, (t.setRec k).hire = (s.setRec k).hire) ∧
      t.due = s.due.erase (.coolDown n) ∧ SameOutside s t) ∧
  (∀ (n : SetNo) (p : PointNo) (s : State), .coolDown n ∈ s.due → (s.setRec n).run = .cooling 0 →
    s.connectedSet p = some n → (s.setRec n).place = .free → (s.setRec n).unreachable = false →
    ∃ t, exec (.coolDownExpiry n) s = .next t ∧ (t.setRec n).run = .online ∧ (t.setRec n).due = none ∧
      Told s t (.setState n .stopping .online .inService none s.engine.cycleNo) ∧
      (∀ k, k ≠ n → (t.setRec k).run = (s.setRec k).run) ∧ (∀ k, (t.setRec k).hire = (s.setRec k).hire) ∧
      t.due = s.due.erase (.coolDown n) ∧ SameOutside s t)

/-- The crank counter at 0 ends the attempt: STOPPED under a stop-pending mark, the next attempt with START due while attempts are
left, FAULT otherwise (R81, R82); that an attempt whose number is above the crank attempts read for it ends in FAULT is the model's
choice (log entry 65). -/
def Obligations.CrankWindowExpires : Prop :=
  ∀ (n : SetNo) (attempt allowed : Nat) (mark : Bool) (s : State), .crankWindow n ∈ s.due →
    (s.setRec n).run = .starting attempt allowed (some 0) mark →
    ∃ t, exec (.crankWindowExpiry n) s = .next t ∧
      (mark = true → (t.setRec n).run = .stopped ∧ (t.setRec n).stopCycle = (s.setRec n).stopCycle ∧
        Told s t (.setState n .starting .stopped .startEnded none s.engine.cycleNo)) ∧
      (mark = false → attempt < allowed →
        (t.setRec n).run =
          .starting (attempt + 1) (((s.setEntry n).map SetEntry.crankAttempts).getD 0) none false ∧
        ((t.setRec n).due = some .start ∨ (t.setRec n).place = .queued .start) ∧
        t.port.notices = s.port.notices) ∧
      (mark = false → allowed ≤ attempt → (t.setRec n).run = .fault .failedStart ∧
        Told s t (.setState n .starting .fault .failedStart (some attempt) s.engine.cycleNo)) ∧
      (∀ k, k ≠ n → (t.setRec k).run = (s.setRec k).run) ∧ (∀ k, (t.setRec k).hire = (s.setRec k).hire) ∧
      t.due = s.due.erase (.crankWindow n) ∧ SameOutside s t

/-- The prepare counter at 0 ends the sequence PREPARE_TIMEOUT (R133); the confirm counter at 0 ends OPENING with OPEN_FAILED or
the abort mark, ends RECOVERING DARK, and takes CLOSING to RECOVERING, or DARK where the original source cannot be
restored (R134, R137, R138). The notice of a DARK end is urgent: where the notice queue is full it takes the place of the newest ordinary
notice that is not in transmission (R130, R191, R192). -/
def Obligations.PrepareAndConfirmExpire : Prop :=
  (∀ (p : PointNo) (q : Sequence) (s : State), .prepare p ∈ s.due → (s.pointRec p).seq = some q →
    q.counter = .prepare 0 →
    ∃ t, exec (.prepareTimeout p) s = .next t ∧ Ended s t p q .prepareTimeout ∧ SameOutside s t) ∧
  (∀ (p : PointNo) (q : Sequence) (s : State), .confirm p ∈ s.due → (s.pointRec p).seq = some q →
    q.counter = .confirm 0 →
    ∃ t, exec (.confirmTimeout p) s = .next t ∧ SameOutside s t ∧
      (q.phase = .opening → q.abort = none → Ended s t p q .openFailed) ∧
      (q.phase = .opening → q.abort = some .cancelled → Ended s t p q .cancelled) ∧
      (q.phase = .opening → q.abort = some .targetFault → Ended s t p q .targetFault) ∧
      (q.phase = .recovering → Ended s t p q .dark ∧
        NoticeRaised s.port t.port true (endNotice s p q .dark none (s.pointRec p).position)) ∧
      (q.phase = .closing → ¬ Restorable s q →
        Ended s t p { q with phase := .recovering, recovery := some .closeFailed, counter := .none } .dark) ∧
      (q.phase = .closing → Restorable s q →
        (t.pointRec p).seq =
          some { q with phase := .recovering, recovery := some .closeFailed, counter := .none } ∧
        ∀ k, k ≠ p → t.pointRec k = s.pointRec k))

/-- The dead time's expiry makes the first dead check, and an undecided one opens the window; the window at 0 makes the last, and an
undecided one goes on UNVERIFIED (R135 to R137). That a reading counts when its cycle is later than the open cycle modulo
2^32 is the model's choice (log entry 17), and so is that a close-off left over is read as done (log entry 6). -/
def Obligations.DeadTimeAndWindowExpire : Prop :=
  (∀ (p : PointNo) (e : PointEntry) (q : Sequence) (s : State), .deadTime p ∈ s.due → s.pointEntry p = some e →
    (s.pointRec p).seq = some q → q.phase = .dead → q.counter = .dead 0 →
    ∃ t, exec (.deadTimeExpiry p) s = .next t ∧ SameOutside s t ∧ (∀ k, k ≠ p → t.pointRec k = s.pointRec k) ∧
      DeadChecked s t p e q { q with counter := .window e.confirmTimeout }) ∧
  (∀ (p : PointNo) (e : PointEntry) (q : Sequence) (s : State), .window p ∈ s.due → s.pointEntry p = some e →
    (s.pointRec p).seq = some q → q.phase = .dead → q.counter = .window 0 →
    ∃ t, exec (.windowExpiry p) s = .next t ∧ SameOutside s t ∧ (∀ k, k ≠ p → t.pointRec k = s.pointRec k) ∧
      DeadChecked s t p e q
        { q with phase := .closing, counter := .none, verification := some .unverified })

/-- The ticket-wait counter at 0 ends the session NO_TICKET: the live total goes to the delivered totals, and the book keeps it
(R115, R117). -/
def Obligations.TicketWaitExpires : Prop :=
  ∀ (m : MeterNo) (x : Session) (b : Option TicketBuffer) (s : State), .ticketWait m ∈ s.due →
    (s.meter m).session = some x → x.phase = .ticketing (some 0) b →
    ∃ t, exec (.ticketWaitExpiry m) s = .next t ∧ SessionEnded s t m x .noTicket ∧
      t.due = s.due.erase (.ticketWait m)

/-- The walk of the schedule (R145): an entry whose time has not come stays, a late entry goes; and of a schedule of one entry, the
entry goes LATE, fires, is refused with its code, or stays while its sequencer is busy. -/
def Obligations.ScheduleFires : Prop :=
  (∀ (s : State) (now : Nat), .schedule ∈ s.due → s.billing.nowSeconds = some now →
    ∃ t, exec .scheduleFire s = .next t ∧ t.due = s.due.erase .schedule ∧
      (∀ e ∈ t.schedule, e ∈ s.schedule) ∧
      (∀ e ∈ s.schedule, now < e.day * 86400 + e.second → e ∈ t.schedule) ∧
      (s.schedule.Pairwise (fun a b => a.day * 86400 + a.second ≤ b.day * 86400 + b.second) →
        ∀ e ∈ s.schedule, e.day * 86400 + e.second + s.site.values.lateLimit < now → e ∉ t.schedule) ∧
      t.tables = s.tables ∧ t.site = s.site ∧ t.tanks = s.tanks ∧ t.billing = s.billing ∧
      t.tariff = s.tariff ∧ t.feeders = s.feeders) ∧
  (∀ (s : State) (e : ScheduleEntry) (now : Nat), .schedule ∈ s.due → s.billing.nowSeconds = some now →
    s.schedule = [e] → e.day * 86400 + e.second ≤ now →
    let late := e.day * 86400 + e.second + s.site.values.lateLimit < now
    ∃ t, exec .scheduleFire s = .next t ∧
      (late → t.schedule = [] ∧ t.points = s.points ∧
        Told s t (.schedule e.point e.day e.second e.side .late)) ∧
      (¬ late → (s.pointRec e.point).seq.isSome = true → t.schedule = [e] ∧ t.points = s.points) ∧
      (¬ late → (s.pointRec e.point).seq = none → ∀ code, s.acceptanceRefusal e.point e.side = some code →
        t.schedule = [] ∧ t.points = s.points ∧
          Told s t (.schedule e.point e.day e.second e.side (.refused code))) ∧
      (¬ late → (s.pointRec e.point).seq = none → s.acceptanceRefusal e.point e.side = none →
        t.schedule = [] ∧ Told s t (.schedule e.point e.day e.second e.side .accepted) ∧
          ∃ q, (t.pointRec e.point).seq = some q ∧ q.cause = .schedule ∧ q.targetSide = e.side ∧
            q.reservedLoad = s.pointLoad e.point))

/-- A due close with room in the record queue: one record for each active account in ascending order, at the tail, numbered from the
next record number by one each, with the HIGH_WATER notice where they cross its mark (R173, R176); the energy of
every active account conserved to the millijoule, its carry within half a unit, priced by the band of the interval's start and added to the
account's charge, with the trial charge beside it (R156, R157, R165, R167 to R170); then a waiting commit in force (R152), and a new
interval open. Without room nothing closes: the intervals are EXTENDED to the next boundary (R166), and no record number is used. The clock's
whole seconds, in which an interval starts, are the model's reading (log entry 30); the next boundary in the last interval of day 65535, which no
time of the clock reaches, is the model's choice (log entry 55). -/
def Obligations.IntervalsCloseOrExtend : Prop :=
  ∀ (s : State) (i : OpenInterval) (now : Nat), .intervalClose ∈ s.due → s.site.live = true →
    s.billing.interval = some i → s.billing.clock = some now →
    (i.timeSetDue = true ∨ i.nextBoundary ≤ now / 1000) →
    (∀ k, -18000000 ≤ (s.account k).carry) →
    let unit := s.site.values.intervalMin * 60
    ∃ t, exec .intervalCloseDue s = .next t ∧ t.due = s.due.erase .intervalClose ∧
      t.tables = s.tables ∧ t.site = s.site ∧ t.billing.clock = s.billing.clock ∧
      (s.activeAccounts.length + s.billing.records.length ≤ 512 →
        (∃ new, RecordsProduced s t new ∧ new.map recordAccount = s.activeAccounts ∧
          ∀ r ∈ new, ∃ x, r = .interval x ∧ Priced s t i
            (ranFor i (if i.timeSetDue then now else now / 1000 / unit * unit * 1000)) i.timeSetDue x.account x) ∧
        CommitTakesForce s t ∧
        (∀ k ∈ s.activeAccounts,
          (t.account k).accumulator = 0 ∧
          -18000000 ≤ (t.account k).carry ∧ (t.account k).carry ≤ 18000000 ∧
          (s.account k).units ≤ (t.account k).units ∧
          36000000 * (((t.account k).units : Int) - (s.account k).units) + (t.account k).carry =
            (s.account k).carry + (s.account k).accumulator ∧
          (t.account k).marks = { Marks.clear with short := i.timeSetDue }) ∧
        (∀ k, k ∉ s.activeAccounts → t.account k = s.account k) ∧
        (i.timeSetDue = false → t.billing.interval =
          some ⟨now / 1000 / unit * unit, true, (now / 1000 / unit * unit / unit + 1) * unit, 0, false⟩) ∧
        (i.timeSetDue = true → t.billing.interval =
          some ⟨now / 1000, false, (now / 1000 / unit + 1) * unit, 0, false⟩)) ∧
      (512 < s.activeAccounts.length + s.billing.records.length → s.billing.records.length ≤ 512 →
        RecordsProduced s t [] ∧ t.tariff = s.tariff ∧
        t.billing.interval = some { i with nextBoundary := (now / 1000 / unit + 1) * unit, timeSetDue := false } ∧
        (∀ k, t.account k = if k ∈ s.activeAccounts
          then { s.account k with marks := { (s.account k).marks with extended := true } } else s.account k) ∧
        Told s t (.records (.extended i.start ((now / 1000 / unit + 1) * unit)) s.billing.records.length
          (s.billing.records.head?.map Record.number) (some now) s.engine.cycleNo))

/-- A feeder past the hold limit is closed off with a flat step of Pp × 10 × H × T mJ, to its account while an interval is open
and to one place on the set side, and becomes STALE (R49, R60 to R63). -/
def Obligations.HoldLimitClosesOff : Prop :=
  ∀ (f : FeederNo) (e : FeederEntry) (b : Baseline) (s : State), .holdLimit f ∈ s.due →
    s.feederEntry f = some e → ((s.feederRec f).state = .live ∨ (s.feederRec f).state = .held) →
    (s.feederRec f).baseline = some b → s.engine.holdInForce < (s.engine.cycleNo - b.cycle).toNat →
    let energy := b.power * 10 * s.engine.holdInForce * s.engine.cycleLen
    ∃ t, exec (.holdLimitCloseOff f) s = .next t ∧
      t.feederRec f = { s.feederRec f with state := .stale, baseline := none } ∧
      (∀ g, g ≠ f → t.feederRec g = s.feederRec g) ∧
      (OpenFor s e.account → t.account e.account =
        { s.account e.account with
          accumulator := (s.account e.account).accumulator + energy
          marks := { (s.account e.account).marks with
            estimated := true, clamped := (s.account e.account).marks.clamped || b.clamped } }) ∧
      (¬ OpenFor s e.account → t.account e.account = s.account e.account) ∧
      (∀ k, k ≠ e.account → t.account k = s.account k) ∧
      (∀ n, s.connectedSet e.point = some n ∨ (s.connectedSet e.point = none ∧ b.connected = some n) →
        (t.setRec n).hire = { (s.setRec n).hire with
          meteredMj := min (2 ^ 64 - 1) ((s.setRec n).hire.meteredMj + energy) } ∧
        (∀ k, k ≠ n → t.setRec k = s.setRec k) ∧ t.unattributed = s.unattributed) ∧
      (s.connectedSet e.point = none → b.connected = none →
        t.sets = s.sets ∧ t.unattributed = min (2 ^ 64 - 1) (s.unattributed + energy)) ∧
      t.tables = s.tables ∧ t.site = s.site ∧ t.points = s.points ∧ t.tanks = s.tanks ∧
      t.limitFlags = s.limitFlags ∧ t.billing.records = s.billing.records ∧ t.billing.clock = s.billing.clock ∧
      t.due = s.due.erase (.holdLimit f)

/-- A unit whose count has reached the loss limit becomes LOST: the notice, and what its owner does by its kind, with the notices of what
it ends (R28, R30, R45, R89, R117, R120, R141); that of a board is the one notice of its event, with its number, and lost to a full queue with
the overflow mark set (R191). The next valid report of a LOST unit makes it PRESENT, with the notice, and
its sets are reachable again (R30, R89). The sets and points told are those whose entry names the unit, by the model's
choice (log entry 23). -/
def Obligations.LinkLostIsTold : Prop :=
  (∀ (a : Addr) (e : UnitEntry) (s : State), .linkLost a ∈ s.due → s.unitEntry a = some e → e.enabled = true →
    (s.link a).state = some .silent → s.site.values.lossLimit ≤ (s.link a).misses →
    ∃ t, exec (.linkLost a) s = .next t ∧ t.link a = { s.link a with state := some .lost } ∧
      (∀ k, k ≠ a → t.link k = s.link k) ∧ Told s t (.unitLink a .lost (s.link a).misses) ∧
      (e.kind = .board → NoticeRaised s.port t.port false (.unitLink a .lost (s.link a).misses) ∧
        ∀ f x, s.feederEntry f = some x → x.board = a →
          t.feederRec f = { s.feederRec f with
            state := if (s.feederRec f).state = .live then .held else (s.feederRec f).state
            status := .missing }) ∧
      (e.kind = .set → ∀ n x, s.setEntry n = some x → x.enabled = true → x.unit = a →
        (t.setRec n).unreachable = true ∧ (t.setRec n).run = (s.setRec n).run ∧
          (t.setRec n).latest = (s.setRec n).latest) ∧
      (e.kind = .change → ∀ p x y, s.switched p = some (a, x, y) →
        (t.pointRec p).position = .unknown ∧ (t.pointRec p).selector = none ∧ (t.pointRec p).seq = none ∧
          ∀ q, (s.pointRec p).seq = some q →
            (t.pointRec p).lastOutcome = some ⟨.linkLost, q.cause, s.engine.cycleNo⟩ ∧
              Told s t (endNotice s p q .linkLost none .unknown)) ∧
      (e.kind = .fuel → ∀ m : MeterNo, e.owner = m.val + 1 → ∀ x, (s.meter m).session = some x →
        (t.meter m).session = none ∧ (t.meter m).promoted = false ∧
          Told s t (.delivery ⟨m, x.set.val + 1, .linkLost, x.live, none, none, none, none⟩) ∧
          (x.phase ≠ .granting →
            (t.tank x.set).delivered = min (2 ^ 64 - 1) ((s.tank x.set).delivered + x.live)) ∧
          (x.phase = .granting → (t.tank x.set).delivered = (s.tank x.set).delivered)) ∧
      t.tables = s.tables ∧ t.site = s.site ∧ t.billing = s.billing ∧ t.tariff = s.tariff ∧
      t.schedule = s.schedule ∧ t.due = s.due.erase (.linkLost a)) ∧
  (∀ (a : Addr) (e : UnitEntry) (r : FieldReport) (received : SlotInput) (deferred : List TimedEvent) (s : State),
    SlotOf s a e → (s.link a).state = some .lost → ValidFrom a e received r →
    ∃ t, exec (.slotEnd received deferred) s = .next t ∧ (t.link a).state = some .present ∧
      (t.link a).misses = 0 ∧ (∀ k, k ≠ a → t.link k = s.link k) ∧ Told s t (.unitLink a .present 0) ∧
      (∀ n x, s.setEntry n = some x → x.unit = a → (t.setRec n).unreachable = false))

/-- A discrepancy count that stands at 20 sets DISCREPANCY; the notice is raised when the flag was clear (R106). Raising a notice gives it the
next number, and a full queue loses it, or gives up its newest ordinary notice to an urgent one, with the overflow mark set (R191,
R192). -/
def Obligations.DiscrepancySets : Prop :=
  (∀ (n : SetNo) (s : State), .discrepancy n ∈ s.due → (s.tank n).discCount = 20 →
    (s.tank n).discrepancy = false →
    exec (.discrepancySet n) s = .next
      (({ s with
        due := s.due.erase (.discrepancy n)
        tanks := s.tanks.set n { s.tank n with discrepancy := true } }.raise
          (.setFlag n .discrepancy (some (s.tank n).book) none ((s.setRec n).latest.map SetReport.sensor)
            s.engine.cycleNo)).startTx)) ∧
  (∀ (n : SetNo) (s : State), .discrepancy n ∈ s.due → (s.tank n).discCount = 20 →
    (s.tank n).discrepancy = true →
    exec (.discrepancySet n) s = .next { s with due := s.due.erase (.discrepancy n) }.startTx) ∧
  (∀ (s : State) (urgent : Bool) (body : NoticeBody), NoticeRaised s.port (s.raiseMarked urgent body).port urgent body ∧
    s.raise body = s.raiseMarked false body)

/-- An ONLINE set at or above its overload hold raises one LOAD request: for the qualifying point with the largest load, the lowest
number among equals; it is accepted, or its refusal is recorded (R91, R127 to R129). Where no point qualifies nothing is
raised. At a cycle start a set in FAULT, and an enabled set whose book is at or below its low level, raise a FAULT and a FUEL
request for each idle point connected to them that asks for it, accepted or its refusal recorded (R93, R105); that this refusal
carries the number of the cycle that starts is the model's reading (log entry 18). -/
def Obligations.LoadRequestIsRaised : Prop :=
  (∀ (n : SetNo) (e : SetEntry) (p : PointNo) (partner : SetNo) (s : State), .loadRequest n ∈ s.due →
    s.setEntry n = some e → (s.setRec n).run = .online → e.overloadHold ≤ (s.setRec n).overloadRun →
    n ≠ partner → Qualifies s n p partner →
    (∀ k other, Qualifies s n k other → s.pointLoad k < s.pointLoad p ∨
      (s.pointLoad k = s.pointLoad p ∧ p ≤ k)) →
    ∃ t, exec (.loadChangeoverRequest n) s = .next t ∧
      ((∃ q, (t.pointRec p).seq = some q ∧ q.cause = .load ∧ q.targetSet = partner ∧
          q.reservedLoad = s.pointLoad p) ∨
        (∃ code, t.pointRec p =
          { s.pointRec p with lastRefusal := some ⟨.load, code, s.engine.cycleNo⟩ })) ∧
      t.due = s.due.erase (.loadRequest n) ∧ SameOutside s t) ∧
  (∀ (n : SetNo) (s : State), .loadRequest n ∈ s.due → (∀ p partner, ¬ Qualifies s n p partner) →
    exec (.loadChangeoverRequest n) s = .next { s with due := s.due.erase (.loadRequest n) }.startTx) ∧
  (∀ (n : SetNo) (p : PointNo) (e : PointEntry) (deferred : List TimedEvent) (s : State), CycleDone s →
    s.schedule = [] → s.connectedSet p = some n → s.switched p ≠ none → s.pointEntry p = some e →
    (s.pointRec p).seq = none → (s.pointRec p).autoBlocked = false →
    let raised := fun (cause : Cause) (t : State) =>
      (∃ q, (t.pointRec p).seq = some q ∧ q.cause = cause ∧ q.originalSet = some n) ∨
        ∃ code, (t.pointRec p).lastRefusal = some ⟨cause, code, s.engine.cycleNo + 1⟩
    ((∃ why, (s.setRec n).run = .fault why) → (s.setRec n).due = none → e.autoFault = true → e.autoFuel = false →
      ∃ t, exec (.cycleStart false deferred) s = .next t ∧ raised .fault t) ∧
    (∀ x, s.setEntry n = some x → x.enabled = true → (s.tank n).book ≤ x.lowLevel →
      (∀ why, (s.setRec n).run ≠ .fault why) → e.autoFuel = true → e.autoLoad = false →
      ∃ t, exec (.cycleStart false deferred) s = .next t ∧ raised .fuel t))

/-! ### Slots, and the two lines -/

/-- A silent or garbled slot: the unit's counts, its link state by the loss limit with the notice of a unit becoming LOST, and a
board's feeders told that they missed their poll (R25, R28, R30, R31, R45). What is received in the reply slot of a target that has been
disabled or cleared is discarded: it updates no link and no count, it reaches no owner, and the command ends NO_ANSWER (R36). That the slot of another
owner no longer enabled is discarded too, and that the feeders of such a board, or of one no longer loaded, have missed their poll, is the
model's choice, as is that a slot counts by the entry as it stands at the slot's end, where one was cleared and loaded again since the
cycle start (log entry 15). -/
def Obligations.SlotMissed : Prop :=
  (∀ (a : Addr) (e : UnitEntry) (received : SlotInput) (deferred : List TimedEvent) (s : State), SlotOf s a e →
    (received = .nothing ∨ Garbled a e received) → .linkLost a ∉ deferred →
    ∃ t, exec (.slotEnd received deferred) s = .next t ∧
      t.engine.slotsEnded = s.engine.slotsEnded + 1 ∧ t.engine.slots = s.engine.slots ∧
      (t.link a).misses = min 255 ((s.link a).misses + 1) ∧
      (t.link a).missed = min 65535 ((s.link a).missed + 1) ∧
      (received = .nothing → (t.link a).garbled = (s.link a).garbled) ∧
      (received ≠ .nothing → (t.link a).garbled = min 65535 ((s.link a).garbled + 1)) ∧
      (t.link a).forward = (s.link a).forward ∧
      ((s.link a).state = some .lost → (t.link a).state = some .lost) ∧
      ((s.link a).state ≠ some .lost → min 255 ((s.link a).misses + 1) < s.site.values.lossLimit →
        (t.link a).state = some .silent) ∧
      ((s.link a).state ≠ some .lost → s.site.values.lossLimit ≤ min 255 ((s.link a).misses + 1) →
        (t.link a).state = some .lost ∧ Told s t (.unitLink a .lost (min 255 ((s.link a).misses + 1)))) ∧
      (∀ k, k ≠ a → t.link k = s.link k) ∧
      (e.kind = .board → ∀ f x, s.feederEntry f = some x → x.board = a →
        t.feederRec f = missedPoll (s.feederRec f)) ∧
      t.tables = s.tables ∧ t.site = s.site ∧ t.limitFlags = s.limitFlags ∧ t.tariff = s.tariff ∧
      t.schedule = s.schedule ∧ t.pending = s.pending) ∧
  -- the reply slot of a target that is no longer enabled
  (∀ (a : Addr) (q : Outstanding) (received : SlotInput) (deferred : List TimedEvent) (s : State), OpenSlot s a →
    s.engine.slotsEnded = 0 → s.engine.outstanding = some q → q.replyAllocated = true →
    (q.orphan = true ∨ ∀ e, s.unitEntry a = some e → e.enabled = false) →
    ∃ t, exec (.slotEnd received deferred) s = .next t ∧ SlotDiscarded s t ∧ t.engine.outstanding = none ∧
      t.feeders = s.feeders ∧
      (∀ tag, q.command.origin = .office tag → OwnersKept s t ∧
        Told s t (.commandResult tag q.command.target q.command.code .noAnswer s.engine.cycleNo))) ∧
  -- another slot, of an owner that is no longer enabled
  (∀ (a : Addr) (received : SlotInput) (deferred : List TimedEvent) (s : State), OpenSlot s a →
    (∀ e, s.unitEntry a = some e → e.enabled = false) →
    (s.engine.slotsEnded ≠ 0 ∨ ∀ q, s.engine.outstanding = some q → q.replyAllocated = false) →
    ∃ t, exec (.slotEnd received deferred) s = .next t ∧ SlotDiscarded s t ∧ OwnersKept s t ∧
      t.engine.outstanding = s.engine.outstanding ∧
      (∀ f x, s.feederEntry f = some x → x.board = a → (∀ e, s.unitEntry a = some e → e.kind = .board) →
        t.feederRec f = missedPoll (s.feederRec f)) ∧
      (∀ f, (∀ x, s.feederEntry f = some x → x.board ≠ a) ∨ (∃ e, s.unitEntry a = some e ∧ e.kind ≠ .board) →
        t.feederRec f = s.feederRec f))

/-- The reply slot ends the outstanding command and returns its outcome: by the answer of a valid report, NO_ANSWER for a slot that is
missed (R25, R35). To the office it becomes its COMMAND RESULT notice (R190). A set's START that is refused or not answered
ends the attempt (R81, R82), and an accepted one loads the crank counter; its STOP that is refused or not answered returns
it to ONLINE (R86). A sequence in OPENING ends, one in CLOSING goes to RECOVERING, one in RECOVERING ends DARK, and an
accepted command loads the confirm counter (R134, R137, R138). A session in GRANTING goes to DISPENSING or ends (R110), and a
REVOKE ends it CANCELLED with the outcome (R119). Each is said for a report whose body changes nothing more. That an attempt whose number is
above the crank attempts read for it ends in FAULT is the model's choice (log entry 65). -/
def Obligations.ReplySlotEndsTheCommand : Prop :=
  (∀ (a : Addr) (e : UnitEntry) (q : Outstanding) (tag : Byte) (received : SlotInput)
    (deferred : List TimedEvent) (s : State), SlotOf s a e → s.engine.slotsEnded = 0 →
    s.engine.outstanding = some q → q.replyAllocated = true → q.command.origin = .office tag →
    ∃ t, exec (.slotEnd received deferred) s = .next t ∧ t.engine.outstanding = none ∧
      (received = .nothing ∨ Garbled a e received →
        Told s t (.commandResult tag q.command.target q.command.code .noAnswer s.engine.cycleNo)) ∧
      (∀ r, ValidFrom a e received r →
        (r.answer = .accept →
          Told s t (.commandResult tag q.command.target q.command.code .accepted s.engine.cycleNo)) ∧
        (∀ reason, r.answer = .refuse reason →
          Told s t (.commandResult tag q.command.target q.command.code (.refused reason) s.engine.cycleNo)) ∧
        (r.answer = .none →
          Told s t (.commandResult tag q.command.target q.command.code .noAnswer s.engine.cycleNo)) ∧
        (t.link a).state = some .present ∧ (t.link a).misses = 0) ∧
      t.tables = s.tables ∧ t.site = s.site ∧ t.pending = s.pending) ∧
  -- a set
  (∀ (a : Addr) (e : UnitEntry) (q : Outstanding) (n : SetNo) (x : SetEntry) (o : CommandOutcome)
    (received : SlotInput) (deferred : List TimedEvent) (s : State), ReplySlotOf s a e q →
    q.command.origin = .sets n → s.setEntry n = some x → (s.setRec n).due = none →
    let idle := Returned a e received o fun body => ∃ engine power sensor alarm,
      body = .set engine power sensor alarm ∧ (engine = .stopped ∨ engine = .cranking)
    let running := Returned a e received o fun body => ∃ power sensor alarm, body = .set .running power sensor alarm
    ∃ t, exec (.slotEnd received deferred) s = .next t ∧
      (∀ attempt allowed crank mark, q.command.code = .start →
        (s.setRec n).run = .starting attempt allowed crank mark → idle →
        (o = .accepted → (t.setRec n).run = .starting attempt allowed (some x.crankWindow) mark ∧
          (t.setRec n).place = .free) ∧
        (o ≠ .accepted → mark = true → (t.setRec n).run = .stopped ∧
          Told s t (.setState n .starting .stopped .startEnded none s.engine.cycleNo)) ∧
        (o ≠ .accepted → mark = false → attempt < allowed →
          (t.setRec n).run = .starting (attempt + 1) x.crankAttempts none false ∧
          ((t.setRec n).due = some .start ∨ (t.setRec n).place = .queued .start)) ∧
        (o ≠ .accepted → mark = false → allowed ≤ attempt → (t.setRec n).run = .fault .failedStart ∧
          Told s t (.setState n .starting .fault .failedStart (some attempt) s.engine.cycleNo))) ∧
      (q.command.code = .stop → (s.setRec n).run = .stopping → running →
        (t.setRec n).place = .free ∧ (o = .accepted → (t.setRec n).run = .stopping) ∧
        (o ≠ .accepted → (t.setRec n).run = .online ∧
          Told s t (.setState n .stopping .online .stopFailed none s.engine.cycleNo)))) ∧
  -- a changeover
  (∀ (a : Addr) (e : UnitEntry) (q : Outstanding) (p : PointNo) (x : PointEntry) (y : Sequence) (o : CommandOutcome)
    (received : SlotInput) (deferred : List TimedEvent) (s : State), ReplySlotOf s a e q → FarFromLost s a →
    q.command.origin = .changeover p → s.pointEntry p = some x → (s.pointRec p).seq = some y →
    (s.pointRec p).due = none → awaitedCode y = some q.command.code →
    Returned a e received o (fun body => e.owner = p.val + 1 ∧ ∃ position selector,
      body = .change position selector ∧ mapped position = (s.pointRec p).position) →
    let back := { y with phase := .recovering, recovery := some .closeFailed, counter := .none }
    ∃ t, exec (.slotEnd received deferred) s = .next t ∧
      (o = .accepted → (t.pointRec p).seq = some { y with counter := .confirm x.confirmTimeout } ∧
        (t.pointRec p).place = .free) ∧
      (o ≠ .accepted → y.phase = .opening → Ended (freed s p) t p y (outcomeOf y.abort)) ∧
      (o ≠ .accepted → y.phase = .closing → Restorable s y → (t.pointRec p).seq = some back) ∧
      (o ≠ .accepted → y.phase = .closing → ¬ Restorable s y → Ended (freed s p) t p back .dark) ∧
      (o ≠ .accepted → y.phase = .recovering → Ended (freed s p) t p y .dark)) ∧
  -- a delivery
  (∀ (a : Addr) (e : UnitEntry) (q : Outstanding) (m : MeterNo) (x : Session) (o : CommandOutcome)
    (received : SlotInput) (deferred : List TimedEvent) (s : State), ReplySlotOf s a e q → FarFromLost s a →
    q.command.origin = .fuel m → (s.meter m).session = some x →
    let ending := Returned a e received o fun body => e.owner = m.val + 1 ∧ ∃ f,
      body = .fuel f ∧ f.state = .idle ∧ f.chunk = none
    let flowing := Returned a e received o fun body => e.owner = m.val + 1 ∧ ∃ f,
      body = .fuel f ∧ f.state = .dispensing ∧ f.volume ≤ x.highWater
    ∃ t, exec (.slotEnd received deferred) s = .next t ∧
      (q.command.code = .permit → x.phase = .granting → o = .accepted → flowing →
        (t.meter m).session = some { x with phase := .dispensing } ∧ (t.meter m).promoted = true) ∧
      (q.command.code = .permit → x.phase = .granting → o ≠ .accepted → ending →
        (t.meter m).session = none ∧ (t.meter m).promoted = false ∧ (t.meter m).place = .free ∧
        (t.meter m).due = false ∧ (t.tank x.set).delivered = (s.tank x.set).delivered ∧
        (x.cancel = true → Told s t (.delivery ⟨m, x.set.val + 1, .cancelled, x.live, none, none, none, none⟩)) ∧
        (x.cancel = false → o = .noAnswer →
          Told s t (.delivery ⟨m, x.set.val + 1, .noAnswer, x.live, none, none, none, none⟩)) ∧
        (∀ why, x.cancel = false → o = .refused why →
          Told s t (.delivery ⟨m, x.set.val + 1, .refused, x.live, some why, none, none, none⟩))) ∧
      (q.command.code = .revoke → x.phase = .dispensing → x.cancel = true → (s.meter m).due = false → ending →
        (t.meter m).session = none ∧ (t.meter m).promoted = false ∧
        (t.tank x.set).delivered = min (2 ^ 64 - 1) ((s.tank x.set).delivered + x.live) ∧
        Told s t (.delivery ⟨m, x.set.val + 1, .cancelled, x.live, none, none, some o, none⟩)))

/-- A valid SET report is stored, taken as the energy baseline, and applied to the run state: adoption in UNSEEN, a stop nobody asked
for, an alarm, a start at the set's own panel (R66, R75, R77, R87, R90, R97). A STARTING set that reports RUNNING warms up, for the short time
within the hot window of its last stop and for the long one otherwise, and adds a start (R81, R83); under a stop-pending mark it goes to
STOPPING unless it is in service; FAULTED ends its attempt, or under the mark is an alarm (R81, R82). A STOPPING set that reports STOPPED
is STOPPED, at the stop cycle of the report (R86), and FAULT is left alone (R87). The step from the baseline raises the output
energy and burns its fuel (R67, R68, R71, R101, R102), the sensor level is compared with the book (R106), and a copy is offered
when the forward count calls for it (R31, R194). That an attempt whose number is above the crank attempts read for it ends in FAULT is the
model's choice (log entry 65). -/
def Obligations.SetReportIsApplied : Prop :=
  ∀ (a : Addr) (e : UnitEntry) (n : SetNo) (x : SetEntry) (r : FieldReport) (engine : EngineState)
    (power sensor : Nat) (alarm : Byte) (received : SlotInput) (deferred : List TimedEvent) (s : State),
    SlotOf s a e → s.engine.outstanding = none → (s.link a).state ≠ some .lost → ValidFrom a e received r →
    r.body = .set engine power sensor alarm → e.owner = n.val + 1 → s.setEntry n = some x → x.enabled = true →
    x.unit = a →
    ∃ t, exec (.slotEnd received deferred) s = .next t ∧
      (t.setRec n).latest = some ⟨engine, min 30000 power, sensor, alarm, s.engine.cycleNo⟩ ∧
      (t.setRec n).loadFraction = some (min 30000 power * 100 / x.rating) ∧
      (t.setRec n).baseline = some ⟨min 30000 power, s.engine.cycleNo, decide (30000 < power)⟩ ∧
      (t.link a).state = some .present ∧ (t.link a).misses = 0 ∧
      ((s.setRec n).run = .unseen → (t.setRec n).run =
        match engine with
        | .running => .online
        | .stopped => .stopped
        | .faulted => .fault .setAlarm
        | .cranking => .unseen) ∧
      ((s.setRec n).run = .online ∨ (∃ c, (s.setRec n).run = .warming c) ∨ (∃ c, (s.setRec n).run = .cooling c) →
        (engine = .stopped ∨ engine = .cranking → (t.setRec n).run = .fault .unexpectedStop ∧
          (t.setRec n).stopCycle = some s.engine.cycleNo) ∧
        (engine = .faulted → (t.setRec n).run = .fault .setAlarm ∧
          (t.setRec n).stopCycle = (s.setRec n).stopCycle) ∧
        (engine = .running → (t.setRec n).run = (s.setRec n).run)) ∧
      ((s.setRec n).run = .stopped →
        (engine = .running →
          (0 < x.warmUpLong → (t.setRec n).run = .warming x.warmUpLong) ∧
          (x.warmUpLong = 0 → (t.setRec n).run = .online) ∧ (t.setRec n).localStart = true ∧
          (t.setRec n).hire.starts = min (2 ^ 64 - 1) ((s.setRec n).hire.starts + 1)) ∧
        (engine = .faulted → (t.setRec n).run = .fault .setAlarm) ∧
        (engine = .stopped ∨ engine = .cranking → (t.setRec n).run = .stopped)) ∧
      (∀ attempt allowed crank mark, (s.setRec n).run = .starting attempt allowed crank mark →
        StartReported s t n x engine attempt allowed mark ∧
          (engine = .stopped ∨ engine = .cranking → (t.setRec n).run = .starting attempt allowed crank mark)) ∧
      ((s.setRec n).run = .stopping →
        (engine = .stopped → (t.setRec n).run = .stopped ∧ (t.setRec n).stopCycle = some s.engine.cycleNo ∧
          (t.setRec n).due = none ∧ (∀ c, (t.setRec n).place ≠ .queued c) ∧
          Told s t (.setState n .stopping .stopped .stopped none s.engine.cycleNo)) ∧
        (engine = .faulted → (t.setRec n).run = .fault .setAlarm ∧
          (t.setRec n).stopCycle = (s.setRec n).stopCycle ∧
          Told s t (.setState n .stopping .fault .setAlarm none s.engine.cycleNo)) ∧
        (engine = .running ∨ engine = .cranking → (t.setRec n).run = .stopping)) ∧
      (∀ why, (s.setRec n).run = .fault why →
        (t.setRec n).run = .fault why ∧ (t.setRec n).stopCycle = (s.setRec n).stopCycle) ∧
      (∀ k, k ≠ n → (t.setRec k).run = (s.setRec k).run) ∧
      SetStepped s t n x engine power ∧ SensorChecked s t n x sensor (.discrepancy n ∈ deferred) ∧
      Forwarded s t a e r ∧
      t.tables = s.tables ∧ t.site = s.site ∧ t.pending = s.pending

/-- A valid BOARD report gives each loaded feeder of the board its first sample for its position, which becomes latest sample and
baseline whatever the feeder's state, leaves its status as the last reported one (R44), and tests its window, with a FEEDER LIMIT notice where the
flag goes from clear to set and none otherwise; a feeder without one has missed its poll (R43 to R45, R47, R48, R50, R52, R53). Every step goes whole to its account, where that has an open interval, and whole to one place on the set
side (R48, R59 to R63), and a copy is offered when the forward count calls for it (R31, R194). -/
def Obligations.BoardReportIsApplied : Prop :=
  ∀ (a : Addr) (e : UnitEntry) (f : FeederNo) (x : FeederEntry) (r : FieldReport) (samples : List BoardSample)
    (received : SlotInput) (deferred : List TimedEvent) (s : State),
    SlotOf s a e → ValidFrom a e received r → r.body = .board samples → s.feederEntry f = some x → x.board = a →
    ∃ t, exec (.slotEnd received deferred) s = .next t ∧
      (∀ y, samples.find? (fun y => y.position = x.position) = some y → y.status ≠ .fault →
        let marked := decide (60000 < y.power) || decide (y.status = .overrange)
        (t.feederRec f).state = .live ∧
        (t.feederRec f).latest = some ⟨min 60000 y.power, y.current, y.voltage, decide (y.status = .overrange),
          marked, s.engine.cycleNo⟩ ∧
        (t.feederRec f).baseline =
          some ⟨min 60000 y.power, s.engine.cycleNo, marked, s.connectedSet x.point⟩ ∧
        (t.feederRec f).status = (if y.status = .overrange then .overrange else .ok) ∧
        (t.limitFlag f = true ↔ s.limitFlag f = true ∨ WindowMet x.mode x.low x.high y.current) ∧
        -- the notice, where no command outcome and no return from LOST comes before, for a board of four positions
        (WindowMet x.mode x.low x.high y.current → s.limitFlag f = false → s.engine.outstanding = none →
          (s.link a).state ≠ some .lost →
          (allFeeders.filter fun g => (s.feederEntry g).any fun z => z.board = a).length ≤ 4 →
          Told s t (.feederLimit f a x.position x.mode x.low x.high y.current s.engine.cycleNo)) ∧
        (¬ WindowMet x.mode x.low x.high y.current ∨ s.limitFlag f = true → ∀ z ∈ t.port.notices,
          z ∈ s.port.notices ∨ ∀ b k mode low high current cycle,
            z.body ≠ .feederLimit f b k mode low high current cycle)) ∧
      (∀ y, samples.find? (fun y => y.position = x.position) = some y → y.status = .fault →
        t.feederRec f = { s.feederRec f with
          state := if (s.feederRec f).state = .live then .held else (s.feederRec f).state
          status := .fault } ∧ t.limitFlag f = s.limitFlag f) ∧
      (samples.find? (fun y => y.position = x.position) = none →
        t.feederRec f = { s.feederRec f with
          state := if (s.feederRec f).state = .live then .held else (s.feederRec f).state
          status := .missing } ∧ t.limitFlag f = s.limitFlag f) ∧
      (∀ g, (∀ z, s.feederEntry g = some z → z.board ≠ a) →
        t.feederRec g = s.feederRec g ∧ t.limitFlag g = s.limitFlag g) ∧
      BoardStepped s t a samples ∧ Forwarded s t a e r ∧
      t.tables = s.tables ∧ t.site = s.site ∧ t.pending = s.pending

/-- A valid CHANGE report gives the point its selector and its position (R125): a position learnt, or unchanged, is nothing more; a
unit fault makes it UNKNOWN and ends a sequence (R126); the change that the phase awaits moves the sequence on: DEAD or the end
of an abort from OPENING (R134), the end of CLOSING by its verification (R137), and of RECOVERING (R138); any other change is
a manual operation (R126). With no verification recorded the outcome is a free value (log entry 20). That a FAULT report too gives the selector is the model's
choice (log entry 21), and so is the final position in the MANUAL or UNIT_FAULT notice of an IDLE sequencer (log entry 59). -/
def Obligations.ChangeReportIsApplied : Prop :=
  ∀ (a : Addr) (e : UnitEntry) (p : PointNo) (x : PointEntry) (u v : SetNo) (r : FieldReport) (position : ReportedPos)
    (selector : Selector) (received : SlotInput) (deferred : List TimedEvent) (s : State),
    SlotOf s a e → s.engine.outstanding = none → (s.link a).state ≠ some .lost → ValidFrom a e received r →
    r.body = .change position selector → e.owner = p.val + 1 → s.pointEntry p = some x →
    s.switched p = some (a, u, v) →
    let old := (s.pointRec p).position
    let taken := reported s p (mapped position) (some selector)
    let part : ManualPart := ⟨old, position, selector⟩
    ∃ t, exec (.slotEnd received deferred) s = .next t ∧
      (t.link a).state = some .present ∧ (t.link a).misses = 0 ∧ Forwarded s t a e r ∧
      (t.pointRec p).selector = some selector ∧ (t.pointRec p).position = mapped position ∧
      (∀ k, k ≠ p → t.pointRec k = s.pointRec k) ∧
      -- nothing new, and a position learnt
      (mapped position = old ∨ old = .unknown → t.points = taken.points ∧ t.engine.queue = s.engine.queue ∧
        t.sets = s.sets ∧ t.port.notices = s.port.notices) ∧
      -- a unit fault, and a manual operation
      (∀ o, mapped position ≠ old → old ≠ .unknown →
        (position = .fault ∧ o = .unitFault) ∨
          (position ≠ .fault ∧ o = .manual ∧ ∀ q, (s.pointRec p).seq = some q → ¬ Awaited q position) →
        ((s.pointRec p).seq = none → t.points = taken.points ∧ Told s t
          (.changeover ⟨p, o, some part, none, mapped position, s.engine.cycleNo⟩)) ∧
        (∀ q, (s.pointRec p).seq = some q → EndedBy taken t p q o (some part))) ∧
      -- the changes that a sequence awaits
      (∀ q, mapped position ≠ old → old ≠ .unknown → position ≠ .fault → (s.pointRec p).seq = some q →
        (q.phase = .opening → position = .opened →
          (q.abort = none → (t.pointRec p).seq =
            some { q with phase := .dead, counter := .dead x.deadTime, openCycle := some s.engine.cycleNo }) ∧
          (∀ mark, q.abort = some mark →
            let back := { q with phase := .recovering, recovery := some (recoveryOf mark), counter := .none }
            (Restorable s q → (t.pointRec p).seq = some back) ∧
            (¬ Restorable s q → Ended taken t p back .dark))) ∧
        (q.phase = .closing ∨ q.phase = .recovering → mapped position = sidePos q.targetSide →
          (q.verification = some .verified → Ended taken t p q .done) ∧
          (q.verification = some .unverified → Ended taken t p q .doneUnverified) ∧
          (q.verification = none → Ended taken t p q .done ∨ Ended taken t p q .doneUnverified)) ∧
        (q.phase = .recovering → mapped position ≠ sidePos q.targetSide → mapped position = q.originalPos →
          q.originalSet ≠ none → Ended taken t p q (.recovered q.cause))) ∧
      t.tables = s.tables ∧ t.site = s.site ∧ t.tanks = s.tanks ∧ t.meters = s.meters ∧
      t.schedule = s.schedule ∧ t.tariff = s.tariff ∧ t.feeders = s.feeders ∧ t.pending = s.pending

/-- A valid FUEL report acts by the state of the meter's session: IDLE takes a new REQUEST, denied or permitted (R109, R118); GRANTING
waits; DISPENSING books the volume (R111, R112); TICKETING takes its chunks (R113, R114) and the ticket they make (R116). By the model's
choice a DENIED notice carries a live total of 0 (log entry 46), a denial reason is sent as its position in its list (log entry 28), a
REQUEST that ends its own session is no new request (log entry 39), one that finds no room in the command queue is not taken (log
entry 40), and a chunk 0 of any length but 0 is held where no place can be claimed (log entry 68). -/
def Obligations.FuelReportIsApplied : Prop :=
  (∀ (a : Addr) (e : UnitEntry) (m : MeterNo) (r : FieldReport) (f : FuelBody) (received : SlotInput)
    (deferred : List TimedEvent) (s : State),
    SlotOf s a e → s.engine.outstanding = none → (s.link a).state ≠ some .lost → ValidFrom a e received r →
    r.body = .fuel f → e.owner = m.val + 1 →
    ∃ t, exec (.slotEnd received deferred) s = .next t ∧
      (t.link a).state = some .present ∧ (t.link a).misses = 0 ∧ Forwarded s t a e r ∧
      ((s.meter m).session = none → IdleReported s t a m f) ∧
      (∀ x, (s.meter m).session = some x →
        (x.phase = .granting → t.meter m = seen s m f ∧ t.engine.queue = s.engine.queue ∧ t.tanks = s.tanks ∧
          t.engine.acks = s.engine.acks) ∧
        (x.phase = .dispensing → DispensingReported s t m x f) ∧
        (∀ wait buffer, x.phase = .ticketing wait buffer → TicketingReported s t a m x buffer f)) ∧
      (∀ k, k ≠ m → t.meter k = s.meter k ∧ t.engine.acks[k] = s.engine.acks[k]) ∧
      t.tables = s.tables ∧ t.site = s.site ∧ t.points = s.points ∧ t.schedule = s.schedule ∧
      t.tariff = s.tariff ∧ t.feeders = s.feeders ∧ t.limitFlags = s.limitFlags ∧ t.pending = s.pending) ∧
  (∀ (a : Addr) (e : UnitEntry) (m : MeterNo) (x : Session) (r : FieldReport) (f : FuelBody)
    (received : SlotInput) (deferred : List TimedEvent) (s : State),
    SlotOf s a e → s.engine.outstanding = none → (s.link a).state ≠ some .lost → ValidFrom a e received r →
    r.body = .fuel f → e.owner = m.val + 1 → (s.meter m).session = some x → x.phase = .dispensing →
    f.state = .ticket → f.chunk ≠ none →
    exec (.slotEnd received deferred) s =
      exec (.slotEnd received deferred) ((s.bookDelivery m x f.volume).enterTicketing m))

/-- The end of the header window releases the field line (R19), with the time brought to its 4 ms (log entry 3); a gap discards and
counts a partial frame (R180); the end of a transmission empties its slot or queue, takes the next frame received, and
the transmitter goes on: response, then notice, then copy (R182, R184). With FDE low, and between frames, the first two
do nothing by the model's choice (log entry 8), and what is left over is taken before any of them (log entry 6). -/
def Obligations.LineEvents : Prop :=
  (∀ s : State, s.due = [] → s.engine.fde = true → exec .headerWindowEnd s = .next
    { s.bringTo 4 with engine := { (s.bringTo 4).engine with fde := false } }) ∧
  (∀ s : State, s.due = [] → s.engine.fde = false → exec .headerWindowEnd s = .next s) ∧
  (∀ (s : State) (bytes : List Byte), s.due = [] → s.port.rx = .partialFrame bytes → exec .byteGapTimeout s = .next
    { s with port := { s.port with rx := .hunting, frameErrors := min 65535 (s.port.frameErrors + 1) } }) ∧
  (∀ s : State, s.due = [] → s.port.rx = .hunting → exec .byteGapTimeout s = .next s) ∧
  (∀ s : State, s.due = [] → s.port.tx = some .response → s.port.rxQueue = [] → exec .frameTransmitted s = .next
    { s with port := { s.port with response := none, tx := afterResponse s.port.notices s.port.copies } }) ∧
  (∀ (s : State) (f : OfficeFrame) (rest : List OfficeFrame), s.due = [] → s.port.tx = some .response →
    s.port.rxQueue = f :: rest → exec .frameTransmitted s = .next
      (State.respond f.destination f.tag f.kind (handleFrame f
        { s with port := { s.port with response := none, tx := none, rxQueue := rest } })).startTx) ∧
  (∀ s : State, s.port.tx = some .notice → Calm s → exec .frameTransmitted s = .next
    { s with port := { s.port with
      notices := s.port.notices.tail, tx := afterResponse s.port.notices.tail s.port.copies } }) ∧
  (∀ (s : State) (r : Response), s.due = [] → s.port.tx = some .notice → s.port.response = some r →
    exec .frameTransmitted s = .next
      { s with port := { s.port with notices := s.port.notices.tail, tx := some .response } }) ∧
  (∀ s : State, s.port.tx = some .copy → Calm s → exec .frameTransmitted s = .next
    { s with port := { s.port with
      copies := s.port.copies.tail, tx := afterResponse s.port.notices s.port.copies.tail } })

/-! ### Management requests: the status, the clock and the cycle. Each is taken while the Port is calm, and answered. -/

/-- READ STATUS answers the figures as they stand when it is taken, and then clears the overflow mark (R186); that TEN is found at the
level the request carries, a fall taken first and its notice sent after the response, is the model's choice (log entries 11, 56). The reads of a table, a unit, a feeder, a
set, a point and an account answer what is held, change nothing, and refuse a number outside the table BAD_INDEX (R2, R57, R73,
R74, R108, R123, R124, R177, R185). -/
def Obligations.StatusAndNumberedReads : Prop :=
  (∀ (tag : Byte) (ten : Bool) (s : State), Calm s →
    let u := s.sampleTen ten
    exec (.readStatus tag ten) s = .next (answered { u with port := { u.port with overflow := false } } tag 1
      ⟨.ok, .status
        { live := s.site.live, clock := s.billing.clock, ten, running := s.engine.running
          cycleNo := s.engine.cycleNo, period := s.site.period, queued := s.engine.queue.length
          officeQueued := (s.engine.queue.filter Command.isOffice).length
          outstanding := s.engine.outstanding.map fun q => (q.command.target, q.command.origin)
          limitFlags := s.limitFlags, autoBlocked := s.points.map PointRec.autoBlocked
          unattributed := s.unattributed, tariffActive := s.tariff.active.isSome, pending := u.tariff.pending
          trial := s.tariff.trial, lockout := u.tariff.lockout, recordsHeld := s.billing.records.length
          nextRecord := s.billing.nextRecord, noticesQueued := u.port.notices.length
          overflow := u.port.overflow, frameErrors := s.port.frameErrors
          rxOverflows := s.port.rxOverflows, nextNotice := u.port.nextNotice }⟩)) ∧
  (∀ (tag : Byte) (s : State), Calm s →
    -- READ TABLE
    (∀ a : Addr, exec (.readTable tag (some .unit) (a.val + 1)) s =
      .next (answered s tag 16 ⟨.ok, .unitEntry (s.unitEntry a)⟩)) ∧
    (∀ f : FeederNo, exec (.readTable tag (some .feeder) (f.val + 1)) s =
      .next (answered s tag 16 ⟨.ok, .feederEntry (s.feederEntry f)⟩)) ∧
    (∀ n : SetNo, exec (.readTable tag (some .set) (n.val + 1)) s =
      .next (answered s tag 16 ⟨.ok, .setEntry (s.setEntry n)⟩)) ∧
    (∀ p : PointNo, exec (.readTable tag (some .point) (p.val + 1)) s =
      .next (answered s tag 16 ⟨.ok, .pointEntry (s.pointEntry p)⟩)) ∧
    (∀ k : AccountNo, exec (.readTable tag (some .account) (k.val + 1)) s =
      .next (answered s tag 16 ⟨.ok, .accountEntry (s.accountEntry k)⟩)) ∧
    exec (.readTable tag (some .site) 0) s = .next (answered s tag 16 ⟨.ok, .site s.site.values⟩) ∧
    exec (.readTable tag (some .gate) 0) s = .next (answered s tag 16 ⟨.ok, .gate s.port.gate⟩) ∧
    (∀ table size index, (table, size) ∈
        [(TableName.unit, 63), (.feeder, 32), (.set, 8), (.point, 12), (.account, 48)] →
      index = 0 ∨ size < index →
      exec (.readTable tag (some table) index) s = .next (refused s tag 16 .badIndex)) ∧
    (∀ table index, table = TableName.site ∨ table = .gate → index ≠ 0 →
      exec (.readTable tag (some table) index) s = .next (refused s tag 16 .badIndex)) ∧
    (∀ index, exec (.readTable tag none index) s = .next (refused s tag 16 .badValue)) ∧
    -- READ UNIT
    (∀ (a : Addr) (m : MeterNo) (e : UnitEntry), s.unitEntry a = some e → e.enabled = true → e.kind = .fuel →
      e.owner = m.val + 1 → exec (.readUnit tag (a.val + 1)) s =
        .next (answered s tag 17 ⟨.ok, .unit ⟨s.link a, s.port.copyDrops[a], some (s.meter m)⟩⟩)) ∧
    (∀ a : Addr, (∀ e, s.unitEntry a = some e → e.enabled = false ∨ e.kind ≠ .fuel) →
      exec (.readUnit tag (a.val + 1)) s =
        .next (answered s tag 17 ⟨.ok, .unit ⟨s.link a, s.port.copyDrops[a], none⟩⟩)) ∧
    (∀ address, address = 0 ∨ 63 < address →
      exec (.readUnit tag address) s = .next (refused s tag 17 .badIndex)) ∧
    -- READ FEEDER
    (∀ f : FeederNo, s.feederEntry f ≠ none → exec (.readFeeder tag (f.val + 1)) s =
      .next (answered s tag 18 ⟨.ok, .feeder ⟨some (s.feederRec f), s.limitFlag f⟩⟩)) ∧
    (∀ f : FeederNo, s.feederEntry f = none → exec (.readFeeder tag (f.val + 1)) s =
      .next (answered s tag 18 ⟨.ok, .feeder ⟨none, s.limitFlag f⟩⟩)) ∧
    (∀ feeder, feeder = 0 ∨ 32 < feeder →
      exec (.readFeeder tag feeder) s = .next (refused s tag 18 .badIndex)) ∧
    -- READ SET
    (∀ n : SetNo, s.setEntry n ≠ none → exec (.readSet tag (n.val + 1)) s =
      .next (answered s tag 19 ⟨.ok, .set ⟨s.setRec n, s.tank n⟩⟩)) ∧
    (∀ n : SetNo, s.setEntry n = none → exec (.readSet tag (n.val + 1)) s =
      .next (answered s tag 19 ⟨.ok, .set ⟨{ s.setRec n with run := .offline }, s.tank n⟩⟩)) ∧
    (∀ set, set = 0 ∨ 8 < set → exec (.readSet tag set) s = .next (refused s tag 19 .badIndex)) ∧
    -- READ POINT
    (∀ p : PointNo, s.pointEntry p = none → exec (.readPoint tag (p.val + 1)) s =
      .next (answered s tag 20 ⟨.ok, .point ⟨.notLoaded, s.pointRec p⟩⟩)) ∧
    (∀ (p : PointNo) (e : PointEntry) (n : SetNo), s.pointEntry p = some e → e.source = .fixed n →
      exec (.readPoint tag (p.val + 1)) s =
        .next (answered s tag 20 ⟨.ok, .point ⟨.fixed n, s.pointRec p⟩⟩)) ∧
    (∀ (p : PointNo) (x : Addr × SetNo × SetNo), s.switched p = some x →
      exec (.readPoint tag (p.val + 1)) s =
        .next (answered s tag 20 ⟨.ok, .point ⟨.switched (s.pointRec p).position, s.pointRec p⟩⟩)) ∧
    (∀ point, point = 0 ∨ 12 < point → exec (.readPoint tag point) s = .next (refused s tag 20 .badIndex)) ∧
    -- READ ACCOUNT
    (∀ k : AccountNo, OpenFor s k → exec (.readAccount tag (k.val + 1)) s =
      .next (answered s tag 21 ⟨.ok, .account ⟨s.accountEntry k, s.billing.interval, s.account k⟩⟩)) ∧
    (∀ k : AccountNo, ¬ OpenFor s k → exec (.readAccount tag (k.val + 1)) s =
      .next (answered s tag 21 ⟨.ok, .account ⟨s.accountEntry k, none, s.account k⟩⟩)) ∧
    (∀ account, account = 0 ∨ 48 < account →
      exec (.readAccount tag account) s = .next (refused s tag 21 .badIndex)))

/-- SET CLOCK (R162): refused for a second or a millisecond out of range; in COMMISSION the clock alone takes the new time; in LIVE
the open intervals are marked TIME_SET, the offset grows by the old time less the new, and the time-set close comes due or
the next boundary moves. The next boundary that a time in the last interval of day 65535 leaves is the model's choice (log entry 55). -/
def Obligations.SetClock : Prop :=
  ∀ (tag : Byte) (day second ms : Nat) (s : State), Calm s →
    let new := (day * 86400 + second) * 1000 + ms
    (86399 < second ∨ 999 < ms → exec (.setClock tag day second ms) s = .next (refused s tag 2 .badValue)) ∧
    (second ≤ 86399 → ms ≤ 999 → s.site.live = false → exec (.setClock tag day second ms) s =
      .next (answered { s with billing := { s.billing with clock := some new } } tag 2 ⟨.ok, .clock new⟩)) ∧
    (∀ (i : OpenInterval) (old : Nat), second ≤ 86399 → ms ≤ 999 → s.site.live = true →
      s.billing.interval = some i → s.billing.clock = some old →
      ∃ t, exec (.setClock tag day second ms) s = .next t ∧ Answers t tag 2 ⟨.ok, .clock new⟩ ∧
        t.billing.clock = some new ∧
        (i.nextBoundary ≤ new / 1000 → t.billing.interval =
          some { i with offset := i.offset + old - new, timeSetDue := true }) ∧
        (new / 1000 < i.nextBoundary → t.billing.interval =
          some { i with
            offset := i.offset + old - new, timeSetDue := false
            nextBoundary := (new / 1000 / (s.site.values.intervalMin * 60) + 1) * (s.site.values.intervalMin * 60) }) ∧
        (∀ k, OpenFor s k → t.account k =
          { s.account k with marks := { (s.account k).marks with timeSet := true } }) ∧
        (∀ k, ¬ OpenFor s k → t.account k = s.account k) ∧
        t.billing.records = s.billing.records ∧ t.billing.nextRecord = s.billing.nextRecord ∧
        { t with billing := s.billing, port := s.port } = s)

/-- START CYCLES (R38, R46, R69): refused while RUNNING, or with no unit enabled; otherwise a run starts with its first cycle start,
and every feeder record and set baseline is gone. That this cycle start closes no cycle, so that run time is kept, is the
model's choice (log entry 19). -/
def Obligations.StartCycles : Prop :=
  ∀ (tag : Byte) (s : State), Calm s →
    (s.engine.running = true → exec (.startCycles tag) s = .next (refused s tag 4 .state)) ∧
    (s.engine.running = false → (∀ a, s.enabledUnit a = false) →
      exec (.startCycles tag) s = .next (refused s tag 4 .notValid)) ∧
    (s.engine.running = false → (∃ a, s.enabledUnit a = true) →
      ∃ t, exec (.startCycles tag) s = .next t ∧ Answers t tag 4 ⟨.ok, .none⟩ ∧
        t.engine.running = true ∧ t.engine.cycleNo = s.engine.cycleNo + 1 ∧
        t.engine.cycleLen = s.site.period ∧ t.engine.holdInForce = s.site.values.holdLimit ∧
        t.engine.age = 0 ∧ t.engine.slotsEnded = 0 ∧
        (∀ f, t.feederRec f = ⟨.none, none, none, .missing⟩) ∧
        (∀ n, (t.setRec n).baseline = none ∧ (t.setRec n).hire.runMs = (s.setRec n).hire.runMs) ∧
        t.tables = s.tables ∧ t.site = s.site ∧ t.ten = s.ten ∧ t.limitFlags = s.limitFlags ∧
        t.pending = s.pending)

/-- STOP CYCLES (R35, R39, R164): refused while HALTED; otherwise the cycle in progress is abandoned, an outstanding command ends
NO_ANSWER, to the office (R190), to a set, to a sequence or to a session that waits for it (R81, R82, R86, R110, R119, R134, R137, R138), open intervals are marked GAP, and link states, counts, poll pointer, cycle number and acknowledgements are
kept. That FDE is low after it, in the header window too, is the model's choice (log entry 13). Nothing is left over that
could act while HALTED (R98, R142, R145). That an attempt whose number is above the crank attempts read for it ends in FAULT is the model's
choice (log entry 65). -/
def Obligations.StopCycles : Prop :=
  ∀ (tag : Byte) (s : State), Calm s →
    (s.engine.running = false → exec (.stopCycles tag) s = .next (refused s tag 5 .state)) ∧
    (s.engine.running = true →
      ∃ t, exec (.stopCycles tag) s = .next t ∧ Answers t tag 5 ⟨.ok, .none⟩ ∧
        t.engine.running = false ∧ t.engine.outstanding = none ∧ t.engine.slots = [] ∧
        t.engine.header = none ∧ t.engine.fde = false ∧ t.due = [] ∧
        t.engine.links = s.engine.links ∧ t.engine.pollPointer = s.engine.pollPointer ∧
        t.engine.cycleNo = s.engine.cycleNo ∧ t.engine.acks = s.engine.acks ∧
        (s.engine.outstanding = none → t.engine.queue = s.engine.queue ∧ t.sets = s.sets ∧
          t.points = s.points ∧ t.meters = s.meters ∧ t.tanks = s.tanks ∧ t.port.notices = s.port.notices) ∧
        (∀ q, s.engine.outstanding = some q → ∀ o, q.command.origin = .office o →
          t.engine.queue = s.engine.queue ∧ Told s t
            (.commandResult o q.command.target q.command.code .noAnswer s.engine.cycleNo)) ∧
        (∀ q, s.engine.outstanding = some q → ∀ n, q.command.origin = .sets n →
          (t.setRec n).place = .free ∨ ∃ c, (t.setRec n).place = .queued c) ∧
        (∀ q n x, s.engine.outstanding = some q → q.command.origin = .sets n → s.setEntry n = some x →
          (s.setRec n).due = none → SetUnanswered s t n x q.command.code) ∧
        (∀ q p y, s.engine.outstanding = some q → q.command.origin = .changeover p → (s.pointRec p).seq = some y →
          (s.pointRec p).due = none → awaitedCode y = some q.command.code → PointUnanswered s t p y) ∧
        (∀ q m x, s.engine.outstanding = some q → q.command.origin = .fuel m → (s.meter m).session = some x →
          MeterUnanswered s t m x q.command.code) ∧
        (∀ k, OpenFor s k → t.account k =
          { s.account k with marks := { (s.account k).marks with gap := true } }) ∧
        (∀ k, ¬ OpenFor s k → t.account k = s.account k) ∧
        t.feeders = s.feeders ∧ t.tables = s.tables ∧ t.site = s.site ∧ t.tariff = s.tariff ∧
        t.schedule = s.schedule ∧ t.tickets = s.tickets ∧ t.limitFlags = s.limitFlags)

/-- FIELD RESTART (R40, R89, R142), in either cycle state: the outstanding and queued commands end RESTART, to the office with a COMMAND RESULT
notice where the notice queue has room for all of them (R190, R191), to the sets, sequences and sessions by their rules (R81, R86, R98, R110, R119, R120, R142); links are ABSENT with
their counts kept, unreachable marks go, switched positions are UNKNOWN with no sequence in flight, and what is queued after
it is no office's and no sequencer's. The position of the RESTART notices is the model's reading, and so is that a command which waited for an
unreachable mark is enqueued in step 5 (log entries 43, 27); that a session in TICKETING goes on is its choice (log entry 52). -/
def Obligations.FieldRestart : Prop :=
  ∀ (tag : Byte) (s : State), Calm s →
    ∃ t, exec (.fieldRestart tag) s = .next t ∧ Answers t tag 8 ⟨.ok, .none⟩ ∧
      t.engine.outstanding = none ∧ t.engine.slots = [] ∧ t.engine.pollPointer = 0 ∧
      (∀ m : MeterNo, t.engine.acks[m] = none) ∧
      t.engine.running = s.engine.running ∧ t.engine.cycleNo = s.engine.cycleNo ∧
      (∀ a, s.enabledUnit a = true → t.link a = { s.link a with state := some .absent, misses := 0 }) ∧
      (∀ a, s.enabledUnit a = false → t.link a = s.link a) ∧
      (∀ n, (t.setRec n).unreachable = false ∧ (t.setRec n).baseline = (s.setRec n).baseline) ∧
      (∀ p, s.switched p ≠ none →
        (t.pointRec p).position = .unknown ∧ (t.pointRec p).selector = none ∧ (t.pointRec p).seq = none) ∧
      (∀ p, s.switched p = none → (t.pointRec p).position = (s.pointRec p).position) ∧
      (∀ c ∈ t.engine.queue, (∃ n, c.origin = .sets n) ∨ ∃ m, c.origin = .fuel m) ∧
      (∀ q o, s.engine.outstanding = some q → q.command.origin = .office o →
        Told s t (.commandResult o q.command.target q.command.code .restart s.engine.cycleNo)) ∧
      (∀ c ∈ endedByRestart s, ∀ o, c.origin = .office o →
        ToldAtRestart s t (.commandResult o c.target c.code .restart s.engine.cycleNo)) ∧
      (∀ n, SetRestarted s t n) ∧
      (∀ p q, s.switched p ≠ none → (s.pointRec p).seq = some q →
        ((s.pointRec p).due = none ∧
            ∃ c ∈ endedByRestart s, c.origin = .changeover p ∧ awaitedCode q = some c.code) ∨
          ((s.setRec q.targetSet).unreachable = false ∧
            ∀ n, q.originalSet = some n → (s.setRec n).unreachable = false) →
        PointRestarted s t p q) ∧
      (∀ m x, (s.meter m).session = some x → MeterRestarted s t m x) ∧
      (∀ m, (s.meter m).session = none → (t.meter m).session = none) ∧
      t.feeders = s.feeders ∧ t.tables = s.tables ∧ t.site = s.site ∧ t.billing = s.billing ∧
      t.tariff = s.tariff ∧ t.schedule = s.schedule ∧ t.tickets = s.tickets ∧ t.limitFlags = s.limitFlags ∧
      t.unattributed = s.unattributed

/-! ### Management requests: the site states -/

/-- GO LIVE (R15, R46, R163): refused in LIVE; in COMMISSION refused NOT_VALID naming the first item that fails, in the order of the
checks; with none failing the site is LIVE, every active account opens a SHORT interval at the present time, and every
feeder is NONE. That the interval starts at the whole second, and that check 4 tests the slot budget and the unique owners together under
SLOTS, is the model's reading (log entries 30, 34); the next boundary in the last interval of day 65535 is its choice (log entry 55). -/
def Obligations.GoLive : Prop :=
  ∀ (tag : Byte) (s : State), Calm s →
    (s.site.live = true → exec (.goLive tag) s = .next (refused s tag 6 .state)) ∧
    (∀ item, s.site.live = false → GoLiveFails s item →
      (∀ other, GoLiveFails s other → goLiveRank item ≤ goLiveRank other) →
      exec (.goLive tag) s = .next (answered s tag 6 ⟨.notValid, .item item⟩)) ∧
    (∀ now, s.site.live = false → (∀ item, ¬ GoLiveFails s item) → s.billing.clock = some now →
      ∃ t, exec (.goLive tag) s = .next t ∧ Answers t tag 6 ⟨.ok, .none⟩ ∧
        t.site = { s.site with live := true } ∧
        t.billing.interval = some
          { start := now / 1000, onBoundary := false, offset := 0, timeSetDue := false
            nextBoundary :=
              (now / 1000 / (s.site.values.intervalMin * 60) + 1) * (s.site.values.intervalMin * 60) } ∧
        (∀ k, t.account k = if k ∈ s.activeAccounts
          then { s.account k with accumulator := 0, marks := { Marks.clear with short := true } }
          else s.account k) ∧
        (∀ f, t.feederRec f = ⟨.none, none, none, .missing⟩) ∧
        t.billing.clock = s.billing.clock ∧ t.billing.records = s.billing.records ∧
        t.billing.nextRecord = s.billing.nextRecord ∧
        { t with site := s.site, billing := s.billing, feeders := s.feeders, port := s.port } = s)

/-- STAND DOWN (R16, R152, R167, R168): refused in COMMISSION, and QUEUE_FULL where the record queue lacks room; otherwise one SHORT
record for each active account joins the queue, numbered from the next record number by one each, with the HIGH_WATER notice where they cross
its mark (R173, R176), priced by the band of its start with the trial charge beside it (R156, R157, R169, R170), no
energy is lost, a waiting commit takes force, and the site is in COMMISSION with no interval open. -/
def Obligations.StandDown : Prop :=
  ∀ (tag : Byte) (s : State), Calm s →
    (s.site.live = false → exec (.standDown tag) s = .next (refused s tag 7 .state)) ∧
    (s.site.live = true → 512 - s.billing.records.length < s.activeAccounts.length →
      exec (.standDown tag) s = .next (refused s tag 7 .queueFull)) ∧
    (∀ (i : OpenInterval) (now : Nat), s.site.live = true → s.billing.interval = some i →
      s.billing.clock = some now → s.activeAccounts.length ≤ 512 - s.billing.records.length →
      (∀ k, -18000000 ≤ (s.account k).carry) →
      ∃ t, exec (.standDown tag) s = .next t ∧ Answers t tag 7 ⟨.ok, .none⟩ ∧
        t.site = { s.site with live := false } ∧ t.billing.interval = none ∧ t.billing.clock = some now ∧
        (∃ new, RecordsProduced s t new ∧ new.map recordAccount = s.activeAccounts ∧
          ∀ r ∈ new, ∃ x, r = .interval x ∧ x.flags.short = true ∧ x.start = i.start ∧
            Priced s t i (ranFor i now) true x.account x) ∧
        CommitTakesForce s t ∧
        (∀ k ∈ s.activeAccounts, Rounded s t k ∧ (t.account k).nextBill = (s.account k).nextBill ∧
          (t.account k).chargeCarry = (s.account k).chargeCarry) ∧
        (∀ k, k ∉ s.activeAccounts → t.account k = s.account k) ∧
        (∀ table, s.tariff.pending = .commitPending table → t.tariff.active = some table ∧
          t.tariff.pending = .empty ∧ t.tariff.trial = false) ∧
        (s.tariff.pending.isCommitted = false → t.tariff = s.tariff) ∧
        { t with site := s.site, billing := s.billing, tariff := s.tariff, port := s.port } = s)

/-! ### Management requests: the loads -/

/-- LOAD UNIT (R1 to R4, R28, R89): the refusals of a bad index or value, of a frozen field in LIVE, of a unit in use, of a unit the
live site needs, and of a clash among the tables; an exact repeat changes nothing; a load that passes is stored, with
the effects of enabling, of disabling and of clearing. That disabling keeps the miss count, and that CLEAR of a
unit which others name passes in COMMISSION, is the model's choice (log entries 37, 22). -/
def Obligations.LoadUnit : Prop :=
  ∀ (tag : Byte) (s : State), Calm s →
    (∀ address form, address = 0 ∨ 63 < address →
      exec (.loadUnit tag address form) s = .next (refused s tag 9 .badIndex)) ∧
    (∀ (a : Addr) (u : UnitFields), u.kind = none ∨ u.enabled = none ∨ u.pollClass = none ∨ u.owner = 0 ∨
        (∃ k, u.kind = some k ∧ owners k < u.owner) →
      exec (.loadUnit tag (a.val + 1) (.entry u)) s = .next (refused s tag 9 .badValue)) ∧
    -- each value of `new` is the entry of one form: none for CLEAR, some entry for a load within its ranges
    (∀ (a : Addr) (form : LoadForm UnitFields) (new : Option UnitEntry),
      (form = .clear ∧ new = none) ∨
        (∃ e, new = some e ∧ e.forwardDivisor ≤ 255 ∧ 1 ≤ e.owner ∧ e.owner ≤ owners e.kind ∧
          form = .entry ⟨some e.kind, some e.enabled, some e.pollClass, e.forwardDivisor, e.owner⟩) →
      let old := s.unitEntry a
      let frozen := old.map (fun e => (e.kind, e.owner)) = new.map fun e => (e.kind, e.owner)
      let busy := ∃ o, old = some o ∧ OwnerBusy s o
      let needed := s.site.live = true ∧ (∀ e, new = some e → e.enabled = false) ∧
        ∃ o, old = some o ∧ o.enabled = true ∧ ∃ k, o.kind = k ∧
          (KindNamed s a k ∧ (k = .set → ∃ n x, s.setEntry n = some x ∧ x.enabled = true ∧ x.unit = a))
      let clash := (s.putUnitEntry a new).tables.slotsFit = false ∨
        ∃ o e, old = some o ∧ new = some e ∧ o.kind ≠ e.kind ∧ KindNamed s a o.kind
      (new = old → exec (.loadUnit tag (a.val + 1) form) s =
        .next (answered s tag 9 ⟨.ok, .unitEntry new⟩)) ∧
      (new ≠ old → s.site.live = true → ¬ frozen →
        exec (.loadUnit tag (a.val + 1) form) s = .next (refused s tag 9 .state)) ∧
      (new ≠ old → s.site.live = false ∨ frozen → busy →
        exec (.loadUnit tag (a.val + 1) form) s = .next (refused s tag 9 .busy)) ∧
      (new ≠ old → s.site.live = false ∨ frozen → ¬ busy → needed →
        exec (.loadUnit tag (a.val + 1) form) s = .next (refused s tag 9 .state)) ∧
      (new ≠ old → s.site.live = false ∨ frozen → ¬ busy → ¬ needed → clash →
        exec (.loadUnit tag (a.val + 1) form) s = .next (refused s tag 9 .notValid)) ∧
      (new ≠ old → s.site.live = false ∨ frozen → ¬ busy → ¬ needed → ¬ clash →
        ∃ t, exec (.loadUnit tag (a.val + 1) form) s = .next t ∧ Answers t tag 9 ⟨.ok, .unitEntry new⟩ ∧
          t.tables = { s.tables with units := s.tables.units.set a new } ∧ LoadFrame s t ∧
          t.feeders = s.feeders ∧ t.schedule = s.schedule ∧ (∀ k, k ≠ a → t.link k = s.link k) ∧
          -- enabled by this load
          ((∀ o, old = some o → o.enabled = false) → (∃ e, new = some e ∧ e.enabled = true) →
            t.link a = { s.link a with state := some .absent, misses := 0, forward := 0 } ∧
            ∀ n x, s.setEntry n = some x → x.enabled = true → x.unit = a → (t.setRec n).unreachable = false) ∧
          -- disabled by this load, or cleared whether or not it was enabled
          ((∃ o, old = some o ∧ (o.enabled = true ∨ new = none)) → (∀ e, new = some e → e.enabled = false) →
            t.link a = { s.link a with state := none } ∧
            (∀ c ∈ t.engine.queue, c.target = a → ∀ o, c.origin ≠ .office o) ∧
            (s.engine.queue.length ≤ 24 → (∀ c ∈ s.engine.queue, c.target = a → c.isOffice = true) →
              ∀ c ∈ s.engine.queue, c.target = a → ∀ o, c.origin = .office o →
                Told s t (.commandResult o a c.code .unitLost s.engine.cycleNo)) ∧
            (∀ q, s.engine.outstanding = some q → q.command.target = a →
              t.engine.outstanding = some { q with orphan := true })) ∧
          -- an enabled unit of another kind
          ((∃ o e, old = some o ∧ new = some e ∧ o.enabled = true ∧ e.enabled = true ∧ o.kind ≠ e.kind) →
            t.link a = { s.link a with state := some .absent, misses := 0 }) ∧
          -- the kind kept, and enabled or not as before
          ((∃ o e, old = some o ∧ new = some e ∧ o.enabled = e.enabled ∧ o.kind = e.kind) →
            { t with tables := s.tables, port := s.port } = s)))

/-- LOAD FEEDER and LOAD ACCOUNT (R1, R2, R5, R6, R11): the refusals; an exact repeat of a feeder entry changes nothing; a stored
feeder goes to NONE but for a window edit in LIVE, its limit flag kept; an account keeps its billing state. -/
def Obligations.LoadFeederAndAccount : Prop :=
  ∀ (tag : Byte) (s : State), Calm s →
    (∀ feeder form, feeder = 0 ∨ 32 < feeder →
      exec (.loadFeeder tag feeder form) s = .next (refused s tag 10 .badIndex)) ∧
    (∀ (f : FeederNo) (u : FeederFields),
      (u.board = 0 ∨ 63 < u.board ∨ u.position = 0 ∨ 4 < u.position ∨ u.point = 0 ∨ 12 < u.point ∨
        u.account = 0 ∨ 48 < u.account ∨ u.mode = none ∨ u.high < u.low) →
      exec (.loadFeeder tag (f.val + 1) (.entry u)) s = .next (refused s tag 10 .badValue)) ∧
    (∀ (f : FeederNo) (form : LoadForm FeederFields) (new : Option FeederEntry),
      (form = .clear ∧ new = none) ∨
        (∃ e, new = some e ∧ 1 ≤ e.position ∧ e.position ≤ 4 ∧ e.low ≤ e.high ∧
          form = .entry ⟨e.board.val + 1, e.position, e.point.val + 1, e.account.val + 1, some e.mode, e.low, e.high⟩) →
      let old := s.feederEntry f
      let wiring := fun e : FeederEntry => (e.board, e.position, e.point, e.account)
      let fits := ∀ e, new = some e → (∀ u, s.unitEntry e.board = some u → u.kind = .board) ∧
        ∀ g x, g ≠ f → s.feederEntry g = some x → x.board ≠ e.board ∨ x.position ≠ e.position
      (new = old → exec (.loadFeeder tag (f.val + 1) form) s =
        .next (answered s tag 10 ⟨.ok, .feederEntry new⟩)) ∧
      (new ≠ old → s.site.live = true → old.map wiring ≠ new.map wiring →
        exec (.loadFeeder tag (f.val + 1) form) s = .next (refused s tag 10 .state)) ∧
      (new ≠ old → s.site.live = false ∨ old.map wiring = new.map wiring → ¬ fits →
        exec (.loadFeeder tag (f.val + 1) form) s = .next (refused s tag 10 .notValid)) ∧
      (new ≠ old → s.site.live = false → fits →
        exec (.loadFeeder tag (f.val + 1) form) s = .next (answered
          { s with
            tables := { s.tables with feeders := s.tables.feeders.set f new }
            feeders := s.feeders.set f ⟨.none, none, none, .missing⟩ } tag 10 ⟨.ok, .feederEntry new⟩)) ∧
      (new ≠ old → s.site.live = true → old.map wiring = new.map wiring → fits →
        exec (.loadFeeder tag (f.val + 1) form) s = .next (answered
          { s with tables := { s.tables with feeders := s.tables.feeders.set f new } } tag 10
          ⟨.ok, .feederEntry new⟩))) ∧
    (∀ account form, account = 0 ∨ 48 < account →
      exec (.loadAccount tag account form) s = .next (refused s tag 13 .badIndex)) ∧
    (∀ (k : AccountNo) (u : AccountFields), u.active = none ∨ u.tariffClass = 0 ∨ 8 < u.tariffClass →
      exec (.loadAccount tag (k.val + 1) (.entry u)) s = .next (refused s tag 13 .badValue)) ∧
    (∀ (k : AccountNo) (form : LoadForm AccountFields) (new : Option AccountEntry),
      (form = .clear ∧ new = none) ∨
        (∃ e, new = some e ∧ form = .entry ⟨some e.active, e.tariffClass.val + 1, e.customer⟩) →
      let billed := fun e : AccountEntry => (e.active, e.tariffClass)
      (s.site.live = true → (s.accountEntry k).map billed ≠ new.map billed →
        exec (.loadAccount tag (k.val + 1) form) s = .next (refused s tag 13 .state)) ∧
      (s.site.live = false ∨ (s.accountEntry k).map billed = new.map billed →
        exec (.loadAccount tag (k.val + 1) form) s = .next (answered
          { s with tables := { s.tables with accounts := s.tables.accounts.set k new } } tag 13
          ⟨.ok, .accountEntry new⟩)))

/-- LOAD SET (R1, R2, R7, R8, R69, R76, R77, R89, R99): the refusals in their order; tuning fields clamped; the capacity in force
taken with the book brought under it; enabling takes the set to UNSEEN and disabling to OFFLINE, its hire statement and
book kept. -/
def Obligations.LoadSet : Prop :=
  ∀ (tag : Byte) (s : State), Calm s →
    (∀ set form, set = 0 ∨ 8 < set → exec (.loadSet tag set form) s = .next (refused s tag 11 .badIndex)) ∧
    (∀ (n : SetNo) (u : SetFields), u.unit = 0 ∨ 63 < u.unit ∨ u.enabled = none →
      exec (.loadSet tag (n.val + 1) (.entry u)) s = .next (refused s tag 11 .badValue)) ∧
    (∀ (n : SetNo) (form : LoadForm SetFields) (new : Option SetEntry),
      (form = .clear ∧ new = none) ∨
        (∃ a b u, form = .entry u ∧ u.unit = (a : Addr).val + 1 ∧ u.enabled = some b ∧ new = some (storedSet a b u)) →
      let old := s.setEntry n
      let frozen := old.map (fun e => (e.unit, e.rating, e.capacity)) =
        new.map fun e => (e.unit, e.rating, e.capacity)
      let busy := InFlight (s.setRec n).run ∧
        old.map (fun e => (e.unit, e.enabled, e.rating, e.capacity)) ≠
          new.map fun e => (e.unit, e.enabled, e.rating, e.capacity)
      let leaves := ((∃ o, old = some o ∧ o.enabled = true) ∧ (∀ e, new = some e → e.enabled = false)) ∨
        (old ≠ none ∧ new = none)
      let served := (∃ p, s.connectedSet p = some n) ∨ (s.setRec n).reservations ≠ []
      let fits := ∀ e, new = some e → (∀ u, s.unitEntry e.unit = some u → u.kind = .set) ∧
        ∀ k x, k ≠ n → s.setEntry k = some x → x.unit ≠ e.unit
      (new = old → exec (.loadSet tag (n.val + 1) form) s =
        .next (answered s tag 11 ⟨.ok, .setEntry new⟩)) ∧
      (new ≠ old → s.site.live = true → ¬ frozen →
        exec (.loadSet tag (n.val + 1) form) s = .next (refused s tag 11 .state)) ∧
      (new ≠ old → s.site.live = false ∨ frozen → busy →
        exec (.loadSet tag (n.val + 1) form) s = .next (refused s tag 11 .busy)) ∧
      (new ≠ old → s.site.live = false ∨ frozen → ¬ busy → leaves → served →
        exec (.loadSet tag (n.val + 1) form) s = .next (refused s tag 11 .inService)) ∧
      (new ≠ old → s.site.live = false ∨ frozen → ¬ busy → ¬ (leaves ∧ served) → ¬ fits →
        exec (.loadSet tag (n.val + 1) form) s = .next (refused s tag 11 .notValid)) ∧
      (new ≠ old → s.site.live = false ∨ frozen → ¬ busy → ¬ (leaves ∧ served) → fits →
        ∃ t, exec (.loadSet tag (n.val + 1) form) s = .next t ∧ Answers t tag 11 ⟨.ok, .setEntry new⟩ ∧
          t.tables = { s.tables with sets := s.tables.sets.set n new } ∧ LoadFrame s t ∧
          t.feeders = s.feeders ∧ t.schedule = s.schedule ∧ t.engine.links = s.engine.links ∧
          (∀ k, k ≠ n → (t.setRec k).run = (s.setRec k).run ∧ t.tank k = s.tank k) ∧
          (∀ k, (t.setRec k).hire.runMs = (s.setRec k).hire.runMs ∧
            (t.setRec k).hire.starts = (s.setRec k).hire.starts ∧
            (t.setRec k).hire.outputMj = (s.setRec k).hire.outputMj ∧
            (t.setRec k).hire.meteredMj = (s.setRec k).hire.meteredMj) ∧
          (new = none → t.tank n = s.tank n) ∧
          (∀ e, new = some e → (t.tank n).capacity = e.capacity ∧
            (t.tank n).book = min (s.tank n).book e.capacity ∧
            (e.capacity < (s.tank n).book → (t.tank n).discrepancy = true ∧
              (t.tank n).adjustments =
                max (-(2 ^ 63)) (min (2 ^ 63 - 1) ((s.tank n).adjustments + e.capacity - (s.tank n).book)))) ∧
          -- enabled by this load
          ((∀ o, old = some o → o.enabled = false) → (∃ e, new = some e ∧ e.enabled = true) →
            (t.setRec n).run = .unseen ∧ (t.setRec n).latest = none ∧ (t.setRec n).baseline = none ∧
            (t.setRec n).due = none ∧ (t.setRec n).stopCycle = none ∧
            ((s.setRec n).due = none → Told s t (.setState n (s.setRec n).run.name .unseen .enabled none s.engine.cycleNo))) ∧
          -- disabled by this load
          ((∃ o, old = some o ∧ o.enabled = true) → (∀ e, new = some e → e.enabled = false) →
            (t.setRec n).run = .offline ∧ (t.setRec n).latest = none ∧ (t.setRec n).baseline = none ∧
            (t.setRec n).unreachable = false ∧
            ((s.setRec n).due = none → Told s t (.setState n (s.setRec n).run.name .offline .disabled none s.engine.cycleNo))) ∧
          -- a tuning edit
          ((∃ o e, old = some o ∧ new = some e ∧ o.enabled = e.enabled ∧ o.unit = e.unit ∧
              e.capacity = (s.tank n).capacity ∧ (s.tank n).book ≤ e.capacity) →
            { t with tables := s.tables, port := s.port } = s)))

/-- LOAD POINT (R1, R2, R9, R10, R32): the refusals in their order, BAD_VALUE for a kind that names neither by the model's choice
(log entry 29); omitted timings take 20, 30 and 600 cycles, and the others are
clamped; a new source sets the position afresh, and a point that ceases to be SWITCHED loses its schedule entries, each
with its notice. -/
def Obligations.LoadPoint : Prop :=
  ∀ (tag : Byte) (s : State), Calm s →
    (∀ point form, point = 0 ∨ 12 < point →
      exec (.loadPoint tag point form) s = .next (refused s tag 12 .badIndex)) ∧
    (∀ (p : PointNo) (u : PointFields), (∀ source, ¬ SourceNamed u.source source) ∨ u.autoFault = none ∨
        u.autoLoad = none ∨ u.autoFuel = none →
      exec (.loadPoint tag (p.val + 1) (.entry u)) s = .next (refused s tag 12 .badValue)) ∧
    (∀ (p : PointNo) (form : LoadForm PointFields) (new : Option PointEntry),
      (form = .clear ∧ new = none) ∨
        (∃ source f l g u, form = .entry u ∧ SourceNamed u.source source ∧ u.autoFault = some f ∧
          u.autoLoad = some l ∧ u.autoFuel = some g ∧ new = some (storedPoint source f l g u)) →
      let old := s.pointEntry p
      let after := (s.putPointEntry p new).tables
      let sameSource := old.map PointEntry.source = new.map PointEntry.source
      let held := (∀ o, old = some o → ¬ Switched o) ∧ (∃ e, new = some e ∧ Switched e) ∧
        24 - (10 + after.switchedCount) ≤ (s.engine.queue.filter Command.isOffice).length
      let fits := ∀ e u a b, new = some e → e.source = .switched u a b →
        (∀ x, s.unitEntry u = some x → x.kind = .change) ∧
        (∀ k x y, k ≠ p → s.switched k ≠ some (u, x, y)) ∧ after.switchedCount ≤ 8
      (new = old → exec (.loadPoint tag (p.val + 1) form) s =
        .next (answered s tag 12 ⟨.ok, .pointEntry new⟩)) ∧
      (new ≠ old → s.site.live = true → ¬ sameSource →
        exec (.loadPoint tag (p.val + 1) form) s = .next (refused s tag 12 .state)) ∧
      (new ≠ old → s.site.live = false ∨ sameSource → (s.pointRec p).seq ≠ none ∨ held →
        exec (.loadPoint tag (p.val + 1) form) s = .next (refused s tag 12 .busy)) ∧
      (new ≠ old → s.site.live = false ∨ sameSource → (s.pointRec p).seq = none → ¬ held → ¬ fits →
        exec (.loadPoint tag (p.val + 1) form) s = .next (refused s tag 12 .notValid)) ∧
      (new ≠ old → s.site.live = false ∨ sameSource → (s.pointRec p).seq = none → ¬ held → fits → sameSource →
        exec (.loadPoint tag (p.val + 1) form) s = .next (answered
          { s with tables := { s.tables with points := s.tables.points.set p new } } tag 12
          ⟨.ok, .pointEntry new⟩)) ∧
      (s.site.live = false → (s.pointRec p).seq = none → ¬ held → fits → ¬ sameSource →
        ∃ t, exec (.loadPoint tag (p.val + 1) form) s = .next t ∧ Answers t tag 12 ⟨.ok, .pointEntry new⟩ ∧
          t.tables = { s.tables with points := s.tables.points.set p new } ∧
          t.pointRec p = { s.pointRec p with position := .unknown, selector := none } ∧
          (∀ k, k ≠ p → t.pointRec k = s.pointRec k) ∧
          ((∃ o, old = some o ∧ Switched o) → (∀ e, new = some e → ¬ Switched e) →
            t.schedule = s.schedule.filter (fun e => e.point ≠ p) ∧
            (s.schedule.length ≤ 16 → ∀ e ∈ s.schedule, e.point = p →
              Told s t (.schedule p e.day e.second e.side (.refused .notValid)))) ∧
          ((∀ o, old = some o → ¬ Switched o) ∨ (∃ e, new = some e ∧ Switched e) → t.schedule = s.schedule) ∧
          { t with tables := s.tables, points := s.points, schedule := s.schedule, port := s.port } = s))

/-- LOAD SITE, SET CYCLE and LOAD GATE (R12, R13, R189): site values are clamped, and the interval length, frozen in LIVE, must fit
the bands held; the period, frozen in LIVE, is clamped and rounded down; a gate entry takes its permission. -/
def Obligations.SiteCycleAndGate : Prop :=
  ∀ (tag : Byte) (s : State), Calm s →
    (∀ u : SiteFields, u.intervalMin ∉ [5, 10, 15, 30, 60] →
      exec (.loadSite tag u) s = .next (refused s tag 14 .badValue)) ∧
    (∀ u : SiteFields, u.intervalMin ∈ [5, 10, 15, 30, 60] →
      let fits := ∀ table, s.tariff.active = some table ∨ s.tariff.pending = .loaded table ∨
          s.tariff.pending = .commitPending table →
        ∀ (c : ClassNo) (bands : List Band), table.classes[c] = some bands →
          ∀ b ∈ bands, b.start % (u.intervalMin * 60) = 0
      let v : SiteValues := ⟨within 1 255 u.holdLimit, within 2 15 u.lossLimit, u.intervalMin,
        min 65535 u.minDelivery, within 10 255 u.ticketWait, min 3600 u.lateLimit⟩
      (u.intervalMin ≠ s.site.values.intervalMin → s.site.live = true →
        exec (.loadSite tag u) s = .next (refused s tag 14 .state)) ∧
      (u.intervalMin ≠ s.site.values.intervalMin → s.site.live = false → ¬ fits →
        exec (.loadSite tag u) s = .next (refused s tag 14 .notValid)) ∧
      (u.intervalMin = s.site.values.intervalMin ∨ (s.site.live = false ∧ fits) →
        exec (.loadSite tag u) s = .next
          (answered { s with site := { s.site with values := v } } tag 14 ⟨.ok, .site v⟩))) ∧
    (∀ period, s.site.live = true → exec (.setCycle tag period) s = .next (refused s tag 3 .state)) ∧
    (∀ period, s.site.live = false →
      ∃ ms, ms % 10 = 0 ∧ ms ≤ within 50 500 period ∧ within 50 500 period < ms + 10 ∧
        exec (.setCycle tag period) s =
          .next (answered { s with site := { s.site with period := ms } } tag 3 ⟨.ok, .period ms⟩)) ∧
    (∀ kind code v, kind = none ∨ code = none ∨ v = none →
      exec (.loadGate tag kind code v) s = .next (refused s tag 15 .badValue)) ∧
    (∀ kind code v, code ∈ [Code.start, .stop, .openSwitch, .closeA, .closeB, .permit, .deny, .revoke] ∨
        codeKind code ≠ kind →
      exec (.loadGate tag (some kind) (some code) (some v)) s = .next (refused s tag 15 .badValue)) ∧
    (∀ make code number v, (make, code, number) ∈ plainCommands →
      ∃ gate : GateTable, gate.get code = some v ∧ (∀ other, other ≠ code → gate.get other = s.port.gate.get other) ∧
        exec (.loadGate tag (some (codeKind code)) (some code) (some v)) s =
          .next (answered { s with port := { s.port with gate } } tag 15 ⟨.ok, .none⟩))

/-! ### Management requests: flags, counts and hire statements -/

/-- CLEAR FLAGS and CLEAR HIRE. A feeder mask clears the limit flags of the marked feeders, and a tank mask the named flags of the
marked sets, no other flag changing and no notice raised (R54, R107); the other selections likewise, refused for a
position or an address out of range. CLEAR HIRE takes a hire statement to 0, and for ALL the unattributed energy too. -/
def Obligations.ClearFlagsAndHire : Prop :=
  ∀ (tag : Byte) (s : State), Calm s →
    (∀ mask, exec (.clearFlagsFeederLimit tag mask) s = .next (answered
      { s with limitFlags := Vector.ofFn fun f : FeederNo => s.limitFlag f && !mask.testBit f } tag 22
      ⟨.ok, .none⟩)) ∧
    (∀ mask (names : TankFlagNames), exec (.clearFlagsTankFlag tag mask names) s = .next (answered
      { s with tanks := Vector.ofFn fun n : SetNo =>
          if mask.testBit n then
            { s.tank n with
              low := (s.tank n).low && !names.low
              reserve := (s.tank n).reserve && !names.reserve
              discrepancy := (s.tank n).discrepancy && !names.discrepancy }
          else s.tank n } tag 22 ⟨.ok, .none⟩)) ∧
    (∀ mask, exec (.clearFlagsSetFlag tag mask) s = .next (answered
      { s with sets := Vector.ofFn fun n : SetNo =>
          { s.setRec n with localStart := (s.setRec n).localStart && !mask.testBit n } } tag 22 ⟨.ok, .none⟩)) ∧
    (∀ mask, mask < 4096 → exec (.clearFlagsPointFlag tag mask) s = .next (answered
      { s with points := Vector.ofFn fun p : PointNo =>
          { s.pointRec p with autoBlocked := (s.pointRec p).autoBlocked && !mask.testBit p } } tag 22
      ⟨.ok, .none⟩)) ∧
    (∀ mask, 4096 ≤ mask → exec (.clearFlagsPointFlag tag mask) s = .next (refused s tag 22 .badValue)) ∧
    exec (.clearFlagsUnitCounts tag 0) s = .next (answered
      { s with port := { s.port with frameErrors := 0, rxOverflows := 0 } } tag 22 ⟨.ok, .none⟩) ∧
    (∀ a : Addr, exec (.clearFlagsUnitCounts tag (a.val + 1)) s = .next (answered
      { s with
        engine := { s.engine with
          links := s.engine.links.set a { s.link a with garbled := 0, missed := 0 } }
        port := { s.port with copyDrops := s.port.copyDrops.set a 0 } } tag 22 ⟨.ok, .none⟩)) ∧
    (∀ address, 63 < address → exec (.clearFlagsUnitCounts tag address) s = .next (refused s tag 22 .badIndex)) ∧
    (∀ n : SetNo, exec (.clearHire tag (n.val + 1)) s = .next (answered
      { s with sets := s.sets.set n { s.setRec n with hire := ⟨0, 0, 0, 0, 0, 0, 0, 0, 0, false, false⟩ } } tag 26
      ⟨.ok, .none⟩)) ∧
    exec (.clearHire tag 0) s = .next (answered
      { s with
        sets := Vector.ofFn fun n : SetNo => { s.setRec n with hire := ⟨0, 0, 0, 0, 0, 0, 0, 0, 0, false, false⟩ }
        unattributed := 0 } tag 26 ⟨.ok, .none⟩) ∧
    (∀ set, 8 < set → exec (.clearHire tag set) s = .next (refused s tag 26 .badIndex))

/-! ### Management requests: the sets -/

/-- SET START by the state of the set (R80): refused, a start with START due or queued, the stop-pending mark cleared, no change, or
back to ONLINE. -/
def Obligations.SetStart : Prop :=
  (∀ (tag : Byte) (set : Nat) (s : State), Calm s → set = 0 ∨ 8 < set →
    exec (.setStart tag set) s = .next (refused s tag 23 .badIndex)) ∧
  (∀ (tag : Byte) (n : SetNo) (s : State), Calm s →
    ((s.setRec n).run = .offline ∨ (s.setRec n).run = .unseen ∨ (∃ why, (s.setRec n).run = .fault why) →
      exec (.setStart tag (n.val + 1)) s = .next (refused s tag 23 .state)) ∧
    ((s.setRec n).run = .stopped → (s.setRec n).unreachable = true →
      exec (.setStart tag (n.val + 1)) s = .next (refused s tag 23 .unreachable)) ∧
    (∀ e, s.setEntry n = some e → (s.setRec n).run = .stopped → (s.setRec n).unreachable = false →
      ∃ t, exec (.setStart tag (n.val + 1)) s = .next t ∧ Answers t tag 23 ⟨.ok, .none⟩ ∧
        (t.setRec n).run = .starting 1 e.crankAttempts none false ∧
        ((t.setRec n).due = some .start ∨
          ((t.setRec n).place = .queued .start ∧ ⟨e.unit, .start, [], .sets n⟩ ∈ t.engine.queue)) ∧
        (t.setRec n).hire = (s.setRec n).hire ∧
        Told s t (.setState n .stopped .starting .office none s.engine.cycleNo) ∧ SetFrame s t n) ∧
    (∀ attempt allowed crank mark, (s.setRec n).run = .starting attempt allowed crank mark →
      exec (.setStart tag (n.val + 1)) s = .next (answered
        { s with sets := s.sets.set n { s.setRec n with run := .starting attempt allowed crank false } } tag 23
        ⟨.ok, .none⟩)) ∧
    ((s.setRec n).run = .online ∨ (∃ c, (s.setRec n).run = .warming c) →
      exec (.setStart tag (n.val + 1)) s = .next (answered s tag 23 ⟨.ok, .none⟩)) ∧
    (∀ c, (s.setRec n).run = .cooling c →
      ∃ t, exec (.setStart tag (n.val + 1)) s = .next t ∧ Answers t tag 23 ⟨.ok, .none⟩ ∧
        (t.setRec n).run = .online ∧ (t.setRec n).hire = (s.setRec n).hire ∧
        Told s t (.setState n .cooling .online .office none s.engine.cycleNo) ∧ SetFrame s t n) ∧
    ((s.setRec n).run = .stopping →
      (s.setRec n).due = some .stop ∨ (s.setRec n).place = .queued .stop ∨ (s.setRec n).place = .sent .stop →
      exec (.setStart tag (n.val + 1)) s = .next (refused s tag 23 .busy)) ∧
    ((s.setRec n).run = .stopping →
      ¬ ((s.setRec n).due = some .stop ∨ (s.setRec n).place = .queued .stop ∨ (s.setRec n).place = .sent .stop) →
      ∃ t, exec (.setStart tag (n.val + 1)) s = .next t ∧ Answers t tag 23 ⟨.ok, .none⟩ ∧
        (t.setRec n).run = .online ∧ (t.setRec n).hire = (s.setRec n).hire ∧
        Told s t (.setState n .stopping .online .office none s.engine.cycleNo) ∧ SetFrame s t n))

/-- SET STOP, checked in its order and taken by the state of the set (R84), and SET CLEAR FAULT (R88). -/
def Obligations.SetStopAndClearFault : Prop :=
  (∀ (tag : Byte) (set : Nat) (s : State), Calm s → set = 0 ∨ 8 < set →
    exec (.setStop tag set) s = .next (refused s tag 24 .badIndex) ∧
    exec (.setClearFault tag set) s = .next (refused s tag 25 .badIndex)) ∧
  (∀ (tag : Byte) (n : SetNo) (s : State), Calm s →
    ((s.setRec n).run = .offline ∨ (s.setRec n).run = .unseen →
      exec (.setStop tag (n.val + 1)) s = .next (refused s tag 24 .state)) ∧
    (StopTested (s.setRec n) → s.inService n = true →
      exec (.setStop tag (n.val + 1)) s = .next (refused s tag 24 .inService)) ∧
    (StopTested (s.setRec n) → s.inService n = false → (s.setRec n).unreachable = true →
      exec (.setStop tag (n.val + 1)) s = .next (refused s tag 24 .unreachable)) ∧
    (∀ e, s.setEntry n = some e → (s.setRec n).run = .online → s.inService n = false →
      (s.setRec n).unreachable = false →
      ∃ t, exec (.setStop tag (n.val + 1)) s = .next t ∧ Answers t tag 24 ⟨.ok, .none⟩ ∧
        (0 < e.coolDown → (t.setRec n).run = .cooling e.coolDown) ∧
        (e.coolDown = 0 → (t.setRec n).run = .stopping ∧
          ((t.setRec n).due = some .stop ∨ (t.setRec n).place = .queued .stop)) ∧
        (t.setRec n).hire = (s.setRec n).hire ∧
        Told s t (.setState n .online .cooling .office none s.engine.cycleNo) ∧ SetFrame s t n) ∧
    (∀ e c, s.setEntry n = some e → (s.setRec n).run = .warming c → s.inService n = false →
      (s.setRec n).unreachable = false →
      ∃ t, exec (.setStop tag (n.val + 1)) s = .next t ∧ Answers t tag 24 ⟨.ok, .none⟩ ∧
        (t.setRec n).run = .stopping ∧ ((t.setRec n).due = some .stop ∨ (t.setRec n).place = .queued .stop) ∧
        (t.setRec n).hire = (s.setRec n).hire ∧
        Told s t (.setState n .warming .stopping .office none s.engine.cycleNo) ∧ SetFrame s t n) ∧
    (∀ e why, s.setEntry n = some e → (s.setRec n).run = .fault why → StopTested (s.setRec n) →
      s.inService n = false → (s.setRec n).unreachable = false →
      ∃ t, exec (.setStop tag (n.val + 1)) s = .next t ∧ Answers t tag 24 ⟨.ok, .none⟩ ∧
        (t.setRec n).run = .stopping ∧ ((t.setRec n).due = some .stop ∨ (t.setRec n).place = .queued .stop) ∧
        (t.setRec n).hire = (s.setRec n).hire ∧
        Told s t (.setState n .fault .stopping .office none s.engine.cycleNo) ∧ SetFrame s t n) ∧
    (∀ attempt allowed crank mark, (s.setRec n).run = .starting attempt allowed crank mark →
      s.inService n = false → (s.setRec n).unreachable = false →
      exec (.setStop tag (n.val + 1)) s = .next (answered
        { s with sets := s.sets.set n { s.setRec n with run := .starting attempt allowed crank true } } tag 24
        ⟨.ok, .none⟩)) ∧
    (((∃ why, (s.setRec n).run = .fault why) ∧ ¬ StopTested (s.setRec n)) ∨ (s.setRec n).run = .stopped ∨
        (∃ c, (s.setRec n).run = .cooling c) ∨ (s.setRec n).run = .stopping →
      exec (.setStop tag (n.val + 1)) s = .next (answered s tag 24 ⟨.ok, .none⟩)) ∧
    -- SET CLEAR FAULT
    ((∀ why, (s.setRec n).run ≠ .fault why) →
      exec (.setClearFault tag (n.val + 1)) s = .next (refused s tag 25 .state)) ∧
    (∀ why, (s.setRec n).run = .fault why → (s.setRec n).unreachable = true →
      exec (.setClearFault tag (n.val + 1)) s = .next (refused s tag 25 .unreachable)) ∧
    (∀ why x, (s.setRec n).run = .fault why → (s.setRec n).unreachable = false → (s.setRec n).latest = some x →
      x.engine = .faulted → exec (.setClearFault tag (n.val + 1)) s = .next (refused s tag 25 .state)) ∧
    (∀ e why x, s.setEntry n = some e → (s.setRec n).run = .fault why → (s.setRec n).unreachable = false →
      (s.setRec n).latest = some x → x.engine ≠ .faulted →
      ∃ t, exec (.setClearFault tag (n.val + 1)) s = .next t ∧ Answers t tag 25 ⟨.ok, .none⟩ ∧
        (x.engine = .running →
          (t.setRec n).run = (if e.warmUpShort = 0 then .online else .warming e.warmUpShort) ∧
          (t.setRec n).hire =
            { (s.setRec n).hire with starts := min (2 ^ 64 - 1) ((s.setRec n).hire.starts + 1) } ∧
          Told s t (.setState n .fault .warming .cleared none s.engine.cycleNo)) ∧
        (x.engine ≠ .running → (t.setRec n).run = .stopped ∧ (t.setRec n).hire = (s.setRec n).hire ∧
          Told s t (.setState n .fault .stopped .cleared none s.engine.cycleNo)) ∧
        SetFrame s t n))

/-! ### Management requests: changeovers and the schedule -/

/-- CHANGEOVER (R80, R95, R127 to R129): refused by the first check that fails; an accepted request fills the context, reserves the
point load on the target, and goes to OPENING, to DEAD from an OPEN point, or to PREPARING with the target started. -/
def Obligations.Changeover : Prop :=
  (∀ (tag : Byte) (point : Nat) (side : Option Side) (s : State), Calm s → point = 0 ∨ 12 < point →
    exec (.changeover tag point side) s = .next (refused s tag 27 .badIndex)) ∧
  (∀ (tag : Byte) (p : PointNo) (s : State), Calm s →
    exec (.changeover tag (p.val + 1) none) s = .next (refused s tag 27 .badValue)) ∧
  (∀ (tag : Byte) (p : PointNo) (side : Side) (s : State), Calm s →
    (s.switched p = none → exec (.changeover tag (p.val + 1) (some side)) s = .next (refused s tag 27 .notValid)) ∧
    (s.switched p ≠ none → (s.pointRec p).seq ≠ none →
      exec (.changeover tag (p.val + 1) (some side)) s = .next (refused s tag 27 .busy)) ∧
    (∀ code, (s.pointRec p).seq = none → Accepts s p side (some code) →
      exec (.changeover tag (p.val + 1) (some side)) s = .next (refused s tag 27 code)) ∧
    (∀ u a b e, (s.pointRec p).seq = none → Accepts s p side none → s.switched p = some (u, a, b) →
      s.pointEntry p = some e →
      ∃ t q, exec (.changeover tag (p.val + 1) (some side)) s = .next t ∧
        Answers t tag 27 ⟨.ok, .accepted (some q.phase) (s.pointLoad p)⟩ ∧
        (t.pointRec p).seq = some q ∧ Accepted s p side .office q ∧ SameOutside s t ∧ t.due = s.due ∧
        (t.pointRec p).position = (s.pointRec p).position ∧
        (⟨p, s.pointLoad p⟩ ∈ (t.setRec q.targetSet).reservations) ∧
        (∀ k, k ≠ q.targetSet → (t.setRec k).run = (s.setRec k).run) ∧
        (∀ k, (t.setRec k).hire = (s.setRec k).hire) ∧
        ((s.setRec q.targetSet).run = .online → (s.pointRec p).position = .opened →
          q.phase = .dead ∧ q.counter = .dead e.deadTime ∧ q.openCycle = some s.engine.cycleNo) ∧
        ((s.setRec q.targetSet).run = .online → (s.pointRec p).position ≠ .opened →
          q.phase = .opening ∧
            ((t.pointRec p).due = some .openSwitch ∨ ((t.pointRec p).place = .queued .openSwitch ∧
              ⟨u, .openSwitch, [], .changeover p⟩ ∈ t.engine.queue))) ∧
        ((s.setRec q.targetSet).run ≠ .online → q.phase = .preparing ∧ q.counter = .prepare e.prepareLimit) ∧
        ((s.setRec q.targetSet).run = .stopped →
          (∃ allowed, (t.setRec q.targetSet).run = .starting 1 allowed none false) ∧
          Told s t (.setState q.targetSet .stopped .starting .sequencer none s.engine.cycleNo)) ∧
        (∀ attempt allowed crank mark, (s.setRec q.targetSet).run = .starting attempt allowed crank mark →
          (t.setRec q.targetSet).run = .starting attempt allowed crank false)))

/-- CANCEL CHANGEOVER, by the state of the sequencer (R140). That an OPEN whose outcome has come counts as sent, until the sequence
moves on, is the model's choice (log entry 31). -/
def Obligations.CancelChangeover : Prop :=
  (∀ (tag : Byte) (point : Nat) (s : State), Calm s → point = 0 ∨ 12 < point →
    exec (.cancelChangeover tag point) s = .next (refused s tag 28 .badIndex)) ∧
  (∀ (tag : Byte) (p : PointNo) (s : State), Calm s →
    (s.switched p = none → exec (.cancelChangeover tag (p.val + 1)) s = .next (refused s tag 28 .notValid)) ∧
    (s.switched p ≠ none → (s.pointRec p).seq = none →
      exec (.cancelChangeover tag (p.val + 1)) s = .next (refused s tag 28 .state)) ∧
    (∀ q, s.switched p ≠ none → (s.pointRec p).seq = some q →
      let waiting := (s.pointRec p).due ≠ none ∨ ∃ c, (s.pointRec p).place = .queued c
      (q.phase = .preparing ∨ (q.phase = .opening ∧ waiting) ∨ (q.phase = .dead ∧ q.originalSet = none) →
        ∃ t, exec (.cancelChangeover tag (p.val + 1)) s = .next t ∧ Answers t tag 28 ⟨.ok, .none⟩ ∧
          Ended s t p q .cancelled ∧ SameOutside s t) ∧
      (q.phase = .opening → ¬ waiting → q.abort = none →
        exec (.cancelChangeover tag (p.val + 1)) s = .next (answered
          { s with points := s.points.set p { s.pointRec p with seq := some { q with abort := some .cancelled } } }
          tag 28 ⟨.ok, .none⟩)) ∧
      (q.phase = .opening → ¬ waiting → q.abort ≠ none →
        exec (.cancelChangeover tag (p.val + 1)) s = .next (answered s tag 28 ⟨.ok, .none⟩)) ∧
      (q.phase = .dead → q.originalSet ≠ none →
        ∃ t, exec (.cancelChangeover tag (p.val + 1)) s = .next t ∧ Answers t tag 28 ⟨.ok, .none⟩ ∧
          SameOutside s t ∧ (∀ k, k ≠ p → t.pointRec k = s.pointRec k) ∧
          (Restorable s q → (t.pointRec p).seq =
            some { q with phase := .recovering, recovery := some .cancelled, counter := .none }) ∧
          (¬ Restorable s q → Ended s t p
            { q with phase := .recovering, recovery := some .cancelled, counter := .none } .dark)) ∧
      (q.phase = .closing ∨ q.phase = .recovering →
        exec (.cancelChangeover tag (p.val + 1)) s = .next (refused s tag 28 .tooLate))))

/-- LOAD SCHEDULE, with its checks in their order and its place in the schedule; DELETE SCHEDULE and READ SCHEDULE (R143, R144). That a
DELETE SCHEDULE compares day and second of day apart, so that a second above 86399 names no entry, is the model's choice (log entry 53). -/
def Obligations.ScheduleRequests : Prop :=
  (∀ (tag : Byte) (day second point : Nat) (side : Option Side) (s : State), Calm s →
    (s.billing.clock = none →
      exec (.loadSchedule tag day second point side) s = .next (refused s tag 29 .state)) ∧
    (s.billing.clock ≠ none → point = 0 ∨ 12 < point →
      exec (.loadSchedule tag day second point side) s = .next (refused s tag 29 .badIndex)) ∧
    (s.billing.clock ≠ none → 1 ≤ point → point ≤ 12 → side = none ∨ 86399 < second →
      exec (.loadSchedule tag day second point side) s = .next (refused s tag 29 .badValue))) ∧
  (∀ (tag : Byte) (day second now : Nat) (p : PointNo) (side : Side) (s : State), Calm s →
    s.billing.clock = some now → second ≤ 86399 →
    let e : ScheduleEntry := ⟨day, second, p, side⟩
    let twice := ∃ x ∈ s.schedule, x.point = p ∧ x.day = day ∧ x.second = second
    (s.switched p = none →
      exec (.loadSchedule tag day second (p.val + 1) (some side)) s = .next (refused s tag 29 .notValid)) ∧
    (s.switched p ≠ none → twice →
      exec (.loadSchedule tag day second (p.val + 1) (some side)) s = .next (refused s tag 29 .duplicate)) ∧
    (s.switched p ≠ none → ¬ twice → entrySeconds e + s.site.values.lateLimit < now / 1000 →
      exec (.loadSchedule tag day second (p.val + 1) (some side)) s = .next (refused s tag 29 .tooLate)) ∧
    (s.switched p ≠ none → ¬ twice → now / 1000 ≤ entrySeconds e + s.site.values.lateLimit →
      16 ≤ s.schedule.length →
      exec (.loadSchedule tag day second (p.val + 1) (some side)) s = .next (refused s tag 29 .queueFull)) ∧
    (s.switched p ≠ none → ¬ twice → now / 1000 ≤ entrySeconds e + s.site.values.lateLimit →
      s.schedule.length < 16 →
      ∃ front back, s.schedule = front ++ back ∧ (∀ x ∈ front, entrySeconds x ≤ entrySeconds e) ∧
        (∀ x, back.head? = some x → entrySeconds e < entrySeconds x) ∧
        exec (.loadSchedule tag day second (p.val + 1) (some side)) s =
          .next (answered { s with schedule := front ++ e :: back } tag 29 ⟨.ok, .none⟩))) ∧
  (∀ (tag : Byte) (point day second : Nat) (s : State), Calm s →
    (point = 0 ∨ 12 < point →
      exec (.deleteSchedule tag point day second) s = .next (refused s tag 30 .badIndex)) ∧
    (∀ p : PointNo, point = p.val + 1 → (∀ x ∈ s.schedule, ¬ (x.point = p ∧ x.day = day ∧ x.second = second)) →
      exec (.deleteSchedule tag point day second) s = .next (refused s tag 30 .notValid)) ∧
    (∀ p : PointNo, point = p.val + 1 → (∃ x ∈ s.schedule, x.point = p ∧ x.day = day ∧ x.second = second) →
      exec (.deleteSchedule tag point day second) s = .next (answered
        { s with schedule := s.schedule.filter fun x => ¬ (x.point = p ∧ x.day = day ∧ x.second = second) } tag 30
        ⟨.ok, .none⟩))) ∧
  (∀ (tag : Byte) (s : State), Calm s → exec (.readSchedule tag) s =
    .next (answered s tag 31 ⟨.ok, .schedule s.schedule s.billing.clock⟩))

/-! ### Management requests: tanks, deliveries and tickets -/

/-- TANK SET (R103, R104): refused for a set not loaded, with a delivery in hand, or with no sensor level to take; otherwise the book
takes the level, clamped to the capacity in force, the difference is an adjustment, and the thresholds are tested. -/
def Obligations.TankSet : Prop :=
  (∀ (tag : Byte) (set : Nat) (level : TankLevel) (s : State), Calm s → set = 0 ∨ 8 < set →
    exec (.tankSet tag set level) s = .next (refused s tag 32 .badIndex)) ∧
  (∀ (tag : Byte) (n : SetNo) (level : TankLevel) (s : State), Calm s →
    let filling := ∃ m x, (s.meter m).session = some x ∧ x.set = n
    let asked := fun l : Nat => level = .level l ∨
      (level = .sensor ∧ ∃ x, (s.setRec n).latest = some x ∧ x.sensor = l ∧ l ≠ 65535)
    (s.setEntry n = none → exec (.tankSet tag (n.val + 1) level) s = .next (refused s tag 32 .notValid)) ∧
    (s.setEntry n ≠ none → filling →
      exec (.tankSet tag (n.val + 1) level) s = .next (refused s tag 32 .busy)) ∧
    (s.setEntry n ≠ none → ¬ filling → (∀ l, ¬ asked l) →
      exec (.tankSet tag (n.val + 1) level) s = .next (refused s tag 32 .notValid)) ∧
    (∀ e l, s.setEntry n = some e → ¬ filling → asked l →
      let book := min (s.tank n).capacity l
      let adjustment := (book : Int) - (s.tank n).book
      ∃ t, exec (.tankSet tag (n.val + 1) level) s = .next t ∧ Answers t tag 32 ⟨.ok, .tank book adjustment⟩ ∧
        t.tank n =
          { s.tank n with
            book, residue := 0, discCount := 0
            adjustments := max (-(2 ^ 63)) (min (2 ^ 63 - 1) ((s.tank n).adjustments + adjustment))
            low := (s.tank n).low || book ≤ e.lowLevel
            reserve := (s.tank n).reserve || book ≤ e.reserveLevel } ∧
        t.setRec n =
          { s.setRec n with hire := { (s.setRec n).hire with
              adjustments := max (-(2 ^ 63)) (min (2 ^ 63 - 1) ((s.setRec n).hire.adjustments + adjustment)) } } ∧
        (∀ k, k ≠ n → t.tank k = s.tank k ∧ t.setRec k = s.setRec k) ∧
        (book ≤ e.lowLevel → (s.tank n).low = false →
          Told s t (.setFlag n .low (some book) none none s.engine.cycleNo)) ∧
        (book ≤ e.reserveLevel → (s.tank n).reserve = false →
          Told s t (.setFlag n .reserve (some book) none none s.engine.cycleNo)) ∧
        { t with tanks := s.tanks, sets := s.sets, port := s.port } = s))

/-- CANCEL DELIVERY, by the state of the session (R119). -/
def Obligations.CancelDelivery : Prop :=
  (∀ (tag : Byte) (meter : Nat) (s : State), Calm s → meter = 0 ∨ 2 < meter →
    exec (.cancelDelivery tag meter) s = .next (refused s tag 33 .badIndex)) ∧
  (∀ (tag : Byte) (m : MeterNo) (s : State), Calm s →
    ((s.meter m).session = none →
      exec (.cancelDelivery tag (m.val + 1)) s = .next (refused s tag 33 .state)) ∧
    (∀ x, (s.meter m).session = some x →
      ((∃ wait buffer, x.phase = .ticketing wait buffer) →
        exec (.cancelDelivery tag (m.val + 1)) s = .next (refused s tag 33 .tooLate)) ∧
      (x.phase = .granting ∨ x.phase = .dispensing → x.cancel = true →
        exec (.cancelDelivery tag (m.val + 1)) s = .next (answered s tag 33 ⟨.ok, .none⟩)) ∧
      (x.phase = .granting → x.cancel = false → (s.meter m).place = .queued .permit →
        ∃ t, exec (.cancelDelivery tag (m.val + 1)) s = .next t ∧ Answers t tag 33 ⟨.ok, .none⟩ ∧
          t.meter m = ⟨none, false, (s.meter m).requestMark, .free, false, none⟩ ∧
          (∀ k, k ≠ m → t.meter k = s.meter k) ∧
          (∀ c ∈ t.engine.queue, c ∈ s.engine.queue ∧ c.origin ≠ .fuel m) ∧
          t.tank x.set = { s.tank x.set with discCount := 0 } ∧ (∀ k, k ≠ x.set → t.tank k = s.tank k) ∧
          t.sets = s.sets ∧ Told s t (.delivery ⟨m, x.set.val + 1, .cancelled, x.live, none, none, none, none⟩) ∧
          t.tables = s.tables ∧ t.site = s.site ∧ t.tickets = s.tickets ∧ t.points = s.points ∧
          t.billing = s.billing ∧ t.due = s.due) ∧
      (∀ code, x.phase = .granting ∨ x.phase = .dispensing → x.cancel = false →
        (s.meter m).place = .sent code →
        exec (.cancelDelivery tag (m.val + 1)) s = .next (answered
          { s with
            meters := s.meters.set m { s.meter m with session := some { x with cancel := true }, due := true } } tag 33 ⟨.ok, .none⟩)) ∧
      (x.phase = .dispensing → x.cancel = false → (s.meter m).place = .free →
        ∃ t, exec (.cancelDelivery tag (m.val + 1)) s = .next t ∧ Answers t tag 33 ⟨.ok, .none⟩ ∧
          (t.meter m).session = some { x with cancel := true } ∧
          ((t.meter m).due = true ∨ ((t.meter m).place = .queued .revoke ∧
            ∃ a, s.meterUnit m = some a ∧ ⟨a, .revoke, [], .fuel m⟩ ∈ t.engine.queue)) ∧
          { t with engine := s.engine, meters := s.meters, port := s.port } = s)))

/-- READ TICKETS removes nothing and shows the oldest four with the places held and claimed; RELEASE TICKETS removes the oldest, and
where it removes one every held session waits again (R114, R121). -/
def Obligations.Tickets : Prop :=
  ∀ (tag : Byte) (s : State), Calm s →
    (∃ claimed, claimed = (allMeters.filter fun m =>
        match (s.meter m).session.map Session.phase with
        | some (.ticketing _ (some _)) => true
        | _ => false).length ∧
      exec (.readTickets tag) s =
        .next (answered s tag 34 ⟨.ok, .tickets s.tickets.length claimed (s.tickets.take 4)⟩)) ∧
    (∀ count, count = 0 ∨ s.tickets = [] →
      exec (.releaseTickets tag count) s = .next (answered s tag 35 ⟨.ok, .removed 0⟩)) ∧
    (∀ count, 0 < count → s.tickets ≠ [] →
      ∃ t, exec (.releaseTickets tag count) s = .next t ∧
        Answers t tag 35 ⟨.ok, .removed (min count s.tickets.length)⟩ ∧ t.tickets = s.tickets.drop count ∧
        (∀ m x buffer, (s.meter m).session = some x → x.phase = .ticketing none buffer → t.meter m =
          { s.meter m with
            session := some { x with phase := .ticketing (some s.site.values.ticketWait) buffer } }) ∧
        (∀ m, (∀ x buffer, (s.meter m).session = some x → x.phase ≠ .ticketing none buffer) →
          t.meter m = s.meter m) ∧
        { t with tickets := s.tickets, meters := s.meters, port := s.port } = s)

/-! ### Management requests: tariffs -/

/-- LOAD TARIFF CLASS, with its checks in their order (R148, R150): with the key turned and the latch clear a class of the pending table
takes its bands, or becomes absent; a fresh pending table has every other class absent. That the request carries the level of TEN, found before
anything else, and that the notice of a fall follows the response, is the model's choice (log entries 11, 56). -/
def Obligations.LoadTariffClass : Prop :=
  ∀ (tag : Byte) (identifier : Nat) (bands : List Band) (s : State), Calm s →
    let high := { s with ten := true }
    let clean := bands.length ≤ 6 ∧ ∀ b ∈ bands, b.start ≤ 86399 ∧ b.rate ≤ 9999999
    let valid := bands = [] ∨ ValidBands (s.site.values.intervalMin * 60) bands
    (∀ mode cls, exec (.loadTariffClass tag false identifier mode cls bands) s =
      .next (refused (s.sampleTen false) tag 36 .disabled)) ∧
    (∀ mode cls, s.tariff.lockout = true → exec (.loadTariffClass tag true identifier mode cls bands) s =
      .next (refused high tag 36 .lockout)) ∧
    (s.tariff.lockout = false →
      (∀ mode cls, cls = 0 ∨ 8 < cls → exec (.loadTariffClass tag true identifier mode cls bands) s =
        .next (refused high tag 36 .badIndex)) ∧
      (∀ mode (c : ClassNo), mode = none ∨ ¬ clean →
        exec (.loadTariffClass tag true identifier mode (c.val + 1) bands) s =
          .next (refused high tag 36 .badValue)) ∧
      (∀ mode (c : ClassNo) table, clean → s.tariff.pending = .commitPending table →
        exec (.loadTariffClass tag true identifier (some mode) (c.val + 1) bands) s =
          .next (refused high tag 36 .busy)) ∧
      (∀ mode (c : ClassNo) table, clean → s.tariff.pending = .loaded table →
        table.identifier ≠ identifier ∨ table.mode ≠ mode ∨ ¬ valid →
        exec (.loadTariffClass tag true identifier (some mode) (c.val + 1) bands) s =
          .next (refused high tag 36 .notValid)) ∧
      (∀ mode (c : ClassNo), clean → s.tariff.pending = .empty → ¬ valid →
        exec (.loadTariffClass tag true identifier (some mode) (c.val + 1) bands) s =
          .next (refused high tag 36 .notValid)) ∧
      (∀ mode (c : ClassNo) table, clean → valid →
        s.tariff.pending = .loaded table ∧ table.identifier = identifier ∧ table.mode = mode ∨
          s.tariff.pending = .empty ∧ table = ⟨identifier, mode, Vector.replicate 8 none⟩ →
        let classes := table.classes.set c (if bands = [] then none else some bands)
        exec (.loadTariffClass tag true identifier (some mode) (c.val + 1) bands) s = .next (answered
          { high with tariff := { s.tariff with pending := .loaded { table with classes } } } tag 36
          ⟨.ok, .classes identifier (allClasses.filter fun k => classes[k].isSome)⟩)))

/-- COMMIT TARIFF, with its checks in their order and by the site state (R151), and READ TARIFF: a class outside 0 to 8 is refused
BAD_INDEX, whatever the table byte, and then a byte that names no table BAD_VALUE (R159, R185). That each carries the level of
TEN, found before anything else, the notice of a fall after the response, and the order of those two checks are the model's choice (log
entries 11, 48, 56). -/
def Obligations.CommitAndReadTariff : Prop :=
  ∀ (tag : Byte) (s : State), Calm s →
    let high := { s with ten := true }
    let absent := fun (table : TariffTable) (k : AccountNo) =>
      ∃ e, s.accountEntry k = some e ∧ e.active = true ∧ table.classes[e.tariffClass] = none
    exec (.commitTariff tag false) s = .next (refused (s.sampleTen false) tag 37 .disabled) ∧
    (s.tariff.lockout = true → exec (.commitTariff tag true) s = .next (refused high tag 37 .lockout)) ∧
    (s.tariff.lockout = false → (∀ table, s.tariff.pending ≠ .loaded table) →
      exec (.commitTariff tag true) s = .next (refused high tag 37 .state)) ∧
    (∀ table k, s.tariff.lockout = false → s.tariff.pending = .loaded table → absent table k →
      (∀ j, absent table j → k ≤ j) →
      exec (.commitTariff tag true) s = .next (answered high tag 37 ⟨.notValid, .accountItem k⟩)) ∧
    (∀ table, s.tariff.lockout = false → s.tariff.pending = .loaded table → (∀ k, ¬ absent table k) →
      (s.site.live = true → exec (.commitTariff tag true) s = .next (answered
        { high with tariff := { s.tariff with pending := .commitPending table } } tag 37 ⟨.ok, .none⟩)) ∧
      (s.site.live = false → exec (.commitTariff tag true) s = .next (answered
        ({ high with tariff := { s.tariff with active := some table, pending := .empty, trial := false } }.raise
          (.tariff true table.identifier s.engine.cycleNo s.billing.clock
            (s.tariff.active.map TariffTable.identifier))) tag 37 ⟨.ok, .none⟩))) ∧
    -- READ TARIFF
    (∀ ten name cls, 8 < cls →
      exec (.readTariff tag ten name cls) s = .next (refused (s.sampleTen ten) tag 40 .badIndex)) ∧
    (∀ ten cls, cls ≤ 8 →
      exec (.readTariff tag ten none cls) s = .next (refused (s.sampleTen ten) tag 40 .badValue)) ∧
    (∀ ten name cls, cls ≤ 8 →
      let u := s.sampleTen ten
      let table := match name, u.tariff.pending with
        | .active, _ => s.tariff.active
        | .pending, .empty => none
        | .pending, .loaded x => some x
        | .pending, .commitPending x => some x
      ∃ detail, exec (.readTariff tag ten (some name) cls) s = .next (answered u tag 40
          ⟨.ok, .tariff ⟨s.tariff.active.isSome, u.tariff.pending, s.tariff.trial, u.tariff.lockout, ten, detail⟩⟩) ∧
        (table = none → detail = .tableAbsent) ∧
        (∀ x, table = some x → cls = 0 →
          detail = .table x.identifier x.mode (allClasses.filter fun k => x.classes[k].isSome)) ∧
        (∀ x (c : ClassNo), table = some x → cls = c.val + 1 → detail = .cls x.classes[c]))

/-- DISCARD TARIFF (R154) empties the pending table and turns trial off, the lockout latch left as it is; TRIAL (R155) is refused STATE
unless the pending state is LOADED, then BAD_VALUE for a byte that names neither ON nor OFF, and turns trial on or off
otherwise. That DISCARD carries the level of TEN, found before anything else, and the order of the two checks of TRIAL are
the model's choice, and so is that the notice of a fall follows the response (log entries 11, 48, 56). -/
def Obligations.DiscardAndTrial : Prop :=
  ∀ (tag : Byte) (s : State), Calm s →
    exec (.discardTariff tag false) s = .next (refused (s.sampleTen false) tag 38 .disabled) ∧
    (s.tariff.pending = .empty →
      exec (.discardTariff tag true) s = .next (answered { s with ten := true } tag 38 ⟨.ok, .none⟩)) ∧
    (∀ table, s.tariff.pending = .loaded table ∨ s.tariff.pending = .commitPending table →
      exec (.discardTariff tag true) s = .next (answered
        { s with ten := true, tariff := { s.tariff with pending := .empty, trial := false } } tag 38 ⟨.ok, .none⟩)) ∧
    (∀ on, (∀ table, s.tariff.pending ≠ .loaded table) →
      exec (.trial tag on) s = .next (refused s tag 39 .state)) ∧
    (∀ table, s.tariff.pending = .loaded table → exec (.trial tag none) s = .next (refused s tag 39 .badValue)) ∧
    (∀ on table, s.tariff.pending = .loaded table → exec (.trial tag (some on)) s =
      .next (answered { s with tariff := { s.tariff with trial := on } } tag 39 ⟨.ok, .none⟩))

/-! ### Management requests: records and bills -/

/-- READ RECORDS returns the oldest eight and removes nothing (R174); RELEASE RECORDS removes the oldest, up to the number held, and
names the oldest still held (R175). -/
def Obligations.Records : Prop :=
  ∀ (tag : Byte) (s : State), Calm s →
    exec (.readRecords tag) s = .next (answered s tag 41
      ⟨.ok, .records s.billing.records.length (s.billing.records.take 8)⟩) ∧
    (∀ count, exec (.releaseRecords tag count) s = .next (answered
      { s with billing := { s.billing with records := s.billing.records.drop count } } tag 42
      ⟨.ok, .released (min count s.billing.records.length)
        ((s.billing.records.drop count).head?.map fun
          | .interval r => r.number
          | .bill r => r.number)⟩))

/-- CLOSE BILL (R171, R172): refused for an account out of range, or where the record queue lacks room; the bills are numbered from
the next record number by one each, with the HIGH_WATER notice where they cross its mark (R173, R176); a bill holds the charge since the last one, rounded to the nearest cent, a tie by the active table's mode or HALF_EVEN without one (R158), with the remainder carried, and
no micro-unit is lost; ALL bills the active accounts in
ascending order. The customer reference of an account that is not loaded is a free value (log entry 49); that the bill number
counts on by 1 without a bound is the model's choice (log entry 62). -/
def Obligations.CloseBill : Prop :=
  (∀ (tag : Byte) (account : Nat) (s : State), Calm s → 48 < account →
    exec (.closeBill tag account) s = .next (refused s tag 43 .badIndex)) ∧
  (∀ (tag : Byte) (s : State), Calm s →
    (∀ k : AccountNo, 512 ≤ s.billing.records.length →
      exec (.closeBill tag (k.val + 1)) s = .next (refused s tag 43 .queueFull)) ∧
    (512 - s.billing.records.length < s.activeAccounts.length →
      exec (.closeBill tag 0) s = .next (refused s tag 43 .queueFull)) ∧
    (∀ k : AccountNo, s.billing.records.length < 512 → -5000 ≤ (s.account k).chargeCarry →
      ∃ (t : State) (cents : Nat) (carry : Int), exec (.closeBill tag (k.val + 1)) s = .next t ∧ Answers t tag 43 ⟨.ok, .bills 1⟩ ∧
        10000 * (cents : Int) + carry = (s.account k).chargeCarry + (s.account k).charge ∧
        -5000 ≤ carry ∧ carry ≤ 5000 ∧
        NearestTo (modeInForce s) ((s.account k).chargeCarry + (s.account k).charge) 10000 cents ∧
        RecordsProduced s t [.bill
          { number := s.billing.nextRecord, account := k
            customer := ((s.accountEntry k).map AccountEntry.customer).getD
              (Config.unloadedCustomer s.billing.nextRecord).toNat
            billNumber := (s.account k).nextBill, periodStart := (s.account k).lastBill
            periodEnd := s.billing.clock.map (· / 1000), units := (s.account k).units
            charge := (s.account k).charge, cents, carry }] ∧
        t.account k =
          { s.account k with
            units := 0, charge := 0, chargeCarry := carry, nextBill := (s.account k).nextBill + 1
            lastBill := s.billing.clock.map (· / 1000) } ∧
        (∀ j, j ≠ k → t.account j = s.account j) ∧
        t.billing.clock = s.billing.clock ∧ t.billing.interval = s.billing.interval ∧
        { t with billing := s.billing, port := s.port } = s) ∧
    (s.activeAccounts.length ≤ 512 - s.billing.records.length →
      ∃ t new, exec (.closeBill tag 0) s = .next t ∧ Answers t tag 43 ⟨.ok, .bills s.activeAccounts.length⟩ ∧
        RecordsProduced s t new ∧ new.map recordAccount = s.activeAccounts ∧
        (∀ r ∈ new, ∃ b, r = .bill b ∧ b.charge = (s.account b.account).charge ∧
          b.units = (s.account b.account).units ∧ b.carry = (t.account b.account).chargeCarry ∧
          (-5000 ≤ (s.account b.account).chargeCarry →
            let total := (s.account b.account).chargeCarry + (s.account b.account).charge
            NearestTo (modeInForce s) total 10000 b.cents ∧ b.carry = total - 10000 * b.cents)) ∧
        (∀ k ∈ s.activeAccounts, (t.account k).charge = 0 ∧ (t.account k).units = 0 ∧
          (t.account k).nextBill = (s.account k).nextBill + 1 ∧ (t.account k).carry = (s.account k).carry ∧
          (t.account k).accumulator = (s.account k).accumulator) ∧
        (∀ k, k ∉ s.activeAccounts → t.account k = s.account k) ∧
        t.billing.clock = s.billing.clock ∧ t.billing.interval = s.billing.interval ∧
        { t with billing := s.billing, port := s.port } = s))

/-! ### Pass-through commands, and the frames no row lists -/

/-- The command gate (R188, R189): a plain code is refused by the first check that fails, and otherwise joins the command queue with
the frame's tag; an owned code, a kind or a destination that names nothing, and a payload that does not fit are refused
(R182, R188): for a management request a payload whose length is none of its layout's, or that its layout cannot read. -/
def Obligations.PassThroughAndUnlisted : Prop :=
  (∀ make code number, (make, code, number) ∈ plainCommands →
    ∀ (tag : Byte) (a : Addr) (args : List Byte) (s : State), Calm s → args.length ≤ 8 →
    ((∀ e, s.unitEntry a = some e → e.enabled = false) →
      exec (make tag a args) s = .next (passed s a tag number .badIndex)) ∧
    (∀ e, s.unitEntry a = some e → e.enabled = true →
      let barred := s.port.gate.get code = some .refuse ∨
        (s.port.gate.get code = some .passIfIdle ∧ ¬ OwnerIdle s e)
      (codeKind code ≠ e.kind → exec (make tag a args) s = .next (passed s a tag number .badValue)) ∧
      (codeKind code = e.kind → barred →
        exec (make tag a args) s = .next (passed s a tag number .interlock)) ∧
      (codeKind code = e.kind → ¬ barred → ¬ OfficeRoom s →
        exec (make tag a args) s = .next (passed s a tag number .queueFull)) ∧
      (codeKind code = e.kind → ¬ barred → OfficeRoom s →
        exec (make tag a args) s = .next (passed
          { s with engine := { s.engine with queue := s.engine.queue ++ [⟨a, code, args, .office tag⟩] } } a tag number
          .queued)))) ∧
  (∀ (destination tag kind : Byte) (payload : List Byte) (s : State), Calm s →
    let reply := fun code : ResultCode => exec (.unlistedOfficeFrame destination tag kind payload) s = .next
      { s with port := { s.port with
          response := some ⟨destination, tag, kind, ⟨code, .none⟩⟩
          tx := s.port.tx.or (some .response) } }
    let counted := ∃ n args, payload = n :: args ∧ n.toNat ≤ 8 ∧ args.length = n.toNat
    (destination = 0 → kind = 0 ∨ 43 < kind.toNat → reply .badRequest) ∧
    (∀ lengths, destination = 0 → (kind.toNat, lengths) ∈ layoutLengths → payload.length ∉ lengths →
      reply .badRequest) ∧
    (destination = 0 → requestOf kind.toNat payload = none → reply .badRequest) ∧
    (63 < destination.toNat → reply .badIndex) ∧
    (destination ≠ 0 → destination.toNat ≤ 63 → ¬ counted → reply .badRequest) ∧
    (∀ a : Addr, destination.toNat = a.val + 1 → counted →
      ((∀ e, s.unitEntry a = some e → e.enabled = false) → reply .badIndex) ∧
      (∀ e, s.unitEntry a = some e → e.enabled = true →
        (kind.toNat < 64 ∨ 77 < kind.toNat → reply .badValue) ∧
        (kind.toNat ∈ [64, 65, 68, 69, 70, 74, 75, 76] → reply .ownedCommand))))
end

