-- ==== Sys2Proof/Laws/State.lean ====
section
/-! SUPPORT. What each named update of the state leaves alone, field by field and entry by entry, and what it writes. -/

namespace Sys2Proof.Machine

variable (s : State)

/-! ### putUnitEntry -/

@[simp] theorem State.putUnitEntry_site (a : Addr) (e : Option UnitEntry) : (s.putUnitEntry a e).site = s.site := rfl
@[simp] theorem State.putUnitEntry_engine (a : Addr) (e : Option UnitEntry) : (s.putUnitEntry a e).engine = s.engine := rfl
@[simp] theorem State.putUnitEntry_feeders (a : Addr) (e : Option UnitEntry) : (s.putUnitEntry a e).feeders = s.feeders := rfl
@[simp] theorem State.putUnitEntry_limitFlags (a : Addr) (e : Option UnitEntry) : (s.putUnitEntry a e).limitFlags = s.limitFlags := rfl
@[simp] theorem State.putUnitEntry_sets (a : Addr) (e : Option UnitEntry) : (s.putUnitEntry a e).sets = s.sets := rfl
@[simp] theorem State.putUnitEntry_unattributed (a : Addr) (e : Option UnitEntry) : (s.putUnitEntry a e).unattributed = s.unattributed := rfl
@[simp] theorem State.putUnitEntry_tanks (a : Addr) (e : Option UnitEntry) : (s.putUnitEntry a e).tanks = s.tanks := rfl
@[simp] theorem State.putUnitEntry_meters (a : Addr) (e : Option UnitEntry) : (s.putUnitEntry a e).meters = s.meters := rfl
@[simp] theorem State.putUnitEntry_tickets (a : Addr) (e : Option UnitEntry) : (s.putUnitEntry a e).tickets = s.tickets := rfl
@[simp] theorem State.putUnitEntry_points (a : Addr) (e : Option UnitEntry) : (s.putUnitEntry a e).points = s.points := rfl
@[simp] theorem State.putUnitEntry_schedule (a : Addr) (e : Option UnitEntry) : (s.putUnitEntry a e).schedule = s.schedule := rfl
@[simp] theorem State.putUnitEntry_tariff (a : Addr) (e : Option UnitEntry) : (s.putUnitEntry a e).tariff = s.tariff := rfl
@[simp] theorem State.putUnitEntry_ten (a : Addr) (e : Option UnitEntry) : (s.putUnitEntry a e).ten = s.ten := rfl
@[simp] theorem State.putUnitEntry_billing (a : Addr) (e : Option UnitEntry) : (s.putUnitEntry a e).billing = s.billing := rfl
@[simp] theorem State.putUnitEntry_port (a : Addr) (e : Option UnitEntry) : (s.putUnitEntry a e).port = s.port := rfl
@[simp] theorem State.putUnitEntry_due (a : Addr) (e : Option UnitEntry) : (s.putUnitEntry a e).due = s.due := rfl
@[simp] theorem State.putUnitEntry_freeCount (a : Addr) (e : Option UnitEntry) : (s.putUnitEntry a e).freeCount = s.freeCount := rfl
@[simp] theorem State.putUnitEntry_pending (a : Addr) (e : Option UnitEntry) : (s.putUnitEntry a e).pending = s.pending := rfl
@[simp] theorem State.putUnitEntry_feederEntry (a : Addr) (e : Option UnitEntry) (j : FeederNo) :
    (s.putUnitEntry a e).feederEntry j = s.feederEntry j := rfl
@[simp] theorem State.putUnitEntry_setEntry (a : Addr) (e : Option UnitEntry) (j : SetNo) :
    (s.putUnitEntry a e).setEntry j = s.setEntry j := rfl
@[simp] theorem State.putUnitEntry_pointEntry (a : Addr) (e : Option UnitEntry) (j : PointNo) :
    (s.putUnitEntry a e).pointEntry j = s.pointEntry j := rfl
@[simp] theorem State.putUnitEntry_accountEntry (a : Addr) (e : Option UnitEntry) (j : AccountNo) :
    (s.putUnitEntry a e).accountEntry j = s.accountEntry j := rfl
@[simp] theorem State.putUnitEntry_link (a : Addr) (e : Option UnitEntry) (j : Addr) :
    (s.putUnitEntry a e).link j = s.link j := rfl
@[simp] theorem State.putUnitEntry_feederRec (a : Addr) (e : Option UnitEntry) (j : FeederNo) :
    (s.putUnitEntry a e).feederRec j = s.feederRec j := rfl
@[simp] theorem State.putUnitEntry_limitFlag (a : Addr) (e : Option UnitEntry) (j : FeederNo) :
    (s.putUnitEntry a e).limitFlag j = s.limitFlag j := rfl
@[simp] theorem State.putUnitEntry_setRec (a : Addr) (e : Option UnitEntry) (j : SetNo) :
    (s.putUnitEntry a e).setRec j = s.setRec j := rfl
@[simp] theorem State.putUnitEntry_tank (a : Addr) (e : Option UnitEntry) (j : SetNo) :
    (s.putUnitEntry a e).tank j = s.tank j := rfl
@[simp] theorem State.putUnitEntry_meter (a : Addr) (e : Option UnitEntry) (j : MeterNo) :
    (s.putUnitEntry a e).meter j = s.meter j := rfl
@[simp] theorem State.putUnitEntry_pointRec (a : Addr) (e : Option UnitEntry) (j : PointNo) :
    (s.putUnitEntry a e).pointRec j = s.pointRec j := rfl
@[simp] theorem State.putUnitEntry_account (a : Addr) (e : Option UnitEntry) (j : AccountNo) :
    (s.putUnitEntry a e).account j = s.account j := rfl

/-! ### putFeederEntry -/

@[simp] theorem State.putFeederEntry_site (f : FeederNo) (e : Option FeederEntry) : (s.putFeederEntry f e).site = s.site := rfl
@[simp] theorem State.putFeederEntry_engine (f : FeederNo) (e : Option FeederEntry) : (s.putFeederEntry f e).engine = s.engine := rfl
@[simp] theorem State.putFeederEntry_feeders (f : FeederNo) (e : Option FeederEntry) : (s.putFeederEntry f e).feeders = s.feeders := rfl
@[simp] theorem State.putFeederEntry_limitFlags (f : FeederNo) (e : Option FeederEntry) : (s.putFeederEntry f e).limitFlags = s.limitFlags := rfl
@[simp] theorem State.putFeederEntry_sets (f : FeederNo) (e : Option FeederEntry) : (s.putFeederEntry f e).sets = s.sets := rfl
@[simp] theorem State.putFeederEntry_unattributed (f : FeederNo) (e : Option FeederEntry) : (s.putFeederEntry f e).unattributed = s.unattributed := rfl
@[simp] theorem State.putFeederEntry_tanks (f : FeederNo) (e : Option FeederEntry) : (s.putFeederEntry f e).tanks = s.tanks := rfl
@[simp] theorem State.putFeederEntry_meters (f : FeederNo) (e : Option FeederEntry) : (s.putFeederEntry f e).meters = s.meters := rfl
@[simp] theorem State.putFeederEntry_tickets (f : FeederNo) (e : Option FeederEntry) : (s.putFeederEntry f e).tickets = s.tickets := rfl
@[simp] theorem State.putFeederEntry_points (f : FeederNo) (e : Option FeederEntry) : (s.putFeederEntry f e).points = s.points := rfl
@[simp] theorem State.putFeederEntry_schedule (f : FeederNo) (e : Option FeederEntry) : (s.putFeederEntry f e).schedule = s.schedule := rfl
@[simp] theorem State.putFeederEntry_tariff (f : FeederNo) (e : Option FeederEntry) : (s.putFeederEntry f e).tariff = s.tariff := rfl
@[simp] theorem State.putFeederEntry_ten (f : FeederNo) (e : Option FeederEntry) : (s.putFeederEntry f e).ten = s.ten := rfl
@[simp] theorem State.putFeederEntry_billing (f : FeederNo) (e : Option FeederEntry) : (s.putFeederEntry f e).billing = s.billing := rfl
@[simp] theorem State.putFeederEntry_port (f : FeederNo) (e : Option FeederEntry) : (s.putFeederEntry f e).port = s.port := rfl
@[simp] theorem State.putFeederEntry_due (f : FeederNo) (e : Option FeederEntry) : (s.putFeederEntry f e).due = s.due := rfl
@[simp] theorem State.putFeederEntry_freeCount (f : FeederNo) (e : Option FeederEntry) : (s.putFeederEntry f e).freeCount = s.freeCount := rfl
@[simp] theorem State.putFeederEntry_pending (f : FeederNo) (e : Option FeederEntry) : (s.putFeederEntry f e).pending = s.pending := rfl
@[simp] theorem State.putFeederEntry_unitEntry (f : FeederNo) (e : Option FeederEntry) (j : Addr) :
    (s.putFeederEntry f e).unitEntry j = s.unitEntry j := rfl
@[simp] theorem State.putFeederEntry_setEntry (f : FeederNo) (e : Option FeederEntry) (j : SetNo) :
    (s.putFeederEntry f e).setEntry j = s.setEntry j := rfl
@[simp] theorem State.putFeederEntry_pointEntry (f : FeederNo) (e : Option FeederEntry) (j : PointNo) :
    (s.putFeederEntry f e).pointEntry j = s.pointEntry j := rfl
@[simp] theorem State.putFeederEntry_accountEntry (f : FeederNo) (e : Option FeederEntry) (j : AccountNo) :
    (s.putFeederEntry f e).accountEntry j = s.accountEntry j := rfl
@[simp] theorem State.putFeederEntry_link (f : FeederNo) (e : Option FeederEntry) (j : Addr) :
    (s.putFeederEntry f e).link j = s.link j := rfl
@[simp] theorem State.putFeederEntry_feederRec (f : FeederNo) (e : Option FeederEntry) (j : FeederNo) :
    (s.putFeederEntry f e).feederRec j = s.feederRec j := rfl
@[simp] theorem State.putFeederEntry_limitFlag (f : FeederNo) (e : Option FeederEntry) (j : FeederNo) :
    (s.putFeederEntry f e).limitFlag j = s.limitFlag j := rfl
@[simp] theorem State.putFeederEntry_setRec (f : FeederNo) (e : Option FeederEntry) (j : SetNo) :
    (s.putFeederEntry f e).setRec j = s.setRec j := rfl
@[simp] theorem State.putFeederEntry_tank (f : FeederNo) (e : Option FeederEntry) (j : SetNo) :
    (s.putFeederEntry f e).tank j = s.tank j := rfl
@[simp] theorem State.putFeederEntry_meter (f : FeederNo) (e : Option FeederEntry) (j : MeterNo) :
    (s.putFeederEntry f e).meter j = s.meter j := rfl
@[simp] theorem State.putFeederEntry_pointRec (f : FeederNo) (e : Option FeederEntry) (j : PointNo) :
    (s.putFeederEntry f e).pointRec j = s.pointRec j := rfl
@[simp] theorem State.putFeederEntry_account (f : FeederNo) (e : Option FeederEntry) (j : AccountNo) :
    (s.putFeederEntry f e).account j = s.account j := rfl

/-! ### putSetEntry -/

@[simp] theorem State.putSetEntry_site (n : SetNo) (e : Option SetEntry) : (s.putSetEntry n e).site = s.site := rfl
@[simp] theorem State.putSetEntry_engine (n : SetNo) (e : Option SetEntry) : (s.putSetEntry n e).engine = s.engine := rfl
@[simp] theorem State.putSetEntry_feeders (n : SetNo) (e : Option SetEntry) : (s.putSetEntry n e).feeders = s.feeders := rfl
@[simp] theorem State.putSetEntry_limitFlags (n : SetNo) (e : Option SetEntry) : (s.putSetEntry n e).limitFlags = s.limitFlags := rfl
@[simp] theorem State.putSetEntry_sets (n : SetNo) (e : Option SetEntry) : (s.putSetEntry n e).sets = s.sets := rfl
@[simp] theorem State.putSetEntry_unattributed (n : SetNo) (e : Option SetEntry) : (s.putSetEntry n e).unattributed = s.unattributed := rfl
@[simp] theorem State.putSetEntry_tanks (n : SetNo) (e : Option SetEntry) : (s.putSetEntry n e).tanks = s.tanks := rfl
@[simp] theorem State.putSetEntry_meters (n : SetNo) (e : Option SetEntry) : (s.putSetEntry n e).meters = s.meters := rfl
@[simp] theorem State.putSetEntry_tickets (n : SetNo) (e : Option SetEntry) : (s.putSetEntry n e).tickets = s.tickets := rfl
@[simp] theorem State.putSetEntry_points (n : SetNo) (e : Option SetEntry) : (s.putSetEntry n e).points = s.points := rfl
@[simp] theorem State.putSetEntry_schedule (n : SetNo) (e : Option SetEntry) : (s.putSetEntry n e).schedule = s.schedule := rfl
@[simp] theorem State.putSetEntry_tariff (n : SetNo) (e : Option SetEntry) : (s.putSetEntry n e).tariff = s.tariff := rfl
@[simp] theorem State.putSetEntry_ten (n : SetNo) (e : Option SetEntry) : (s.putSetEntry n e).ten = s.ten := rfl
@[simp] theorem State.putSetEntry_billing (n : SetNo) (e : Option SetEntry) : (s.putSetEntry n e).billing = s.billing := rfl
@[simp] theorem State.putSetEntry_port (n : SetNo) (e : Option SetEntry) : (s.putSetEntry n e).port = s.port := rfl
@[simp] theorem State.putSetEntry_due (n : SetNo) (e : Option SetEntry) : (s.putSetEntry n e).due = s.due := rfl
@[simp] theorem State.putSetEntry_freeCount (n : SetNo) (e : Option SetEntry) : (s.putSetEntry n e).freeCount = s.freeCount := rfl
@[simp] theorem State.putSetEntry_pending (n : SetNo) (e : Option SetEntry) : (s.putSetEntry n e).pending = s.pending := rfl
@[simp] theorem State.putSetEntry_unitEntry (n : SetNo) (e : Option SetEntry) (j : Addr) :
    (s.putSetEntry n e).unitEntry j = s.unitEntry j := rfl
@[simp] theorem State.putSetEntry_feederEntry (n : SetNo) (e : Option SetEntry) (j : FeederNo) :
    (s.putSetEntry n e).feederEntry j = s.feederEntry j := rfl
@[simp] theorem State.putSetEntry_pointEntry (n : SetNo) (e : Option SetEntry) (j : PointNo) :
    (s.putSetEntry n e).pointEntry j = s.pointEntry j := rfl
@[simp] theorem State.putSetEntry_accountEntry (n : SetNo) (e : Option SetEntry) (j : AccountNo) :
    (s.putSetEntry n e).accountEntry j = s.accountEntry j := rfl
@[simp] theorem State.putSetEntry_link (n : SetNo) (e : Option SetEntry) (j : Addr) :
    (s.putSetEntry n e).link j = s.link j := rfl
@[simp] theorem State.putSetEntry_feederRec (n : SetNo) (e : Option SetEntry) (j : FeederNo) :
    (s.putSetEntry n e).feederRec j = s.feederRec j := rfl
@[simp] theorem State.putSetEntry_limitFlag (n : SetNo) (e : Option SetEntry) (j : FeederNo) :
    (s.putSetEntry n e).limitFlag j = s.limitFlag j := rfl
@[simp] theorem State.putSetEntry_setRec (n : SetNo) (e : Option SetEntry) (j : SetNo) :
    (s.putSetEntry n e).setRec j = s.setRec j := rfl
@[simp] theorem State.putSetEntry_tank (n : SetNo) (e : Option SetEntry) (j : SetNo) :
    (s.putSetEntry n e).tank j = s.tank j := rfl
@[simp] theorem State.putSetEntry_meter (n : SetNo) (e : Option SetEntry) (j : MeterNo) :
    (s.putSetEntry n e).meter j = s.meter j := rfl
@[simp] theorem State.putSetEntry_pointRec (n : SetNo) (e : Option SetEntry) (j : PointNo) :
    (s.putSetEntry n e).pointRec j = s.pointRec j := rfl
@[simp] theorem State.putSetEntry_account (n : SetNo) (e : Option SetEntry) (j : AccountNo) :
    (s.putSetEntry n e).account j = s.account j := rfl

/-! ### putPointEntry -/

@[simp] theorem State.putPointEntry_site (p : PointNo) (e : Option PointEntry) : (s.putPointEntry p e).site = s.site := rfl
@[simp] theorem State.putPointEntry_engine (p : PointNo) (e : Option PointEntry) : (s.putPointEntry p e).engine = s.engine := rfl
@[simp] theorem State.putPointEntry_feeders (p : PointNo) (e : Option PointEntry) : (s.putPointEntry p e).feeders = s.feeders := rfl
@[simp] theorem State.putPointEntry_limitFlags (p : PointNo) (e : Option PointEntry) : (s.putPointEntry p e).limitFlags = s.limitFlags := rfl
@[simp] theorem State.putPointEntry_sets (p : PointNo) (e : Option PointEntry) : (s.putPointEntry p e).sets = s.sets := rfl
@[simp] theorem State.putPointEntry_unattributed (p : PointNo) (e : Option PointEntry) : (s.putPointEntry p e).unattributed = s.unattributed := rfl
@[simp] theorem State.putPointEntry_tanks (p : PointNo) (e : Option PointEntry) : (s.putPointEntry p e).tanks = s.tanks := rfl
@[simp] theorem State.putPointEntry_meters (p : PointNo) (e : Option PointEntry) : (s.putPointEntry p e).meters = s.meters := rfl
@[simp] theorem State.putPointEntry_tickets (p : PointNo) (e : Option PointEntry) : (s.putPointEntry p e).tickets = s.tickets := rfl
@[simp] theorem State.putPointEntry_points (p : PointNo) (e : Option PointEntry) : (s.putPointEntry p e).points = s.points := rfl
@[simp] theorem State.putPointEntry_schedule (p : PointNo) (e : Option PointEntry) : (s.putPointEntry p e).schedule = s.schedule := rfl
@[simp] theorem State.putPointEntry_tariff (p : PointNo) (e : Option PointEntry) : (s.putPointEntry p e).tariff = s.tariff := rfl
@[simp] theorem State.putPointEntry_ten (p : PointNo) (e : Option PointEntry) : (s.putPointEntry p e).ten = s.ten := rfl
@[simp] theorem State.putPointEntry_billing (p : PointNo) (e : Option PointEntry) : (s.putPointEntry p e).billing = s.billing := rfl
@[simp] theorem State.putPointEntry_port (p : PointNo) (e : Option PointEntry) : (s.putPointEntry p e).port = s.port := rfl
@[simp] theorem State.putPointEntry_due (p : PointNo) (e : Option PointEntry) : (s.putPointEntry p e).due = s.due := rfl
@[simp] theorem State.putPointEntry_freeCount (p : PointNo) (e : Option PointEntry) : (s.putPointEntry p e).freeCount = s.freeCount := rfl
@[simp] theorem State.putPointEntry_pending (p : PointNo) (e : Option PointEntry) : (s.putPointEntry p e).pending = s.pending := rfl
@[simp] theorem State.putPointEntry_unitEntry (p : PointNo) (e : Option PointEntry) (j : Addr) :
    (s.putPointEntry p e).unitEntry j = s.unitEntry j := rfl
@[simp] theorem State.putPointEntry_feederEntry (p : PointNo) (e : Option PointEntry) (j : FeederNo) :
    (s.putPointEntry p e).feederEntry j = s.feederEntry j := rfl
@[simp] theorem State.putPointEntry_setEntry (p : PointNo) (e : Option PointEntry) (j : SetNo) :
    (s.putPointEntry p e).setEntry j = s.setEntry j := rfl
@[simp] theorem State.putPointEntry_accountEntry (p : PointNo) (e : Option PointEntry) (j : AccountNo) :
    (s.putPointEntry p e).accountEntry j = s.accountEntry j := rfl
@[simp] theorem State.putPointEntry_link (p : PointNo) (e : Option PointEntry) (j : Addr) :
    (s.putPointEntry p e).link j = s.link j := rfl
@[simp] theorem State.putPointEntry_feederRec (p : PointNo) (e : Option PointEntry) (j : FeederNo) :
    (s.putPointEntry p e).feederRec j = s.feederRec j := rfl
@[simp] theorem State.putPointEntry_limitFlag (p : PointNo) (e : Option PointEntry) (j : FeederNo) :
    (s.putPointEntry p e).limitFlag j = s.limitFlag j := rfl
@[simp] theorem State.putPointEntry_setRec (p : PointNo) (e : Option PointEntry) (j : SetNo) :
    (s.putPointEntry p e).setRec j = s.setRec j := rfl
@[simp] theorem State.putPointEntry_tank (p : PointNo) (e : Option PointEntry) (j : SetNo) :
    (s.putPointEntry p e).tank j = s.tank j := rfl
@[simp] theorem State.putPointEntry_meter (p : PointNo) (e : Option PointEntry) (j : MeterNo) :
    (s.putPointEntry p e).meter j = s.meter j := rfl
@[simp] theorem State.putPointEntry_pointRec (p : PointNo) (e : Option PointEntry) (j : PointNo) :
    (s.putPointEntry p e).pointRec j = s.pointRec j := rfl
@[simp] theorem State.putPointEntry_account (p : PointNo) (e : Option PointEntry) (j : AccountNo) :
    (s.putPointEntry p e).account j = s.account j := rfl

/-! ### putAccountEntry -/

@[simp] theorem State.putAccountEntry_site (k : AccountNo) (e : Option AccountEntry) : (s.putAccountEntry k e).site = s.site := rfl
@[simp] theorem State.putAccountEntry_engine (k : AccountNo) (e : Option AccountEntry) : (s.putAccountEntry k e).engine = s.engine := rfl
@[simp] theorem State.putAccountEntry_feeders (k : AccountNo) (e : Option AccountEntry) : (s.putAccountEntry k e).feeders = s.feeders := rfl
@[simp] theorem State.putAccountEntry_limitFlags (k : AccountNo) (e : Option AccountEntry) : (s.putAccountEntry k e).limitFlags = s.limitFlags := rfl
@[simp] theorem State.putAccountEntry_sets (k : AccountNo) (e : Option AccountEntry) : (s.putAccountEntry k e).sets = s.sets := rfl
@[simp] theorem State.putAccountEntry_unattributed (k : AccountNo) (e : Option AccountEntry) : (s.putAccountEntry k e).unattributed = s.unattributed := rfl
@[simp] theorem State.putAccountEntry_tanks (k : AccountNo) (e : Option AccountEntry) : (s.putAccountEntry k e).tanks = s.tanks := rfl
@[simp] theorem State.putAccountEntry_meters (k : AccountNo) (e : Option AccountEntry) : (s.putAccountEntry k e).meters = s.meters := rfl
@[simp] theorem State.putAccountEntry_tickets (k : AccountNo) (e : Option AccountEntry) : (s.putAccountEntry k e).tickets = s.tickets := rfl
@[simp] theorem State.putAccountEntry_points (k : AccountNo) (e : Option AccountEntry) : (s.putAccountEntry k e).points = s.points := rfl
@[simp] theorem State.putAccountEntry_schedule (k : AccountNo) (e : Option AccountEntry) : (s.putAccountEntry k e).schedule = s.schedule := rfl
@[simp] theorem State.putAccountEntry_tariff (k : AccountNo) (e : Option AccountEntry) : (s.putAccountEntry k e).tariff = s.tariff := rfl
@[simp] theorem State.putAccountEntry_ten (k : AccountNo) (e : Option AccountEntry) : (s.putAccountEntry k e).ten = s.ten := rfl
@[simp] theorem State.putAccountEntry_billing (k : AccountNo) (e : Option AccountEntry) : (s.putAccountEntry k e).billing = s.billing := rfl
@[simp] theorem State.putAccountEntry_port (k : AccountNo) (e : Option AccountEntry) : (s.putAccountEntry k e).port = s.port := rfl
@[simp] theorem State.putAccountEntry_due (k : AccountNo) (e : Option AccountEntry) : (s.putAccountEntry k e).due = s.due := rfl
@[simp] theorem State.putAccountEntry_freeCount (k : AccountNo) (e : Option AccountEntry) : (s.putAccountEntry k e).freeCount = s.freeCount := rfl
@[simp] theorem State.putAccountEntry_pending (k : AccountNo) (e : Option AccountEntry) : (s.putAccountEntry k e).pending = s.pending := rfl
@[simp] theorem State.putAccountEntry_unitEntry (k : AccountNo) (e : Option AccountEntry) (j : Addr) :
    (s.putAccountEntry k e).unitEntry j = s.unitEntry j := rfl
@[simp] theorem State.putAccountEntry_feederEntry (k : AccountNo) (e : Option AccountEntry) (j : FeederNo) :
    (s.putAccountEntry k e).feederEntry j = s.feederEntry j := rfl
@[simp] theorem State.putAccountEntry_setEntry (k : AccountNo) (e : Option AccountEntry) (j : SetNo) :
    (s.putAccountEntry k e).setEntry j = s.setEntry j := rfl
@[simp] theorem State.putAccountEntry_pointEntry (k : AccountNo) (e : Option AccountEntry) (j : PointNo) :
    (s.putAccountEntry k e).pointEntry j = s.pointEntry j := rfl
@[simp] theorem State.putAccountEntry_link (k : AccountNo) (e : Option AccountEntry) (j : Addr) :
    (s.putAccountEntry k e).link j = s.link j := rfl
@[simp] theorem State.putAccountEntry_feederRec (k : AccountNo) (e : Option AccountEntry) (j : FeederNo) :
    (s.putAccountEntry k e).feederRec j = s.feederRec j := rfl
@[simp] theorem State.putAccountEntry_limitFlag (k : AccountNo) (e : Option AccountEntry) (j : FeederNo) :
    (s.putAccountEntry k e).limitFlag j = s.limitFlag j := rfl
@[simp] theorem State.putAccountEntry_setRec (k : AccountNo) (e : Option AccountEntry) (j : SetNo) :
    (s.putAccountEntry k e).setRec j = s.setRec j := rfl
@[simp] theorem State.putAccountEntry_tank (k : AccountNo) (e : Option AccountEntry) (j : SetNo) :
    (s.putAccountEntry k e).tank j = s.tank j := rfl
@[simp] theorem State.putAccountEntry_meter (k : AccountNo) (e : Option AccountEntry) (j : MeterNo) :
    (s.putAccountEntry k e).meter j = s.meter j := rfl
@[simp] theorem State.putAccountEntry_pointRec (k : AccountNo) (e : Option AccountEntry) (j : PointNo) :
    (s.putAccountEntry k e).pointRec j = s.pointRec j := rfl
@[simp] theorem State.putAccountEntry_account (k : AccountNo) (e : Option AccountEntry) (j : AccountNo) :
    (s.putAccountEntry k e).account j = s.account j := rfl

/-! ### putLink -/

@[simp] theorem State.putLink_tables (a : Addr) (r : LinkRec) : (s.putLink a r).tables = s.tables := rfl
@[simp] theorem State.putLink_site (a : Addr) (r : LinkRec) : (s.putLink a r).site = s.site := rfl
@[simp] theorem State.putLink_feeders (a : Addr) (r : LinkRec) : (s.putLink a r).feeders = s.feeders := rfl
@[simp] theorem State.putLink_limitFlags (a : Addr) (r : LinkRec) : (s.putLink a r).limitFlags = s.limitFlags := rfl
@[simp] theorem State.putLink_sets (a : Addr) (r : LinkRec) : (s.putLink a r).sets = s.sets := rfl
@[simp] theorem State.putLink_unattributed (a : Addr) (r : LinkRec) : (s.putLink a r).unattributed = s.unattributed := rfl
@[simp] theorem State.putLink_tanks (a : Addr) (r : LinkRec) : (s.putLink a r).tanks = s.tanks := rfl
@[simp] theorem State.putLink_meters (a : Addr) (r : LinkRec) : (s.putLink a r).meters = s.meters := rfl
@[simp] theorem State.putLink_tickets (a : Addr) (r : LinkRec) : (s.putLink a r).tickets = s.tickets := rfl
@[simp] theorem State.putLink_points (a : Addr) (r : LinkRec) : (s.putLink a r).points = s.points := rfl
@[simp] theorem State.putLink_schedule (a : Addr) (r : LinkRec) : (s.putLink a r).schedule = s.schedule := rfl
@[simp] theorem State.putLink_tariff (a : Addr) (r : LinkRec) : (s.putLink a r).tariff = s.tariff := rfl
@[simp] theorem State.putLink_ten (a : Addr) (r : LinkRec) : (s.putLink a r).ten = s.ten := rfl
@[simp] theorem State.putLink_billing (a : Addr) (r : LinkRec) : (s.putLink a r).billing = s.billing := rfl
@[simp] theorem State.putLink_port (a : Addr) (r : LinkRec) : (s.putLink a r).port = s.port := rfl
@[simp] theorem State.putLink_due (a : Addr) (r : LinkRec) : (s.putLink a r).due = s.due := rfl
@[simp] theorem State.putLink_freeCount (a : Addr) (r : LinkRec) : (s.putLink a r).freeCount = s.freeCount := rfl
@[simp] theorem State.putLink_pending (a : Addr) (r : LinkRec) : (s.putLink a r).pending = s.pending := rfl
@[simp] theorem State.putLink_unitEntry (a : Addr) (r : LinkRec) (j : Addr) :
    (s.putLink a r).unitEntry j = s.unitEntry j := rfl
@[simp] theorem State.putLink_feederEntry (a : Addr) (r : LinkRec) (j : FeederNo) :
    (s.putLink a r).feederEntry j = s.feederEntry j := rfl
@[simp] theorem State.putLink_setEntry (a : Addr) (r : LinkRec) (j : SetNo) :
    (s.putLink a r).setEntry j = s.setEntry j := rfl
@[simp] theorem State.putLink_pointEntry (a : Addr) (r : LinkRec) (j : PointNo) :
    (s.putLink a r).pointEntry j = s.pointEntry j := rfl
@[simp] theorem State.putLink_accountEntry (a : Addr) (r : LinkRec) (j : AccountNo) :
    (s.putLink a r).accountEntry j = s.accountEntry j := rfl
@[simp] theorem State.putLink_feederRec (a : Addr) (r : LinkRec) (j : FeederNo) :
    (s.putLink a r).feederRec j = s.feederRec j := rfl
@[simp] theorem State.putLink_limitFlag (a : Addr) (r : LinkRec) (j : FeederNo) :
    (s.putLink a r).limitFlag j = s.limitFlag j := rfl
@[simp] theorem State.putLink_setRec (a : Addr) (r : LinkRec) (j : SetNo) :
    (s.putLink a r).setRec j = s.setRec j := rfl
@[simp] theorem State.putLink_tank (a : Addr) (r : LinkRec) (j : SetNo) :
    (s.putLink a r).tank j = s.tank j := rfl
@[simp] theorem State.putLink_meter (a : Addr) (r : LinkRec) (j : MeterNo) :
    (s.putLink a r).meter j = s.meter j := rfl
@[simp] theorem State.putLink_pointRec (a : Addr) (r : LinkRec) (j : PointNo) :
    (s.putLink a r).pointRec j = s.pointRec j := rfl
@[simp] theorem State.putLink_account (a : Addr) (r : LinkRec) (j : AccountNo) :
    (s.putLink a r).account j = s.account j := rfl

/-! ### putFeeder -/

@[simp] theorem State.putFeeder_tables (f : FeederNo) (r : FeederRec) : (s.putFeeder f r).tables = s.tables := rfl
@[simp] theorem State.putFeeder_site (f : FeederNo) (r : FeederRec) : (s.putFeeder f r).site = s.site := rfl
@[simp] theorem State.putFeeder_engine (f : FeederNo) (r : FeederRec) : (s.putFeeder f r).engine = s.engine := rfl
@[simp] theorem State.putFeeder_limitFlags (f : FeederNo) (r : FeederRec) : (s.putFeeder f r).limitFlags = s.limitFlags := rfl
@[simp] theorem State.putFeeder_sets (f : FeederNo) (r : FeederRec) : (s.putFeeder f r).sets = s.sets := rfl
@[simp] theorem State.putFeeder_unattributed (f : FeederNo) (r : FeederRec) : (s.putFeeder f r).unattributed = s.unattributed := rfl
@[simp] theorem State.putFeeder_tanks (f : FeederNo) (r : FeederRec) : (s.putFeeder f r).tanks = s.tanks := rfl
@[simp] theorem State.putFeeder_meters (f : FeederNo) (r : FeederRec) : (s.putFeeder f r).meters = s.meters := rfl
@[simp] theorem State.putFeeder_tickets (f : FeederNo) (r : FeederRec) : (s.putFeeder f r).tickets = s.tickets := rfl
@[simp] theorem State.putFeeder_points (f : FeederNo) (r : FeederRec) : (s.putFeeder f r).points = s.points := rfl
@[simp] theorem State.putFeeder_schedule (f : FeederNo) (r : FeederRec) : (s.putFeeder f r).schedule = s.schedule := rfl
@[simp] theorem State.putFeeder_tariff (f : FeederNo) (r : FeederRec) : (s.putFeeder f r).tariff = s.tariff := rfl
@[simp] theorem State.putFeeder_ten (f : FeederNo) (r : FeederRec) : (s.putFeeder f r).ten = s.ten := rfl
@[simp] theorem State.putFeeder_billing (f : FeederNo) (r : FeederRec) : (s.putFeeder f r).billing = s.billing := rfl
@[simp] theorem State.putFeeder_port (f : FeederNo) (r : FeederRec) : (s.putFeeder f r).port = s.port := rfl
@[simp] theorem State.putFeeder_due (f : FeederNo) (r : FeederRec) : (s.putFeeder f r).due = s.due := rfl
@[simp] theorem State.putFeeder_freeCount (f : FeederNo) (r : FeederRec) : (s.putFeeder f r).freeCount = s.freeCount := rfl
@[simp] theorem State.putFeeder_pending (f : FeederNo) (r : FeederRec) : (s.putFeeder f r).pending = s.pending := rfl
@[simp] theorem State.putFeeder_unitEntry (f : FeederNo) (r : FeederRec) (j : Addr) :
    (s.putFeeder f r).unitEntry j = s.unitEntry j := rfl
@[simp] theorem State.putFeeder_feederEntry (f : FeederNo) (r : FeederRec) (j : FeederNo) :
    (s.putFeeder f r).feederEntry j = s.feederEntry j := rfl
@[simp] theorem State.putFeeder_setEntry (f : FeederNo) (r : FeederRec) (j : SetNo) :
    (s.putFeeder f r).setEntry j = s.setEntry j := rfl
@[simp] theorem State.putFeeder_pointEntry (f : FeederNo) (r : FeederRec) (j : PointNo) :
    (s.putFeeder f r).pointEntry j = s.pointEntry j := rfl
@[simp] theorem State.putFeeder_accountEntry (f : FeederNo) (r : FeederRec) (j : AccountNo) :
    (s.putFeeder f r).accountEntry j = s.accountEntry j := rfl
@[simp] theorem State.putFeeder_link (f : FeederNo) (r : FeederRec) (j : Addr) :
    (s.putFeeder f r).link j = s.link j := rfl
@[simp] theorem State.putFeeder_limitFlag (f : FeederNo) (r : FeederRec) (j : FeederNo) :
    (s.putFeeder f r).limitFlag j = s.limitFlag j := rfl
@[simp] theorem State.putFeeder_setRec (f : FeederNo) (r : FeederRec) (j : SetNo) :
    (s.putFeeder f r).setRec j = s.setRec j := rfl
@[simp] theorem State.putFeeder_tank (f : FeederNo) (r : FeederRec) (j : SetNo) :
    (s.putFeeder f r).tank j = s.tank j := rfl
@[simp] theorem State.putFeeder_meter (f : FeederNo) (r : FeederRec) (j : MeterNo) :
    (s.putFeeder f r).meter j = s.meter j := rfl
@[simp] theorem State.putFeeder_pointRec (f : FeederNo) (r : FeederRec) (j : PointNo) :
    (s.putFeeder f r).pointRec j = s.pointRec j := rfl
@[simp] theorem State.putFeeder_account (f : FeederNo) (r : FeederRec) (j : AccountNo) :
    (s.putFeeder f r).account j = s.account j := rfl

/-! ### putLimitFlag -/

@[simp] theorem State.putLimitFlag_tables (f : FeederNo) (b : Bool) : (s.putLimitFlag f b).tables = s.tables := rfl
@[simp] theorem State.putLimitFlag_site (f : FeederNo) (b : Bool) : (s.putLimitFlag f b).site = s.site := rfl
@[simp] theorem State.putLimitFlag_engine (f : FeederNo) (b : Bool) : (s.putLimitFlag f b).engine = s.engine := rfl
@[simp] theorem State.putLimitFlag_feeders (f : FeederNo) (b : Bool) : (s.putLimitFlag f b).feeders = s.feeders := rfl
@[simp] theorem State.putLimitFlag_sets (f : FeederNo) (b : Bool) : (s.putLimitFlag f b).sets = s.sets := rfl
@[simp] theorem State.putLimitFlag_unattributed (f : FeederNo) (b : Bool) : (s.putLimitFlag f b).unattributed = s.unattributed := rfl
@[simp] theorem State.putLimitFlag_tanks (f : FeederNo) (b : Bool) : (s.putLimitFlag f b).tanks = s.tanks := rfl
@[simp] theorem State.putLimitFlag_meters (f : FeederNo) (b : Bool) : (s.putLimitFlag f b).meters = s.meters := rfl
@[simp] theorem State.putLimitFlag_tickets (f : FeederNo) (b : Bool) : (s.putLimitFlag f b).tickets = s.tickets := rfl
@[simp] theorem State.putLimitFlag_points (f : FeederNo) (b : Bool) : (s.putLimitFlag f b).points = s.points := rfl
@[simp] theorem State.putLimitFlag_schedule (f : FeederNo) (b : Bool) : (s.putLimitFlag f b).schedule = s.schedule := rfl
@[simp] theorem State.putLimitFlag_tariff (f : FeederNo) (b : Bool) : (s.putLimitFlag f b).tariff = s.tariff := rfl
@[simp] theorem State.putLimitFlag_ten (f : FeederNo) (b : Bool) : (s.putLimitFlag f b).ten = s.ten := rfl
@[simp] theorem State.putLimitFlag_billing (f : FeederNo) (b : Bool) : (s.putLimitFlag f b).billing = s.billing := rfl
@[simp] theorem State.putLimitFlag_port (f : FeederNo) (b : Bool) : (s.putLimitFlag f b).port = s.port := rfl
@[simp] theorem State.putLimitFlag_due (f : FeederNo) (b : Bool) : (s.putLimitFlag f b).due = s.due := rfl
@[simp] theorem State.putLimitFlag_freeCount (f : FeederNo) (b : Bool) : (s.putLimitFlag f b).freeCount = s.freeCount := rfl
@[simp] theorem State.putLimitFlag_pending (f : FeederNo) (b : Bool) : (s.putLimitFlag f b).pending = s.pending := rfl
@[simp] theorem State.putLimitFlag_unitEntry (f : FeederNo) (b : Bool) (j : Addr) :
    (s.putLimitFlag f b).unitEntry j = s.unitEntry j := rfl
@[simp] theorem State.putLimitFlag_feederEntry (f : FeederNo) (b : Bool) (j : FeederNo) :
    (s.putLimitFlag f b).feederEntry j = s.feederEntry j := rfl
@[simp] theorem State.putLimitFlag_setEntry (f : FeederNo) (b : Bool) (j : SetNo) :
    (s.putLimitFlag f b).setEntry j = s.setEntry j := rfl
@[simp] theorem State.putLimitFlag_pointEntry (f : FeederNo) (b : Bool) (j : PointNo) :
    (s.putLimitFlag f b).pointEntry j = s.pointEntry j := rfl
@[simp] theorem State.putLimitFlag_accountEntry (f : FeederNo) (b : Bool) (j : AccountNo) :
    (s.putLimitFlag f b).accountEntry j = s.accountEntry j := rfl
@[simp] theorem State.putLimitFlag_link (f : FeederNo) (b : Bool) (j : Addr) :
    (s.putLimitFlag f b).link j = s.link j := rfl
@[simp] theorem State.putLimitFlag_feederRec (f : FeederNo) (b : Bool) (j : FeederNo) :
    (s.putLimitFlag f b).feederRec j = s.feederRec j := rfl
@[simp] theorem State.putLimitFlag_setRec (f : FeederNo) (b : Bool) (j : SetNo) :
    (s.putLimitFlag f b).setRec j = s.setRec j := rfl
@[simp] theorem State.putLimitFlag_tank (f : FeederNo) (b : Bool) (j : SetNo) :
    (s.putLimitFlag f b).tank j = s.tank j := rfl
@[simp] theorem State.putLimitFlag_meter (f : FeederNo) (b : Bool) (j : MeterNo) :
    (s.putLimitFlag f b).meter j = s.meter j := rfl
@[simp] theorem State.putLimitFlag_pointRec (f : FeederNo) (b : Bool) (j : PointNo) :
    (s.putLimitFlag f b).pointRec j = s.pointRec j := rfl
@[simp] theorem State.putLimitFlag_account (f : FeederNo) (b : Bool) (j : AccountNo) :
    (s.putLimitFlag f b).account j = s.account j := rfl

/-! ### putSet -/

@[simp] theorem State.putSet_tables (n : SetNo) (r : SetRec) : (s.putSet n r).tables = s.tables := rfl
@[simp] theorem State.putSet_site (n : SetNo) (r : SetRec) : (s.putSet n r).site = s.site := rfl
@[simp] theorem State.putSet_engine (n : SetNo) (r : SetRec) : (s.putSet n r).engine = s.engine := rfl
@[simp] theorem State.putSet_feeders (n : SetNo) (r : SetRec) : (s.putSet n r).feeders = s.feeders := rfl
@[simp] theorem State.putSet_limitFlags (n : SetNo) (r : SetRec) : (s.putSet n r).limitFlags = s.limitFlags := rfl
@[simp] theorem State.putSet_unattributed (n : SetNo) (r : SetRec) : (s.putSet n r).unattributed = s.unattributed := rfl
@[simp] theorem State.putSet_tanks (n : SetNo) (r : SetRec) : (s.putSet n r).tanks = s.tanks := rfl
@[simp] theorem State.putSet_meters (n : SetNo) (r : SetRec) : (s.putSet n r).meters = s.meters := rfl
@[simp] theorem State.putSet_tickets (n : SetNo) (r : SetRec) : (s.putSet n r).tickets = s.tickets := rfl
@[simp] theorem State.putSet_points (n : SetNo) (r : SetRec) : (s.putSet n r).points = s.points := rfl
@[simp] theorem State.putSet_schedule (n : SetNo) (r : SetRec) : (s.putSet n r).schedule = s.schedule := rfl
@[simp] theorem State.putSet_tariff (n : SetNo) (r : SetRec) : (s.putSet n r).tariff = s.tariff := rfl
@[simp] theorem State.putSet_ten (n : SetNo) (r : SetRec) : (s.putSet n r).ten = s.ten := rfl
@[simp] theorem State.putSet_billing (n : SetNo) (r : SetRec) : (s.putSet n r).billing = s.billing := rfl
@[simp] theorem State.putSet_port (n : SetNo) (r : SetRec) : (s.putSet n r).port = s.port := rfl
@[simp] theorem State.putSet_due (n : SetNo) (r : SetRec) : (s.putSet n r).due = s.due := rfl
@[simp] theorem State.putSet_freeCount (n : SetNo) (r : SetRec) : (s.putSet n r).freeCount = s.freeCount := rfl
@[simp] theorem State.putSet_pending (n : SetNo) (r : SetRec) : (s.putSet n r).pending = s.pending := rfl
@[simp] theorem State.putSet_unitEntry (n : SetNo) (r : SetRec) (j : Addr) :
    (s.putSet n r).unitEntry j = s.unitEntry j := rfl
@[simp] theorem State.putSet_feederEntry (n : SetNo) (r : SetRec) (j : FeederNo) :
    (s.putSet n r).feederEntry j = s.feederEntry j := rfl
@[simp] theorem State.putSet_setEntry (n : SetNo) (r : SetRec) (j : SetNo) :
    (s.putSet n r).setEntry j = s.setEntry j := rfl
@[simp] theorem State.putSet_pointEntry (n : SetNo) (r : SetRec) (j : PointNo) :
    (s.putSet n r).pointEntry j = s.pointEntry j := rfl
@[simp] theorem State.putSet_accountEntry (n : SetNo) (r : SetRec) (j : AccountNo) :
    (s.putSet n r).accountEntry j = s.accountEntry j := rfl
@[simp] theorem State.putSet_link (n : SetNo) (r : SetRec) (j : Addr) :
    (s.putSet n r).link j = s.link j := rfl
@[simp] theorem State.putSet_feederRec (n : SetNo) (r : SetRec) (j : FeederNo) :
    (s.putSet n r).feederRec j = s.feederRec j := rfl
@[simp] theorem State.putSet_limitFlag (n : SetNo) (r : SetRec) (j : FeederNo) :
    (s.putSet n r).limitFlag j = s.limitFlag j := rfl
@[simp] theorem State.putSet_tank (n : SetNo) (r : SetRec) (j : SetNo) :
    (s.putSet n r).tank j = s.tank j := rfl
@[simp] theorem State.putSet_meter (n : SetNo) (r : SetRec) (j : MeterNo) :
    (s.putSet n r).meter j = s.meter j := rfl
@[simp] theorem State.putSet_pointRec (n : SetNo) (r : SetRec) (j : PointNo) :
    (s.putSet n r).pointRec j = s.pointRec j := rfl
@[simp] theorem State.putSet_account (n : SetNo) (r : SetRec) (j : AccountNo) :
    (s.putSet n r).account j = s.account j := rfl

/-! ### putTank -/

@[simp] theorem State.putTank_tables (n : SetNo) (t : Tank) : (s.putTank n t).tables = s.tables := rfl
@[simp] theorem State.putTank_site (n : SetNo) (t : Tank) : (s.putTank n t).site = s.site := rfl
@[simp] theorem State.putTank_engine (n : SetNo) (t : Tank) : (s.putTank n t).engine = s.engine := rfl
@[simp] theorem State.putTank_feeders (n : SetNo) (t : Tank) : (s.putTank n t).feeders = s.feeders := rfl
@[simp] theorem State.putTank_limitFlags (n : SetNo) (t : Tank) : (s.putTank n t).limitFlags = s.limitFlags := rfl
@[simp] theorem State.putTank_sets (n : SetNo) (t : Tank) : (s.putTank n t).sets = s.sets := rfl
@[simp] theorem State.putTank_unattributed (n : SetNo) (t : Tank) : (s.putTank n t).unattributed = s.unattributed := rfl
@[simp] theorem State.putTank_meters (n : SetNo) (t : Tank) : (s.putTank n t).meters = s.meters := rfl
@[simp] theorem State.putTank_tickets (n : SetNo) (t : Tank) : (s.putTank n t).tickets = s.tickets := rfl
@[simp] theorem State.putTank_points (n : SetNo) (t : Tank) : (s.putTank n t).points = s.points := rfl
@[simp] theorem State.putTank_schedule (n : SetNo) (t : Tank) : (s.putTank n t).schedule = s.schedule := rfl
@[simp] theorem State.putTank_tariff (n : SetNo) (t : Tank) : (s.putTank n t).tariff = s.tariff := rfl
@[simp] theorem State.putTank_ten (n : SetNo) (t : Tank) : (s.putTank n t).ten = s.ten := rfl
@[simp] theorem State.putTank_billing (n : SetNo) (t : Tank) : (s.putTank n t).billing = s.billing := rfl
@[simp] theorem State.putTank_port (n : SetNo) (t : Tank) : (s.putTank n t).port = s.port := rfl
@[simp] theorem State.putTank_due (n : SetNo) (t : Tank) : (s.putTank n t).due = s.due := rfl
@[simp] theorem State.putTank_freeCount (n : SetNo) (t : Tank) : (s.putTank n t).freeCount = s.freeCount := rfl
@[simp] theorem State.putTank_pending (n : SetNo) (t : Tank) : (s.putTank n t).pending = s.pending := rfl
@[simp] theorem State.putTank_unitEntry (n : SetNo) (t : Tank) (j : Addr) :
    (s.putTank n t).unitEntry j = s.unitEntry j := rfl
@[simp] theorem State.putTank_feederEntry (n : SetNo) (t : Tank) (j : FeederNo) :
    (s.putTank n t).feederEntry j = s.feederEntry j := rfl
@[simp] theorem State.putTank_setEntry (n : SetNo) (t : Tank) (j : SetNo) :
    (s.putTank n t).setEntry j = s.setEntry j := rfl
@[simp] theorem State.putTank_pointEntry (n : SetNo) (t : Tank) (j : PointNo) :
    (s.putTank n t).pointEntry j = s.pointEntry j := rfl
@[simp] theorem State.putTank_accountEntry (n : SetNo) (t : Tank) (j : AccountNo) :
    (s.putTank n t).accountEntry j = s.accountEntry j := rfl
@[simp] theorem State.putTank_link (n : SetNo) (t : Tank) (j : Addr) :
    (s.putTank n t).link j = s.link j := rfl
@[simp] theorem State.putTank_feederRec (n : SetNo) (t : Tank) (j : FeederNo) :
    (s.putTank n t).feederRec j = s.feederRec j := rfl
@[simp] theorem State.putTank_limitFlag (n : SetNo) (t : Tank) (j : FeederNo) :
    (s.putTank n t).limitFlag j = s.limitFlag j := rfl
@[simp] theorem State.putTank_setRec (n : SetNo) (t : Tank) (j : SetNo) :
    (s.putTank n t).setRec j = s.setRec j := rfl
@[simp] theorem State.putTank_meter (n : SetNo) (t : Tank) (j : MeterNo) :
    (s.putTank n t).meter j = s.meter j := rfl
@[simp] theorem State.putTank_pointRec (n : SetNo) (t : Tank) (j : PointNo) :
    (s.putTank n t).pointRec j = s.pointRec j := rfl
@[simp] theorem State.putTank_account (n : SetNo) (t : Tank) (j : AccountNo) :
    (s.putTank n t).account j = s.account j := rfl

/-! ### putMeter -/

@[simp] theorem State.putMeter_tables (m : MeterNo) (r : MeterRec) : (s.putMeter m r).tables = s.tables := rfl
@[simp] theorem State.putMeter_site (m : MeterNo) (r : MeterRec) : (s.putMeter m r).site = s.site := rfl
@[simp] theorem State.putMeter_engine (m : MeterNo) (r : MeterRec) : (s.putMeter m r).engine = s.engine := rfl
@[simp] theorem State.putMeter_feeders (m : MeterNo) (r : MeterRec) : (s.putMeter m r).feeders = s.feeders := rfl
@[simp] theorem State.putMeter_limitFlags (m : MeterNo) (r : MeterRec) : (s.putMeter m r).limitFlags = s.limitFlags := rfl
@[simp] theorem State.putMeter_sets (m : MeterNo) (r : MeterRec) : (s.putMeter m r).sets = s.sets := rfl
@[simp] theorem State.putMeter_unattributed (m : MeterNo) (r : MeterRec) : (s.putMeter m r).unattributed = s.unattributed := rfl
@[simp] theorem State.putMeter_tanks (m : MeterNo) (r : MeterRec) : (s.putMeter m r).tanks = s.tanks := rfl
@[simp] theorem State.putMeter_tickets (m : MeterNo) (r : MeterRec) : (s.putMeter m r).tickets = s.tickets := rfl
@[simp] theorem State.putMeter_points (m : MeterNo) (r : MeterRec) : (s.putMeter m r).points = s.points := rfl
@[simp] theorem State.putMeter_schedule (m : MeterNo) (r : MeterRec) : (s.putMeter m r).schedule = s.schedule := rfl
@[simp] theorem State.putMeter_tariff (m : MeterNo) (r : MeterRec) : (s.putMeter m r).tariff = s.tariff := rfl
@[simp] theorem State.putMeter_ten (m : MeterNo) (r : MeterRec) : (s.putMeter m r).ten = s.ten := rfl
@[simp] theorem State.putMeter_billing (m : MeterNo) (r : MeterRec) : (s.putMeter m r).billing = s.billing := rfl
@[simp] theorem State.putMeter_port (m : MeterNo) (r : MeterRec) : (s.putMeter m r).port = s.port := rfl
@[simp] theorem State.putMeter_due (m : MeterNo) (r : MeterRec) : (s.putMeter m r).due = s.due := rfl
@[simp] theorem State.putMeter_freeCount (m : MeterNo) (r : MeterRec) : (s.putMeter m r).freeCount = s.freeCount := rfl
@[simp] theorem State.putMeter_pending (m : MeterNo) (r : MeterRec) : (s.putMeter m r).pending = s.pending := rfl
@[simp] theorem State.putMeter_unitEntry (m : MeterNo) (r : MeterRec) (j : Addr) :
    (s.putMeter m r).unitEntry j = s.unitEntry j := rfl
@[simp] theorem State.putMeter_feederEntry (m : MeterNo) (r : MeterRec) (j : FeederNo) :
    (s.putMeter m r).feederEntry j = s.feederEntry j := rfl
@[simp] theorem State.putMeter_setEntry (m : MeterNo) (r : MeterRec) (j : SetNo) :
    (s.putMeter m r).setEntry j = s.setEntry j := rfl
@[simp] theorem State.putMeter_pointEntry (m : MeterNo) (r : MeterRec) (j : PointNo) :
    (s.putMeter m r).pointEntry j = s.pointEntry j := rfl
@[simp] theorem State.putMeter_accountEntry (m : MeterNo) (r : MeterRec) (j : AccountNo) :
    (s.putMeter m r).accountEntry j = s.accountEntry j := rfl
@[simp] theorem State.putMeter_link (m : MeterNo) (r : MeterRec) (j : Addr) :
    (s.putMeter m r).link j = s.link j := rfl
@[simp] theorem State.putMeter_feederRec (m : MeterNo) (r : MeterRec) (j : FeederNo) :
    (s.putMeter m r).feederRec j = s.feederRec j := rfl
@[simp] theorem State.putMeter_limitFlag (m : MeterNo) (r : MeterRec) (j : FeederNo) :
    (s.putMeter m r).limitFlag j = s.limitFlag j := rfl
@[simp] theorem State.putMeter_setRec (m : MeterNo) (r : MeterRec) (j : SetNo) :
    (s.putMeter m r).setRec j = s.setRec j := rfl
@[simp] theorem State.putMeter_tank (m : MeterNo) (r : MeterRec) (j : SetNo) :
    (s.putMeter m r).tank j = s.tank j := rfl
@[simp] theorem State.putMeter_pointRec (m : MeterNo) (r : MeterRec) (j : PointNo) :
    (s.putMeter m r).pointRec j = s.pointRec j := rfl
@[simp] theorem State.putMeter_account (m : MeterNo) (r : MeterRec) (j : AccountNo) :
    (s.putMeter m r).account j = s.account j := rfl

/-! ### putPoint -/

@[simp] theorem State.putPoint_tables (p : PointNo) (r : PointRec) : (s.putPoint p r).tables = s.tables := rfl
@[simp] theorem State.putPoint_site (p : PointNo) (r : PointRec) : (s.putPoint p r).site = s.site := rfl
@[simp] theorem State.putPoint_engine (p : PointNo) (r : PointRec) : (s.putPoint p r).engine = s.engine := rfl
@[simp] theorem State.putPoint_feeders (p : PointNo) (r : PointRec) : (s.putPoint p r).feeders = s.feeders := rfl
@[simp] theorem State.putPoint_limitFlags (p : PointNo) (r : PointRec) : (s.putPoint p r).limitFlags = s.limitFlags := rfl
@[simp] theorem State.putPoint_sets (p : PointNo) (r : PointRec) : (s.putPoint p r).sets = s.sets := rfl
@[simp] theorem State.putPoint_unattributed (p : PointNo) (r : PointRec) : (s.putPoint p r).unattributed = s.unattributed := rfl
@[simp] theorem State.putPoint_tanks (p : PointNo) (r : PointRec) : (s.putPoint p r).tanks = s.tanks := rfl
@[simp] theorem State.putPoint_meters (p : PointNo) (r : PointRec) : (s.putPoint p r).meters = s.meters := rfl
@[simp] theorem State.putPoint_tickets (p : PointNo) (r : PointRec) : (s.putPoint p r).tickets = s.tickets := rfl
@[simp] theorem State.putPoint_schedule (p : PointNo) (r : PointRec) : (s.putPoint p r).schedule = s.schedule := rfl
@[simp] theorem State.putPoint_tariff (p : PointNo) (r : PointRec) : (s.putPoint p r).tariff = s.tariff := rfl
@[simp] theorem State.putPoint_ten (p : PointNo) (r : PointRec) : (s.putPoint p r).ten = s.ten := rfl
@[simp] theorem State.putPoint_billing (p : PointNo) (r : PointRec) : (s.putPoint p r).billing = s.billing := rfl
@[simp] theorem State.putPoint_port (p : PointNo) (r : PointRec) : (s.putPoint p r).port = s.port := rfl
@[simp] theorem State.putPoint_due (p : PointNo) (r : PointRec) : (s.putPoint p r).due = s.due := rfl
@[simp] theorem State.putPoint_freeCount (p : PointNo) (r : PointRec) : (s.putPoint p r).freeCount = s.freeCount := rfl
@[simp] theorem State.putPoint_pending (p : PointNo) (r : PointRec) : (s.putPoint p r).pending = s.pending := rfl
@[simp] theorem State.putPoint_unitEntry (p : PointNo) (r : PointRec) (j : Addr) :
    (s.putPoint p r).unitEntry j = s.unitEntry j := rfl
@[simp] theorem State.putPoint_feederEntry (p : PointNo) (r : PointRec) (j : FeederNo) :
    (s.putPoint p r).feederEntry j = s.feederEntry j := rfl
@[simp] theorem State.putPoint_setEntry (p : PointNo) (r : PointRec) (j : SetNo) :
    (s.putPoint p r).setEntry j = s.setEntry j := rfl
@[simp] theorem State.putPoint_pointEntry (p : PointNo) (r : PointRec) (j : PointNo) :
    (s.putPoint p r).pointEntry j = s.pointEntry j := rfl
@[simp] theorem State.putPoint_accountEntry (p : PointNo) (r : PointRec) (j : AccountNo) :
    (s.putPoint p r).accountEntry j = s.accountEntry j := rfl
@[simp] theorem State.putPoint_link (p : PointNo) (r : PointRec) (j : Addr) :
    (s.putPoint p r).link j = s.link j := rfl
@[simp] theorem State.putPoint_feederRec (p : PointNo) (r : PointRec) (j : FeederNo) :
    (s.putPoint p r).feederRec j = s.feederRec j := rfl
@[simp] theorem State.putPoint_limitFlag (p : PointNo) (r : PointRec) (j : FeederNo) :
    (s.putPoint p r).limitFlag j = s.limitFlag j := rfl
@[simp] theorem State.putPoint_setRec (p : PointNo) (r : PointRec) (j : SetNo) :
    (s.putPoint p r).setRec j = s.setRec j := rfl
@[simp] theorem State.putPoint_tank (p : PointNo) (r : PointRec) (j : SetNo) :
    (s.putPoint p r).tank j = s.tank j := rfl
@[simp] theorem State.putPoint_meter (p : PointNo) (r : PointRec) (j : MeterNo) :
    (s.putPoint p r).meter j = s.meter j := rfl
@[simp] theorem State.putPoint_account (p : PointNo) (r : PointRec) (j : AccountNo) :
    (s.putPoint p r).account j = s.account j := rfl

/-! ### putAccount -/

@[simp] theorem State.putAccount_tables (k : AccountNo) (r : AccountRec) : (s.putAccount k r).tables = s.tables := rfl
@[simp] theorem State.putAccount_site (k : AccountNo) (r : AccountRec) : (s.putAccount k r).site = s.site := rfl
@[simp] theorem State.putAccount_engine (k : AccountNo) (r : AccountRec) : (s.putAccount k r).engine = s.engine := rfl
@[simp] theorem State.putAccount_feeders (k : AccountNo) (r : AccountRec) : (s.putAccount k r).feeders = s.feeders := rfl
@[simp] theorem State.putAccount_limitFlags (k : AccountNo) (r : AccountRec) : (s.putAccount k r).limitFlags = s.limitFlags := rfl
@[simp] theorem State.putAccount_sets (k : AccountNo) (r : AccountRec) : (s.putAccount k r).sets = s.sets := rfl
@[simp] theorem State.putAccount_unattributed (k : AccountNo) (r : AccountRec) : (s.putAccount k r).unattributed = s.unattributed := rfl
@[simp] theorem State.putAccount_tanks (k : AccountNo) (r : AccountRec) : (s.putAccount k r).tanks = s.tanks := rfl
@[simp] theorem State.putAccount_meters (k : AccountNo) (r : AccountRec) : (s.putAccount k r).meters = s.meters := rfl
@[simp] theorem State.putAccount_tickets (k : AccountNo) (r : AccountRec) : (s.putAccount k r).tickets = s.tickets := rfl
@[simp] theorem State.putAccount_points (k : AccountNo) (r : AccountRec) : (s.putAccount k r).points = s.points := rfl
@[simp] theorem State.putAccount_schedule (k : AccountNo) (r : AccountRec) : (s.putAccount k r).schedule = s.schedule := rfl
@[simp] theorem State.putAccount_tariff (k : AccountNo) (r : AccountRec) : (s.putAccount k r).tariff = s.tariff := rfl
@[simp] theorem State.putAccount_ten (k : AccountNo) (r : AccountRec) : (s.putAccount k r).ten = s.ten := rfl
@[simp] theorem State.putAccount_port (k : AccountNo) (r : AccountRec) : (s.putAccount k r).port = s.port := rfl
@[simp] theorem State.putAccount_due (k : AccountNo) (r : AccountRec) : (s.putAccount k r).due = s.due := rfl
@[simp] theorem State.putAccount_freeCount (k : AccountNo) (r : AccountRec) : (s.putAccount k r).freeCount = s.freeCount := rfl
@[simp] theorem State.putAccount_pending (k : AccountNo) (r : AccountRec) : (s.putAccount k r).pending = s.pending := rfl
@[simp] theorem State.putAccount_unitEntry (k : AccountNo) (r : AccountRec) (j : Addr) :
    (s.putAccount k r).unitEntry j = s.unitEntry j := rfl
@[simp] theorem State.putAccount_feederEntry (k : AccountNo) (r : AccountRec) (j : FeederNo) :
    (s.putAccount k r).feederEntry j = s.feederEntry j := rfl
@[simp] theorem State.putAccount_setEntry (k : AccountNo) (r : AccountRec) (j : SetNo) :
    (s.putAccount k r).setEntry j = s.setEntry j := rfl
@[simp] theorem State.putAccount_pointEntry (k : AccountNo) (r : AccountRec) (j : PointNo) :
    (s.putAccount k r).pointEntry j = s.pointEntry j := rfl
@[simp] theorem State.putAccount_accountEntry (k : AccountNo) (r : AccountRec) (j : AccountNo) :
    (s.putAccount k r).accountEntry j = s.accountEntry j := rfl
@[simp] theorem State.putAccount_link (k : AccountNo) (r : AccountRec) (j : Addr) :
    (s.putAccount k r).link j = s.link j := rfl
@[simp] theorem State.putAccount_feederRec (k : AccountNo) (r : AccountRec) (j : FeederNo) :
    (s.putAccount k r).feederRec j = s.feederRec j := rfl
@[simp] theorem State.putAccount_limitFlag (k : AccountNo) (r : AccountRec) (j : FeederNo) :
    (s.putAccount k r).limitFlag j = s.limitFlag j := rfl
@[simp] theorem State.putAccount_setRec (k : AccountNo) (r : AccountRec) (j : SetNo) :
    (s.putAccount k r).setRec j = s.setRec j := rfl
@[simp] theorem State.putAccount_tank (k : AccountNo) (r : AccountRec) (j : SetNo) :
    (s.putAccount k r).tank j = s.tank j := rfl
@[simp] theorem State.putAccount_meter (k : AccountNo) (r : AccountRec) (j : MeterNo) :
    (s.putAccount k r).meter j = s.meter j := rfl
@[simp] theorem State.putAccount_pointRec (k : AccountNo) (r : AccountRec) (j : PointNo) :
    (s.putAccount k r).pointRec j = s.pointRec j := rfl

/-! ### putQueue -/

@[simp] theorem State.putQueue_tables (q : List Command) : (s.putQueue q).tables = s.tables := rfl
@[simp] theorem State.putQueue_site (q : List Command) : (s.putQueue q).site = s.site := rfl
@[simp] theorem State.putQueue_feeders (q : List Command) : (s.putQueue q).feeders = s.feeders := rfl
@[simp] theorem State.putQueue_limitFlags (q : List Command) : (s.putQueue q).limitFlags = s.limitFlags := rfl
@[simp] theorem State.putQueue_sets (q : List Command) : (s.putQueue q).sets = s.sets := rfl
@[simp] theorem State.putQueue_unattributed (q : List Command) : (s.putQueue q).unattributed = s.unattributed := rfl
@[simp] theorem State.putQueue_tanks (q : List Command) : (s.putQueue q).tanks = s.tanks := rfl
@[simp] theorem State.putQueue_meters (q : List Command) : (s.putQueue q).meters = s.meters := rfl
@[simp] theorem State.putQueue_tickets (q : List Command) : (s.putQueue q).tickets = s.tickets := rfl
@[simp] theorem State.putQueue_points (q : List Command) : (s.putQueue q).points = s.points := rfl
@[simp] theorem State.putQueue_schedule (q : List Command) : (s.putQueue q).schedule = s.schedule := rfl
@[simp] theorem State.putQueue_tariff (q : List Command) : (s.putQueue q).tariff = s.tariff := rfl
@[simp] theorem State.putQueue_ten (q : List Command) : (s.putQueue q).ten = s.ten := rfl
@[simp] theorem State.putQueue_billing (q : List Command) : (s.putQueue q).billing = s.billing := rfl
@[simp] theorem State.putQueue_port (q : List Command) : (s.putQueue q).port = s.port := rfl
@[simp] theorem State.putQueue_due (q : List Command) : (s.putQueue q).due = s.due := rfl
@[simp] theorem State.putQueue_freeCount (q : List Command) : (s.putQueue q).freeCount = s.freeCount := rfl
@[simp] theorem State.putQueue_pending (q : List Command) : (s.putQueue q).pending = s.pending := rfl
@[simp] theorem State.putQueue_unitEntry (q : List Command) (j : Addr) :
    (s.putQueue q).unitEntry j = s.unitEntry j := rfl
@[simp] theorem State.putQueue_feederEntry (q : List Command) (j : FeederNo) :
    (s.putQueue q).feederEntry j = s.feederEntry j := rfl
@[simp] theorem State.putQueue_setEntry (q : List Command) (j : SetNo) :
    (s.putQueue q).setEntry j = s.setEntry j := rfl
@[simp] theorem State.putQueue_pointEntry (q : List Command) (j : PointNo) :
    (s.putQueue q).pointEntry j = s.pointEntry j := rfl
@[simp] theorem State.putQueue_accountEntry (q : List Command) (j : AccountNo) :
    (s.putQueue q).accountEntry j = s.accountEntry j := rfl
@[simp] theorem State.putQueue_link (q : List Command) (j : Addr) :
    (s.putQueue q).link j = s.link j := rfl
@[simp] theorem State.putQueue_feederRec (q : List Command) (j : FeederNo) :
    (s.putQueue q).feederRec j = s.feederRec j := rfl
@[simp] theorem State.putQueue_limitFlag (q : List Command) (j : FeederNo) :
    (s.putQueue q).limitFlag j = s.limitFlag j := rfl
@[simp] theorem State.putQueue_setRec (q : List Command) (j : SetNo) :
    (s.putQueue q).setRec j = s.setRec j := rfl
@[simp] theorem State.putQueue_tank (q : List Command) (j : SetNo) :
    (s.putQueue q).tank j = s.tank j := rfl
@[simp] theorem State.putQueue_meter (q : List Command) (j : MeterNo) :
    (s.putQueue q).meter j = s.meter j := rfl
@[simp] theorem State.putQueue_pointRec (q : List Command) (j : PointNo) :
    (s.putQueue q).pointRec j = s.pointRec j := rfl
@[simp] theorem State.putQueue_account (q : List Command) (j : AccountNo) :
    (s.putQueue q).account j = s.account j := rfl

/-! ### putOutstanding -/

@[simp] theorem State.putOutstanding_tables (q : Option Outstanding) : (s.putOutstanding q).tables = s.tables := rfl
@[simp] theorem State.putOutstanding_site (q : Option Outstanding) : (s.putOutstanding q).site = s.site := rfl
@[simp] theorem State.putOutstanding_feeders (q : Option Outstanding) : (s.putOutstanding q).feeders = s.feeders := rfl
@[simp] theorem State.putOutstanding_limitFlags (q : Option Outstanding) : (s.putOutstanding q).limitFlags = s.limitFlags := rfl
@[simp] theorem State.putOutstanding_sets (q : Option Outstanding) : (s.putOutstanding q).sets = s.sets := rfl
@[simp] theorem State.putOutstanding_unattributed (q : Option Outstanding) : (s.putOutstanding q).unattributed = s.unattributed := rfl
@[simp] theorem State.putOutstanding_tanks (q : Option Outstanding) : (s.putOutstanding q).tanks = s.tanks := rfl
@[simp] theorem State.putOutstanding_meters (q : Option Outstanding) : (s.putOutstanding q).meters = s.meters := rfl
@[simp] theorem State.putOutstanding_tickets (q : Option Outstanding) : (s.putOutstanding q).tickets = s.tickets := rfl
@[simp] theorem State.putOutstanding_points (q : Option Outstanding) : (s.putOutstanding q).points = s.points := rfl
@[simp] theorem State.putOutstanding_schedule (q : Option Outstanding) : (s.putOutstanding q).schedule = s.schedule := rfl
@[simp] theorem State.putOutstanding_tariff (q : Option Outstanding) : (s.putOutstanding q).tariff = s.tariff := rfl
@[simp] theorem State.putOutstanding_ten (q : Option Outstanding) : (s.putOutstanding q).ten = s.ten := rfl
@[simp] theorem State.putOutstanding_billing (q : Option Outstanding) : (s.putOutstanding q).billing = s.billing := rfl
@[simp] theorem State.putOutstanding_port (q : Option Outstanding) : (s.putOutstanding q).port = s.port := rfl
@[simp] theorem State.putOutstanding_due (q : Option Outstanding) : (s.putOutstanding q).due = s.due := rfl
@[simp] theorem State.putOutstanding_freeCount (q : Option Outstanding) : (s.putOutstanding q).freeCount = s.freeCount := rfl
@[simp] theorem State.putOutstanding_pending (q : Option Outstanding) : (s.putOutstanding q).pending = s.pending := rfl
@[simp] theorem State.putOutstanding_unitEntry (q : Option Outstanding) (j : Addr) :
    (s.putOutstanding q).unitEntry j = s.unitEntry j := rfl
@[simp] theorem State.putOutstanding_feederEntry (q : Option Outstanding) (j : FeederNo) :
    (s.putOutstanding q).feederEntry j = s.feederEntry j := rfl
@[simp] theorem State.putOutstanding_setEntry (q : Option Outstanding) (j : SetNo) :
    (s.putOutstanding q).setEntry j = s.setEntry j := rfl
@[simp] theorem State.putOutstanding_pointEntry (q : Option Outstanding) (j : PointNo) :
    (s.putOutstanding q).pointEntry j = s.pointEntry j := rfl
@[simp] theorem State.putOutstanding_accountEntry (q : Option Outstanding) (j : AccountNo) :
    (s.putOutstanding q).accountEntry j = s.accountEntry j := rfl
@[simp] theorem State.putOutstanding_link (q : Option Outstanding) (j : Addr) :
    (s.putOutstanding q).link j = s.link j := rfl
@[simp] theorem State.putOutstanding_feederRec (q : Option Outstanding) (j : FeederNo) :
    (s.putOutstanding q).feederRec j = s.feederRec j := rfl
@[simp] theorem State.putOutstanding_limitFlag (q : Option Outstanding) (j : FeederNo) :
    (s.putOutstanding q).limitFlag j = s.limitFlag j := rfl
@[simp] theorem State.putOutstanding_setRec (q : Option Outstanding) (j : SetNo) :
    (s.putOutstanding q).setRec j = s.setRec j := rfl
@[simp] theorem State.putOutstanding_tank (q : Option Outstanding) (j : SetNo) :
    (s.putOutstanding q).tank j = s.tank j := rfl
@[simp] theorem State.putOutstanding_meter (q : Option Outstanding) (j : MeterNo) :
    (s.putOutstanding q).meter j = s.meter j := rfl
@[simp] theorem State.putOutstanding_pointRec (q : Option Outstanding) (j : PointNo) :
    (s.putOutstanding q).pointRec j = s.pointRec j := rfl
@[simp] theorem State.putOutstanding_account (q : Option Outstanding) (j : AccountNo) :
    (s.putOutstanding q).account j = s.account j := rfl

/-! ### withdraw -/

@[simp] theorem State.withdraw_tables (o : Origin) : (s.withdraw o).tables = s.tables := rfl
@[simp] theorem State.withdraw_site (o : Origin) : (s.withdraw o).site = s.site := rfl
@[simp] theorem State.withdraw_feeders (o : Origin) : (s.withdraw o).feeders = s.feeders := rfl
@[simp] theorem State.withdraw_limitFlags (o : Origin) : (s.withdraw o).limitFlags = s.limitFlags := rfl
@[simp] theorem State.withdraw_sets (o : Origin) : (s.withdraw o).sets = s.sets := rfl
@[simp] theorem State.withdraw_unattributed (o : Origin) : (s.withdraw o).unattributed = s.unattributed := rfl
@[simp] theorem State.withdraw_tanks (o : Origin) : (s.withdraw o).tanks = s.tanks := rfl
@[simp] theorem State.withdraw_meters (o : Origin) : (s.withdraw o).meters = s.meters := rfl
@[simp] theorem State.withdraw_tickets (o : Origin) : (s.withdraw o).tickets = s.tickets := rfl
@[simp] theorem State.withdraw_points (o : Origin) : (s.withdraw o).points = s.points := rfl
@[simp] theorem State.withdraw_schedule (o : Origin) : (s.withdraw o).schedule = s.schedule := rfl
@[simp] theorem State.withdraw_tariff (o : Origin) : (s.withdraw o).tariff = s.tariff := rfl
@[simp] theorem State.withdraw_ten (o : Origin) : (s.withdraw o).ten = s.ten := rfl
@[simp] theorem State.withdraw_billing (o : Origin) : (s.withdraw o).billing = s.billing := rfl
@[simp] theorem State.withdraw_port (o : Origin) : (s.withdraw o).port = s.port := rfl
@[simp] theorem State.withdraw_due (o : Origin) : (s.withdraw o).due = s.due := rfl
@[simp] theorem State.withdraw_freeCount (o : Origin) : (s.withdraw o).freeCount = s.freeCount := rfl
@[simp] theorem State.withdraw_pending (o : Origin) : (s.withdraw o).pending = s.pending := rfl
@[simp] theorem State.withdraw_unitEntry (o : Origin) (j : Addr) :
    (s.withdraw o).unitEntry j = s.unitEntry j := rfl
@[simp] theorem State.withdraw_feederEntry (o : Origin) (j : FeederNo) :
    (s.withdraw o).feederEntry j = s.feederEntry j := rfl
@[simp] theorem State.withdraw_setEntry (o : Origin) (j : SetNo) :
    (s.withdraw o).setEntry j = s.setEntry j := rfl
@[simp] theorem State.withdraw_pointEntry (o : Origin) (j : PointNo) :
    (s.withdraw o).pointEntry j = s.pointEntry j := rfl
@[simp] theorem State.withdraw_accountEntry (o : Origin) (j : AccountNo) :
    (s.withdraw o).accountEntry j = s.accountEntry j := rfl
@[simp] theorem State.withdraw_link (o : Origin) (j : Addr) :
    (s.withdraw o).link j = s.link j := rfl
@[simp] theorem State.withdraw_feederRec (o : Origin) (j : FeederNo) :
    (s.withdraw o).feederRec j = s.feederRec j := rfl
@[simp] theorem State.withdraw_limitFlag (o : Origin) (j : FeederNo) :
    (s.withdraw o).limitFlag j = s.limitFlag j := rfl
@[simp] theorem State.withdraw_setRec (o : Origin) (j : SetNo) :
    (s.withdraw o).setRec j = s.setRec j := rfl
@[simp] theorem State.withdraw_tank (o : Origin) (j : SetNo) :
    (s.withdraw o).tank j = s.tank j := rfl
@[simp] theorem State.withdraw_meter (o : Origin) (j : MeterNo) :
    (s.withdraw o).meter j = s.meter j := rfl
@[simp] theorem State.withdraw_pointRec (o : Origin) (j : PointNo) :
    (s.withdraw o).pointRec j = s.pointRec j := rfl
@[simp] theorem State.withdraw_account (o : Origin) (j : AccountNo) :
    (s.withdraw o).account j = s.account j := rfl

/-! ### raiseMarked -/

@[simp] theorem State.raiseMarked_tables (u : Bool) (b : NoticeBody) : (s.raiseMarked u b).tables = s.tables := rfl
@[simp] theorem State.raiseMarked_site (u : Bool) (b : NoticeBody) : (s.raiseMarked u b).site = s.site := rfl
@[simp] theorem State.raiseMarked_engine (u : Bool) (b : NoticeBody) : (s.raiseMarked u b).engine = s.engine := rfl
@[simp] theorem State.raiseMarked_feeders (u : Bool) (b : NoticeBody) : (s.raiseMarked u b).feeders = s.feeders := rfl
@[simp] theorem State.raiseMarked_limitFlags (u : Bool) (b : NoticeBody) : (s.raiseMarked u b).limitFlags = s.limitFlags := rfl
@[simp] theorem State.raiseMarked_sets (u : Bool) (b : NoticeBody) : (s.raiseMarked u b).sets = s.sets := rfl
@[simp] theorem State.raiseMarked_unattributed (u : Bool) (b : NoticeBody) : (s.raiseMarked u b).unattributed = s.unattributed := rfl
@[simp] theorem State.raiseMarked_tanks (u : Bool) (b : NoticeBody) : (s.raiseMarked u b).tanks = s.tanks := rfl
@[simp] theorem State.raiseMarked_meters (u : Bool) (b : NoticeBody) : (s.raiseMarked u b).meters = s.meters := rfl
@[simp] theorem State.raiseMarked_tickets (u : Bool) (b : NoticeBody) : (s.raiseMarked u b).tickets = s.tickets := rfl
@[simp] theorem State.raiseMarked_points (u : Bool) (b : NoticeBody) : (s.raiseMarked u b).points = s.points := rfl
@[simp] theorem State.raiseMarked_schedule (u : Bool) (b : NoticeBody) : (s.raiseMarked u b).schedule = s.schedule := rfl
@[simp] theorem State.raiseMarked_tariff (u : Bool) (b : NoticeBody) : (s.raiseMarked u b).tariff = s.tariff := rfl
@[simp] theorem State.raiseMarked_ten (u : Bool) (b : NoticeBody) : (s.raiseMarked u b).ten = s.ten := rfl
@[simp] theorem State.raiseMarked_billing (u : Bool) (b : NoticeBody) : (s.raiseMarked u b).billing = s.billing := rfl
@[simp] theorem State.raiseMarked_due (u : Bool) (b : NoticeBody) : (s.raiseMarked u b).due = s.due := rfl
@[simp] theorem State.raiseMarked_freeCount (u : Bool) (b : NoticeBody) : (s.raiseMarked u b).freeCount = s.freeCount := rfl
@[simp] theorem State.raiseMarked_pending (u : Bool) (b : NoticeBody) : (s.raiseMarked u b).pending = s.pending := rfl
@[simp] theorem State.raiseMarked_unitEntry (u : Bool) (b : NoticeBody) (j : Addr) :
    (s.raiseMarked u b).unitEntry j = s.unitEntry j := rfl
@[simp] theorem State.raiseMarked_feederEntry (u : Bool) (b : NoticeBody) (j : FeederNo) :
    (s.raiseMarked u b).feederEntry j = s.feederEntry j := rfl
@[simp] theorem State.raiseMarked_setEntry (u : Bool) (b : NoticeBody) (j : SetNo) :
    (s.raiseMarked u b).setEntry j = s.setEntry j := rfl
@[simp] theorem State.raiseMarked_pointEntry (u : Bool) (b : NoticeBody) (j : PointNo) :
    (s.raiseMarked u b).pointEntry j = s.pointEntry j := rfl
@[simp] theorem State.raiseMarked_accountEntry (u : Bool) (b : NoticeBody) (j : AccountNo) :
    (s.raiseMarked u b).accountEntry j = s.accountEntry j := rfl
@[simp] theorem State.raiseMarked_link (u : Bool) (b : NoticeBody) (j : Addr) :
    (s.raiseMarked u b).link j = s.link j := rfl
@[simp] theorem State.raiseMarked_feederRec (u : Bool) (b : NoticeBody) (j : FeederNo) :
    (s.raiseMarked u b).feederRec j = s.feederRec j := rfl
@[simp] theorem State.raiseMarked_limitFlag (u : Bool) (b : NoticeBody) (j : FeederNo) :
    (s.raiseMarked u b).limitFlag j = s.limitFlag j := rfl
@[simp] theorem State.raiseMarked_setRec (u : Bool) (b : NoticeBody) (j : SetNo) :
    (s.raiseMarked u b).setRec j = s.setRec j := rfl
@[simp] theorem State.raiseMarked_tank (u : Bool) (b : NoticeBody) (j : SetNo) :
    (s.raiseMarked u b).tank j = s.tank j := rfl
@[simp] theorem State.raiseMarked_meter (u : Bool) (b : NoticeBody) (j : MeterNo) :
    (s.raiseMarked u b).meter j = s.meter j := rfl
@[simp] theorem State.raiseMarked_pointRec (u : Bool) (b : NoticeBody) (j : PointNo) :
    (s.raiseMarked u b).pointRec j = s.pointRec j := rfl
@[simp] theorem State.raiseMarked_account (u : Bool) (b : NoticeBody) (j : AccountNo) :
    (s.raiseMarked u b).account j = s.account j := rfl

/-! ### raise -/

@[simp] theorem State.raise_tables (b : NoticeBody) : (s.raise b).tables = s.tables := rfl
@[simp] theorem State.raise_site (b : NoticeBody) : (s.raise b).site = s.site := rfl
@[simp] theorem State.raise_engine (b : NoticeBody) : (s.raise b).engine = s.engine := rfl
@[simp] theorem State.raise_feeders (b : NoticeBody) : (s.raise b).feeders = s.feeders := rfl
@[simp] theorem State.raise_limitFlags (b : NoticeBody) : (s.raise b).limitFlags = s.limitFlags := rfl
@[simp] theorem State.raise_sets (b : NoticeBody) : (s.raise b).sets = s.sets := rfl
@[simp] theorem State.raise_unattributed (b : NoticeBody) : (s.raise b).unattributed = s.unattributed := rfl
@[simp] theorem State.raise_tanks (b : NoticeBody) : (s.raise b).tanks = s.tanks := rfl
@[simp] theorem State.raise_meters (b : NoticeBody) : (s.raise b).meters = s.meters := rfl
@[simp] theorem State.raise_tickets (b : NoticeBody) : (s.raise b).tickets = s.tickets := rfl
@[simp] theorem State.raise_points (b : NoticeBody) : (s.raise b).points = s.points := rfl
@[simp] theorem State.raise_schedule (b : NoticeBody) : (s.raise b).schedule = s.schedule := rfl
@[simp] theorem State.raise_tariff (b : NoticeBody) : (s.raise b).tariff = s.tariff := rfl
@[simp] theorem State.raise_ten (b : NoticeBody) : (s.raise b).ten = s.ten := rfl
@[simp] theorem State.raise_billing (b : NoticeBody) : (s.raise b).billing = s.billing := rfl
@[simp] theorem State.raise_due (b : NoticeBody) : (s.raise b).due = s.due := rfl
@[simp] theorem State.raise_freeCount (b : NoticeBody) : (s.raise b).freeCount = s.freeCount := rfl
@[simp] theorem State.raise_pending (b : NoticeBody) : (s.raise b).pending = s.pending := rfl
@[simp] theorem State.raise_unitEntry (b : NoticeBody) (j : Addr) :
    (s.raise b).unitEntry j = s.unitEntry j := rfl
@[simp] theorem State.raise_feederEntry (b : NoticeBody) (j : FeederNo) :
    (s.raise b).feederEntry j = s.feederEntry j := rfl
@[simp] theorem State.raise_setEntry (b : NoticeBody) (j : SetNo) :
    (s.raise b).setEntry j = s.setEntry j := rfl
@[simp] theorem State.raise_pointEntry (b : NoticeBody) (j : PointNo) :
    (s.raise b).pointEntry j = s.pointEntry j := rfl
@[simp] theorem State.raise_accountEntry (b : NoticeBody) (j : AccountNo) :
    (s.raise b).accountEntry j = s.accountEntry j := rfl
@[simp] theorem State.raise_link (b : NoticeBody) (j : Addr) :
    (s.raise b).link j = s.link j := rfl
@[simp] theorem State.raise_feederRec (b : NoticeBody) (j : FeederNo) :
    (s.raise b).feederRec j = s.feederRec j := rfl
@[simp] theorem State.raise_limitFlag (b : NoticeBody) (j : FeederNo) :
    (s.raise b).limitFlag j = s.limitFlag j := rfl
@[simp] theorem State.raise_setRec (b : NoticeBody) (j : SetNo) :
    (s.raise b).setRec j = s.setRec j := rfl
@[simp] theorem State.raise_tank (b : NoticeBody) (j : SetNo) :
    (s.raise b).tank j = s.tank j := rfl
@[simp] theorem State.raise_meter (b : NoticeBody) (j : MeterNo) :
    (s.raise b).meter j = s.meter j := rfl
@[simp] theorem State.raise_pointRec (b : NoticeBody) (j : PointNo) :
    (s.raise b).pointRec j = s.pointRec j := rfl
@[simp] theorem State.raise_account (b : NoticeBody) (j : AccountNo) :
    (s.raise b).account j = s.account j := rfl

/-! ### modLink -/

@[simp] theorem State.modLink_tables (a : Addr) (f : LinkRec → LinkRec) : (s.modLink a f).tables = s.tables := rfl
@[simp] theorem State.modLink_site (a : Addr) (f : LinkRec → LinkRec) : (s.modLink a f).site = s.site := rfl
@[simp] theorem State.modLink_feeders (a : Addr) (f : LinkRec → LinkRec) : (s.modLink a f).feeders = s.feeders := rfl
@[simp] theorem State.modLink_limitFlags (a : Addr) (f : LinkRec → LinkRec) : (s.modLink a f).limitFlags = s.limitFlags := rfl
@[simp] theorem State.modLink_sets (a : Addr) (f : LinkRec → LinkRec) : (s.modLink a f).sets = s.sets := rfl
@[simp] theorem State.modLink_unattributed (a : Addr) (f : LinkRec → LinkRec) : (s.modLink a f).unattributed = s.unattributed := rfl
@[simp] theorem State.modLink_tanks (a : Addr) (f : LinkRec → LinkRec) : (s.modLink a f).tanks = s.tanks := rfl
@[simp] theorem State.modLink_meters (a : Addr) (f : LinkRec → LinkRec) : (s.modLink a f).meters = s.meters := rfl
@[simp] theorem State.modLink_tickets (a : Addr) (f : LinkRec → LinkRec) : (s.modLink a f).tickets = s.tickets := rfl
@[simp] theorem State.modLink_points (a : Addr) (f : LinkRec → LinkRec) : (s.modLink a f).points = s.points := rfl
@[simp] theorem State.modLink_schedule (a : Addr) (f : LinkRec → LinkRec) : (s.modLink a f).schedule = s.schedule := rfl
@[simp] theorem State.modLink_tariff (a : Addr) (f : LinkRec → LinkRec) : (s.modLink a f).tariff = s.tariff := rfl
@[simp] theorem State.modLink_ten (a : Addr) (f : LinkRec → LinkRec) : (s.modLink a f).ten = s.ten := rfl
@[simp] theorem State.modLink_billing (a : Addr) (f : LinkRec → LinkRec) : (s.modLink a f).billing = s.billing := rfl
@[simp] theorem State.modLink_port (a : Addr) (f : LinkRec → LinkRec) : (s.modLink a f).port = s.port := rfl
@[simp] theorem State.modLink_due (a : Addr) (f : LinkRec → LinkRec) : (s.modLink a f).due = s.due := rfl
@[simp] theorem State.modLink_freeCount (a : Addr) (f : LinkRec → LinkRec) : (s.modLink a f).freeCount = s.freeCount := rfl
@[simp] theorem State.modLink_pending (a : Addr) (f : LinkRec → LinkRec) : (s.modLink a f).pending = s.pending := rfl
@[simp] theorem State.modLink_unitEntry (a : Addr) (f : LinkRec → LinkRec) (j : Addr) :
    (s.modLink a f).unitEntry j = s.unitEntry j := rfl
@[simp] theorem State.modLink_feederEntry (a : Addr) (f : LinkRec → LinkRec) (j : FeederNo) :
    (s.modLink a f).feederEntry j = s.feederEntry j := rfl
@[simp] theorem State.modLink_setEntry (a : Addr) (f : LinkRec → LinkRec) (j : SetNo) :
    (s.modLink a f).setEntry j = s.setEntry j := rfl
@[simp] theorem State.modLink_pointEntry (a : Addr) (f : LinkRec → LinkRec) (j : PointNo) :
    (s.modLink a f).pointEntry j = s.pointEntry j := rfl
@[simp] theorem State.modLink_accountEntry (a : Addr) (f : LinkRec → LinkRec) (j : AccountNo) :
    (s.modLink a f).accountEntry j = s.accountEntry j := rfl
@[simp] theorem State.modLink_feederRec (a : Addr) (f : LinkRec → LinkRec) (j : FeederNo) :
    (s.modLink a f).feederRec j = s.feederRec j := rfl
@[simp] theorem State.modLink_limitFlag (a : Addr) (f : LinkRec → LinkRec) (j : FeederNo) :
    (s.modLink a f).limitFlag j = s.limitFlag j := rfl
@[simp] theorem State.modLink_setRec (a : Addr) (f : LinkRec → LinkRec) (j : SetNo) :
    (s.modLink a f).setRec j = s.setRec j := rfl
@[simp] theorem State.modLink_tank (a : Addr) (f : LinkRec → LinkRec) (j : SetNo) :
    (s.modLink a f).tank j = s.tank j := rfl
@[simp] theorem State.modLink_meter (a : Addr) (f : LinkRec → LinkRec) (j : MeterNo) :
    (s.modLink a f).meter j = s.meter j := rfl
@[simp] theorem State.modLink_pointRec (a : Addr) (f : LinkRec → LinkRec) (j : PointNo) :
    (s.modLink a f).pointRec j = s.pointRec j := rfl
@[simp] theorem State.modLink_account (a : Addr) (f : LinkRec → LinkRec) (j : AccountNo) :
    (s.modLink a f).account j = s.account j := rfl

/-! ### modFeeder -/

@[simp] theorem State.modFeeder_tables (i : FeederNo) (f : FeederRec → FeederRec) : (s.modFeeder i f).tables = s.tables := rfl
@[simp] theorem State.modFeeder_site (i : FeederNo) (f : FeederRec → FeederRec) : (s.modFeeder i f).site = s.site := rfl
@[simp] theorem State.modFeeder_engine (i : FeederNo) (f : FeederRec → FeederRec) : (s.modFeeder i f).engine = s.engine := rfl
@[simp] theorem State.modFeeder_limitFlags (i : FeederNo) (f : FeederRec → FeederRec) : (s.modFeeder i f).limitFlags = s.limitFlags := rfl
@[simp] theorem State.modFeeder_sets (i : FeederNo) (f : FeederRec → FeederRec) : (s.modFeeder i f).sets = s.sets := rfl
@[simp] theorem State.modFeeder_unattributed (i : FeederNo) (f : FeederRec → FeederRec) : (s.modFeeder i f).unattributed = s.unattributed := rfl
@[simp] theorem State.modFeeder_tanks (i : FeederNo) (f : FeederRec → FeederRec) : (s.modFeeder i f).tanks = s.tanks := rfl
@[simp] theorem State.modFeeder_meters (i : FeederNo) (f : FeederRec → FeederRec) : (s.modFeeder i f).meters = s.meters := rfl
@[simp] theorem State.modFeeder_tickets (i : FeederNo) (f : FeederRec → FeederRec) : (s.modFeeder i f).tickets = s.tickets := rfl
@[simp] theorem State.modFeeder_points (i : FeederNo) (f : FeederRec → FeederRec) : (s.modFeeder i f).points = s.points := rfl
@[simp] theorem State.modFeeder_schedule (i : FeederNo) (f : FeederRec → FeederRec) : (s.modFeeder i f).schedule = s.schedule := rfl
@[simp] theorem State.modFeeder_tariff (i : FeederNo) (f : FeederRec → FeederRec) : (s.modFeeder i f).tariff = s.tariff := rfl
@[simp] theorem State.modFeeder_ten (i : FeederNo) (f : FeederRec → FeederRec) : (s.modFeeder i f).ten = s.ten := rfl
@[simp] theorem State.modFeeder_billing (i : FeederNo) (f : FeederRec → FeederRec) : (s.modFeeder i f).billing = s.billing := rfl
@[simp] theorem State.modFeeder_port (i : FeederNo) (f : FeederRec → FeederRec) : (s.modFeeder i f).port = s.port := rfl
@[simp] theorem State.modFeeder_due (i : FeederNo) (f : FeederRec → FeederRec) : (s.modFeeder i f).due = s.due := rfl
@[simp] theorem State.modFeeder_freeCount (i : FeederNo) (f : FeederRec → FeederRec) : (s.modFeeder i f).freeCount = s.freeCount := rfl
@[simp] theorem State.modFeeder_pending (i : FeederNo) (f : FeederRec → FeederRec) : (s.modFeeder i f).pending = s.pending := rfl
@[simp] theorem State.modFeeder_unitEntry (i : FeederNo) (f : FeederRec → FeederRec) (j : Addr) :
    (s.modFeeder i f).unitEntry j = s.unitEntry j := rfl
@[simp] theorem State.modFeeder_feederEntry (i : FeederNo) (f : FeederRec → FeederRec) (j : FeederNo) :
    (s.modFeeder i f).feederEntry j = s.feederEntry j := rfl
@[simp] theorem State.modFeeder_setEntry (i : FeederNo) (f : FeederRec → FeederRec) (j : SetNo) :
    (s.modFeeder i f).setEntry j = s.setEntry j := rfl
@[simp] theorem State.modFeeder_pointEntry (i : FeederNo) (f : FeederRec → FeederRec) (j : PointNo) :
    (s.modFeeder i f).pointEntry j = s.pointEntry j := rfl
@[simp] theorem State.modFeeder_accountEntry (i : FeederNo) (f : FeederRec → FeederRec) (j : AccountNo) :
    (s.modFeeder i f).accountEntry j = s.accountEntry j := rfl
@[simp] theorem State.modFeeder_link (i : FeederNo) (f : FeederRec → FeederRec) (j : Addr) :
    (s.modFeeder i f).link j = s.link j := rfl
@[simp] theorem State.modFeeder_limitFlag (i : FeederNo) (f : FeederRec → FeederRec) (j : FeederNo) :
    (s.modFeeder i f).limitFlag j = s.limitFlag j := rfl
@[simp] theorem State.modFeeder_setRec (i : FeederNo) (f : FeederRec → FeederRec) (j : SetNo) :
    (s.modFeeder i f).setRec j = s.setRec j := rfl
@[simp] theorem State.modFeeder_tank (i : FeederNo) (f : FeederRec → FeederRec) (j : SetNo) :
    (s.modFeeder i f).tank j = s.tank j := rfl
@[simp] theorem State.modFeeder_meter (i : FeederNo) (f : FeederRec → FeederRec) (j : MeterNo) :
    (s.modFeeder i f).meter j = s.meter j := rfl
@[simp] theorem State.modFeeder_pointRec (i : FeederNo) (f : FeederRec → FeederRec) (j : PointNo) :
    (s.modFeeder i f).pointRec j = s.pointRec j := rfl
@[simp] theorem State.modFeeder_account (i : FeederNo) (f : FeederRec → FeederRec) (j : AccountNo) :
    (s.modFeeder i f).account j = s.account j := rfl

/-! ### modSet -/

@[simp] theorem State.modSet_tables (n : SetNo) (f : SetRec → SetRec) : (s.modSet n f).tables = s.tables := rfl
@[simp] theorem State.modSet_site (n : SetNo) (f : SetRec → SetRec) : (s.modSet n f).site = s.site := rfl
@[simp] theorem State.modSet_engine (n : SetNo) (f : SetRec → SetRec) : (s.modSet n f).engine = s.engine := rfl
@[simp] theorem State.modSet_feeders (n : SetNo) (f : SetRec → SetRec) : (s.modSet n f).feeders = s.feeders := rfl
@[simp] theorem State.modSet_limitFlags (n : SetNo) (f : SetRec → SetRec) : (s.modSet n f).limitFlags = s.limitFlags := rfl
@[simp] theorem State.modSet_unattributed (n : SetNo) (f : SetRec → SetRec) : (s.modSet n f).unattributed = s.unattributed := rfl
@[simp] theorem State.modSet_tanks (n : SetNo) (f : SetRec → SetRec) : (s.modSet n f).tanks = s.tanks := rfl
@[simp] theorem State.modSet_meters (n : SetNo) (f : SetRec → SetRec) : (s.modSet n f).meters = s.meters := rfl
@[simp] theorem State.modSet_tickets (n : SetNo) (f : SetRec → SetRec) : (s.modSet n f).tickets = s.tickets := rfl
@[simp] theorem State.modSet_points (n : SetNo) (f : SetRec → SetRec) : (s.modSet n f).points = s.points := rfl
@[simp] theorem State.modSet_schedule (n : SetNo) (f : SetRec → SetRec) : (s.modSet n f).schedule = s.schedule := rfl
@[simp] theorem State.modSet_tariff (n : SetNo) (f : SetRec → SetRec) : (s.modSet n f).tariff = s.tariff := rfl
@[simp] theorem State.modSet_ten (n : SetNo) (f : SetRec → SetRec) : (s.modSet n f).ten = s.ten := rfl
@[simp] theorem State.modSet_billing (n : SetNo) (f : SetRec → SetRec) : (s.modSet n f).billing = s.billing := rfl
@[simp] theorem State.modSet_port (n : SetNo) (f : SetRec → SetRec) : (s.modSet n f).port = s.port := rfl
@[simp] theorem State.modSet_due (n : SetNo) (f : SetRec → SetRec) : (s.modSet n f).due = s.due := rfl
@[simp] theorem State.modSet_freeCount (n : SetNo) (f : SetRec → SetRec) : (s.modSet n f).freeCount = s.freeCount := rfl
@[simp] theorem State.modSet_pending (n : SetNo) (f : SetRec → SetRec) : (s.modSet n f).pending = s.pending := rfl
@[simp] theorem State.modSet_unitEntry (n : SetNo) (f : SetRec → SetRec) (j : Addr) :
    (s.modSet n f).unitEntry j = s.unitEntry j := rfl
@[simp] theorem State.modSet_feederEntry (n : SetNo) (f : SetRec → SetRec) (j : FeederNo) :
    (s.modSet n f).feederEntry j = s.feederEntry j := rfl
@[simp] theorem State.modSet_setEntry (n : SetNo) (f : SetRec → SetRec) (j : SetNo) :
    (s.modSet n f).setEntry j = s.setEntry j := rfl
@[simp] theorem State.modSet_pointEntry (n : SetNo) (f : SetRec → SetRec) (j : PointNo) :
    (s.modSet n f).pointEntry j = s.pointEntry j := rfl
@[simp] theorem State.modSet_accountEntry (n : SetNo) (f : SetRec → SetRec) (j : AccountNo) :
    (s.modSet n f).accountEntry j = s.accountEntry j := rfl
@[simp] theorem State.modSet_link (n : SetNo) (f : SetRec → SetRec) (j : Addr) :
    (s.modSet n f).link j = s.link j := rfl
@[simp] theorem State.modSet_feederRec (n : SetNo) (f : SetRec → SetRec) (j : FeederNo) :
    (s.modSet n f).feederRec j = s.feederRec j := rfl
@[simp] theorem State.modSet_limitFlag (n : SetNo) (f : SetRec → SetRec) (j : FeederNo) :
    (s.modSet n f).limitFlag j = s.limitFlag j := rfl
@[simp] theorem State.modSet_tank (n : SetNo) (f : SetRec → SetRec) (j : SetNo) :
    (s.modSet n f).tank j = s.tank j := rfl
@[simp] theorem State.modSet_meter (n : SetNo) (f : SetRec → SetRec) (j : MeterNo) :
    (s.modSet n f).meter j = s.meter j := rfl
@[simp] theorem State.modSet_pointRec (n : SetNo) (f : SetRec → SetRec) (j : PointNo) :
    (s.modSet n f).pointRec j = s.pointRec j := rfl
@[simp] theorem State.modSet_account (n : SetNo) (f : SetRec → SetRec) (j : AccountNo) :
    (s.modSet n f).account j = s.account j := rfl

/-! ### modTank -/

@[simp] theorem State.modTank_tables (n : SetNo) (f : Tank → Tank) : (s.modTank n f).tables = s.tables := rfl
@[simp] theorem State.modTank_site (n : SetNo) (f : Tank → Tank) : (s.modTank n f).site = s.site := rfl
@[simp] theorem State.modTank_engine (n : SetNo) (f : Tank → Tank) : (s.modTank n f).engine = s.engine := rfl
@[simp] theorem State.modTank_feeders (n : SetNo) (f : Tank → Tank) : (s.modTank n f).feeders = s.feeders := rfl
@[simp] theorem State.modTank_limitFlags (n : SetNo) (f : Tank → Tank) : (s.modTank n f).limitFlags = s.limitFlags := rfl
@[simp] theorem State.modTank_sets (n : SetNo) (f : Tank → Tank) : (s.modTank n f).sets = s.sets := rfl
@[simp] theorem State.modTank_unattributed (n : SetNo) (f : Tank → Tank) : (s.modTank n f).unattributed = s.unattributed := rfl
@[simp] theorem State.modTank_meters (n : SetNo) (f : Tank → Tank) : (s.modTank n f).meters = s.meters := rfl
@[simp] theorem State.modTank_tickets (n : SetNo) (f : Tank → Tank) : (s.modTank n f).tickets = s.tickets := rfl
@[simp] theorem State.modTank_points (n : SetNo) (f : Tank → Tank) : (s.modTank n f).points = s.points := rfl
@[simp] theorem State.modTank_schedule (n : SetNo) (f : Tank → Tank) : (s.modTank n f).schedule = s.schedule := rfl
@[simp] theorem State.modTank_tariff (n : SetNo) (f : Tank → Tank) : (s.modTank n f).tariff = s.tariff := rfl
@[simp] theorem State.modTank_ten (n : SetNo) (f : Tank → Tank) : (s.modTank n f).ten = s.ten := rfl
@[simp] theorem State.modTank_billing (n : SetNo) (f : Tank → Tank) : (s.modTank n f).billing = s.billing := rfl
@[simp] theorem State.modTank_port (n : SetNo) (f : Tank → Tank) : (s.modTank n f).port = s.port := rfl
@[simp] theorem State.modTank_due (n : SetNo) (f : Tank → Tank) : (s.modTank n f).due = s.due := rfl
@[simp] theorem State.modTank_freeCount (n : SetNo) (f : Tank → Tank) : (s.modTank n f).freeCount = s.freeCount := rfl
@[simp] theorem State.modTank_pending (n : SetNo) (f : Tank → Tank) : (s.modTank n f).pending = s.pending := rfl
@[simp] theorem State.modTank_unitEntry (n : SetNo) (f : Tank → Tank) (j : Addr) :
    (s.modTank n f).unitEntry j = s.unitEntry j := rfl
@[simp] theorem State.modTank_feederEntry (n : SetNo) (f : Tank → Tank) (j : FeederNo) :
    (s.modTank n f).feederEntry j = s.feederEntry j := rfl
@[simp] theorem State.modTank_setEntry (n : SetNo) (f : Tank → Tank) (j : SetNo) :
    (s.modTank n f).setEntry j = s.setEntry j := rfl
@[simp] theorem State.modTank_pointEntry (n : SetNo) (f : Tank → Tank) (j : PointNo) :
    (s.modTank n f).pointEntry j = s.pointEntry j := rfl
@[simp] theorem State.modTank_accountEntry (n : SetNo) (f : Tank → Tank) (j : AccountNo) :
    (s.modTank n f).accountEntry j = s.accountEntry j := rfl
@[simp] theorem State.modTank_link (n : SetNo) (f : Tank → Tank) (j : Addr) :
    (s.modTank n f).link j = s.link j := rfl
@[simp] theorem State.modTank_feederRec (n : SetNo) (f : Tank → Tank) (j : FeederNo) :
    (s.modTank n f).feederRec j = s.feederRec j := rfl
@[simp] theorem State.modTank_limitFlag (n : SetNo) (f : Tank → Tank) (j : FeederNo) :
    (s.modTank n f).limitFlag j = s.limitFlag j := rfl
@[simp] theorem State.modTank_setRec (n : SetNo) (f : Tank → Tank) (j : SetNo) :
    (s.modTank n f).setRec j = s.setRec j := rfl
@[simp] theorem State.modTank_meter (n : SetNo) (f : Tank → Tank) (j : MeterNo) :
    (s.modTank n f).meter j = s.meter j := rfl
@[simp] theorem State.modTank_pointRec (n : SetNo) (f : Tank → Tank) (j : PointNo) :
    (s.modTank n f).pointRec j = s.pointRec j := rfl
@[simp] theorem State.modTank_account (n : SetNo) (f : Tank → Tank) (j : AccountNo) :
    (s.modTank n f).account j = s.account j := rfl

/-! ### modMeter -/

@[simp] theorem State.modMeter_tables (m : MeterNo) (f : MeterRec → MeterRec) : (s.modMeter m f).tables = s.tables := rfl
@[simp] theorem State.modMeter_site (m : MeterNo) (f : MeterRec → MeterRec) : (s.modMeter m f).site = s.site := rfl
@[simp] theorem State.modMeter_engine (m : MeterNo) (f : MeterRec → MeterRec) : (s.modMeter m f).engine = s.engine := rfl
@[simp] theorem State.modMeter_feeders (m : MeterNo) (f : MeterRec → MeterRec) : (s.modMeter m f).feeders = s.feeders := rfl
@[simp] theorem State.modMeter_limitFlags (m : MeterNo) (f : MeterRec → MeterRec) : (s.modMeter m f).limitFlags = s.limitFlags := rfl
@[simp] theorem State.modMeter_sets (m : MeterNo) (f : MeterRec → MeterRec) : (s.modMeter m f).sets = s.sets := rfl
@[simp] theorem State.modMeter_unattributed (m : MeterNo) (f : MeterRec → MeterRec) : (s.modMeter m f).unattributed = s.unattributed := rfl
@[simp] theorem State.modMeter_tanks (m : MeterNo) (f : MeterRec → MeterRec) : (s.modMeter m f).tanks = s.tanks := rfl
@[simp] theorem State.modMeter_tickets (m : MeterNo) (f : MeterRec → MeterRec) : (s.modMeter m f).tickets = s.tickets := rfl
@[simp] theorem State.modMeter_points (m : MeterNo) (f : MeterRec → MeterRec) : (s.modMeter m f).points = s.points := rfl
@[simp] theorem State.modMeter_schedule (m : MeterNo) (f : MeterRec → MeterRec) : (s.modMeter m f).schedule = s.schedule := rfl
@[simp] theorem State.modMeter_tariff (m : MeterNo) (f : MeterRec → MeterRec) : (s.modMeter m f).tariff = s.tariff := rfl
@[simp] theorem State.modMeter_ten (m : MeterNo) (f : MeterRec → MeterRec) : (s.modMeter m f).ten = s.ten := rfl
@[simp] theorem State.modMeter_billing (m : MeterNo) (f : MeterRec → MeterRec) : (s.modMeter m f).billing = s.billing := rfl
@[simp] theorem State.modMeter_port (m : MeterNo) (f : MeterRec → MeterRec) : (s.modMeter m f).port = s.port := rfl
@[simp] theorem State.modMeter_due (m : MeterNo) (f : MeterRec → MeterRec) : (s.modMeter m f).due = s.due := rfl
@[simp] theorem State.modMeter_freeCount (m : MeterNo) (f : MeterRec → MeterRec) : (s.modMeter m f).freeCount = s.freeCount := rfl
@[simp] theorem State.modMeter_pending (m : MeterNo) (f : MeterRec → MeterRec) : (s.modMeter m f).pending = s.pending := rfl
@[simp] theorem State.modMeter_unitEntry (m : MeterNo) (f : MeterRec → MeterRec) (j : Addr) :
    (s.modMeter m f).unitEntry j = s.unitEntry j := rfl
@[simp] theorem State.modMeter_feederEntry (m : MeterNo) (f : MeterRec → MeterRec) (j : FeederNo) :
    (s.modMeter m f).feederEntry j = s.feederEntry j := rfl
@[simp] theorem State.modMeter_setEntry (m : MeterNo) (f : MeterRec → MeterRec) (j : SetNo) :
    (s.modMeter m f).setEntry j = s.setEntry j := rfl
@[simp] theorem State.modMeter_pointEntry (m : MeterNo) (f : MeterRec → MeterRec) (j : PointNo) :
    (s.modMeter m f).pointEntry j = s.pointEntry j := rfl
@[simp] theorem State.modMeter_accountEntry (m : MeterNo) (f : MeterRec → MeterRec) (j : AccountNo) :
    (s.modMeter m f).accountEntry j = s.accountEntry j := rfl
@[simp] theorem State.modMeter_link (m : MeterNo) (f : MeterRec → MeterRec) (j : Addr) :
    (s.modMeter m f).link j = s.link j := rfl
@[simp] theorem State.modMeter_feederRec (m : MeterNo) (f : MeterRec → MeterRec) (j : FeederNo) :
    (s.modMeter m f).feederRec j = s.feederRec j := rfl
@[simp] theorem State.modMeter_limitFlag (m : MeterNo) (f : MeterRec → MeterRec) (j : FeederNo) :
    (s.modMeter m f).limitFlag j = s.limitFlag j := rfl
@[simp] theorem State.modMeter_setRec (m : MeterNo) (f : MeterRec → MeterRec) (j : SetNo) :
    (s.modMeter m f).setRec j = s.setRec j := rfl
@[simp] theorem State.modMeter_tank (m : MeterNo) (f : MeterRec → MeterRec) (j : SetNo) :
    (s.modMeter m f).tank j = s.tank j := rfl
@[simp] theorem State.modMeter_pointRec (m : MeterNo) (f : MeterRec → MeterRec) (j : PointNo) :
    (s.modMeter m f).pointRec j = s.pointRec j := rfl
@[simp] theorem State.modMeter_account (m : MeterNo) (f : MeterRec → MeterRec) (j : AccountNo) :
    (s.modMeter m f).account j = s.account j := rfl

/-! ### modPoint -/

@[simp] theorem State.modPoint_tables (p : PointNo) (f : PointRec → PointRec) : (s.modPoint p f).tables = s.tables := rfl
@[simp] theorem State.modPoint_site (p : PointNo) (f : PointRec → PointRec) : (s.modPoint p f).site = s.site := rfl
@[simp] theorem State.modPoint_engine (p : PointNo) (f : PointRec → PointRec) : (s.modPoint p f).engine = s.engine := rfl
@[simp] theorem State.modPoint_feeders (p : PointNo) (f : PointRec → PointRec) : (s.modPoint p f).feeders = s.feeders := rfl
@[simp] theorem State.modPoint_limitFlags (p : PointNo) (f : PointRec → PointRec) : (s.modPoint p f).limitFlags = s.limitFlags := rfl
@[simp] theorem State.modPoint_sets (p : PointNo) (f : PointRec → PointRec) : (s.modPoint p f).sets = s.sets := rfl
@[simp] theorem State.modPoint_unattributed (p : PointNo) (f : PointRec → PointRec) : (s.modPoint p f).unattributed = s.unattributed := rfl
@[simp] theorem State.modPoint_tanks (p : PointNo) (f : PointRec → PointRec) : (s.modPoint p f).tanks = s.tanks := rfl
@[simp] theorem State.modPoint_meters (p : PointNo) (f : PointRec → PointRec) : (s.modPoint p f).meters = s.meters := rfl
@[simp] theorem State.modPoint_tickets (p : PointNo) (f : PointRec → PointRec) : (s.modPoint p f).tickets = s.tickets := rfl
@[simp] theorem State.modPoint_schedule (p : PointNo) (f : PointRec → PointRec) : (s.modPoint p f).schedule = s.schedule := rfl
@[simp] theorem State.modPoint_tariff (p : PointNo) (f : PointRec → PointRec) : (s.modPoint p f).tariff = s.tariff := rfl
@[simp] theorem State.modPoint_ten (p : PointNo) (f : PointRec → PointRec) : (s.modPoint p f).ten = s.ten := rfl
@[simp] theorem State.modPoint_billing (p : PointNo) (f : PointRec → PointRec) : (s.modPoint p f).billing = s.billing := rfl
@[simp] theorem State.modPoint_port (p : PointNo) (f : PointRec → PointRec) : (s.modPoint p f).port = s.port := rfl
@[simp] theorem State.modPoint_due (p : PointNo) (f : PointRec → PointRec) : (s.modPoint p f).due = s.due := rfl
@[simp] theorem State.modPoint_freeCount (p : PointNo) (f : PointRec → PointRec) : (s.modPoint p f).freeCount = s.freeCount := rfl
@[simp] theorem State.modPoint_pending (p : PointNo) (f : PointRec → PointRec) : (s.modPoint p f).pending = s.pending := rfl
@[simp] theorem State.modPoint_unitEntry (p : PointNo) (f : PointRec → PointRec) (j : Addr) :
    (s.modPoint p f).unitEntry j = s.unitEntry j := rfl
@[simp] theorem State.modPoint_feederEntry (p : PointNo) (f : PointRec → PointRec) (j : FeederNo) :
    (s.modPoint p f).feederEntry j = s.feederEntry j := rfl
@[simp] theorem State.modPoint_setEntry (p : PointNo) (f : PointRec → PointRec) (j : SetNo) :
    (s.modPoint p f).setEntry j = s.setEntry j := rfl
@[simp] theorem State.modPoint_pointEntry (p : PointNo) (f : PointRec → PointRec) (j : PointNo) :
    (s.modPoint p f).pointEntry j = s.pointEntry j := rfl
@[simp] theorem State.modPoint_accountEntry (p : PointNo) (f : PointRec → PointRec) (j : AccountNo) :
    (s.modPoint p f).accountEntry j = s.accountEntry j := rfl
@[simp] theorem State.modPoint_link (p : PointNo) (f : PointRec → PointRec) (j : Addr) :
    (s.modPoint p f).link j = s.link j := rfl
@[simp] theorem State.modPoint_feederRec (p : PointNo) (f : PointRec → PointRec) (j : FeederNo) :
    (s.modPoint p f).feederRec j = s.feederRec j := rfl
@[simp] theorem State.modPoint_limitFlag (p : PointNo) (f : PointRec → PointRec) (j : FeederNo) :
    (s.modPoint p f).limitFlag j = s.limitFlag j := rfl
@[simp] theorem State.modPoint_setRec (p : PointNo) (f : PointRec → PointRec) (j : SetNo) :
    (s.modPoint p f).setRec j = s.setRec j := rfl
@[simp] theorem State.modPoint_tank (p : PointNo) (f : PointRec → PointRec) (j : SetNo) :
    (s.modPoint p f).tank j = s.tank j := rfl
@[simp] theorem State.modPoint_meter (p : PointNo) (f : PointRec → PointRec) (j : MeterNo) :
    (s.modPoint p f).meter j = s.meter j := rfl
@[simp] theorem State.modPoint_account (p : PointNo) (f : PointRec → PointRec) (j : AccountNo) :
    (s.modPoint p f).account j = s.account j := rfl

/-! ### modAccount -/

@[simp] theorem State.modAccount_tables (k : AccountNo) (f : AccountRec → AccountRec) : (s.modAccount k f).tables = s.tables := rfl
@[simp] theorem State.modAccount_site (k : AccountNo) (f : AccountRec → AccountRec) : (s.modAccount k f).site = s.site := rfl
@[simp] theorem State.modAccount_engine (k : AccountNo) (f : AccountRec → AccountRec) : (s.modAccount k f).engine = s.engine := rfl
@[simp] theorem State.modAccount_feeders (k : AccountNo) (f : AccountRec → AccountRec) : (s.modAccount k f).feeders = s.feeders := rfl
@[simp] theorem State.modAccount_limitFlags (k : AccountNo) (f : AccountRec → AccountRec) : (s.modAccount k f).limitFlags = s.limitFlags := rfl
@[simp] theorem State.modAccount_sets (k : AccountNo) (f : AccountRec → AccountRec) : (s.modAccount k f).sets = s.sets := rfl
@[simp] theorem State.modAccount_unattributed (k : AccountNo) (f : AccountRec → AccountRec) : (s.modAccount k f).unattributed = s.unattributed := rfl
@[simp] theorem State.modAccount_tanks (k : AccountNo) (f : AccountRec → AccountRec) : (s.modAccount k f).tanks = s.tanks := rfl
@[simp] theorem State.modAccount_meters (k : AccountNo) (f : AccountRec → AccountRec) : (s.modAccount k f).meters = s.meters := rfl
@[simp] theorem State.modAccount_tickets (k : AccountNo) (f : AccountRec → AccountRec) : (s.modAccount k f).tickets = s.tickets := rfl
@[simp] theorem State.modAccount_points (k : AccountNo) (f : AccountRec → AccountRec) : (s.modAccount k f).points = s.points := rfl
@[simp] theorem State.modAccount_schedule (k : AccountNo) (f : AccountRec → AccountRec) : (s.modAccount k f).schedule = s.schedule := rfl
@[simp] theorem State.modAccount_tariff (k : AccountNo) (f : AccountRec → AccountRec) : (s.modAccount k f).tariff = s.tariff := rfl
@[simp] theorem State.modAccount_ten (k : AccountNo) (f : AccountRec → AccountRec) : (s.modAccount k f).ten = s.ten := rfl
@[simp] theorem State.modAccount_port (k : AccountNo) (f : AccountRec → AccountRec) : (s.modAccount k f).port = s.port := rfl
@[simp] theorem State.modAccount_due (k : AccountNo) (f : AccountRec → AccountRec) : (s.modAccount k f).due = s.due := rfl
@[simp] theorem State.modAccount_freeCount (k : AccountNo) (f : AccountRec → AccountRec) : (s.modAccount k f).freeCount = s.freeCount := rfl
@[simp] theorem State.modAccount_pending (k : AccountNo) (f : AccountRec → AccountRec) : (s.modAccount k f).pending = s.pending := rfl
@[simp] theorem State.modAccount_unitEntry (k : AccountNo) (f : AccountRec → AccountRec) (j : Addr) :
    (s.modAccount k f).unitEntry j = s.unitEntry j := rfl
@[simp] theorem State.modAccount_feederEntry (k : AccountNo) (f : AccountRec → AccountRec) (j : FeederNo) :
    (s.modAccount k f).feederEntry j = s.feederEntry j := rfl
@[simp] theorem State.modAccount_setEntry (k : AccountNo) (f : AccountRec → AccountRec) (j : SetNo) :
    (s.modAccount k f).setEntry j = s.setEntry j := rfl
@[simp] theorem State.modAccount_pointEntry (k : AccountNo) (f : AccountRec → AccountRec) (j : PointNo) :
    (s.modAccount k f).pointEntry j = s.pointEntry j := rfl
@[simp] theorem State.modAccount_accountEntry (k : AccountNo) (f : AccountRec → AccountRec) (j : AccountNo) :
    (s.modAccount k f).accountEntry j = s.accountEntry j := rfl
@[simp] theorem State.modAccount_link (k : AccountNo) (f : AccountRec → AccountRec) (j : Addr) :
    (s.modAccount k f).link j = s.link j := rfl
@[simp] theorem State.modAccount_feederRec (k : AccountNo) (f : AccountRec → AccountRec) (j : FeederNo) :
    (s.modAccount k f).feederRec j = s.feederRec j := rfl
@[simp] theorem State.modAccount_limitFlag (k : AccountNo) (f : AccountRec → AccountRec) (j : FeederNo) :
    (s.modAccount k f).limitFlag j = s.limitFlag j := rfl
@[simp] theorem State.modAccount_setRec (k : AccountNo) (f : AccountRec → AccountRec) (j : SetNo) :
    (s.modAccount k f).setRec j = s.setRec j := rfl
@[simp] theorem State.modAccount_tank (k : AccountNo) (f : AccountRec → AccountRec) (j : SetNo) :
    (s.modAccount k f).tank j = s.tank j := rfl
@[simp] theorem State.modAccount_meter (k : AccountNo) (f : AccountRec → AccountRec) (j : MeterNo) :
    (s.modAccount k f).meter j = s.meter j := rfl
@[simp] theorem State.modAccount_pointRec (k : AccountNo) (f : AccountRec → AccountRec) (j : PointNo) :
    (s.modAccount k f).pointRec j = s.pointRec j := rfl

/-! ### modHire -/

@[simp] theorem State.modHire_tables (n : SetNo) (f : Hire → Hire) : (s.modHire n f).tables = s.tables := rfl
@[simp] theorem State.modHire_site (n : SetNo) (f : Hire → Hire) : (s.modHire n f).site = s.site := rfl
@[simp] theorem State.modHire_engine (n : SetNo) (f : Hire → Hire) : (s.modHire n f).engine = s.engine := rfl
@[simp] theorem State.modHire_feeders (n : SetNo) (f : Hire → Hire) : (s.modHire n f).feeders = s.feeders := rfl
@[simp] theorem State.modHire_limitFlags (n : SetNo) (f : Hire → Hire) : (s.modHire n f).limitFlags = s.limitFlags := rfl
@[simp] theorem State.modHire_unattributed (n : SetNo) (f : Hire → Hire) : (s.modHire n f).unattributed = s.unattributed := rfl
@[simp] theorem State.modHire_tanks (n : SetNo) (f : Hire → Hire) : (s.modHire n f).tanks = s.tanks := rfl
@[simp] theorem State.modHire_meters (n : SetNo) (f : Hire → Hire) : (s.modHire n f).meters = s.meters := rfl
@[simp] theorem State.modHire_tickets (n : SetNo) (f : Hire → Hire) : (s.modHire n f).tickets = s.tickets := rfl
@[simp] theorem State.modHire_points (n : SetNo) (f : Hire → Hire) : (s.modHire n f).points = s.points := rfl
@[simp] theorem State.modHire_schedule (n : SetNo) (f : Hire → Hire) : (s.modHire n f).schedule = s.schedule := rfl
@[simp] theorem State.modHire_tariff (n : SetNo) (f : Hire → Hire) : (s.modHire n f).tariff = s.tariff := rfl
@[simp] theorem State.modHire_ten (n : SetNo) (f : Hire → Hire) : (s.modHire n f).ten = s.ten := rfl
@[simp] theorem State.modHire_billing (n : SetNo) (f : Hire → Hire) : (s.modHire n f).billing = s.billing := rfl
@[simp] theorem State.modHire_port (n : SetNo) (f : Hire → Hire) : (s.modHire n f).port = s.port := rfl
@[simp] theorem State.modHire_due (n : SetNo) (f : Hire → Hire) : (s.modHire n f).due = s.due := rfl
@[simp] theorem State.modHire_freeCount (n : SetNo) (f : Hire → Hire) : (s.modHire n f).freeCount = s.freeCount := rfl
@[simp] theorem State.modHire_pending (n : SetNo) (f : Hire → Hire) : (s.modHire n f).pending = s.pending := rfl
@[simp] theorem State.modHire_unitEntry (n : SetNo) (f : Hire → Hire) (j : Addr) :
    (s.modHire n f).unitEntry j = s.unitEntry j := rfl
@[simp] theorem State.modHire_feederEntry (n : SetNo) (f : Hire → Hire) (j : FeederNo) :
    (s.modHire n f).feederEntry j = s.feederEntry j := rfl
@[simp] theorem State.modHire_setEntry (n : SetNo) (f : Hire → Hire) (j : SetNo) :
    (s.modHire n f).setEntry j = s.setEntry j := rfl
@[simp] theorem State.modHire_pointEntry (n : SetNo) (f : Hire → Hire) (j : PointNo) :
    (s.modHire n f).pointEntry j = s.pointEntry j := rfl
@[simp] theorem State.modHire_accountEntry (n : SetNo) (f : Hire → Hire) (j : AccountNo) :
    (s.modHire n f).accountEntry j = s.accountEntry j := rfl
@[simp] theorem State.modHire_link (n : SetNo) (f : Hire → Hire) (j : Addr) :
    (s.modHire n f).link j = s.link j := rfl
@[simp] theorem State.modHire_feederRec (n : SetNo) (f : Hire → Hire) (j : FeederNo) :
    (s.modHire n f).feederRec j = s.feederRec j := rfl
@[simp] theorem State.modHire_limitFlag (n : SetNo) (f : Hire → Hire) (j : FeederNo) :
    (s.modHire n f).limitFlag j = s.limitFlag j := rfl
@[simp] theorem State.modHire_tank (n : SetNo) (f : Hire → Hire) (j : SetNo) :
    (s.modHire n f).tank j = s.tank j := rfl
@[simp] theorem State.modHire_meter (n : SetNo) (f : Hire → Hire) (j : MeterNo) :
    (s.modHire n f).meter j = s.meter j := rfl
@[simp] theorem State.modHire_pointRec (n : SetNo) (f : Hire → Hire) (j : PointNo) :
    (s.modHire n f).pointRec j = s.pointRec j := rfl
@[simp] theorem State.modHire_account (n : SetNo) (f : Hire → Hire) (j : AccountNo) :
    (s.modHire n f).account j = s.account j := rfl

/-! ### Reading what was written -/

@[simp] theorem State.putUnitEntry_read (a : Addr) (e : Option UnitEntry) : (s.putUnitEntry a e).unitEntry a = e := by
  simp [State.putUnitEntry, State.unitEntry]

theorem State.putUnitEntry_other (a : Addr) (e : Option UnitEntry) {j : Addr} (h : j ≠ a) :
    (s.putUnitEntry a e).unitEntry j = s.unitEntry j := by
  simp [State.putUnitEntry, State.unitEntry, Fin.val_inj, Ne.symm h]

@[simp] theorem State.putFeederEntry_read (f : FeederNo) (e : Option FeederEntry) : (s.putFeederEntry f e).feederEntry f = e := by
  simp [State.putFeederEntry, State.feederEntry]

theorem State.putFeederEntry_other (f : FeederNo) (e : Option FeederEntry) {j : FeederNo} (h : j ≠ f) :
    (s.putFeederEntry f e).feederEntry j = s.feederEntry j := by
  simp [State.putFeederEntry, State.feederEntry, Fin.val_inj, Ne.symm h]

@[simp] theorem State.putSetEntry_read (n : SetNo) (e : Option SetEntry) : (s.putSetEntry n e).setEntry n = e := by
  simp [State.putSetEntry, State.setEntry]

theorem State.putSetEntry_other (n : SetNo) (e : Option SetEntry) {j : SetNo} (h : j ≠ n) :
    (s.putSetEntry n e).setEntry j = s.setEntry j := by
  simp [State.putSetEntry, State.setEntry, Fin.val_inj, Ne.symm h]

@[simp] theorem State.putPointEntry_read (p : PointNo) (e : Option PointEntry) : (s.putPointEntry p e).pointEntry p = e := by
  simp [State.putPointEntry, State.pointEntry]

theorem State.putPointEntry_other (p : PointNo) (e : Option PointEntry) {j : PointNo} (h : j ≠ p) :
    (s.putPointEntry p e).pointEntry j = s.pointEntry j := by
  simp [State.putPointEntry, State.pointEntry, Fin.val_inj, Ne.symm h]

@[simp] theorem State.putAccountEntry_read (k : AccountNo) (e : Option AccountEntry) : (s.putAccountEntry k e).accountEntry k = e := by
  simp [State.putAccountEntry, State.accountEntry]

theorem State.putAccountEntry_other (k : AccountNo) (e : Option AccountEntry) {j : AccountNo} (h : j ≠ k) :
    (s.putAccountEntry k e).accountEntry j = s.accountEntry j := by
  simp [State.putAccountEntry, State.accountEntry, Fin.val_inj, Ne.symm h]

@[simp] theorem State.putLink_read (a : Addr) (r : LinkRec) : (s.putLink a r).link a = r := by
  simp [State.putLink, State.link]

theorem State.putLink_other (a : Addr) (r : LinkRec) {j : Addr} (h : j ≠ a) :
    (s.putLink a r).link j = s.link j := by
  simp [State.putLink, State.link, Fin.val_inj, Ne.symm h]

@[simp] theorem State.putFeeder_read (f : FeederNo) (r : FeederRec) : (s.putFeeder f r).feederRec f = r := by
  simp [State.putFeeder, State.feederRec]

theorem State.putFeeder_other (f : FeederNo) (r : FeederRec) {j : FeederNo} (h : j ≠ f) :
    (s.putFeeder f r).feederRec j = s.feederRec j := by
  simp [State.putFeeder, State.feederRec, Fin.val_inj, Ne.symm h]

@[simp] theorem State.putLimitFlag_read (f : FeederNo) (b : Bool) : (s.putLimitFlag f b).limitFlag f = b := by
  simp [State.putLimitFlag, State.limitFlag]

theorem State.putLimitFlag_other (f : FeederNo) (b : Bool) {j : FeederNo} (h : j ≠ f) :
    (s.putLimitFlag f b).limitFlag j = s.limitFlag j := by
  simp [State.putLimitFlag, State.limitFlag, Fin.val_inj, Ne.symm h]

@[simp] theorem State.putSet_read (n : SetNo) (r : SetRec) : (s.putSet n r).setRec n = r := by
  simp [State.putSet, State.setRec]

theorem State.putSet_other (n : SetNo) (r : SetRec) {j : SetNo} (h : j ≠ n) :
    (s.putSet n r).setRec j = s.setRec j := by
  simp [State.putSet, State.setRec, Fin.val_inj, Ne.symm h]

@[simp] theorem State.putTank_read (n : SetNo) (t : Tank) : (s.putTank n t).tank n = t := by
  simp [State.putTank, State.tank]

theorem State.putTank_other (n : SetNo) (t : Tank) {j : SetNo} (h : j ≠ n) :
    (s.putTank n t).tank j = s.tank j := by
  simp [State.putTank, State.tank, Fin.val_inj, Ne.symm h]

@[simp] theorem State.putMeter_read (m : MeterNo) (r : MeterRec) : (s.putMeter m r).meter m = r := by
  simp [State.putMeter, State.meter]

theorem State.putMeter_other (m : MeterNo) (r : MeterRec) {j : MeterNo} (h : j ≠ m) :
    (s.putMeter m r).meter j = s.meter j := by
  simp [State.putMeter, State.meter, Fin.val_inj, Ne.symm h]

@[simp] theorem State.putPoint_read (p : PointNo) (r : PointRec) : (s.putPoint p r).pointRec p = r := by
  simp [State.putPoint, State.pointRec]

theorem State.putPoint_other (p : PointNo) (r : PointRec) {j : PointNo} (h : j ≠ p) :
    (s.putPoint p r).pointRec j = s.pointRec j := by
  simp [State.putPoint, State.pointRec, Fin.val_inj, Ne.symm h]

@[simp] theorem State.putAccount_read (k : AccountNo) (r : AccountRec) : (s.putAccount k r).account k = r := by
  simp [State.putAccount, State.account]

theorem State.putAccount_other (k : AccountNo) (r : AccountRec) {j : AccountNo} (h : j ≠ k) :
    (s.putAccount k r).account j = s.account j := by
  simp [State.putAccount, State.account, Fin.val_inj, Ne.symm h]

@[simp] theorem State.modLink_read (a : Addr) (f : LinkRec → LinkRec) : (s.modLink a f).link a = f (s.link a) := by
  simp [State.modLink]

theorem State.modLink_other (a : Addr) (f : LinkRec → LinkRec) {j : Addr} (h : j ≠ a) :
    (s.modLink a f).link j = s.link j :=
  State.putLink_other s _ _ h

@[simp] theorem State.modFeeder_read (i : FeederNo) (f : FeederRec → FeederRec) : (s.modFeeder i f).feederRec i = f (s.feederRec i) := by
  simp [State.modFeeder]

theorem State.modFeeder_other (i : FeederNo) (f : FeederRec → FeederRec) {j : FeederNo} (h : j ≠ i) :
    (s.modFeeder i f).feederRec j = s.feederRec j :=
  State.putFeeder_other s _ _ h

@[simp] theorem State.modSet_read (n : SetNo) (f : SetRec → SetRec) : (s.modSet n f).setRec n = f (s.setRec n) := by
  simp [State.modSet]

theorem State.modSet_other (n : SetNo) (f : SetRec → SetRec) {j : SetNo} (h : j ≠ n) :
    (s.modSet n f).setRec j = s.setRec j :=
  State.putSet_other s _ _ h

@[simp] theorem State.modTank_read (n : SetNo) (f : Tank → Tank) : (s.modTank n f).tank n = f (s.tank n) := by
  simp [State.modTank]

theorem State.modTank_other (n : SetNo) (f : Tank → Tank) {j : SetNo} (h : j ≠ n) :
    (s.modTank n f).tank j = s.tank j :=
  State.putTank_other s _ _ h

@[simp] theorem State.modMeter_read (m : MeterNo) (f : MeterRec → MeterRec) : (s.modMeter m f).meter m = f (s.meter m) := by
  simp [State.modMeter]

theorem State.modMeter_other (m : MeterNo) (f : MeterRec → MeterRec) {j : MeterNo} (h : j ≠ m) :
    (s.modMeter m f).meter j = s.meter j :=
  State.putMeter_other s _ _ h

@[simp] theorem State.modPoint_read (p : PointNo) (f : PointRec → PointRec) : (s.modPoint p f).pointRec p = f (s.pointRec p) := by
  simp [State.modPoint]

theorem State.modPoint_other (p : PointNo) (f : PointRec → PointRec) {j : PointNo} (h : j ≠ p) :
    (s.modPoint p f).pointRec j = s.pointRec j :=
  State.putPoint_other s _ _ h

@[simp] theorem State.modAccount_read (k : AccountNo) (f : AccountRec → AccountRec) : (s.modAccount k f).account k = f (s.account k) := by
  simp [State.modAccount]

theorem State.modAccount_other (k : AccountNo) (f : AccountRec → AccountRec) {j : AccountNo} (h : j ≠ k) :
    (s.modAccount k f).account j = s.account j :=
  State.putAccount_other s _ _ h

@[simp] theorem State.putLink_queue (a : Addr) (r : LinkRec) : (s.putLink a r).engine.queue = s.engine.queue := rfl
@[simp] theorem State.modLink_queue (a : Addr) (f : LinkRec → LinkRec) :
    (s.modLink a f).engine.queue = s.engine.queue := rfl
@[simp] theorem State.putQueue_queue (q : List Command) : (s.putQueue q).engine.queue = q := rfl
@[simp] theorem State.putOutstanding_queue (q : Option Outstanding) :
    (s.putOutstanding q).engine.queue = s.engine.queue := rfl
@[simp] theorem State.putOutstanding_read (q : Option Outstanding) :
    (s.putOutstanding q).engine.outstanding = q := rfl
@[simp] theorem State.withdraw_queue (o : Origin) :
    (s.withdraw o).engine.queue = s.engine.queue.filter fun c => c.origin ≠ o := rfl

end Sys2Proof.Machine
end

