-- ==== Sys2Proof/Laws/Ops.lean ====
section
/-! SUPPORT. What the shared operations can do, each said once: numbers, walks over a table, notices, the command queue, what a
sequencer and a set leave alone, and the taking of a request. -/

namespace Sys2Proof.Machine

/-! ### Numbers -/

theorem satAdd_le (limit a b : Nat) : satAdd limit a b ≤ limit := Nat.min_le_left _ _

theorem satAdd_of_le {limit a b : Nat} (h : a + b ≤ limit) : satAdd limit a b = a + b := Nat.min_eq_right h

theorem count16_le (n : Nat) : count16 n ≤ 65535 := satAdd_le _ _ _

theorem clampTo_bounds {lo hi : Nat} (h : lo ≤ hi) (x : Nat) : lo ≤ clampTo lo hi x ∧ clampTo lo hi x ≤ hi := by
  simp only [clampTo]; omega

theorem clampTo_of_mem {lo hi x : Nat} (h : lo ≤ x) (h' : x ≤ hi) : clampTo lo hi x = x := by
  simp only [clampTo]; omega

theorem hold64_bounds (x : Int) : -(2 ^ 63) ≤ hold64 x ∧ hold64 x ≤ 2 ^ 63 - 1 := by
  simp only [hold64]; omega

theorem storedPeriod_spec (ms : Nat) :
    50 ≤ storedPeriod ms ∧ storedPeriod ms ≤ 500 ∧ storedPeriod ms % 10 = 0 ∧ storedPeriod ms ≤ clampTo 50 500 ms := by
  have := clampTo_bounds (lo := 50) (hi := 500) (by omega) ms
  simp only [storedPeriod]; omega

@[simp] theorem numbered_succ {n : Nat} (i : Fin n) : numbered n (i.val + 1) = some i := by simp [numbered]

theorem numbered_none {n k : Nat} (h : k = 0 ∨ n < k) : numbered n k = none := by simp [numbered]; omega

theorem numbered_eq_some {n k : Nat} {i : Fin n} : numbered n k = some i ↔ k = i.val + 1 := by
  constructor
  · intro h
    unfold numbered at h
    split at h
    · cases h; simp; omega
    · cases h
  · rintro rfl; exact numbered_succ i

/-- A rounded quotient is within half a unit of the exact one (R168, R172). -/
theorem roundDiv_spec (mode : RoundingMode) (q : Int) {d : Nat} (h : 0 < d) :
    -(d : Int) ≤ 2 * (q - roundDiv mode q d * d) ∧ 2 * (q - roundDiv mode q d * d) ≤ d := by
  have e := Int.mul_ediv_add_emod q d
  have l := Int.emod_nonneg q (b := (d : Int)) (by omega)
  have u := Int.emod_lt_of_pos q (b := (d : Int)) (by omega)
  have low : q - q / d * d = q % d := by rw [Int.mul_comm]; omega
  have high : q - (q / d + 1) * d = q % d - d := by rw [Int.add_mul, Int.mul_comm]; omega
  unfold roundDiv
  dsimp only
  split
  · rw [low]; omega
  · split
    · rw [high]; omega
    · cases mode
      · dsimp only
        split
        · rw [low]; omega
        · rw [high]; omega
      · dsimp only; rw [high]; omega

/-- The energy a close carries over is within half a billed unit, where the energy is not below minus half a unit: the units are
then no less than 0 (R168). -/
theorem roundDiv_nonneg (mode : RoundingMode) {q : Int} {d : Nat} (h : 0 < d) (hq : -(d : Int) ≤ 2 * q) :
    0 ≤ roundDiv mode q d := by
  rcases Int.lt_or_le q 0 with neg | pos
  · have hd : q / d = -1 := by
      have e := Int.mul_ediv_add_emod q d
      have l := Int.emod_nonneg q (b := (d : Int)) (by omega)
      have u := Int.emod_lt_of_pos q (b := (d : Int)) (by omega)
      have h1 : q / d < 0 := Int.ediv_neg_of_neg_of_pos neg (by omega)
      have h2 : -1 ≤ q / d := by
        rw [Int.le_ediv_iff_mul_le (by omega)]; omega
      omega
    have hm : q % d = q + d := by
      have e := Int.mul_ediv_add_emod q d
      rw [hd] at e; omega
    unfold roundDiv
    dsimp only
    rw [hd, hm]
    split
    · omega
    · split
      · omega
      · cases mode
        · simp
        · simp
  · have : 0 ≤ q / (d : Int) := Int.ediv_nonneg pos (by omega)
    unfold roundDiv
    dsimp only
    split
    · exact this
    · split
      · omega
      · cases mode
        · dsimp only; split <;> omega
        · dsimp only; omega

/-- The first boundary after a time is later than it, by at most one interval (R161). -/
theorem boundaryAfter_spec {i : Nat} (h : 0 < i) (t : Nat) :
    t < boundaryAfter i t ∧ boundaryAfter i t ≤ t + i ∧ boundaryAfter i t % i = 0 := by
  have e := Nat.div_add_mod t i
  have u := Nat.mod_lt t h
  refine ⟨?_, ?_, ?_⟩
  · unfold boundaryAfter; rw [Nat.add_mul, Nat.mul_comm]; omega
  · unfold boundaryAfter; rw [Nat.add_mul, Nat.mul_comm]; omega
  · simp [boundaryAfter]

/-! ### Walking a table -/

@[simp] theorem forEach_nil {α : Type} (f : α → State → State) (s : State) : forEach [] f s = s := rfl

@[simp] theorem forEach_cons {α : Type} (x : α) (xs : List α) (f : α → State → State) (s : State) :
    forEach (x :: xs) f s = forEach xs f (f x s) := rfl

theorem forEach_append {α : Type} (xs ys : List α) (f : α → State → State) (s : State) :
    forEach (xs ++ ys) f s = forEach ys f (forEach xs f s) := List.foldl_append

/-- What every single visit keeps, the walk keeps. -/
theorem forEach_keeps {α : Type} (P : State → Prop) {xs : List α} {f : α → State → State}
    (h : ∀ x ∈ xs, ∀ s, P s → P (f x s)) {s : State} (hs : P s) : P (forEach xs f s) := by
  induction xs generalizing s with
  | nil => exact hs
  | cons x xs ih => exact ih (fun y hy => h y (by simp [hy])) (h x (by simp) s hs)

/-- A relation that is reflexive and transitive, and holds across every single visit, holds across the walk. -/
theorem forEach_rel {α : Type} {R : State → State → Prop} (refl : ∀ s, R s s)
    (trans : ∀ {a b c}, R a b → R b c → R a c) {xs : List α} {f : α → State → State}
    (h : ∀ x ∈ xs, ∀ s, R s (f x s)) (s : State) : R s (forEach xs f s) :=
  forEach_keeps (R s) (fun x hx _ ht => trans ht (h x hx _)) (refl s)

/-- Each set is visited once, and a visit that writes its own set alone by the set alone gives every set its value. -/
theorem forEach_modSet (f : SetNo → SetRec → SetRec) (s : State) :
    forEach allSets (fun n s => s.modSet n (f n)) s =
      { s with sets := Vector.ofFn fun n => f n (s.setRec n) } := by
  simp only [allSets, List.finRange_succ, List.finRange_zero, List.map, forEach_cons, forEach_nil, State.modSet,
    State.putSet, State.setRec]
  congr 1
  ext i hi
  interval_cases i <;> simp [Fin.succ]

theorem forEach_modTank (f : SetNo → Tank → Tank) (s : State) :
    forEach allSets (fun n s => s.modTank n (f n)) s =
      { s with tanks := Vector.ofFn fun n => f n (s.tank n) } := by
  simp only [allSets, List.finRange_succ, List.finRange_zero, List.map, forEach_cons, forEach_nil, State.modTank,
    State.putTank, State.tank]
  congr 1
  ext i hi
  interval_cases i <;> simp [Fin.succ]

theorem forEach_modPoint (f : PointNo → PointRec → PointRec) (s : State) :
    forEach allPoints (fun p s => s.modPoint p (f p)) s =
      { s with points := Vector.ofFn fun p => f p (s.pointRec p) } := by
  simp only [allPoints, List.finRange_succ, List.finRange_zero, List.map, forEach_cons, forEach_nil, State.modPoint,
    State.putPoint, State.pointRec]
  congr 1
  ext i hi
  interval_cases i <;> simp [Fin.succ]

/-! ### Notices (R191, R192) -/

/-- Raising numbers every notice, and touches nothing of the Port but the notices, the next number and the overflow mark. -/
theorem Port.raise_frame (p : Port) (urgent : Bool) (body : NoticeBody) :
    { p.raise urgent body with notices := p.notices, nextNotice := p.nextNotice, overflow := p.overflow } = p ∧
      (p.raise urgent body).nextNotice = p.nextNotice + 1 := by
  simp only [Port.raise]
  split
  · exact ⟨rfl, rfl⟩
  · split
    · split <;> exact ⟨rfl, rfl⟩
    · exact ⟨rfl, rfl⟩

/-- With room in the queue a notice joins at the tail. -/
theorem Port.raise_room {p : Port} (h : p.notices.length < 32) (urgent : Bool) (body : NoticeBody) :
    p.raise urgent body =
      { p with nextNotice := p.nextNotice + 1, notices := p.notices ++ [⟨p.nextNotice, urgent, body⟩] } := by
  simp [Port.raise, h]

theorem dropNewestOrdinary_length {xs kept : List Notice} (h : dropNewestOrdinary xs = some kept) :
    xs.length = kept.length + 1 := by
  induction xs generalizing kept with
  | nil => simp [dropNewestOrdinary] at h
  | cons x xs ih =>
    simp only [dropNewestOrdinary] at h
    split at h
    · rename_i k hk; cases h; simp [ih hk]
    · split at h
      · cases h
      · cases h; rfl

theorem displaceFor_length {b : Bool} {xs kept : List Notice} (h : displaceFor b xs = some kept) :
    xs.length = kept.length + 1 := by
  unfold displaceFor at h
  split at h
  · split at h
    · cases h
    · rename_i head rest
      cases hk : dropNewestOrdinary rest with
      | none => simp [hk] at h
      | some k =>
        simp only [hk, Option.map_some, Option.some.injEq] at h
        subst h
        simp [dropNewestOrdinary_length hk]
  · exact dropNewestOrdinary_length h

/-- The notice queue never holds more than 32 (R191, R192). -/
theorem Port.raise_length {p : Port} (h : p.notices.length ≤ 32) (urgent : Bool) (body : NoticeBody) :
    (p.raise urgent body).notices.length ≤ 32 := by
  simp only [Port.raise]
  split
  · simp; omega
  · split
    · split
      · rename_i kept hk
        have := displaceFor_length hk
        simp; omega
      · exact h
    · exact h

/-! ### The command queue (R32, R33) -/

/-- What enqueueing does where it is not refused: the entry joins at the tail of a queue that had room, and nothing else
changes. -/
theorem State.enqueue_eq_some {s t : State} {c : Command} : s.enqueue c = some t ↔
    s.engine.queue.length < 24 ∧ (c.isOffice = true → s.officeRoom = true) ∧
      (c.isOffice = false → s.engine.holdsFor c.origin = false) ∧
      t = { s with engine := { s.engine with queue := s.engine.queue ++ [c] } } := by
  have key : s.enqueue c = if (decide (s.engine.queue.length < 24) &&
      (if c.isOffice then s.officeRoom else !s.engine.holdsFor c.origin)) = true then
        some { s with engine := { s.engine with queue := s.engine.queue ++ [c] } } else none := rfl
  rw [key]
  generalize ({ s with engine := { s.engine with queue := s.engine.queue ++ [c] } } : State) = u
  cases c.isOffice <;> simp only [Bool.and_eq_true, decide_eq_true_eq, Option.ite_none_right_eq_some,
    Option.some.injEq, Bool.false_eq_true, if_true, if_false, Bool.not_eq_true', eq_comm (a := u), and_assoc] <;>
    tauto

/-- Withdrawing takes out the origin's entries, and no other. -/
theorem State.mem_withdraw {s : State} {o : Origin} {c : Command} :
    c ∈ (s.withdraw o).engine.queue ↔ c ∈ s.engine.queue ∧ c.origin ≠ o := by
  simp [State.withdraw]

/-! ### What a sequencer leaves alone -/

/-- What no operation of the Changeover Sequencer touches: every block but its own points, the command queue, the reservations of
the sets, and the notices. -/
structure SeqFrame (s t : State) : Prop where
  tables : t.tables = s.tables
  site : t.site = s.site
  engine : { t.engine with queue := s.engine.queue } = s.engine
  feeders : t.feeders = s.feeders
  limitFlags : t.limitFlags = s.limitFlags
  sets : ∀ n, { t.setRec n with reservations := [] } = { s.setRec n with reservations := [] }
  unattributed : t.unattributed = s.unattributed
  tanks : t.tanks = s.tanks
  meters : t.meters = s.meters
  tickets : t.tickets = s.tickets
  schedule : t.schedule = s.schedule
  tariff : t.tariff = s.tariff
  ten : t.ten = s.ten
  billing : t.billing = s.billing
  port : { t.port with
    notices := s.port.notices, nextNotice := s.port.nextNotice, overflow := s.port.overflow } = s.port
  due : t.due = s.due
  pending : t.pending = s.pending

theorem SeqFrame.refl (s : State) : SeqFrame s s := by constructor <;> first | rfl | intro _; rfl

theorem SeqFrame.trans {a b c : State} (h : SeqFrame a b) (k : SeqFrame b c) : SeqFrame a c where
  tables := k.tables.trans h.tables
  site := k.site.trans h.site
  engine := by
    have e := congrArg (fun x : Engine => { x with queue := a.engine.queue }) k.engine
    exact e.trans h.engine
  feeders := k.feeders.trans h.feeders
  limitFlags := k.limitFlags.trans h.limitFlags
  sets n := (k.sets n).trans (h.sets n)
  unattributed := k.unattributed.trans h.unattributed
  tanks := k.tanks.trans h.tanks
  meters := k.meters.trans h.meters
  tickets := k.tickets.trans h.tickets
  schedule := k.schedule.trans h.schedule
  tariff := k.tariff.trans h.tariff
  ten := k.ten.trans h.ten
  billing := k.billing.trans h.billing
  port := by
    have e := congrArg (fun x : Port =>
      { x with notices := a.port.notices, nextNotice := a.port.nextNotice, overflow := a.port.overflow }) k.port
    exact e.trans h.port
  due := k.due.trans h.due
  pending := k.pending.trans h.pending

theorem SeqFrame.modPoint (s : State) (p : PointNo) (f : PointRec → PointRec) : SeqFrame s (s.modPoint p f) := by
  constructor <;> first | rfl | intro _; rfl

theorem SeqFrame.withdraw (s : State) (o : Origin) : SeqFrame s (s.withdraw o) := by
  constructor <;> first | rfl | intro _; rfl

theorem SeqFrame.raiseMarked (s : State) (urgent : Bool) (body : NoticeBody) :
    SeqFrame s (s.raiseMarked urgent body) := by
  constructor <;> first | rfl | (intro _; rfl) | exact (Port.raise_frame _ _ _).1

theorem SeqFrame.reservations (s : State) (n : SetNo) (f : List Reservation → List Reservation) :
    SeqFrame s (s.modSet n fun r => { r with reservations := f r.reservations }) := by
  constructor <;> first | rfl | skip
  intro k
  by_cases hk : n = k
  · subst hk; simp [State.modSet, State.setRec, State.putSet]
  · simp [State.modSet, State.setRec, State.putSet, Fin.val_inj, hk]

theorem SeqFrame.enqueue {s t : State} {c : Command} (h : s.enqueue c = some t) : SeqFrame s t := by
  obtain ⟨-, -, -, rfl⟩ := State.enqueue_eq_some.mp h
  constructor <;> first | rfl | intro _; rfl

theorem SeqFrame.putSeq (s : State) (p : PointNo) (q : Sequence) : SeqFrame s (s.putSeq p q) := .modPoint s p _

theorem SeqFrame.release (s : State) (n : SetNo) (p : PointNo) : SeqFrame s (s.release n p) :=
  .reservations s n fun l => l.filter fun x => x.point ≠ p

theorem SeqFrame.reserve (s : State) (n : SetNo) (p : PointNo) (load : Nat) : SeqFrame s (s.reserve n p load) :=
  .reservations s n fun l => l.filter (fun x => x.point ≠ p) ++ [Reservation.mk p load]

theorem SeqFrame.dropPointCommand (s : State) (p : PointNo) : SeqFrame s (s.dropPointCommand p) :=
  (SeqFrame.withdraw s _).trans (.modPoint _ p _)

theorem SeqFrame.endSequence (s : State) (p : PointNo) (o : SeqOutcome) (m : Option ManualPart) :
    SeqFrame s (s.endSequence p o m) := by
  unfold State.endSequence
  split
  · exact .refl s
  · exact (((SeqFrame.dropPointCommand s p).trans (.release _ _ p)).trans (.modPoint _ p _)).trans
      (.raiseMarked _ _ _)

/-- A sequence that has ended leaves its sequencer IDLE with nothing due, and touches no other point (R130). -/
theorem State.endSequence_points (s : State) (p : PointNo) (o : SeqOutcome) (m : Option ManualPart) :
    ((s.endSequence p o m).pointRec p).seq = none ∧
      ((s.pointRec p).seq ≠ none → ((s.endSequence p o m).pointRec p).due = none) ∧
      ((s.endSequence p o m).pointRec p).position = (s.pointRec p).position ∧
      ∀ k, k ≠ p → (s.endSequence p o m).pointRec k = s.pointRec k := by
  unfold State.endSequence
  split
  · rename_i h; exact ⟨h, fun c => absurd h c, rfl, fun _ _ => rfl⟩
  · refine ⟨?_, fun _ => ?_, ?_, fun k hk => ?_⟩
    all_goals
      simp [State.raiseMarked, State.modPoint, State.putPoint, State.pointRec, State.release, State.dropPointCommand,
        State.withdraw, State.modSet, State.putSet]
    have : (k : Nat) ≠ p := fun e => hk (Fin.ext e)
    simp [Ne.symm this]

theorem SeqFrame.endClosed (s : State) (p : PointNo) (q : Sequence) : SeqFrame s (s.endClosed p q) := by
  unfold State.endClosed
  split
  · exact .endSequence s p _ _
  · exact .endSequence s p _ _
  · refine SeqFrame.trans (b := { s with freeCount := s.freeCount + 1 }) ?_ (.endSequence _ p _ _)
    constructor <;> first | rfl | intro _; rfl

theorem SeqFrame.enqueuePoint (s : State) (p : PointNo) (c : Code) : SeqFrame s (s.enqueuePoint p c) := by
  unfold State.enqueuePoint
  split
  · exact .refl s
  · split
    · exact .refl s
    · rename_i h; exact (SeqFrame.enqueue h).trans (.modPoint _ p _)

theorem SeqFrame.enqueueRecovery (s : State) (p : PointNo) (q : Sequence) (c : Code) :
    SeqFrame s (s.enqueueRecovery p q c) := by
  unfold State.enqueueRecovery
  split
  · exact .enqueuePoint s p c
  · exact .endSequence s p _ _

theorem SeqFrame.enterRecovering (s : State) (p : PointNo) (q : Sequence) (why : RecoveryReason) :
    SeqFrame s (s.enterRecovering p q why) := by
  unfold State.enterRecovering
  dsimp only
  have base := fun q => (SeqFrame.dropPointCommand s p).trans (.putSeq _ p q)
  split
  · split
    · split
      · exact ((base _).trans (.modPoint _ p _)).trans (.enqueueRecovery _ p _ _)
      · exact (base _).trans (.modPoint _ p _)
    · exact (base _).trans (.endSequence _ p _ _)
  · exact (base _).trans (.endSequence _ p _ _)

theorem SeqFrame.tryEnqueuePoint (s : State) (p : PointNo) : SeqFrame s (s.tryEnqueuePoint p) := by
  unfold State.tryEnqueuePoint
  dsimp only
  split
  · split
    · split
      · exact .enqueuePoint s p _
      · exact .enterRecovering s p _ _
    · exact .enqueueRecovery s p _ _
    all_goals exact .enqueuePoint s p _
  · exact .refl s

theorem SeqFrame.enterOpening (s : State) (p : PointNo) (q : Sequence) : SeqFrame s (s.enterOpening p q) :=
  (SeqFrame.modPoint s p _).trans (.tryEnqueuePoint _ p)

theorem SeqFrame.enterDead (s : State) (p : PointNo) (q : Sequence) (c : CycleNo) : SeqFrame s (s.enterDead p q c) :=
  .putSeq s p _

theorem SeqFrame.proceed (s : State) (p : PointNo) (q : Sequence) : SeqFrame s (s.proceed p q) := by
  unfold State.proceed
  split
  · exact .enterDead s p q _
  · exact .enterOpening s p q

theorem SeqFrame.enterClosing (s : State) (p : PointNo) (q : Sequence) (v : Verification) :
    SeqFrame s (s.enterClosing p q v) := (SeqFrame.modPoint s p _).trans (.tryEnqueuePoint _ p)

theorem SeqFrame.endOpening (s : State) (p : PointNo) (q : Sequence) : SeqFrame s (s.endOpening p q) :=
  .endSequence s p _ _

/-- A dead check acts on the sequence, or does what an undecided check does. -/
theorem SeqFrame.applyDeadCheck {s u : State} (p : PointNo) (q : Sequence) (h : SeqFrame s u) :
    SeqFrame s (s.applyDeadCheck p q u) := by
  unfold State.applyDeadCheck
  split
  · exact .enterClosing s p q _
  · exact .enterClosing s p q _
  · exact .enterRecovering s p q _
  · exact h

theorem SeqFrame.expireDead (s : State) (p : PointNo) (q : Sequence) : SeqFrame s (s.expireDead p q) :=
  .applyDeadCheck p q (.putSeq s p _)

theorem SeqFrame.windowCheck (s : State) (p : PointNo) (q : Sequence) : SeqFrame s (s.windowCheck p q) := by
  refine .applyDeadCheck p q ?_
  split
  · exact .enterClosing s p q _
  · exact .refl s

theorem SeqFrame.expireConfirm (s : State) (p : PointNo) (q : Sequence) : SeqFrame s (s.expireConfirm p q) := by
  unfold State.expireConfirm
  split
  · exact .endOpening s p q
  · exact .enterRecovering s p q _
  · exact .endSequence s p _ _
  all_goals exact .refl s

theorem SeqFrame.seqNews (s : State) (n : SetNo) (p : PointNo) : SeqFrame s (s.seqNews n p) := by
  unfold State.seqNews
  split
  · exact .refl s
  · dsimp only
    repeat' split
    all_goals first
      | exact .refl s
      | exact .proceed s p _
      | exact .endSequence s p _ _
      | exact .putSeq s p _
      | exact .enterRecovering s p _ _

/-- Telling every sequencer of a change of a set touches nothing but what sequencers touch (R76). -/
theorem SeqFrame.tellSequencers (s : State) (n : SetNo) : SeqFrame s (s.tellSequencers n) :=
  forEach_rel SeqFrame.refl SeqFrame.trans (fun p _ s => SeqFrame.seqNews s n p) s

theorem SeqFrame.pointOutcome (s : State) (p : PointNo) (c : Code) (o : CommandOutcome) :
    SeqFrame s (s.pointOutcome p c o) := by
  unfold State.pointOutcome
  dsimp only
  have base := SeqFrame.modPoint s p fun r => { r with place := .free }
  generalize (s.modPoint p fun r => { r with place := .free }) = t at base ⊢
  refine base.trans ?_
  split
  · rename_i q _
    split
    · unfold State.applySeqOutcome
      split
      · exact .endSequence t p _ _
      · exact .putSeq t p _
      all_goals
        split
        · exact .endOpening t p _
        · exact .enterRecovering t p _ _
        · exact .endSequence t p _ _
        all_goals exact .refl t
    · exact .refl t
  · exact .refl t

theorem SeqFrame.manualChange (s : State) (p : PointNo) (x : ReportedPos) (y : Selector) :
    SeqFrame s (s.manualChange p x y) := by
  unfold State.manualChange
  dsimp only
  have base : SeqFrame s (s.putPosition p x.pos) := .modPoint s p _
  refine base.trans ?_
  split
  · exact .endSequence _ p _ _
  · exact .raiseMarked _ _ _

theorem SeqFrame.positionChange (s : State) (p : PointNo) (x : ReportedPos) (y : Selector) :
    SeqFrame s (s.positionChange p x y) := by
  unfold State.positionChange
  have base : SeqFrame s (s.putPosition p x.pos) := .modPoint s p _
  split
  · exact .manualChange s p x y
  · dsimp only
    repeat' split
    all_goals first
      | exact .manualChange s p x y
      | exact base.trans (.enterDead _ p _ _)
      | exact base.trans (.enterRecovering _ p _ _)
      | exact base.trans (.endClosed _ p _)
      | exact base.trans (.endSequence _ p _ _)

theorem SeqFrame.changeReport (s : State) (a : Addr) (owner : Nat) (x : ReportedPos) (y : Selector) :
    SeqFrame s (s.changeReport a owner x y) := by
  unfold State.changeReport
  split
  · exact .refl s
  · rename_i p _
    split
    · exact .refl s
    · split
      · dsimp only
        have base := SeqFrame.modPoint s p fun r => { r with selector := some y }
        generalize (s.modPoint p fun r => { r with selector := some y }) = t at base ⊢
        refine base.trans ?_
        repeat' split
        all_goals first
          | exact .refl _
          | exact .modPoint _ p _
          | exact .manualChange _ p x y
          | exact .positionChange _ p x y
      · exact .refl s

theorem SeqFrame.forgetPosition (s : State) (p : PointNo) (o : SeqOutcome) : SeqFrame s (s.forgetPosition p o) :=
  (SeqFrame.modPoint s p _).trans (.endSequence _ p _ _)

theorem SeqFrame.changeLost (s : State) (a : Addr) : SeqFrame s (s.changeLost a) :=
  forEach_rel SeqFrame.refl SeqFrame.trans (fun p _ s => by
    split
    · exact .forgetPosition s p _
    · exact .refl s) s

theorem SeqFrame.restartPoints (s : State) : SeqFrame s s.restartPoints :=
  forEach_rel SeqFrame.refl SeqFrame.trans (fun p _ s => by
    split
    · exact .forgetPosition s p _
    · exact .refl s) s

/-! ### What a set leaves alone -/

/-- What no run state change of set `n` touches (R76, R78): every block but the sets, the points, the command queue and the notices;
and of the sets, the run state of the others, and every figure that only reports and cycle starts write. -/
structure RunFrame (n : SetNo) (s t : State) : Prop where
  tables : t.tables = s.tables
  site : t.site = s.site
  engine : { t.engine with queue := s.engine.queue } = s.engine
  feeders : t.feeders = s.feeders
  limitFlags : t.limitFlags = s.limitFlags
  others : ∀ k, k ≠ n → { t.setRec k with reservations := [] } = { s.setRec k with reservations := [] }
  figures : (t.setRec n).stopCycle = (s.setRec n).stopCycle ∧ (t.setRec n).unreachable = (s.setRec n).unreachable ∧
    (t.setRec n).latest = (s.setRec n).latest ∧ (t.setRec n).loadFraction = (s.setRec n).loadFraction ∧
    (t.setRec n).baseline = (s.setRec n).baseline ∧ (t.setRec n).localStart = (s.setRec n).localStart ∧
    { (t.setRec n).hire with starts := 0 } = { (s.setRec n).hire with starts := 0 }
  unattributed : t.unattributed = s.unattributed
  tanks : t.tanks = s.tanks
  meters : t.meters = s.meters
  tickets : t.tickets = s.tickets
  schedule : t.schedule = s.schedule
  tariff : t.tariff = s.tariff
  ten : t.ten = s.ten
  billing : t.billing = s.billing
  port : { t.port with
    notices := s.port.notices, nextNotice := s.port.nextNotice, overflow := s.port.overflow } = s.port
  due : t.due = s.due
  pending : t.pending = s.pending

theorem RunFrame.refl (n : SetNo) (s : State) : RunFrame n s s := by
  constructor <;> first | rfl | (intros; rfl) | exact ⟨rfl, rfl, rfl, rfl, rfl, rfl, rfl⟩

theorem RunFrame.trans {n : SetNo} {a b c : State} (h : RunFrame n a b) (k : RunFrame n b c) : RunFrame n a c where
  tables := k.tables.trans h.tables
  site := k.site.trans h.site
  engine := by
    have e := congrArg (fun x : Engine => { x with queue := a.engine.queue }) k.engine
    exact e.trans h.engine
  feeders := k.feeders.trans h.feeders
  limitFlags := k.limitFlags.trans h.limitFlags
  others m hm := (k.others m hm).trans (h.others m hm)
  figures := by
    obtain ⟨a1, a2, a3, a4, a5, a6, a7⟩ := h.figures
    obtain ⟨b1, b2, b3, b4, b5, b6, b7⟩ := k.figures
    exact ⟨b1.trans a1, b2.trans a2, b3.trans a3, b4.trans a4, b5.trans a5, b6.trans a6, b7.trans a7⟩
  unattributed := k.unattributed.trans h.unattributed
  tanks := k.tanks.trans h.tanks
  meters := k.meters.trans h.meters
  tickets := k.tickets.trans h.tickets
  schedule := k.schedule.trans h.schedule
  tariff := k.tariff.trans h.tariff
  ten := k.ten.trans h.ten
  billing := k.billing.trans h.billing
  port := by
    have e := congrArg (fun x : Port =>
      { x with notices := a.port.notices, nextNotice := a.port.nextNotice, overflow := a.port.overflow }) k.port
    exact e.trans h.port
  due := k.due.trans h.due
  pending := k.pending.trans h.pending

theorem SeqFrame.runFrame {n : SetNo} {s t : State} (h : SeqFrame s t) : RunFrame n s t where
  tables := h.tables
  site := h.site
  engine := h.engine
  feeders := h.feeders
  limitFlags := h.limitFlags
  others k _ := h.sets k
  figures := by
    have e := h.sets n
    simp only [SetRec.mk.injEq] at e
    obtain ⟨-, e2, -, -, e5, e6, e7, -, -, e10, e11, e12⟩ := e
    exact ⟨e2, e5, e6, e7, e10, e12, by rw [e11]⟩
  unattributed := h.unattributed
  tanks := h.tanks
  meters := h.meters
  tickets := h.tickets
  schedule := h.schedule
  tariff := h.tariff
  ten := h.ten
  billing := h.billing
  port := h.port
  due := h.due
  pending := h.pending

/-- An update of set `n` that keeps its figures. -/
theorem RunFrame.modSet (n : SetNo) (s : State) {f : SetRec → SetRec}
    (h : ∀ r, (f r).stopCycle = r.stopCycle ∧ (f r).unreachable = r.unreachable ∧ (f r).latest = r.latest ∧
      (f r).loadFraction = r.loadFraction ∧ (f r).baseline = r.baseline ∧ (f r).localStart = r.localStart ∧
      { (f r).hire with starts := 0 } = { r.hire with starts := 0 }) : RunFrame n s (s.modSet n f) := by
  constructor <;> first | rfl | skip
  · intro k hk
    simp [State.modSet, State.setRec, State.putSet, Fin.val_inj, Ne.symm hk]
  · have e : (s.modSet n f).setRec n = f (s.setRec n) := by simp [State.modSet, State.setRec, State.putSet]
    rw [e]; exact h _

theorem RunFrame.dropUncalled (n : SetNo) (s : State) : RunFrame n s (s.dropUncalled n) := by
  unfold State.dropUncalled
  dsimp only
  split
  · split
    · exact .modSet n s fun _ => ⟨rfl, rfl, rfl, rfl, rfl, rfl, rfl⟩
    · exact (SeqFrame.withdraw s _).runFrame.trans (.modSet n _ fun _ => ⟨rfl, rfl, rfl, rfl, rfl, rfl, rfl⟩)
  all_goals exact .modSet n s fun _ => ⟨rfl, rfl, rfl, rfl, rfl, rfl, rfl⟩

/-- A change of run state touches nothing but what sets and sequencers touch (R76, R78). -/
theorem RunFrame.changeRun (n : SetNo) (s : State) (run : RunState) (why : StateReason) (k : Option Nat) :
    RunFrame n s (s.changeRun n run why k) := by
  unfold State.changeRun
  dsimp only
  have base : RunFrame n s (s.modSet n fun r => { r with run, overloadRun := 0 }) :=
    .modSet n s fun _ => ⟨rfl, rfl, rfl, rfl, rfl, rfl, rfl⟩
  generalize (s.modSet n fun r => { r with run, overloadRun := 0 }) = t at base ⊢
  refine (base.trans (.dropUncalled n t)).trans ?_
  generalize t.dropUncalled n = u
  exact ((SeqFrame.raiseMarked u _ _).trans (SeqFrame.tellSequencers _ n)).runFrame

/-- What a change of run state makes of the run state, and of the overload run (R76, R90). -/
theorem State.changeRun_run (n : SetNo) (s : State) (run : RunState) (why : StateReason) (k : Option Nat) :
    ((s.changeRun n run why k).setRec n).run = run ∧ ((s.changeRun n run why k).setRec n).overloadRun = 0 := by
  have drop : ∀ t : State, ((t.dropUncalled n).setRec n).run = (t.setRec n).run ∧
      ((t.dropUncalled n).setRec n).overloadRun = (t.setRec n).overloadRun := by
    intro t
    unfold State.dropUncalled
    dsimp only
    split
    · split <;> simp [State.modSet, State.setRec, State.putSet, State.withdraw]
    all_goals simp [State.modSet, State.setRec, State.putSet]
  unfold State.changeRun
  dsimp only
  have base : ((s.modSet n fun r => { r with run, overloadRun := 0 }).setRec n).run = run ∧
      ((s.modSet n fun r => { r with run, overloadRun := 0 }).setRec n).overloadRun = 0 := by
    simp [State.modSet, State.setRec, State.putSet]
  generalize (s.modSet n fun r => { r with run, overloadRun := 0 }) = t at base ⊢
  have d := drop t
  generalize t.dropUncalled n = u at d ⊢
  have e := ((SeqFrame.raiseMarked u false (.setState n (s.setRec n).run.name run.name why k u.engine.cycleNo)).trans
    (SeqFrame.tellSequencers _ n)).sets n
  simp only [SetRec.mk.injEq] at e
  obtain ⟨e1, -, -, -, -, -, -, e8, -, -, -, -⟩ := e
  exact ⟨e1.trans (d.1.trans base.1), e8.trans (d.2.trans base.2)⟩

theorem RunFrame.tryEnqueueSet (n : SetNo) (s : State) : RunFrame n s (s.tryEnqueueSet n) := by
  unfold State.tryEnqueueSet
  dsimp only
  split
  · split
    · refine RunFrame.trans ?_ (.changeRun n _ _ _ _)
      exact .modSet n s fun _ => ⟨rfl, rfl, rfl, rfl, rfl, rfl, rfl⟩
    · split
      · exact .refl n s
      · split
        · exact .refl n s
        · rename_i h
          refine (SeqFrame.enqueue h).runFrame.trans ?_
          exact .modSet n _ fun _ => ⟨rfl, rfl, rfl, rfl, rfl, rfl, rfl⟩
  · exact .refl n s

theorem RunFrame.makeDue (n : SetNo) (s : State) (c : Code) : RunFrame n s (s.makeDue n c) := by
  unfold State.makeDue
  refine RunFrame.trans ?_ (.tryEnqueueSet n _)
  exact .modSet n s fun _ => ⟨rfl, rfl, rfl, rfl, rfl, rfl, rfl⟩

theorem RunFrame.enterFault (n : SetNo) (s : State) (why : FaultReason) (k : Option Nat) :
    RunFrame n s (s.enterFault n why k) := .changeRun n s _ _ _

theorem RunFrame.enterStarting (n : SetNo) (s : State) (why : StateReason) : RunFrame n s (s.enterStarting n why) :=
  (RunFrame.changeRun n s _ _ _).trans (.makeDue n _ _)

theorem RunFrame.enterStopping (n : SetNo) (s : State) (why : StateReason) : RunFrame n s (s.enterStopping n why) :=
  (RunFrame.changeRun n s _ _ _).trans (.makeDue n _ _)

theorem RunFrame.enterWarming (n : SetNo) (s : State) (c : Nat) (why : StateReason) :
    RunFrame n s (s.enterWarming n c why) := by
  unfold State.enterWarming
  dsimp only
  have base := (RunFrame.changeRun n s (.warming c) why none).trans (.modSet n _
    (f := fun r => { r with hire := { r.hire with starts := satAdd max64 r.hire.starts 1 } })
    fun _ => ⟨rfl, rfl, rfl, rfl, rfl, rfl, rfl⟩)
  split
  · exact base.trans (.changeRun n _ _ _ _)
  · exact base

theorem RunFrame.enterCooling (n : SetNo) (s : State) (c : Nat) : RunFrame n s (s.enterCooling n c) := by
  unfold State.enterCooling
  dsimp only
  split
  · exact (RunFrame.changeRun n s _ _ _).trans (.enterStopping n _ _)
  · exact .changeRun n s _ _ _

theorem RunFrame.endAttempt (n : SetNo) (s : State) : RunFrame n s (s.endAttempt n) := by
  unfold State.endAttempt
  split
  · split
    · exact .changeRun n s _ _ _
    · split
      · refine RunFrame.trans ?_ (.makeDue n _ _)
        exact .modSet n s fun _ => ⟨rfl, rfl, rfl, rfl, rfl, rfl, rfl⟩
      · exact .enterFault n s _ _
  · exact .refl n s

theorem RunFrame.expireWarmUp (n : SetNo) (s : State) : RunFrame n s (s.expireWarmUp n) := by
  unfold State.expireWarmUp
  split
  · exact .changeRun n s _ _ _
  · exact .refl n s

theorem RunFrame.expireCoolDown (n : SetNo) (s : State) : RunFrame n s (s.expireCoolDown n) := by
  unfold State.expireCoolDown
  split
  · exact .enterStopping n s _
  · exact .refl n s

theorem RunFrame.expireCrank (n : SetNo) (s : State) : RunFrame n s (s.expireCrank n) := by
  unfold State.expireCrank
  split
  · exact .endAttempt n s
  · exact .refl n s

theorem RunFrame.startRequest (n : SetNo) (s : State) : RunFrame n s (s.startRequest n).1 := by
  have clear : RunFrame n s (s.modSet n SetRec.clearStopPending) :=
    .modSet n s fun r => by
      unfold SetRec.clearStopPending
      split <;> exact ⟨rfl, rfl, rfl, rfl, rfl, rfl, rfl⟩
  unfold State.startRequest
  split
  · split
    · exact .refl n s
    · have start := RunFrame.enterStarting n s .sequencer
      generalize s.enterStarting n .sequencer = t at start ⊢
      exact start
  · exact clear
  all_goals exact .refl n s

/-! ### Tanks (R100, R104) -/

/-- Through the clamp the book stays between 0 and the capacity in force, and what does not fit is an adjustment: nothing is lost
(R100). -/
theorem clamp_book (capacity : Nat) (level : Int) :
    0 ≤ max 0 (min (capacity : Int) level) ∧ max 0 (min (capacity : Int) level) ≤ capacity := by omega

/-- Recording an adjustment leaves every book, capacity and residue alone. -/
theorem State.recordAdjustment_tank (s : State) (n k : SetNo) (x : Int) :
    ((s.recordAdjustment n x).tank k).book = (s.tank k).book ∧
      ((s.recordAdjustment n x).tank k).capacity = (s.tank k).capacity ∧
      ((s.recordAdjustment n x).tank k).residue = (s.tank k).residue ∧
      ((s.recordAdjustment n x).tank k).discCount = (s.tank k).discCount := by
  by_cases h : n = k
  · subst h
    simp [State.recordAdjustment, State.modHire, State.modSet, State.putSet, State.modTank, State.putTank, State.tank]
  · have : (n : Nat) ≠ k := fun e => h (Fin.ext e)
    simp [State.recordAdjustment, State.modHire, State.modSet, State.putSet, State.modTank, State.putTank, State.tank,
      this]

/-- Setting a tank flag leaves every book, capacity, residue and count alone. -/
theorem State.setDiscrepancy_tank (s : State) (n k : SetNo) (x : Option Int) (y : Option Nat) :
    ((s.setDiscrepancy n x y).tank k).book = (s.tank k).book ∧
      ((s.setDiscrepancy n x y).tank k).capacity = (s.tank k).capacity ∧
      ((s.setDiscrepancy n x y).tank k).residue = (s.tank k).residue ∧
      ((s.setDiscrepancy n x y).tank k).discCount = (s.tank k).discCount := by
  unfold State.setDiscrepancy
  dsimp only
  split
  · exact ⟨rfl, rfl, rfl, rfl⟩
  · by_cases h : n = k
    · subst h
      simp [State.modTank, State.putTank, State.tank, State.raise, State.raiseMarked]
    · have : (n : Nat) ≠ k := fun e => h (Fin.ext e)
      simp [State.modTank, State.putTank, State.tank, State.raise, State.raiseMarked, this]

theorem State.testThresholds_tank (s : State) (n k : SetNo) :
    ((s.testThresholds n).tank k).book = (s.tank k).book ∧
      ((s.testThresholds n).tank k).capacity = (s.tank k).capacity ∧
      ((s.testThresholds n).tank k).residue = (s.tank k).residue ∧
      ((s.testThresholds n).tank k).discCount = (s.tank k).discCount := by
  have low : ∀ (t : State) (e : SetEntry), ((t.testLow n e).tank k).book = (t.tank k).book ∧
      ((t.testLow n e).tank k).capacity = (t.tank k).capacity ∧
      ((t.testLow n e).tank k).residue = (t.tank k).residue ∧
      ((t.testLow n e).tank k).discCount = (t.tank k).discCount := by
    intro t e
    unfold State.testLow
    dsimp only
    split
    · by_cases h : n = k
      · subst h
        simp [State.modTank, State.putTank, State.tank, State.raise, State.raiseMarked]
      · have : (n : Nat) ≠ k := fun e => h (Fin.ext e)
        simp [State.modTank, State.putTank, State.tank, State.raise, State.raiseMarked, this]
    · exact ⟨rfl, rfl, rfl, rfl⟩
  have reserve : ∀ (t : State) (e : SetEntry), ((t.testReserve n e).tank k).book = (t.tank k).book ∧
      ((t.testReserve n e).tank k).capacity = (t.tank k).capacity ∧
      ((t.testReserve n e).tank k).residue = (t.tank k).residue ∧
      ((t.testReserve n e).tank k).discCount = (t.tank k).discCount := by
    intro t e
    unfold State.testReserve
    dsimp only
    split
    · by_cases h : n = k
      · subst h
        simp [State.modTank, State.putTank, State.tank, State.raise, State.raiseMarked]
      · have : (n : Nat) ≠ k := fun e => h (Fin.ext e)
        simp [State.modTank, State.putTank, State.tank, State.raise, State.raiseMarked, this]
    · exact ⟨rfl, rfl, rfl, rfl⟩
  unfold State.testThresholds
  split
  · exact ⟨rfl, rfl, rfl, rfl⟩
  · rename_i e _
    have a := low s e
    have b := reserve (s.testLow n e) e
    exact ⟨b.1.trans a.1, b.2.1.trans a.2.1, b.2.2.1.trans a.2.2.1, b.2.2.2.trans a.2.2.2⟩

/-- A change of the book, through the clamp: the book of the set takes the clamped level, and no other book, no capacity, no residue
and no discrepancy count changes (R100). -/
theorem State.changeBook_tank (s : State) (n k : SetNo) (d : Int) :
    ((s.changeBook n d).tank k).book =
        (if n = k then (max 0 (min ((s.tank n).capacity : Int) ((s.tank n).book + d))).toNat else (s.tank k).book) ∧
      ((s.changeBook n d).tank k).capacity = (s.tank k).capacity ∧
      ((s.changeBook n d).tank k).residue = (s.tank k).residue ∧
      ((s.changeBook n d).tank k).discCount = (s.tank k).discCount := by
  unfold State.changeBook
  dsimp only
  set level := ((s.tank n).book : Int) + d
  set stored := max 0 (min ((s.tank n).capacity : Int) level)
  have put : ((s.modTank n fun t => { t with book := stored.toNat }).tank k).book =
        (if n = k then stored.toNat else (s.tank k).book) ∧
      ((s.modTank n fun t => { t with book := stored.toNat }).tank k).capacity = (s.tank k).capacity ∧
      ((s.modTank n fun t => { t with book := stored.toNat }).tank k).residue = (s.tank k).residue ∧
      ((s.modTank n fun t => { t with book := stored.toNat }).tank k).discCount = (s.tank k).discCount := by
    by_cases h : n = k
    · subst h; simp [State.modTank, State.putTank, State.tank]
    · have : (n : Nat) ≠ k := fun e => h (Fin.ext e)
      simp [State.modTank, State.putTank, State.tank, this, h]
  generalize (s.modTank n fun t => { t with book := stored.toNat }) = a at put ⊢
  have r := a.recordAdjustment_tank n k (stored - level)
  have b : ∃ b, (if stored = level then a else a.recordAdjustment n (stored - level)) = b ∧
      (b.tank k).book = (a.tank k).book ∧ (b.tank k).capacity = (a.tank k).capacity ∧
      (b.tank k).residue = (a.tank k).residue ∧ (b.tank k).discCount = (a.tank k).discCount := by
    split
    · exact ⟨_, rfl, rfl, rfl, rfl, rfl⟩
    · exact ⟨_, rfl, r⟩
  obtain ⟨b, hb, kb⟩ := b
  rw [hb]
  have dd := b.setDiscrepancy_tank n k (some (stored - level)) none
  have c : ∃ c, (if ((s.tank n).capacity : Int) < level then b.setDiscrepancy n (some (stored - level)) none else b) = c ∧
      (c.tank k).book = (b.tank k).book ∧ (c.tank k).capacity = (b.tank k).capacity ∧
      (c.tank k).residue = (b.tank k).residue ∧ (c.tank k).discCount = (b.tank k).discCount := by
    split
    · exact ⟨_, rfl, dd⟩
    · exact ⟨_, rfl, rfl, rfl, rfl, rfl⟩
  obtain ⟨c, hc, kc⟩ := c
  rw [hc]
  have t := c.testThresholds_tank n k
  exact ⟨t.1.trans (kc.1.trans (kb.1.trans put.1)), t.2.1.trans (kc.2.1.trans (kb.2.1.trans put.2.1)),
    t.2.2.1.trans (kc.2.2.1.trans (kb.2.2.1.trans put.2.2.1)),
    t.2.2.2.trans (kc.2.2.2.trans (kb.2.2.2.trans put.2.2.2))⟩

/-! ### What a cycle start or slot end has left over (log entry 6) -/

theorem forEach_due {α : Type} {xs : List α} {f : α → State → State} (h : ∀ x s, (f x s).due = s.due) (s : State) :
    (forEach xs f s).due = s.due := by
  induction xs generalizing s with
  | nil => rfl
  | cons x xs ih => exact (ih _).trans (h x s)

theorem State.acceptChangeover_due (s : State) (p : PointNo) (side : Side) (cause : Cause) :
    (s.acceptChangeover p side cause).due = s.due := by
  unfold State.acceptChangeover
  split
  · rfl
  · rename_i a b _
    dsimp only
    generalize s.newSequence p side cause a b = q
    have h : ((s.reserve q.targetSet p q.reservedLoad).putSeq p q).due = s.due := rfl
    generalize (s.reserve q.targetSet p q.reservedLoad).putSeq p q = u at h
    have k := (RunFrame.startRequest q.targetSet u).due
    split
    · exact ((SeqFrame.proceed u p q).due).trans h
    · split <;> rename_i e <;> rw [e] at k
      · exact k.trans h
      · exact k.trans h
      · exact ((SeqFrame.proceed _ p q).due).trans (k.trans h)
      · exact ((SeqFrame.endSequence _ p _ _).due).trans (k.trans h)

theorem State.autoRequest_due (s : State) (p : PointNo) (n : SetNo) (cause : Cause) :
    (s.autoRequest p n cause).due = s.due := by
  unfold State.autoRequest
  dsimp only
  repeat' split
  all_goals first | rfl | exact State.acceptChangeover_due ..

theorem State.markAll_due (s : State) (m : Marks → Marks) : (s.markAll m).due = s.due :=
  forEach_due (fun k s => by split <;> rfl) s

theorem State.testThresholds_due (s : State) (n : SetNo) : (s.testThresholds n).due = s.due := by
  unfold State.testThresholds State.testLow State.testReserve
  dsimp only
  repeat' split
  all_goals rfl

theorem State.endSession_due (s : State) (m : MeterNo) (d : SessionEnd) : (s.endSession m d).due = s.due := by
  unfold State.endSession
  split
  · rfl
  · dsimp only
    split <;> rfl

theorem State.handStep_due (s : State) (x : FeederStep) : (s.handStep x).due = s.due := by
  unfold State.handStep State.attribute State.billStep
  repeat' split
  all_goals rfl

theorem State.walkSchedule_due (s : State) : s.walkSchedule.due = s.due := by
  unfold State.walkSchedule
  split
  · rfl
  · rename_i now _
    have h : ∀ (xs : List ScheduleEntry) (acc : State × List PointNo),
        (xs.foldl (State.walkEntry now) acc).1.due = acc.1.due := by
      intro xs
      induction xs with
      | nil => intro _; rfl
      | cons e xs ih =>
        intro acc
        refine (ih _).trans ?_
        rcases acc with ⟨s, settled⟩
        unfold State.walkEntry
        dsimp only
        repeat' split
        · rfl
        · rfl
        · unfold State.fireScheduled
          split
          · rfl
          · exact State.acceptChangeover_due ..
        · rfl
    exact h _ _

theorem State.closeOff_due (s : State) (f : FeederNo) : (s.closeOff f).due = s.due := by
  unfold State.closeOff
  split
  · split
    · exact State.handStep_due ..
    · rfl
  · rfl

theorem State.closeAccount_due (s : State) (a b : Nat) (c : Bool) (k : AccountNo) :
    (s.closeAccount a b c k).due = s.due := by
  unfold State.closeAccount
  split <;> rfl

theorem State.setMark_due (s : State) (n : SetNo) (b : Bool) : (s.setMark n b).due = s.due := by
  unfold State.setMark
  split
  · rfl
  · exact (SeqFrame.tellSequencers _ n).due

theorem State.becomeLost_due (s : State) (a : Addr) (e : UnitEntry) : (s.becomeLost a e).due = s.due := by
  unfold State.becomeLost
  dsimp only
  split
  · exact forEach_due (f := fun f s => State.missPoll s f .missing) (fun _ _ => rfl) _
  · exact forEach_due (fun n s => State.setMark_due s n true) _
  · exact (SeqFrame.changeLost _ a).due
  · unfold State.meterLost
    split
    · rfl
    · exact State.endSession_due ..

theorem State.tellClose_due (s : State) : s.tellClose.due = s.due := by
  unfold State.tellClose
  split <;> rfl

theorem State.extendIntervals_due (s : State) (i : OpenInterval) (now : Nat) :
    (s.extendIntervals i now).due = s.due := by
  unfold State.extendIntervals State.raiseRecords State.raise State.raiseMarked
  dsimp only
  exact State.markAll_due ..

theorem State.testClose_due (s : State) : s.testClose.due = s.due := by
  unfold State.testClose
  split
  · rename_i i now _ _
    split
    · split
      · unfold State.closeIntervals State.highWater
        dsimp only
        generalize hu : forEach s.activeAccounts _ s = u
        have h : u.due = s.due := hu ▸ forEach_due (fun k s => State.closeAccount_due ..) s
        have k := (State.tellClose_due u).trans h
        have o : ∀ (w : State) (a : Nat) (b : Bool), (w.openIntervals a b).due = w.due := fun w a b =>
          forEach_due (f := fun k s => s.modAccount k fun r => { r with marks := { Marks.clear with short := !b } })
            (fun _ _ => rfl) _
        have c : ∀ (P : Prop) [Decidable P] (w : State) (r : RecordsReason), w.due = s.due →
            (if P then w.raiseRecords r else w).due = s.due := fun P _ w r e => by split <;> exact e
        refine c _ _ _ ?_
        split
        · exact (o ..).trans k
        · exact (o ..).trans k
        · rename_i h
          split at h <;> cases h
      · exact State.extendIntervals_due s i now
    · rfl
  · rfl

/-- No timed event leaves another to a command of its own. -/
theorem State.happen_due (s : State) (x : TimedEvent) : (s.happen x).due = s.due := by
  have w : ∀ (p : PointNo) (c : PhaseCounter) (f : Sequence → State), (∀ q, (f q).due = s.due) →
      (s.whenCounter p c f).due = s.due := by
    intro p c f h
    unfold State.whenCounter
    split
    · split
      · exact h _
      · rfl
    · rfl
  cases x with
  | loadRequest n =>
    show (s.raiseLoad n).due = s.due
    unfold State.raiseLoad
    repeat' split
    all_goals first | rfl | exact State.autoRequest_due ..
  | holdLimit f => exact State.closeOff_due s f
  | warmUp n => exact (RunFrame.expireWarmUp n s).due
  | coolDown n => exact (RunFrame.expireCoolDown n s).due
  | crankWindow n => exact (RunFrame.expireCrank n s).due
  | prepare p => exact w p _ _ fun q => (SeqFrame.endSequence s p _ _).due
  | confirm p => exact w p _ _ fun q => (SeqFrame.expireConfirm s p q).due
  | deadTime p => exact w p _ _ fun q => (SeqFrame.expireDead s p q).due
  | window p => exact w p _ _ fun q => (SeqFrame.windowCheck s p q).due
  | ticketWait m =>
    show (s.expireTicketWait m).due = s.due
    unfold State.expireTicketWait
    repeat' split
    all_goals first | rfl | exact State.endSession_due ..
  | schedule => exact State.walkSchedule_due s
  | intervalClose => exact State.testClose_due s
  | linkLost a =>
    show (s.expireLink a).due = s.due
    unfold State.expireLink
    repeat' split
    all_goals first | rfl | exact State.becomeLost_due ..
  | discrepancy n =>
    show (s.expireDiscrepancy n).due = s.due
    unfold State.expireDiscrepancy State.setDiscrepancy
    dsimp only
    repeat' split
    all_goals rfl

/-- A timed event as a command of its own takes itself off what is left over, and nothing else. -/
theorem State.takeEvent_due (s : State) (x : TimedEvent) : (s.takeEvent x).due = s.due.erase x := by
  unfold State.takeEvent
  split
  · exact State.happen_due _ x
  · rename_i h
    exact (List.erase_of_not_mem (by simpa using h)).symm

/-- With nothing left over there is nothing to take first. -/
theorem State.settle_nil {s : State} (h : s.due = []) : s.settle = s := by
  simp [State.settle, h]

/-- What was left over has all been taken. -/
theorem State.settle_due (s : State) : s.settle.due = [] := by
  have h : ∀ (xs : List TimedEvent) (s : State), s.due = xs →
      (forEach xs (fun x s => s.takeEvent x) s).due = [] := by
    intro xs
    induction xs with
    | nil => intro s h; exact h
    | cons x xs ih =>
      intro s h
      refine ih _ ?_
      rw [State.takeEvent_due, h, List.erase_cons_head]
  unfold State.settle
  split
  · assumption
  · exact h _ s rfl

/-- Taking what was left over twice is taking it once. -/
theorem State.settle_settle (s : State) : s.settle.settle = s.settle := State.settle_nil s.settle_due

/-! ### The taking of a request (R182, R183; log entry 9) -/

/-- With no response waiting, no frame received and nothing left over, a request is taken at once. -/
theorem State.quiet_calm {s : State} (h : s.port.response = none) (h' : s.port.rxQueue = []) (hd : s.due = []) :
    s.quiet = s := by
  simp [State.quiet, State.settle_nil hd, h', State.drain, h]

/-- A response is placed, and begun where the transmitter is free. -/
theorem State.respond_startTx (destination tag kind : Byte) (x : State × Reply) :
    (State.respond destination tag kind x).startTx =
      { x.1 with port := { x.1.port with
          response := some ⟨destination, tag, kind, x.2⟩
          tx := x.1.port.tx.or (some .response) } } := by
  rcases x with ⟨t, r⟩
  cases h : t.port.tx <;> simp [State.respond, State.startTx, Port.startTx, Port.nextFrame, h]

/-- A request taken while the Port is calm. -/
theorem State.serve_calm {s : State} (h : s.port.response = none) (h' : s.port.rxQueue = []) (hd : s.due = [])
    (destination tag kind : Byte) (r : Request) : s.serve destination tag kind r =
      { (r s).1 with port := { (r s).1.port with
          response := some ⟨destination, tag, kind, (r s).2⟩
          tx := (r s).1.port.tx.or (some .response) } } := by
  simp only [State.serve, State.quiet_calm h h' hd, State.respond_startTx]

/-! ### The step -/

/-- The queue is first in, first out. -/
theorem step_cons {s : State} {c : Instr} {rest : List Instr} (h : s.pending = c :: rest) :
    step s = exec c { s with pending := rest } := by
  simp [step, h]

/-- With no command waiting, time passes once nothing is left over (log entries 1, 6). -/
theorem step_nil {s : State} (h : s.pending = []) : step s = .next s.settle.idleTick := by
  simp [step, h, State.idle]

/-- With no command waiting and nothing left over, time passes (log entry 1). -/
theorem step_idle {s : State} (h : s.pending = []) (hd : s.due = []) : step s = .next s.idleTick := by
  rw [step_nil h, State.settle_nil hd]

end Sys2Proof.Machine
end

