-- ==== Sys2Proof/Laws/PerInstr.lean ====
section
/-! SUPPORT. One statement for every command, by constructor: the frame of a well-formed command fits the office line (R179). -/

namespace Sys2Proof.Laws

open Sys2Proof Sys2Proof.Machine

theorem beBytes_length (w n : Nat) : (beBytes w n).length = w := by
  induction w generalizing n with
  | zero => rfl
  | succ w ih => simp [beBytes, ih]

theorem packed_length_le (ws vs : List Nat) : (packed ws vs).length ≤ ws.sum := by
  induction ws generalizing vs with
  | nil => cases vs <;> simp [packed]
  | cons w ws ih =>
    cases vs with
    | nil => simp [packed]
    | cons v vs =>
      have := ih vs
      simp only [packed, List.length_append, beBytes_length, List.sum_cons]
      omega

theorem maskBytes_length (w mask : Nat) : (maskBytes w mask).length = w := by
  induction w generalizing mask with
  | zero => rfl
  | succ w ih => simp [maskBytes, ih]

theorem loadPayload_length_le {α : Type} (index : Nat) (form : LoadForm α) (fields : α → List Byte) (most : Nat)
    (h : ∀ u, (fields u).length ≤ most) : (loadPayload index form fields).length ≤ 1 + most := by
  cases form with
  | clear => simp [loadPayload, beBytes_length]
  | entry u =>
    have := h u
    simp only [loadPayload, List.length_append, beBytes_length]
    omega

theorem commonWidths_sum_le (marks : Nat) : (commonWidths marks).sum ≤ 9 := by
  unfold commonWidths
  split <;> split <;> split <;> decide

theorem pointWidths_sum_le (kind marks : Nat) : (pointWidths kind marks).sum ≤ 12 := by
  have := commonWidths_sum_le marks
  simp only [pointWidths, List.sum_append, List.sum_replicate]
  split <;> simp <;> omega

theorem pointBytes_length_le (u : PointFields) : (pointBytes u).length ≤ 14 := by
  unfold pointBytes
  simp only [List.length_append, beBytes_length]
  refine Nat.le_trans (Nat.add_le_add_left (packed_length_le _ _) _) ?_
  split
  · have := commonWidths_sum_le ([u.deadTime.isSome, u.confirmTimeout.isSome, u.prepareLimit.isSome].foldr
      (fun b acc => b.toNat + 2 * acc) 0)
    omega
  · have := pointWidths_sum_le (sourceParts u.source).1 ([u.deadTime.isSome, u.confirmTimeout.isSome,
      u.prepareLimit.isSome].foldr (fun b acc => b.toNat + 2 * acc) 0)
    omega

theorem bands_length (bands : List Band) : ((bands.map Band.bytes).flatten).length = 6 * bands.length := by
  induction bands with
  | nil => rfl
  | cons b bands ih =>
    simp only [List.map_cons, List.flatten_cons, List.length_append, List.length_cons, ih, Band.bytes, beBytes_length]
    omega

namespace Fits

/-- A well-formed command's frame, where it has one, has a payload of at most 1024 bytes. -/
def Statement (i : Instr) : Prop :=
  i.wellFormed = true → ∀ f, officeFrameOf i = some f → f.payload.length ≤ 1024

/-- A command that no frame carries. -/
theorem of_none {i : Instr} (h : officeFrameOf i = none) : Statement i := by
  intro _ f hf
  rw [h] at hf; cases hf

/-- A management request with a short payload. -/
theorem of_manage {i : Instr} {tag : Byte} {kind : Nat} {payload : List Byte}
    (h : officeFrameOf i = manageFrame tag kind payload) (n : Nat) (hl : payload.length ≤ n) (hn : n ≤ 1024) :
    Statement i := by
  intro _ f hf
  rw [h] at hf
  cases hf
  exact Nat.le_trans hl hn

/-- A pass-through command with at most 8 arguments. -/
theorem of_pass {i : Instr} {tag : Byte} {a : Addr} {code : Code} {args : List Byte}
    (h : officeFrameOf i = passFrame tag a code args) (hw : i.wellFormed = true → args.length ≤ 8) : Statement i := by
  intro w f hf
  rw [h] at hf
  cases hf
  have := hw w
  simp only [List.length_append, beBytes_length]
  omega

theorem powerOnReset (ten : Bool) : Statement (.powerOnReset ten) := of_none rfl

theorem lineReset : Statement .lineReset := of_none rfl

theorem tenFall : Statement .tenFall := of_none rfl

theorem cycleStart (selectLast : Bool) (deferred : List TimedEvent) : Statement (.cycleStart selectLast deferred) :=
  of_none rfl

theorem loadChangeoverRequest (set : SetNo) : Statement (.loadChangeoverRequest set) := of_none rfl

theorem holdLimitCloseOff (feeder : FeederNo) : Statement (.holdLimitCloseOff feeder) := of_none rfl

theorem warmUpExpiry (set : SetNo) : Statement (.warmUpExpiry set) := of_none rfl

theorem coolDownExpiry (set : SetNo) : Statement (.coolDownExpiry set) := of_none rfl

theorem crankWindowExpiry (set : SetNo) : Statement (.crankWindowExpiry set) := of_none rfl

theorem prepareTimeout (point : PointNo) : Statement (.prepareTimeout point) := of_none rfl

theorem confirmTimeout (point : PointNo) : Statement (.confirmTimeout point) := of_none rfl

theorem deadTimeExpiry (point : PointNo) : Statement (.deadTimeExpiry point) := of_none rfl

theorem windowExpiry (point : PointNo) : Statement (.windowExpiry point) := of_none rfl

theorem ticketWaitExpiry (meter : MeterNo) : Statement (.ticketWaitExpiry meter) := of_none rfl

theorem scheduleFire : Statement .scheduleFire := of_none rfl

theorem intervalCloseDue : Statement .intervalCloseDue := of_none rfl

theorem slotEnd (received : SlotInput) (deferred : List TimedEvent) : Statement (.slotEnd received deferred) :=
  of_none rfl

theorem linkLost (unit : Addr) : Statement (.linkLost unit) := of_none rfl

theorem discrepancySet (set : SetNo) : Statement (.discrepancySet set) := of_none rfl

theorem byteGapTimeout : Statement .byteGapTimeout := of_none rfl

theorem officeFrameReceived (ten : Bool) (orx : List OrxByte) : Statement (.officeFrameReceived ten orx) := of_none rfl

theorem frameTransmitted : Statement .frameTransmitted := of_none rfl

theorem readStatus (tag : Byte) (ten : Bool) : Statement (.readStatus tag ten) :=
  of_manage rfl 0 (Nat.le_refl _) (by decide)

theorem setClock (tag : Byte) (day second ms : Nat) : Statement (.setClock tag day second ms) :=
  of_manage rfl 15 (Nat.le_trans (packed_length_le _ _) (by decide)) (by decide)

theorem setCycle (tag : Byte) (period : Nat) : Statement (.setCycle tag period) :=
  of_manage rfl 15 (Nat.le_trans (packed_length_le _ _) (by decide)) (by decide)

theorem startCycles (tag : Byte) : Statement (.startCycles tag) := of_manage rfl 0 (Nat.le_refl _) (by decide)

theorem stopCycles (tag : Byte) : Statement (.stopCycles tag) := of_manage rfl 0 (Nat.le_refl _) (by decide)

theorem goLive (tag : Byte) : Statement (.goLive tag) := of_manage rfl 0 (Nat.le_refl _) (by decide)

theorem standDown (tag : Byte) : Statement (.standDown tag) := of_manage rfl 0 (Nat.le_refl _) (by decide)

theorem fieldRestart (tag : Byte) : Statement (.fieldRestart tag) := of_manage rfl 0 (Nat.le_refl _) (by decide)

theorem loadUnit (tag : Byte) (address : Nat) (form : LoadForm UnitFields) : Statement (.loadUnit tag address form) :=
  of_manage rfl 6 (loadPayload_length_le _ _ _ 5 fun u => packed_length_le _ _) (by decide)

theorem loadFeeder (tag : Byte) (feeder : Nat) (form : LoadForm FeederFields) : Statement (.loadFeeder tag feeder form) :=
  of_manage rfl 10 (loadPayload_length_le _ _ _ 9 fun u => packed_length_le _ _) (by decide)

theorem loadSet (tag : Byte) (set : Nat) (form : LoadForm SetFields) : Statement (.loadSet tag set form) :=
  of_manage rfl 32 (loadPayload_length_le _ _ _ 31 fun u => packed_length_le _ _) (by decide)

theorem loadPoint (tag : Byte) (point : Nat) (form : LoadForm PointFields) : Statement (.loadPoint tag point form) :=
  of_manage rfl 15 (loadPayload_length_le _ _ _ 14 pointBytes_length_le) (by decide)

theorem loadAccount (tag : Byte) (account : Nat) (form : LoadForm AccountFields) : Statement (.loadAccount tag account form) :=
  of_manage rfl 5 (loadPayload_length_le _ _ _ 4 fun u => packed_length_le _ _) (by decide)

theorem loadSite (tag : Byte) (values : SiteFields) : Statement (.loadSite tag values) :=
  of_manage rfl 15 (Nat.le_trans (packed_length_le _ _) (by decide)) (by decide)

theorem loadGate (tag : Byte) (kind : Option UnitKind) (code : Option Code) (permission : Option Permission) : Statement (.loadGate tag kind code permission) :=
  of_manage rfl 15 (Nat.le_trans (packed_length_le _ _) (by decide)) (by decide)

theorem readTable (tag : Byte) (table : Option TableName) (index : Nat) : Statement (.readTable tag table index) :=
  of_manage rfl 15 (Nat.le_trans (packed_length_le _ _) (by decide)) (by decide)

theorem readUnit (tag : Byte) (address : Nat) : Statement (.readUnit tag address) :=
  of_manage rfl 15 (Nat.le_trans (packed_length_le _ _) (by decide)) (by decide)

theorem readFeeder (tag : Byte) (feeder : Nat) : Statement (.readFeeder tag feeder) :=
  of_manage rfl 15 (Nat.le_trans (packed_length_le _ _) (by decide)) (by decide)

theorem readSet (tag : Byte) (set : Nat) : Statement (.readSet tag set) :=
  of_manage rfl 15 (Nat.le_trans (packed_length_le _ _) (by decide)) (by decide)

theorem readPoint (tag : Byte) (point : Nat) : Statement (.readPoint tag point) :=
  of_manage rfl 15 (Nat.le_trans (packed_length_le _ _) (by decide)) (by decide)

theorem readAccount (tag : Byte) (account : Nat) : Statement (.readAccount tag account) :=
  of_manage rfl 15 (Nat.le_trans (packed_length_le _ _) (by decide)) (by decide)

theorem clearFlagsFeederLimit (tag : Byte) (mask : Nat) : Statement (.clearFlagsFeederLimit tag mask) :=
  of_manage rfl 5 (by simp only [List.length_append, beBytes_length, maskBytes_length]; omega) (by decide)

theorem clearFlagsSetFlag (tag : Byte) (mask : Nat) : Statement (.clearFlagsSetFlag tag mask) :=
  of_manage rfl 5 (by simp only [List.length_append, beBytes_length, maskBytes_length]; omega) (by decide)

theorem clearFlagsTankFlag (tag : Byte) (mask : Nat) (names : TankFlagNames) : Statement (.clearFlagsTankFlag tag mask names) :=
  of_manage rfl 5 (by simp only [List.length_append, beBytes_length, maskBytes_length, List.length_cons, List.length_nil]; omega) (by decide)

theorem clearFlagsPointFlag (tag : Byte) (mask : Nat) : Statement (.clearFlagsPointFlag tag mask) :=
  of_manage rfl 5 (by simp only [List.length_append, beBytes_length, maskBytes_length]; omega) (by decide)

theorem clearFlagsUnitCounts (tag : Byte) (address : Nat) : Statement (.clearFlagsUnitCounts tag address) :=
  of_manage rfl 15 (Nat.le_trans (packed_length_le _ _) (by decide)) (by decide)

theorem setStart (tag : Byte) (set : Nat) : Statement (.setStart tag set) :=
  of_manage rfl 15 (Nat.le_trans (packed_length_le _ _) (by decide)) (by decide)

theorem setStop (tag : Byte) (set : Nat) : Statement (.setStop tag set) :=
  of_manage rfl 15 (Nat.le_trans (packed_length_le _ _) (by decide)) (by decide)

theorem setClearFault (tag : Byte) (set : Nat) : Statement (.setClearFault tag set) :=
  of_manage rfl 15 (Nat.le_trans (packed_length_le _ _) (by decide)) (by decide)

theorem clearHire (tag : Byte) (set : Nat) : Statement (.clearHire tag set) :=
  of_manage rfl 15 (Nat.le_trans (packed_length_le _ _) (by decide)) (by decide)

theorem changeover (tag : Byte) (point : Nat) (side : Option Side) : Statement (.changeover tag point side) :=
  of_manage rfl 15 (Nat.le_trans (packed_length_le _ _) (by decide)) (by decide)

theorem cancelChangeover (tag : Byte) (point : Nat) : Statement (.cancelChangeover tag point) :=
  of_manage rfl 15 (Nat.le_trans (packed_length_le _ _) (by decide)) (by decide)

theorem loadSchedule (tag : Byte) (day second : Nat) (point : Nat) (side : Option Side) : Statement (.loadSchedule tag day second point side) :=
  of_manage rfl 15 (Nat.le_trans (packed_length_le _ _) (by decide)) (by decide)

theorem deleteSchedule (tag : Byte) (point : Nat) (day second : Nat) : Statement (.deleteSchedule tag point day second) :=
  of_manage rfl 15 (Nat.le_trans (packed_length_le _ _) (by decide)) (by decide)

theorem readSchedule (tag : Byte) : Statement (.readSchedule tag) := of_manage rfl 0 (Nat.le_refl _) (by decide)

theorem tankSet (tag : Byte) (set : Nat) (level : TankLevel) : Statement (.tankSet tag set level) :=
  of_manage rfl 15 (Nat.le_trans (packed_length_le _ _) (by decide)) (by decide)

theorem cancelDelivery (tag : Byte) (meter : Nat) : Statement (.cancelDelivery tag meter) :=
  of_manage rfl 15 (Nat.le_trans (packed_length_le _ _) (by decide)) (by decide)

theorem readTickets (tag : Byte) : Statement (.readTickets tag) := of_manage rfl 0 (Nat.le_refl _) (by decide)

theorem releaseTickets (tag : Byte) (count : Nat) : Statement (.releaseTickets tag count) :=
  of_manage rfl 15 (Nat.le_trans (packed_length_le _ _) (by decide)) (by decide)

theorem loadTariffClass (tag : Byte) (ten : Bool) (identifier : Nat) (mode : Option RoundingMode) (cls : Nat)
      (bands : List Band) : Statement (.loadTariffClass tag ten identifier mode cls bands) := by
  intro w f hf
  cases hf
  simp only [Instr.wellFormed, bandsFit, Bool.and_eq_true, decide_eq_true_eq] at w
  have := w.2.1
  have := packed_length_le [2, 1, 1, 1] [identifier, nameCode roundingCode mode, cls, bands.length]
  simp only [List.sum_cons, List.sum_nil] at this
  simp only [List.length_append, bands_length]
  omega

theorem commitTariff (tag : Byte) (ten : Bool) : Statement (.commitTariff tag ten) :=
  of_manage rfl 0 (Nat.le_refl _) (by decide)

theorem discardTariff (tag : Byte) (ten : Bool) : Statement (.discardTariff tag ten) :=
  of_manage rfl 0 (Nat.le_refl _) (by decide)

theorem trial (tag : Byte) (on : Option Bool) : Statement (.trial tag on) :=
  of_manage rfl 15 (Nat.le_trans (packed_length_le _ _) (by decide)) (by decide)

theorem readTariff (tag : Byte) (ten : Bool) (table : Option TariffName) (cls : Nat) : Statement (.readTariff tag ten table cls) :=
  of_manage rfl 15 (Nat.le_trans (packed_length_le _ _) (by decide)) (by decide)

theorem readRecords (tag : Byte) : Statement (.readRecords tag) := of_manage rfl 0 (Nat.le_refl _) (by decide)

theorem releaseRecords (tag : Byte) (count : Nat) : Statement (.releaseRecords tag count) :=
  of_manage rfl 15 (Nat.le_trans (packed_length_le _ _) (by decide)) (by decide)

theorem closeBill (tag : Byte) (account : Nat) : Statement (.closeBill tag account) :=
  of_manage rfl 15 (Nat.le_trans (packed_length_le _ _) (by decide)) (by decide)

theorem alarmReset (tag : Byte) (unit : Addr) (args : List Byte) : Statement (.alarmReset tag unit args) :=
  of_pass rfl of_decide_eq_true

theorem lampTest (tag : Byte) (unit : Addr) (args : List Byte) : Statement (.lampTest tag unit args) :=
  of_pass rfl of_decide_eq_true

theorem indicate (tag : Byte) (unit : Addr) (args : List Byte) : Statement (.indicate tag unit args) :=
  of_pass rfl of_decide_eq_true

theorem resetMax (tag : Byte) (unit : Addr) (args : List Byte) : Statement (.resetMax tag unit args) :=
  of_pass rfl of_decide_eq_true

theorem identify (tag : Byte) (unit : Addr) (args : List Byte) : Statement (.identify tag unit args) :=
  of_pass rfl of_decide_eq_true

theorem message (tag : Byte) (unit : Addr) (args : List Byte) : Statement (.message tag unit args) :=
  of_pass rfl of_decide_eq_true

theorem headerWindowEnd : Statement .headerWindowEnd := of_none rfl

theorem unlistedOfficeFrame (destination tag kind : Byte) (payload : List Byte) : Statement (.unlistedOfficeFrame destination tag kind payload) := by
  intro w f hf
  cases hf
  simp only [Instr.wellFormed, Bool.and_eq_true, decide_eq_true_eq] at w
  exact w.1

end Fits

end Sys2Proof.Laws
end

