-- ==== Sys2Proof/Tests/Slice0.lean ====
section
/-! SUPPORT. The model's own tests: the well-formedness smoke, bytes written out from the spec's encodings, a few single steps, and
for every statement a state and operands that meet its hypotheses. -/

namespace Sys2Proof.Tests

open Sys2Proof Sys2Proof.Machine Sys2Proof.Stated

/-! ### A small site -/

/-- An enabled unit of class EVERY. -/
def unit (kind : UnitKind) (owner : Nat) : UnitEntry := ⟨kind, true, .every, 0, owner⟩

/-- A set of 100 kW and 1000 decilitres, warmed for 300 cycles or 50, cooled for 60. -/
def hired (a : Addr) : SetEntry :=
  { unit := a, enabled := true, rating := 100, capacity := 1000, noLoadRate := 5000, incrementalRate := 250
    lowLevel := 300, reserveLevel := 100, lowLoadLimit := 300, overloadLimit := 900, overloadHold := 50
    warmUpLong := 300, warmUpShort := 50, hotWindow := 600, coolDown := 60, crankAttempts := 3, crankWindow := 100
    sensorTolerance := 50 }

/-- A point fed through unit 4 from sets 1 and 2. -/
def changed : PointEntry := ⟨.switched 3 0 1, 20, 30, 600, 50, true, true, true⟩

/-- A feeder on position 1 of the board at unit 3, feeding point 1 for account 1. -/
def metered : FeederEntry := ⟨2, 1, 0, 0, .above, 0, 1600⟩

/-- A tariff of one class and one band. -/
def dayTariff : TariffTable := ⟨7, .halfEven, (Vector.replicate 8 none).set 0 (some [⟨0, 2500⟩])⟩

/-- Sets 1 and 2 on units 1 and 2, a board, a changeover unit and a meter; point 1 switched, point 2 fixed on set 1; one feeder, one
account; the clock set and a tariff active; the cycle HALTED and the site in COMMISSION. -/
def demo : State :=
  let s := State.reset
  let s := (((((s.putUnitEntry 0 (some (unit .set 1))).putUnitEntry 1 (some (unit .set 2))).putUnitEntry 2
    (some (unit .board 1))).putUnitEntry 3 (some (unit .change 1))).putUnitEntry 4 (some (unit .fuel 1)))
  let s := (s.putSetEntry 0 (some (hired 0))).putSetEntry 1 (some (hired 1))
  let s := (s.putPointEntry 0 (some changed)).putPointEntry 1 (some { changed with source := .fixed 0 })
  let s := (s.putFeederEntry 0 (some metered)).putAccountEntry 0 (some ⟨true, 0, 1234⟩)
  let s := forEach [0, 1, 2, 3, 4] (fun a s => s.modLink a fun l => { l with state := some .present }) s
  let s := forEach [0, 1] (fun n s => (s.modTank n fun t => { t with capacity := 1000, book := 800 }).modSet n fun r =>
    { r with run := .stopped, latest := some ⟨.stopped, 0, 800, 0, 0⟩, loadFraction := some 0 }) s
  { s.modPoint 0 (fun r => { r with position := .a, selector := some .remote }) with
    tariff := { s.tariff with active := some dayTariff }
    billing := { s.billing with clock := some 86400500 } }

/-- Set `n` of a state in a run state. -/
def atRun (n : SetNo) (run : RunState) (s : State) : State := s.modSet n fun r => { r with run }

/-- A sequence from set 1 to set 2 at point 1. -/
def moving (phase : Phase) (counter : PhaseCounter) : Sequence :=
  { phase, targetSide := .b, targetSet := 1, originalPos := .a, originalSet := some 0, cause := .office
    reservedLoad := 0, verification := none, openCycle := some 0, abort := none, recovery := none, counter }

/-- Point 1 with a sequence in flight. -/
def inFlight (q : Sequence) (pos : SwPos) (s : State) : State :=
  s.modPoint 0 fun r => { r with seq := some q, position := pos }

/-- The site LIVE with an interval open since the day began, and its boundary at `next`. -/
def open_ (next : Nat) (s : State) : State :=
  { s with
    site := { s.site with live := true }
    billing := { s.billing with interval := some ⟨86400, true, next, 0, false⟩ } }

theorem calm_demo : Calm demo := ⟨rfl, rfl, rfl⟩

/-! ### The machine and the invariants: states that meet their hypotheses -/

/-- A command in front of the queue; an empty queue, HALTED, and RUNNING before and at the next cycle start; a command that settles; one
event left over; and one that is not. -/
theorem witness_StepTakesTheFront :
    ({ demo with pending := [.tenFall, .lineReset] } : State).pending = .tenFall :: [.lineReset] ∧
      demo.pending = [] ∧ demo.due = [] ∧ demo.engine.running = false ∧
      ({ demo.engine with running := true, age := 100 } : Engine).cycleLen ≤ 100 ∧
      (∀ x, Instr.tenFall ≠ rowOf x) ∧ (∀ ten, Instr.tenFall ≠ .powerOnReset ten) ∧
      ({ demo with due := [.schedule] } : State).due = [.schedule] ∧ .intervalClose ∉ demo.due :=
  ⟨rfl, rfl, rfl, rfl, by decide, (fun x h => by cases x <;> cases h), (fun _ h => by cases h), rfl, by decide⟩

theorem idle_points : ∀ p, (demo.pointRec p).seq = none := by decide

theorem witness_StepKeepsCapacities : demo.Bounded ∧ step demo = .next demo.idleTick :=
  ⟨⟨⟨by decide, by decide⟩, by decide, by decide, by decide, ⟨by decide, by decide, by decide, by decide, by decide⟩⟩, rfl⟩

theorem witness_StepKeepsTanksSound : demo.TanksSound ∧ step demo = .next demo.idleTick :=
  ⟨fun n => ⟨by revert n; decide, by revert n; decide, by revert n; decide⟩, rfl⟩

/-- A point OPEN in CLOSING, and one that waits for its confirmation in OPENING. -/
theorem witness_StepKeepsDeadPointsOpen :
    (inFlight (moving .closing (.confirm 5)) .opened demo).PointsSound ∧
      (inFlight (moving .opening (.confirm 255)) .a demo).PointsSound := by
  have rest : ∀ (q : Sequence) (x : SwPos) (p : PointNo), p ≠ 0 →
      ((inFlight q x demo).pointRec p).seq = none := by
    intro q x p hp
    have : (inFlight q x demo).pointRec p = demo.pointRec p := by
      have hv : (0 : Nat) ≠ p.val := fun e => hp (Fin.ext e.symm)
      simp only [inFlight, State.modPoint, State.putPoint, State.pointRec, Fin.getElem_fin]
      exact Vector.getElem_set_ne _ _ hv
    rw [this]; exact idle_points p
  refine ⟨fun p => ?_, fun p => ?_⟩ <;> intro q h <;> by_cases hp : p = 0
  · subst hp; cases h; exact ⟨Or.inr (Or.inl rfl), rfl⟩
  · rw [rest _ _ p hp] at h; cases h
  · subst hp; cases h; exact ⟨Or.inl rfl, rfl, by decide⟩
  · rw [rest _ _ p hp] at h; cases h

theorem witness_CommandsKeepRanges : (Instr.setCycle 1 65535).wellFormed = true ∧ demo.site.InRange ∧
    demo.billing.ClockInRange ∧ ∃ t, exec (.setCycle 1 65535) demo = .next t :=
  ⟨by decide, ⟨by decide, by decide, by decide, by decide, by decide, by decide, by decide⟩,
    fun t h => by cases h; decide, _, rfl⟩

theorem witness_StepKeepsLiveSound : (open_ 87300 demo).LiveSound ∧ demo.LiveSound ∧ demo.DueSound ∧
    step demo = .next demo.idleTick :=
  ⟨⟨by decide, by decide, by decide, by decide⟩, ⟨by decide, by decide, by decide, by decide⟩, fun _ => rfl, rfl⟩

/-! ### Commands as frames -/

/-- Every field of a clock setting at its largest value, an entry of every load, and a class of six bands. -/
theorem witness_FrameSpellsTheCommand :
    (∃ f, (Instr.setClock 255 65535 16777215 65535).wellFormed = true ∧
      officeFrameOf (.setClock 255 65535 16777215 65535) = some f) ∧
    (∃ f, (Instr.loadUnit 1 255 (.entry ⟨none, some true, none, 255, 255⟩)).wellFormed = true ∧
      officeFrameOf (.loadUnit 1 255 (.entry ⟨none, some true, none, 255, 255⟩)) = some f) ∧
    (∃ f, (Instr.loadPoint 1 12 (.entry ⟨.switched 63 8 1, none, some 255, some 65535, 65535, none, some true,
        some false⟩)).wellFormed = true ∧
      officeFrameOf (.loadPoint 1 12 (.entry ⟨.switched 63 8 1, none, some 255, some 65535, 65535, none, some true,
        some false⟩)) = some f) ∧
    (∃ f, (Instr.loadTariffClass 1 true 65535 (some .halfUp) 8
        [⟨0, 9999999⟩, ⟨900, 0⟩, ⟨1800, 0⟩, ⟨2700, 0⟩, ⟨3600, 0⟩, ⟨16777215, 16777215⟩]).wellFormed = true ∧
      officeFrameOf (.loadTariffClass 1 true 65535 (some .halfUp) 8
        [⟨0, 9999999⟩, ⟨900, 0⟩, ⟨1800, 0⟩, ⟨2700, 0⟩, ⟨3600, 0⟩, ⟨16777215, 16777215⟩]) = some f) ∧
    (∃ f, (Instr.message 9 62 [1, 2, 3, 4, 5, 6, 7, 8]).wellFormed = true ∧
      officeFrameOf (.message 9 62 [1, 2, 3, 4, 5, 6, 7, 8]) = some f) ∧
    (∃ f, (Instr.unlistedOfficeFrame 64 9 64 []).wellFormed = true ∧
      officeFrameOf (.unlistedOfficeFrame 64 9 64 []) = some f) :=
  ⟨⟨_, by decide, rfl⟩, ⟨_, by decide, rfl⟩, ⟨_, by decide, rfl⟩, ⟨_, by decide, rfl⟩, ⟨_, by decide, rfl⟩,
    ⟨_, by decide, rfl⟩⟩

/-- A response in its slot, with frames waiting behind it. -/
def answering (waiting : Nat) : State :=
  { demo with port := { demo.port with
      response := some ⟨0, 1, 1, ⟨.ok, .none⟩⟩, rxQueue := List.replicate waiting ⟨0, 9, 4, []⟩ } }

/-- The longest payload at a calm Port; three frames waiting, and four; START CYCLES with a wrong check; the lengths next to the good ones; a
missing stop bit within a frame; and a byte that is no delimiter. -/
theorem witness_FrameBytesAreTaken :
    (⟨0, 9, 1, List.replicate 1024 255⟩ : OfficeFrame).payload.length ≤ 1024 ∧ Calm demo ∧ demo.port.rx = .hunting ∧
      ((answering 3).due = [] ∧ (answering 3).port.rx = .hunting ∧ (answering 3).port.response ≠ none ∧
        (answering 3).port.rxQueue.length < 4) ∧
      ((answering 4).due = [] ∧ (answering 4).port.rx = .hunting ∧ 4 ≤ (answering 4).port.rxQueue.length) ∧
      (officeFrameBytes ⟨0, 9, 4, []⟩).drop ((officeFrameBytes ⟨0, 9, 4, []⟩).length - 2) ≠ [112, 205] ∧
      ((0 : Byte).toNat * 256 + (2 : Byte).toNat < 3 ∧ 1027 < (4 : Byte).toNat * 256 + (4 : Byte).toNat) ∧
      ({ demo.port with rx := .partialFrame [0, 3] } : Port).rx = .partialFrame [0, 3] ∧ (0xC2 : Byte) ≠ 0xC3 :=
  ⟨Nat.le_of_eq List.length_replicate, calm_demo, rfl, ⟨rfl, rfl, (fun h => by cases h), by decide⟩,
    ⟨rfl, rfl, by decide⟩, by decide +kernel, by decide, rfl, by decide⟩

/-! ### Resets, TEN and the cycle -/

/-- A delivery of 40 decilitres in hand, and one still waiting for its permission. -/
def delivering : State :=
  (demo.modMeter 0 fun r => { r with session := some ⟨.dispensing, 0, 200, 40, 40, false⟩ }).modMeter 1 fun r =>
    { r with session := some ⟨.granting, 1, 200, 0, 0, false⟩ }

theorem witness_LineReset :
    (∃ x, (delivering.meter 0).session = some x ∧ x.phase ≠ .granting ∧ x.set = 0) ∧
    (∃ y, (delivering.meter 1).session = some y ∧ y.phase = .granting ∧ y.set = 1) ∧
    OpenFor (open_ 87300 demo) 0 ∧ demo.enabledUnit 4 = true ∧ demo.enabledUnit 62 = false ∧ delivering.due = [] :=
  ⟨⟨_, rfl, by decide, rfl⟩, ⟨_, rfl, rfl, rfl⟩, ⟨rfl, rfl, _, rfl, rfl⟩, by decide, by decide, rfl⟩

theorem witness_TenFall :
    ({ demo.tariff with pending := .commitPending dayTariff } : Tariff).pending = .commitPending dayTariff ∧
      demo.tariff.pending.isCommitted = false ∧ ({ demo with ten := true } : State).ten = true ∧ demo.ten = false ∧
      demo.due = [] := ⟨rfl, rfl, rfl, rfl, rfl⟩

/-- The cycle RUNNING, with the slots of its units to end. -/
def cycling (slots : List Addr) : State :=
  { demo with engine := { demo.engine with running := true, slots, cycleNo := 40 } }

theorem done_cycling : CycleDone (cycling []) := ⟨rfl, by decide, rfl⟩

/-- Set 1 ONLINE at a load fraction. -/
def bearing (fraction : Nat) (s : State) : State :=
  (atRun 0 .online s).modSet 0 fun r => { r with loadFraction := some fraction }

/-- Sets below, at and above each load limit, cut off, not hired, warming and cooling; sequences and a session with a counter. -/
theorem witness_CycleStartCounts :
    (cycling []).engine.running = true ∧ demo.engine.running = false ∧ demo.due = [] ∧
      (∀ f ∈ [299, 300, 900, 901], CycleDone (bearing f (cycling [])) ∧
        (bearing f (cycling [])).setEntry 0 = some (hired 0) ∧
        ((bearing f (cycling [])).setRec 0).run = .online ∧ ((bearing f (cycling [])).setRec 0).unreachable = false ∧
        ((bearing f (cycling [])).setRec 0).due = none) ∧
      ((cycling []).setRec 0).run = .stopped ∧
      (((cycling []).modSet 0 fun r => { r with unreachable := true }).setRec 0).unreachable = true ∧
      (∀ run ∈ [RunState.warming 2, .cooling 2], CycleDone (atRun 0 run (cycling [])) ∧
        ((atRun 0 run (cycling [])).setRec 0).run = run ∧ ((atRun 0 run (cycling [])).setRec 0).due = none) ∧
      (∀ count ∈ [PhaseCounter.prepare, .confirm, .dead],
        let s := inFlight (moving .dead (count 2)) .opened (atRun 1 .online (cycling []))
        CycleDone s ∧ (s.pointRec 0).seq = some (moving .dead (count 2)) ∧ (s.pointRec 0).due = none ∧
          (s.pointRec 0).place = .free ∧ s.engine.queue = [] ∧ s.engine.outstanding = none ∧ Online s 1 ∧
          (s.setRec 1).due = none) ∧
      (((cycling []).modMeter 0 fun r => { r with session := some ⟨.ticketing (some 2) none, 0, 0, 0, 0, false⟩ }).meter
        0).session = some ⟨.ticketing (some 2) none, 0, 0, 0, 0, false⟩ := by
  refine ⟨rfl, rfl, rfl, fun f h => ?_, rfl, rfl, fun run h => ?_, fun count h => ?_, rfl⟩ <;>
    simp only [List.mem_cons, List.not_mem_nil, or_false] at h
  · rcases h with rfl | rfl | rfl | rfl <;> exact ⟨⟨rfl, by decide, rfl⟩, rfl, rfl, rfl, rfl⟩
  · rcases h with rfl | rfl <;> exact ⟨⟨rfl, by decide, rfl⟩, rfl, rfl⟩
  · rcases h with rfl | rfl | rfl <;> exact ⟨⟨rfl, by decide, rfl⟩, rfl, rfl, rfl, rfl, rfl, ⟨rfl, rfl⟩, rfl⟩

/-- The engine with a queue, and with a command outstanding. -/
def queueing (cs : List Command) (s : State) : State := { s with engine := { s.engine with queue := cs } }
def awaiting (q : Outstanding) (s : State) : State := { s with engine := { s.engine with outstanding := some q } }

/-- A command from the office to unit 4, and one of set 1. -/
def officeCommand : Command := ⟨3, .indicate, [170], .office 9⟩
def setCommand (code : Code) : Command := ⟨0, code, [], .sets 0⟩

/-- Unit 4 LOST. -/
def changeCut (s : State) : State := s.modLink 3 fun l => { l with state := some .lost }

/-- Both acknowledgements due, the first meter's given last. -/
def bothAcks : State :=
  { cycling [] with engine := { (cycling []).engine with
      acks := #v[some ⟨4, 7⟩, some ⟨4, 8⟩], lastAcked := some 0 } }

/-- A command being answered; a queue empty, one whose head can be reached, and one with an office entry to a LOST unit before it; two
acknowledgements due; and a STOP whose target was disabled. -/
theorem witness_CycleStartOpensSlots :
    (cycling []).engine.running = true ∧ demo.tables.slotsFit = true ∧
      (∃ e, demo.unitEntry 4 = some e ∧ e.enabled = true ∧ e.pollClass = .every) ∧
      CycleDone (awaiting ⟨officeCommand, false, false⟩ (cycling [])) ∧ CycleDone (cycling []) ∧
      (cycling []).engine.outstanding = none ∧ (cycling []).engine.queue = [] ++ [] ∧
      (queueing [setCommand .start] (cycling [])).engine.queue = [] ++ [setCommand .start] ∧
      (cycling []).reachable 0 = true ∧
      CycleDone (queueing [officeCommand, setCommand .start] (changeCut (cycling []))) ∧
      (queueing [officeCommand, setCommand .start] (changeCut (cycling []))).engine.queue =
        [officeCommand] ++ [setCommand .start] ∧
      (∀ c ∈ [officeCommand], (∃ o, c.origin = .office o) ∧ (changeCut (cycling [])).reachable c.target = false) ∧
      (changeCut (cycling [])).reachable 0 = true ∧
      (CycleDone bothAcks ∧ bothAcks.engine.acks[(1 : MeterNo)] = some ⟨4, 8⟩ ∧ bothAcks.engine.lastAcked = some 0 ∧
        (∀ m : MeterNo, (cycling []).engine.acks[m] = none)) ∧
      CycleDone (awaiting ⟨setCommand .stop, false, true⟩ (atRun 0 .stopping (cycling []))) ∧
      ((atRun 0 .stopping (cycling [])).setRec 0).run = .stopping ∧
      ((atRun 0 .stopping (cycling [])).setRec 0).due = none := by
  refine ⟨rfl, by decide, ⟨_, rfl, rfl, rfl⟩, ⟨rfl, by decide, rfl⟩, done_cycling, rfl, rfl, rfl, by decide,
    ⟨rfl, by decide, rfl⟩, rfl, fun c h => ?_, by decide, ⟨⟨rfl, by decide, rfl⟩, rfl, rfl, by decide⟩, ⟨rfl, by decide, rfl⟩, rfl, rfl⟩
  rw [List.mem_singleton.mp h]
  exact ⟨⟨9, rfl⟩, by decide⟩

/-! ### Timed events -/

/-- An event left to a command of its own. -/
def leftOver (x : TimedEvent) (s : State) : State := { s with due := [x] }

theorem witness_WarmUpAndCoolDownExpire :
    (.warmUp 7 ∈ (leftOver (.warmUp 7) (atRun 7 (.warming 0) demo)).due ∧
      ((atRun 7 (.warming 0) demo).setRec 7).run = .warming 0) ∧
    (((atRun 1 (.cooling 0) demo).setRec 1).run = .cooling 0 ∧ (atRun 1 (.cooling 0) demo).inService 1 = false) ∧
    (((atRun 0 (.cooling 0) demo).setRec 0).run = .cooling 0 ∧
      (atRun 0 (.cooling 0) demo).connectedSet 0 = some 0 ∧ ((atRun 0 (.cooling 0) demo).setRec 0).place = .free ∧
      ((atRun 0 (.cooling 0) demo).setRec 0).unreachable = false) :=
  ⟨⟨by decide, by decide⟩, ⟨by decide, by decide⟩, by decide, by decide, by decide, by decide⟩

/-- The last attempt, one before it, and one under a stop-pending mark. -/
theorem witness_CrankWindowExpires :
    ((atRun 1 (.starting 3 3 (some 0) false) demo).setRec 1).run = .starting 3 3 (some 0) false ∧
      ((atRun 1 (.starting 2 3 (some 0) false) demo).setRec 1).run = .starting 2 3 (some 0) false ∧
      ((atRun 1 (.starting 1 3 (some 0) true) demo).setRec 1).run = .starting 1 3 (some 0) true ∧
      .crankWindow 1 ∈ (leftOver (.crankWindow 1) demo).due := by decide

/-- The original source is ONLINE, and so can be restored. -/
def fedFromOne : State := atRun 0 .online demo

theorem witness_PrepareAndConfirmExpire :
    (.prepare 0 ∈ (leftOver (.prepare 0) demo).due ∧
      ((inFlight (moving .preparing (.prepare 0)) .a demo).pointRec 0).seq = some (moving .preparing (.prepare 0))) ∧
    .confirm 0 ∈ (leftOver (.confirm 0) demo).due ∧
    (moving .opening (.confirm 0)).abort = none ∧
    ({ moving .opening (.confirm 0) with abort := some .cancelled } : Sequence).abort = some .cancelled ∧
    ({ moving .opening (.confirm 0) with abort := some .targetFault } : Sequence).abort = some .targetFault ∧
    (moving .recovering (.confirm 0)).phase = .recovering ∧
    Restorable (inFlight (moving .closing (.confirm 0)) .opened fedFromOne) (moving .closing (.confirm 0)) ∧
    ¬ Restorable (inFlight (moving .closing (.confirm 0)) .opened demo) (moving .closing (.confirm 0)) := by
  refine ⟨⟨by decide, by decide⟩, by decide, rfl, rfl, rfl, rfl, ⟨Or.inl rfl, 0, rfl, by decide, by decide⟩, ?_⟩
  rintro ⟨-, n, h, hr, -⟩
  cases h
  exact absurd hr (by decide)

/-- A sample of the point's feeder. -/
def reading (current : Nat) (cycle : CycleNo) (s : State) : State :=
  s.modFeeder 0 fun r => { r with state := .live, latest := some ⟨0, current, 230, false, false, cycle⟩ }

/-- A DEAD sequence with its counter spent, its target ONLINE, and its feeder's sample as given. -/
def dead (counter : PhaseCounter) (s : State) : State := inFlight (moving .dead counter) .opened (atRun 1 .online s)

theorem feeds (s : State) (h : s.tables = demo.tables) (hd : s.due = []) (hf : (s.feederRec 0).state = .live) :
    LiveFeeder s 0 0 :=
  ⟨⟨metered, by unfold State.feederEntry; rw [h]; rfl, rfl⟩, hf, by rw [hd]; exact List.not_mem_nil⟩

/-- Every case of the dead check: no feeder in LIVE, a reading above the threshold with the original source to restore and without,
a reading at the threshold, and a reading too old to count. -/
theorem witness_DeadTimeAndWindowExpire :
    ((dead (.dead 0) demo).pointRec 0).seq = some (moving .dead (.dead 0)) ∧
    ((dead (.window 0) demo).pointRec 0).seq = some (moving .dead (.window 0)) ∧
    (dead (.dead 0) demo).pointEntry 0 = some changed ∧ Online (dead (.dead 0) demo) 1 ∧
    (∀ f, (demo.feederRec f).state ≠ .live) ∧
    (LiveFeeder (reading 51 3 demo) 0 0 ∧
      Counting (reading 51 3 demo) (moving .dead (.dead 0)) 0 ⟨0, 51, 230, false, false, 3⟩) ∧
    (LiveFeeder (reading 50 1 demo) 0 0 ∧
      Counting (reading 50 1 demo) (moving .dead (.dead 0)) 0 ⟨0, 50, 230, false, false, 1⟩) ∧
    (LiveFeeder (reading 51 0 demo) 0 0 ∧
      ∀ x, ¬ Counting (reading 51 0 demo) (moving .dead (.dead 0)) 0 x) := by
  refine ⟨by decide, by decide, by decide, ⟨by decide, by decide⟩, by decide, ⟨feeds _ rfl rfl (by decide), by decide, _, rfl,
    by decide⟩, ⟨feeds _ rfl rfl (by decide), by decide, _, rfl, by decide⟩, feeds _ rfl rfl (by decide), ?_⟩
  rintro x ⟨h, c, hc, hl⟩
  cases hc
  have : x = ⟨0, 51, 230, false, false, 0⟩ := by cases h; rfl
  subst this
  exact absurd hl (by decide)

/-- A crank counter, a prepare counter with a target that warms and one that starts, and a window open, with the feeder as given. -/
def cranking : State := atRun 0 (.starting 1 3 (some 2) true) (cycling [])
def preparing (run : RunState) : State := inFlight (moving .preparing (.prepare 2)) .a (atRun 1 run (cycling []))
def windowed (current : Nat) (read based : CycleNo) : State :=
  (reading current read (dead (.window 2) (cycling []))).modFeeder 0 fun r => { r with baseline := some ⟨0, based, false, none⟩ }

theorem feeds_next (current : Nat) (read : CycleNo) : LiveNext (windowed current read 21) 0 0 :=
  ⟨⟨metered, rfl, rfl⟩, rfl, fun b h => by cases h; exact (by decide : ((40 + 1 - 21 : CycleNo)).toNat ≤ 20)⟩

theorem unasked (s : State) (o : Origin) (hq : s.engine.queue = []) (ho : s.engine.outstanding = none) : Unasked s o :=
  ⟨(fun c h => by rw [hq] at h; cases h), (fun q h => by rw [ho] at h; cases h)⟩

/-- Counters that a cycle start takes to 1; the later dead check with a baseline at the hold limit and one past it, a reading at the threshold, one
above it, and one too old; the original source ONLINE, and STOPPED. -/
theorem witness_CycleStartCounts_counters :
    (CycleDone cranking ∧ (cranking.setRec 0).run = .starting 1 3 (some 2) true ∧ (cranking.setRec 0).due = none ∧
      Unasked cranking (.sets 0)) ∧
    (∀ run ∈ [RunState.warming 2, .starting 1 3 none false, .starting 1 3 (some 2) false],
      CycleDone (preparing run) ∧ ((preparing run).pointRec 0).seq = some (moving .preparing (.prepare 2)) ∧
        ((preparing run).setRec 1).run = run ∧ ((preparing run).setRec 1).unreachable = false ∧
        ((preparing run).setRec 1).due = none ∧ Unasked (preparing run) (.sets 1)) ∧
    (∀ current read based, CycleDone (windowed current read based) ∧
      (windowed current read based).pointEntry 0 = some changed ∧
      ((windowed current read based).pointRec 0).seq = some (moving .dead (.window 2)) ∧
      ((windowed current read based).pointRec 0).due = none ∧ ((windowed current read based).pointRec 0).place = .free ∧
      Unasked (windowed current read based) (.changeover 0) ∧ Online (windowed current read based) 1 ∧
      ((windowed current read based).setRec 1).due = none ∧ (windowed current read based).switched 0 = some (3, 0, 1) ∧
      (windowed current read based).reachable 3 = true ∧ (windowed current read based).schedule = []) ∧
    ¬ LiveNext (windowed 51 3 20) 0 0 ∧
    Counting (windowed 51 3 21) (moving .dead (.window 2)) 0 ⟨0, 51, 230, false, false, 3⟩ ∧
    Counting (windowed 50 1 21) (moving .dead (.window 2)) 0 ⟨0, 50, 230, false, false, 1⟩ ∧
    (∀ x, ¬ Counting (windowed 51 0 21) (moving .dead (.window 2)) 0 x) ∧
    Restorable (atRun 0 .online (windowed 51 3 21)) (moving .dead (.window 2)) ∧
    PastRestoring (windowed 51 3 21) (moving .dead (.window 2)) := by
  refine ⟨⟨⟨rfl, by decide, rfl⟩, rfl, rfl, unasked _ _ rfl rfl⟩, fun run h => ?_, fun current read based => ?_, ?_,
    ⟨rfl, _, rfl, by decide⟩, ⟨rfl, _, rfl, by decide⟩, ?_, ⟨Or.inl rfl, 0, rfl, rfl, rfl⟩,
    Or.inr (Or.inr (Or.inr ⟨0, rfl, Or.inr (Or.inl rfl)⟩))⟩
  · simp only [List.mem_cons, List.not_mem_nil, or_false] at h
    rcases h with rfl | rfl | rfl <;> exact ⟨⟨rfl, by decide, rfl⟩, rfl, rfl, rfl, rfl, unasked _ _ rfl rfl⟩
  · exact ⟨⟨rfl, Nat.le_refl 0, rfl⟩, rfl, rfl, rfl, rfl, unasked _ _ rfl rfl, ⟨rfl, rfl⟩, rfl, rfl, rfl, rfl⟩
  · rintro ⟨-, -, h⟩
    exact absurd (h _ rfl) (by decide)
  · rintro x ⟨h, c, hc, hl⟩
    cases hc
    cases h
    exact absurd hl (by decide)

theorem witness_TicketWaitExpires : .ticketWait 1 ∈ (leftOver (.ticketWait 1) demo).due ∧
    ((demo.modMeter 1 fun r => { r with session := some ⟨.ticketing (some 0) none, 7, 0, 0, 0, false⟩ }).meter 1).session =
      some ⟨.ticketing (some 0) none, 7, 0, 0, 0, false⟩ := by decide

/-- An entry due now, one later than the limit, and one whose time has not come; the clock stands at day 1, 0 s. -/
theorem witness_ScheduleFires :
    .schedule ∈ (leftOver .schedule demo).due ∧ demo.billing.nowSeconds = some 86400 ∧
      1 * 86400 + 0 ≤ 86400 ∧ 0 * 86400 + 85799 + demo.site.values.lateLimit < 86400 ∧ 86400 < 1 * 86400 + 1 ∧
      demo.acceptanceRefusal 0 .b = none ∧ demo.acceptanceRefusal 0 .a = some .noChange ∧
      ((inFlight (moving .dead (.dead 1)) .opened demo).pointRec 0).seq.isSome = true := by decide

/-- A tariff of one class whose second band starts at a quarter past midnight. -/
def twoBands : TariffTable := ⟨8, .halfUp, (Vector.replicate 8 none).set 0 (some [⟨0, 2500⟩, ⟨900, 4250⟩])⟩

/-- A boundary close due, a time-set close due, and no room for either; the bands on either side of a start; and the pending states with
trial on and off. -/
theorem witness_IntervalsCloseOrExtend :
    .intervalClose ∈ (leftOver .intervalClose (open_ 86400 demo)).due ∧ (open_ 86400 demo).site.live = true ∧
      (∃ i, (open_ 86400 demo).billing.interval = some i ∧ i.nextBoundary ≤ 86400500 / 1000) ∧
      (∀ k, -18000000 ≤ ((open_ 86400 demo).account k).carry) ∧
      (open_ 86400 demo).activeAccounts.length + (open_ 86400 demo).billing.records.length ≤ 512 ∧
      512 < (open_ 86400 demo).activeAccounts.length + 512 ∧
      (∃ e, demo.accountEntry 0 = some e ∧ BandOf dayTariff e.tariffClass (86400 % 86400) 0 ⟨0, 2500⟩ ∧
        (⟨7, .halfEven, Vector.replicate 8 none⟩ : TariffTable).classes[e.tariffClass] = none) ∧
      BandOf twoBands 0 899 0 ⟨0, 2500⟩ ∧ BandOf twoBands 0 900 1 ⟨900, 4250⟩ ∧ demo.tariff.trial = false ∧
      ({ demo.tariff with pending := .commitPending twoBands, trial := true } : Tariff).trial = true ∧
      ({ demo.tariff with pending := .loaded twoBands } : Tariff).pending = .loaded twoBands ∧
      demo.tariff.pending = .empty ∧ demo.tariff.pending.isCommitted = false := by
  refine ⟨by decide, by decide, ⟨_, rfl, by decide⟩, by decide, by decide, by decide,
    ⟨_, rfl, ⟨_, rfl, rfl, by decide, fun j c h hj => ?_⟩, by decide⟩, ⟨_, rfl, rfl, by decide, fun j c h hj => ?_⟩,
    ⟨_, rfl, rfl, by decide, fun j c h hj => ?_⟩, rfl, rfl, rfl, rfl, rfl⟩
  · match j, hj with
    | j + 1, _ => cases h
  · match j, hj with
    | 1, _ => cases h; decide
    | j + 2, _ => cases h
  · match j, hj with
    | j + 2, _ => cases h

/-- A baseline one cycle older than the hold limit, in LIVE; the point draws from set 1, or from none. -/
theorem witness_HoldLimitClosesOff :
    let s := ({ demo with engine := { demo.engine with cycleNo := 21 } } : State).modFeeder 0 fun r =>
      { r with state := .live, baseline := some ⟨60000, 0, true, none⟩ }
    .holdLimit 0 ∈ (leftOver (.holdLimit 0) s).due ∧ s.feederEntry 0 = some metered ∧
      (s.feederRec 0).state = .live ∧ (s.feederRec 0).baseline = some ⟨60000, 0, true, none⟩ ∧
      s.engine.holdInForce < (s.engine.cycleNo - 0).toNat ∧ s.connectedSet metered.point = some 0 ∧
      (s.modPoint 0 fun r => { r with position := .opened }).connectedSet metered.point = none := by decide

/-- A unit of each kind whose count stands at the loss limit. -/
theorem witness_LinkLostIsTold :
    (∀ a ∈ [(0 : Addr), 2, 3, 4], (∃ e, demo.unitEntry a = some e ∧ e.enabled = true) ∧
      ((demo.modLink a fun l => { l with state := some .silent, misses := 5 }).link a).state = some .silent ∧
      demo.site.values.lossLimit ≤ ((demo.modLink a fun l => { l with state := some .silent, misses := 5 }).link a).misses ∧
      .linkLost a ∈ (leftOver (.linkLost a) demo).due) ∧
    demo.switched 0 = some (3, 0, 1) ∧ (∃ x, (delivering.meter 0).session = some x ∧ x.phase ≠ .granting) ∧
    (∃ x, (delivering.meter 1).session = some x ∧ x.phase = .granting) := by
  refine ⟨fun a ha => ?_, by decide, ⟨_, rfl, by decide⟩, _, rfl, rfl⟩
  simp only [List.mem_cons, List.not_mem_nil, or_false] at ha
  rcases ha with rfl | rfl | rfl | rfl <;> exact ⟨⟨_, rfl, rfl⟩, by decide, by decide, by decide⟩

theorem witness_DiscrepancySets :
    .discrepancy 7 ∈ (leftOver (.discrepancy 7) demo).due ∧
      ((demo.modTank 7 fun t => { t with discCount := 20 }).tank 7).discCount = 20 ∧
      ((demo.modTank 7 fun t => { t with discCount := 20 }).tank 7).discrepancy = false ∧
      ((demo.modTank 7 fun t => { t with discCount := 20, discrepancy := true }).tank 7).discrepancy = true := by decide

/-- A notice queue with room for one, and full ones: with an ordinary notice behind its head and urgent ones after it, with none that is
ordinary, and with an ordinary head that is in transmission. The hypotheses of `NoticeRaised`. -/
theorem witness_NoticeRaised :
    let plain : Notice := ⟨0, false, .unitLink 0 .lost 5⟩
    let urgent : Notice := ⟨1, true, .unitLink 0 .lost 5⟩
    (List.replicate 31 plain).length < 32 ∧
      32 ≤ ([urgent] ++ plain :: List.replicate 30 urgent).length ∧ plain.urgent = false ∧
      (some TxFrame.notice = some .notice → [urgent] ≠ []) ∧ (∀ y ∈ List.replicate 30 urgent, y.urgent = true) ∧
      (32 ≤ (List.replicate 32 urgent).length ∧ ∀ y ∈ List.replicate 32 urgent, y.urgent = true) ∧
      32 ≤ (plain :: List.replicate 31 urgent).length ∧ ∀ y ∈ (plain :: List.replicate 31 urgent).tail, y.urgent = true := by
  decide

/-- Set 1 ONLINE at its overload hold with point 1 on it and set 2 able to take the point. -/
def overloaded : State :=
  (atRun 0 .online demo).modSet 0 fun r => { r with overloadRun := 50 }

/-- Set 1 in FAULT with a point that asks for its FAULT requests, and one low on fuel with a point that asks for its FUEL requests. -/
def asking : State :=
  (atRun 0 (.fault .setAlarm) (cycling [])).putPointEntry 0 (some { changed with autoLoad := false, autoFuel := false })
def thirsty : State :=
  ((cycling []).modTank 0 fun t => { t with book := 300 }).putPointEntry 0 (some { changed with autoLoad := false })

theorem witness_LoadRequestIsRaised :
    .loadRequest 0 ∈ (leftOver (.loadRequest 0) overloaded).due ∧ overloaded.setEntry 0 = some (hired 0) ∧
      (overloaded.setRec 0).run = .online ∧ (hired 0).overloadHold ≤ (overloaded.setRec 0).overloadRun ∧
      Qualifies overloaded 0 0 1 ∧
      (∀ k other, Qualifies overloaded 0 k other → overloaded.pointLoad k < overloaded.pointLoad 0 ∨
        (overloaded.pointLoad k = overloaded.pointLoad 0 ∧ (0 : PointNo) ≤ k)) ∧
      (∀ p partner, ¬ Qualifies demo 7 p partner) ∧
      (CycleDone asking ∧ asking.schedule = [] ∧ asking.connectedSet 0 = some 0 ∧ asking.switched 0 ≠ none ∧
        asking.pointEntry 0 = some { changed with autoLoad := false, autoFuel := false } ∧
        (asking.pointRec 0).seq = none ∧ (asking.pointRec 0).autoBlocked = false ∧
        (asking.setRec 0).run = .fault .setAlarm ∧ (asking.setRec 0).due = none) ∧
      (CycleDone thirsty ∧ thirsty.schedule = [] ∧ thirsty.connectedSet 0 = some 0 ∧
        thirsty.pointEntry 0 = some { changed with autoLoad := false } ∧ thirsty.setEntry 0 = some (hired 0) ∧
        (hired 0).enabled = true ∧ (thirsty.tank 0).book ≤ (hired 0).lowLevel ∧ (thirsty.setRec 0).run = .stopped) := by
  refine ⟨by decide, by decide, by decide, by decide,
    ⟨⟨_, rfl, rfl⟩, Or.inl ⟨3, by decide, by decide⟩, by decide, by decide, by decide, by decide⟩, fun k _ _ => ?_,
    fun p partner h => ?_, ⟨⟨rfl, by decide, rfl⟩, rfl, by decide, by decide, rfl, rfl, rfl, rfl, rfl⟩,
    ⟨⟨rfl, by decide, rfl⟩, rfl, by decide, rfl, rfl, rfl, by decide, rfl⟩⟩
  · have same : ∀ k : PointNo, overloaded.pointLoad k = overloaded.pointLoad 0 := by decide
    exact Or.inr ⟨same k, Fin.zero_le k⟩
  · have none_ : ∀ p, p ≠ 0 → demo.switched p = none := by decide
    have one : demo.switched 0 = some (3, 0, 1) := by decide
    rcases h.sides with ⟨u, hu, -⟩ | ⟨u, hu, -⟩ <;> by_cases hp : p = 0
    · subst hp; rw [one] at hu; cases hu
    · rw [none_ p hp] at hu; cases hu
    · subst hp; rw [one] at hu; cases hu
    · rw [none_ p hp] at hu; cases hu

/-! ### Frames written out from the layouts of 10.9 -/

/-- The check of the bytes "123456789" under the generator and the initial value of R179, as published for that code. -/
theorem test_frame_check : frameCheck [49, 50, 51, 52, 53, 54, 55, 56, 57] = 0x29B1 := by decide +kernel

/-- A SET report of unit 1: RUNNING, 50.0 kW, sensor level 600. -/
def setFrame : List Byte := [195, 9, 1, 0, 0, 2, 1, 244, 2, 88, 0, 178, 207]

def setRead : FieldReport := ⟨1, .set, .none, .set .running 500 600 0, [1, 0, 0, 2, 1, 244, 2, 88, 0]⟩

theorem test_set_report_is_read : parseReport setFrame = some setRead := by decide +kernel

/-- A BOARD report of unit 3 with one sample, of position 1. -/
def boardFrame : List Byte := [195, 12, 3, 1, 0, 1, 1, 234, 96, 6, 65, 0, 230, 0, 140, 209]

def boardRead : FieldReport :=
  ⟨3, .board, .none, .board [⟨1, 60000, 1601, 230, .ok⟩], [3, 1, 0, 1, 1, 234, 96, 6, 65, 0, 230, 0]⟩

theorem test_board_report_is_read : parseReport boardFrame = some boardRead := by decide +kernel

/-- CHANGE reports of unit 4, OPEN and LOCAL: with no answer, with ACCEPT, and with REFUSE and the reason 7. -/
def changeFrame : List Byte := [195, 5, 4, 2, 0, 2, 1, 95, 60]
def changeAccept : List Byte := [195, 5, 4, 2, 1, 2, 1, 104, 12]
def changeRefuse : List Byte := [195, 6, 4, 2, 2, 7, 2, 1, 12, 114]

def changeRead (answer : Answer) (raw : List Byte) : FieldReport := ⟨4, .change, answer, .change .opened .localPanel, raw⟩

theorem test_change_reports_are_read :
    parseReport changeFrame = some (changeRead .none [4, 2, 0, 2, 1]) ∧
      parseReport changeAccept = some (changeRead .accept [4, 2, 1, 2, 1]) ∧
      parseReport changeRefuse = some (changeRead (.refuse 7) [4, 2, 2, 7, 2, 1]) := by decide +kernel

/-- A FUEL report of unit 5: the ticket state, set 1, 40 decilitres, and the chunk 0 of two bytes. -/
theorem test_fuel_report_is_read :
    parseReport [195, 11, 5, 3, 0, 4, 1, 0, 40, 2, 0, 12, 0, 183, 159] =
      some ⟨5, .fuel, .none, .fuel ⟨.ticket, 1, 40, some (0, [12, 0])⟩, [5, 3, 0, 4, 1, 0, 40, 2, 0, 12, 0]⟩ := by
  decide +kernel

/-- A report with a byte more than its layout, and one with a bad check, are none (R25, R197). -/
theorem test_bad_reports_are_none :
    parseReport [195, 10, 1, 0, 0, 2, 1, 244, 2, 88, 0, 0, 0, 0] = none ∧
      parseReport [195, 9, 1, 0, 0, 2, 1, 244, 2, 88, 0, 178, 206] = none := by decide +kernel

/-- The shortest ticket: number 99, set 1, 40 decilitres (R198). -/
theorem test_ticket_is_read :
    parseTicket [12, 0, 0, 0, 0, 99, 1, 0, 40, 0, 8, 178] = some ⟨99, 1, 40, none, none, none, none, none⟩ := by
  decide +kernel

/-- The header of cycle 41: slots for units 5 and 1, PERMIT of 200 to unit 5, the acknowledgement of its chunk 7. -/
theorem test_header_is_sent :
    fieldFrame (Header.contents ⟨41, [4, 0], some ⟨4, .permit, [0, 200], .fuel 0⟩, some ⟨4, 7⟩⟩) =
      [195, 16, 0, 0, 0, 0, 41, 2, 5, 1, 3, 5, 74, 2, 0, 200, 5, 7, 63, 119] := by decide +kernel

/-- START CYCLES with tag 9; SET CLOCK to day 1, second 3600 and 5 ms with tag 7; INDICATE of one argument to unit 4. -/
theorem test_office_frames :
    (officeFrameOf (.startCycles 9)).map officeFrameBytes = some [195, 0, 3, 0, 9, 4, 112, 204] ∧
      (officeFrameOf (.setClock 7 1 3600 5)).map officeFrameBytes =
        some [195, 0, 10, 0, 7, 2, 0, 1, 0, 14, 16, 0, 5, 76, 245] ∧
      (officeFrameOf (.indicate 9 3 [170])).map officeFrameBytes =
        some [195, 0, 5, 4, 9, 71, 1, 170, 119, 18] := by decide +kernel

/-! ### Slots and lines -/

theorem slot_of (a : Addr) (h : a = 0 ∨ a = 2 ∨ a = 3 ∨ a = 4) : ∃ e, SlotOf (cycling [a]) a e := by
  rcases h with rfl | rfl | rfl | rfl <;> exact ⟨_, rfl, rfl, rfl, rfl, (fun q h => by cases h), rfl⟩

/-- A report of a unit: its source, kind and answer, and its body. -/
def reportFrame (source kind : Byte) (rest : List Byte) : List Byte := fieldFrame (source :: kind :: rest)

/-- SET reports of unit 1: STOPPED with no answer, with ACCEPT and with REFUSE; CRANKING and FAULT; RUNNING with no answer, with ACCEPT
and with REFUSE; one past the power limit; and STOPPED with the sensor levels about a book of 800. -/
def setReports : List (List Byte × Answer × ReportBody) :=
  [([0, 0, 0, 0, 2, 88, 0], .none, .set .stopped 0 600 0), ([1, 0, 0, 0, 2, 88, 0], .accept, .set .stopped 0 600 0),
    ([2, 7, 0, 0, 0, 2, 88, 0], .refuse 7, .set .stopped 0 600 0),
    ([0, 1, 0, 0, 2, 88, 0], .none, .set .cranking 0 600 0), ([0, 3, 0, 0, 2, 88, 1], .none, .set .faulted 0 600 1),
    ([0, 2, 1, 244, 2, 88, 0], .none, .set .running 500 600 0),
    ([1, 2, 1, 244, 2, 88, 0], .accept, .set .running 500 600 0),
    ([2, 7, 2, 1, 244, 2, 88, 0], .refuse 7, .set .running 500 600 0),
    ([0, 2, 117, 49, 255, 255, 0], .none, .set .running 30001 65535 0)] ++
  [([0, 0, 0, 0, 2, 238, 0], .none, .set .stopped 0 750 0), ([0, 0, 0, 0, 2, 237, 0], .none, .set .stopped 0 749 0)]

/-- CHANGE reports of unit 4: the four positions, and OPEN with ACCEPT and with REFUSE. -/
def changeReports : List (List Byte × Answer × ReportBody) :=
  [([0, 0, 0], .none, .change .a .remote), ([0, 1, 0], .none, .change .b .remote),
    ([0, 2, 0], .none, .change .opened .remote), ([0, 3, 0], .none, .change .fault .remote),
    ([1, 2, 0], .accept, .change .opened .remote), ([2, 7, 2, 0], .refuse 7, .change .opened .remote),
    ([1, 0, 0], .accept, .change .a .remote), ([2, 7, 0, 0], .refuse 7, .change .a .remote)]

/-- FUEL reports of unit 5: IDLE with each answer; REQUEST for set 1 and for set 9; DISPENSING 40 and 50 with ACCEPT, ENDED 50, and
TICKET with no chunk, with chunks 0 of a good and of a bad length, with chunk 1, and with chunk 3. -/
def fuelReports : List (List Byte × Answer × ReportBody) :=
  [([0, 0, 0, 0, 0, 0], .none, .fuel ⟨.idle, 0, 0, none⟩), ([1, 0, 0, 0, 0, 0], .accept, .fuel ⟨.idle, 0, 0, none⟩),
    ([2, 7, 0, 0, 0, 0, 0], .refuse 7, .fuel ⟨.idle, 0, 0, none⟩),
    ([0, 1, 1, 0, 0, 0], .none, .fuel ⟨.request, 1, 0, none⟩), ([0, 1, 9, 0, 0, 0], .none, .fuel ⟨.request, 9, 0, none⟩),
    ([0, 2, 1, 0, 50, 0], .none, .fuel ⟨.dispensing, 1, 50, none⟩),
    ([1, 2, 1, 0, 40, 0], .accept, .fuel ⟨.dispensing, 1, 40, none⟩),
    ([0, 3, 1, 0, 50, 0], .none, .fuel ⟨.ended, 1, 50, none⟩), ([0, 4, 1, 0, 40, 0], .none, .fuel ⟨.ticket, 1, 40, none⟩)] ++
  [([0, 4, 1, 0, 40, 2, 0, 12, 0], .none, .fuel ⟨.ticket, 1, 40, some (0, [12, 0])⟩),
    ([0, 4, 1, 0, 40, 2, 0, 11, 0], .none, .fuel ⟨.ticket, 1, 40, some (0, [11, 0])⟩),
    ([0, 4, 1, 0, 40, 4, 1, 40, 0, 8, 178], .none, .fuel ⟨.ticket, 1, 40, some (1, [40, 0, 8, 178])⟩),
    ([0, 4, 1, 0, 40, 1, 3, 1], .none, .fuel ⟨.ticket, 1, 40, some (3, [1])⟩)]

/-- Every one of them is read as it is meant. -/
def allRead (source : Byte) (kind : UnitKind) (k : Byte) (xs : List (List Byte × Answer × ReportBody)) : Bool :=
  xs.all fun x => decide (parseReport (reportFrame source k x.1) = some ⟨source, kind, x.2.1, x.2.2, source :: k :: x.1⟩)

theorem reports_are_read : allRead 1 .set 0 setReports = true ∧ allRead 4 .change 2 changeReports = true ∧
    allRead 5 .fuel 3 fuelReports = true := by decide +kernel

/-- A report of such a list is a valid report of its unit. -/
theorem valid_of {a : Addr} {e : UnitEntry} {source k : Byte} {kind : UnitKind}
    {xs : List (List Byte × Answer × ReportBody)} (h : allRead source kind k xs = true)
    (ha : source.toNat = a.val + 1) (he : kind = e.kind) :
    ∀ x ∈ xs, ValidFrom a e (.frame (reportFrame source k x.1)) ⟨source, kind, x.2.1, x.2.2, source :: k :: x.1⟩ :=
  fun x hx => ⟨_, rfl, of_decide_eq_true (List.all_eq_true.mp h x hx), ha, he⟩

theorem valid_set : ∀ x ∈ setReports, ValidFrom 0 (unit .set 1) (.frame (reportFrame 1 0 x.1))
    ⟨1, .set, x.2.1, x.2.2, 1 :: 0 :: x.1⟩ := valid_of reports_are_read.1 rfl rfl

theorem valid_change : ∀ x ∈ changeReports, ValidFrom 3 (unit .change 1) (.frame (reportFrame 4 2 x.1))
    ⟨4, .change, x.2.1, x.2.2, 4 :: 2 :: x.1⟩ := valid_of reports_are_read.2.1 rfl rfl

theorem valid_fuel : ∀ x ∈ fuelReports, ValidFrom 4 (unit .fuel 1) (.frame (reportFrame 5 3 x.1))
    ⟨5, .fuel, x.2.1, x.2.2, 5 :: 3 :: x.1⟩ := valid_of reports_are_read.2.2 rfl rfl

/-- A command outstanding with its reply slot in the cycle. -/
def asked (c : Command) (s : State) : State := awaiting ⟨c, true, false⟩ s

theorem asked_slot (a : Addr) (kind : UnitKind) (owner : Nat) (c : Command) (s : State)
    (hr : s.engine.running = true) (hs : s.engine.slots = [a]) (hz : s.engine.slotsEnded = 0)
    (he : s.unitEntry a = some (unit kind owner)) (hd : s.due = []) :
    ReplySlotOf (asked c s) a (unit kind owner) ⟨c, true, false⟩ :=
  ⟨⟨hr, by simp [asked, awaiting, hs, hz], he, rfl, (fun q h => by cases h; rfl), hd⟩, hz, rfl, rfl⟩

/-- A slot of unit `a` whose entry has become another since the cycle start. -/
def reloaded (a : Addr) (e : Option UnitEntry) : State := (cycling [a]).putUnitEntry a e

/-- An entry that is not enabled. -/
def disabled (e : UnitEntry) : UnitEntry := { e with enabled := false }

/-- A silent slot, line activity, a frame that cannot be read, another unit's report; one miss short of the loss limit, at it, and
at a unit already LOST. The reply slot of a command whose target was disabled, and of one enabled again; the slot of a board that
was disabled or cleared, of a disabled unit of another kind, and one behind the reply slot. -/
theorem witness_SlotMissed :
    ((∃ e, SlotOf (cycling [2]) 2 e) ∧ Garbled 2 (unit .board 1) .contention ∧ Garbled 2 (unit .board 1) (.frame []) ∧
      Garbled 2 (unit .board 1) (.frame setFrame) ∧ .linkLost 2 ∉ ([.linkLost 3] : List TimedEvent) ∧
      min 255 (3 + 1) < demo.site.values.lossLimit ∧ demo.site.values.lossLimit ≤ min 255 (4 + 1) ∧
      (demo.link 2).state ≠ some .lost) ∧
    (∀ e, OpenSlot (awaiting ⟨officeCommand, true, true⟩ (reloaded 3 (some e))) 3) ∧
      officeCommand.origin = .office 9 ∧ (disabled (unit .change 1)).enabled = false ∧ (reloaded 3 none).unitEntry 3 = none ∧
      OpenSlot (awaiting ⟨officeCommand, true, false⟩ (reloaded 3 none)) 3 ∧
    (∀ e, OpenSlot (reloaded 2 e) 2 ∧ (reloaded 2 e).unitEntry 2 = e ∧ (reloaded 2 e).engine.outstanding = none ∧
      (reloaded 2 e).feederEntry 0 = some metered) ∧ metered.board = 2 ∧ (disabled (unit .board 1)).kind = .board ∧
      (reloaded 3 (some (disabled (unit .change 1)))).unitEntry 3 = some (disabled (unit .change 1)) ∧
      OpenSlot ({ reloaded 2 none with engine := { (reloaded 2 none).engine with slots := [3, 2], slotsEnded := 1 } }) 2 := by
  have put : ∀ (a : Addr) e, (reloaded a e).unitEntry a = e := fun a e => by
    simp [reloaded, State.putUnitEntry, State.unitEntry]
  refine ⟨⟨slot_of 2 (by simp), Or.inl rfl, Or.inr ⟨_, rfl, fun r h => ?_⟩, Or.inr ⟨_, rfl, fun r h => ?_⟩, by decide,
    by decide, by decide, by decide⟩, fun e => ⟨rfl, rfl, rfl⟩, rfl, rfl, put 3 none, ⟨rfl, rfl, rfl⟩,
    fun e => ⟨⟨rfl, rfl, rfl⟩, put 2 e, rfl, rfl⟩, rfl, rfl, put 3 _, ⟨rfl, rfl, rfl⟩⟩
  · rw [show parseReport [] = none from rfl] at h; cases h
  · rw [test_set_report_is_read] at h; cases h; exact Or.inl (by decide)

/-- A sequence in flight at point 1, its command place free, in a cycle that waits for its unit. -/
def switching (q : Sequence) (pos : SwPos) : State := inFlight q pos (cycling [3])

/-- A session of meter 1 in a cycle that waits for its unit. -/
def fuelling (x : Session) : State := (cycling [4]).modMeter 0 fun r => { r with session := some x, promoted := true }

/-- An office command; a START in each kind of attempt and a STOP; OPEN, the closes, with and without a source to restore; PERMIT and
REVOKE: each with a silent slot and with reports that carry each answer. -/
theorem witness_ReplySlotEndsTheCommand :
    ReplySlotOf (asked officeCommand (cycling [3])) 3 (unit .change 1) ⟨officeCommand, true, false⟩ ∧
    officeCommand.origin = .office 9 ∧
    (∀ code, ∀ run ∈ [RunState.starting 3 3 none false, .starting 2 3 none false, .starting 1 3 none true, .stopping],
      ReplySlotOf (asked (setCommand code) (atRun 0 run (cycling [0]))) 0 (unit .set 1) ⟨setCommand code, true, false⟩ ∧
        ((atRun 0 run (cycling [0])).setRec 0).run = run ∧ ((atRun 0 run (cycling [0])).setRec 0).due = none) ∧
    (∀ body : ReportBody → Prop, Returned 0 (unit .set 1) .nothing .noAnswer body) ∧
    (∀ x ∈ setReports, x.2.1 ≠ .none → ∃ o, (o = .accepted ↔ x.2.1 = .accept) ∧
      Returned 0 (unit .set 1) (.frame (reportFrame 1 0 x.1)) o fun body => body = x.2.2) ∧
    (∀ phase ∈ [Phase.opening, .closing, .recovering], ∀ code,
      ReplySlotOf (asked ⟨3, code, [], .changeover 0⟩ (switching (moving phase .none) .opened)) 3 (unit .change 1)
        ⟨⟨3, code, [], .changeover 0⟩, true, false⟩ ∧
      FarFromLost (switching (moving phase .none) .opened) 3 ∧
      ((switching (moving phase .none) .opened).pointRec 0).seq = some (moving phase .none) ∧
      ((switching (moving phase .none) .opened).pointRec 0).due = none) ∧
    awaitedCode (moving .opening .none) = some .openSwitch ∧ awaitedCode (moving .closing .none) = some .closeB ∧
    awaitedCode (moving .recovering .none) = some .closeA ∧
    (Restorable (atRun 0 .online (switching (moving .closing .none) .opened)) (moving .closing .none) ∧
      ¬ Restorable (switching (moving .closing .none) .opened) (moving .closing .none)) ∧
    mapped .opened = ((switching (moving .closing .none) .opened).pointRec 0).position ∧
    (∀ phase ∈ [SessionPhase.granting, .dispensing], ∀ code cancel,
      ReplySlotOf (asked ⟨4, code, [], .fuel 0⟩ (fuelling ⟨phase, 0, 200, 40, 40, cancel⟩)) 4 (unit .fuel 1)
        ⟨⟨4, code, [], .fuel 0⟩, true, false⟩ ∧
      FarFromLost (fuelling ⟨phase, 0, 200, 40, 40, cancel⟩) 4 ∧
      ((fuelling ⟨phase, 0, 200, 40, 40, cancel⟩).meter 0).session = some ⟨phase, 0, 200, 40, 40, cancel⟩ ∧
      ((fuelling ⟨phase, 0, 200, 40, 40, cancel⟩).meter 0).due = false) ∧
    ([1, 0, 0, 0, 0, 0], .accept, .fuel ⟨.idle, 0, 0, none⟩) ∈ fuelReports ∧
    ([1, 2, 1, 0, 40, 0], .accept, .fuel ⟨.dispensing, 1, 40, none⟩) ∈ fuelReports := by
  refine ⟨asked_slot 3 .change 1 _ _ rfl rfl rfl rfl rfl, rfl, fun code run h => ?_, fun _ => Or.inl ⟨Or.inl rfl, rfl⟩,
    fun x h hn => ?_, fun phase h code => ?_, rfl, rfl, rfl, ⟨⟨Or.inl rfl, 0, rfl, by decide, by decide⟩, ?_⟩, by decide,
    fun phase h code cancel => ?_, by decide, by decide⟩
  · simp only [List.mem_cons, List.not_mem_nil, or_false] at h
    rcases h with rfl | rfl | rfl | rfl <;> exact ⟨asked_slot 0 .set 1 _ _ rfl rfl rfl rfl rfl, rfl, rfl⟩
  · obtain ⟨bytes, answer, body⟩ := x
    cases answer with
    | none => exact absurd rfl hn
    | accept => exact ⟨.accepted, by simp, Or.inr ⟨_, valid_set _ h, rfl, Or.inr (Or.inl ⟨rfl, rfl⟩)⟩⟩
    | refuse why => exact ⟨.refused why, by simp, Or.inr ⟨_, valid_set _ h, rfl, Or.inr (Or.inr ⟨why, rfl, rfl⟩)⟩⟩
  · simp only [List.mem_cons, List.not_mem_nil, or_false] at h
    rcases h with rfl | rfl | rfl <;>
      exact ⟨asked_slot 3 .change 1 _ _ rfl rfl rfl rfl rfl, ⟨by decide, by decide⟩, rfl, rfl⟩
  · rintro ⟨-, n, h, hr, -⟩
    cases h
    exact absurd hr (by decide)
  · simp only [List.mem_cons, List.not_mem_nil, or_false] at h
    rcases h with rfl | rfl <;> cases cancel <;>
      exact ⟨asked_slot 4 .fuel 1 _ _ rfl rfl rfl rfl rfl, ⟨by decide, by decide⟩, rfl, rfl⟩

/-- A set whose last reading and burn residue are such that its next step burns 2 decilitres, and what its slot finds. -/
def burning (power : Nat) (cycle : CycleNo) : State :=
  ((atRun 0 .online (cycling [0])).modSet 0 fun r => { r with baseline := some ⟨power, cycle, false⟩ }).modTank 0 fun t =>
    { t with residue := 359999999999 }

/-- Set 1 in a run state with a stop cycle, in a cycle that waits for its unit; and the same with no point on it. -/
def stoppedAt (cycle : CycleNo) (run : RunState) : State :=
  (atRun 0 run (cycling [0])).modSet 0 fun r => { r with stopCycle := some cycle }
def offDuty (run : RunState) : State := ((atRun 0 run (cycling [0])).putPointEntry 0 none).putPointEntry 1 none

/-- A STARTING set with and without the stop-pending mark, in service and out of it, on its first attempt and on its last; its last stop at the
end of the hot window, a cycle before it, and unknown. -/
theorem witness_SetReportIsApplied_starting :
    (∀ mark, SlotOf (offDuty (.starting 1 3 none mark)) 0 (unit .set 1) ∧
      ((offDuty (.starting 1 3 none mark)).setRec 0).run = .starting 1 3 none mark ∧
      (offDuty (.starting 1 3 none mark)).inService 0 = false ∧
      (offDuty (.starting 1 3 none mark)).setEntry 0 = some (hired 0)) ∧
      (atRun 0 (.starting 3 3 none true) (cycling [0])).inService 0 = true ∧
      (((stoppedAt 0 (.starting 3 3 none false)).setRec 0).stopCycle = some 0 ∧
        ((600 : CycleNo) - 0).toNat ≤ (hired 0).hotWindow ∧ (hired 0).hotWindow < ((601 : CycleNo) - 0).toNat) ∧
      (∀ c, ((offDuty .stopped).setRec 0).stopCycle = some c → (hired 0).hotWindow < ((40 : CycleNo) - c).toNat) ∧
      0 < (hired 0).warmUpShort ∧ 1 < 3 := by
  refine ⟨fun mark => ⟨⟨rfl, rfl, rfl, rfl, (fun q h => by cases h), rfl⟩, rfl, ?_, rfl⟩, by decide, ⟨rfl, by decide, by decide⟩,
    (fun c h => by cases h), by decide, by decide⟩
  cases mark <;> decide

/-- The report of a set that is UNSEEN, ONLINE, WARMING, COOLING, STOPPED, STARTING, STOPPING and in FAULT; a baseline a cycle old, and one past
the hold limit; a sensor level at the tolerance and one outside it, at a count of 18 and of 19; and a forward count below and at its
divisor. -/
theorem witness_SetReportIsApplied :
    (∀ run ∈ [RunState.unseen, .online, .warming 5, .cooling 5, .stopped, .starting 1 3 (some 9) false, .stopping,
        .fault .setAlarm],
      SlotOf (atRun 0 run (cycling [0])) 0 (unit .set 1) ∧ ((atRun 0 run (cycling [0])).setRec 0).run = run ∧
        (atRun 0 run (cycling [0])).setEntry 0 = some (hired 0)) ∧
      (∀ x ∈ setReports, ValidFrom 0 (unit .set 1) (.frame (reportFrame 1 0 x.1))
        ⟨1, .set, x.2.1, x.2.2, 1 :: 0 :: x.1⟩) ∧
      (hired 0).enabled = true ∧ (hired 0).unit = 0 ∧ 0 < (hired 0).warmUpLong ∧
      (cycling [0]).engine.outstanding = none ∧ ((cycling [0]).link 0).state ≠ some .lost ∧
      ((cycling [0]).setRec 0).baseline = none ∧
      (∀ cycle ∈ [(39 : CycleNo), 19], SlotOf (burning 30000 cycle) 0 (unit .set 1) ∧
        ((burning 30000 cycle).setRec 0).baseline = some ⟨30000, cycle, false⟩ ∧
        ((burning 30000 cycle).tank 0).book ≤ ((burning 30000 cycle).tank 0).capacity ∧
        ((burning 30000 cycle).setRec 0).hire.burnt ≤ 2 ^ 64 - 1) ∧
      ((cycling [0]).tank 0).book ≤ 750 + (hired 0).sensorTolerance ∧
      749 + (hired 0).sensorTolerance < ((cycling [0]).tank 0).book ∧
      (((cycling [0]).modTank 0 fun t => { t with discCount := 19 }).tank 0).discCount = 19 ∧
      (∀ m y, ((cycling [0]).meter m).session = some y → y.set ≠ 0) ∧ ((cycling [0]).tank 0).discrepancy = false ∧
      (∃ m y, ((fuelling ⟨.granting, 0, 0, 0, 0, false⟩).meter m).session = some y ∧ y.set = 0) ∧
      (unit .set 1).forwardDivisor = 0 ∧ min 65535 (0 + 1) < 2 ∧ 1 ≤ min 65535 (0 + 1) := by
  have idle : ∀ m, ((cycling [0]).meter m).session = none := by decide
  refine ⟨fun run h => ?_, valid_set, rfl, rfl, by decide, rfl, by decide, rfl, fun cycle h => ?_, by decide, by decide, rfl,
    fun m y h => ?_, rfl, ⟨0, _, rfl, rfl⟩, rfl, by decide, by decide⟩
  · simp only [List.mem_cons, List.not_mem_nil, or_false] at h
    rcases h with rfl | rfl | rfl | rfl | rfl | rfl | rfl | rfl <;>
      exact ⟨⟨rfl, rfl, rfl, rfl, (fun q h => by cases h), rfl⟩, by decide, by decide⟩
  · simp only [List.mem_cons, List.not_mem_nil, or_false] at h
    rcases h with rfl | rfl <;>
      exact ⟨⟨rfl, rfl, rfl, rfl, (fun q h => by cases h), rfl⟩, rfl, by decide, by decide⟩
  · rw [idle m] at h; cases h

/-- The feeder in a sample state, with its baseline. -/
def sampled (state : SampleState) (connected : Option SetNo) : State :=
  (cycling [2]).modFeeder 0 fun r => { r with state, baseline := some ⟨50000, 39, false, connected⟩ }

/-- The board's sample names position 1, where feeder 1 is; a feeder at position 2 of it has none. The feeder is LIVE and HELD with a
baseline, and STALE; its account has an open interval, and none. -/
theorem witness_BoardReportIsApplied :
    SlotOf (cycling [2]) 2 (unit .board 1) ∧ ValidFrom 2 (unit .board 1) (.frame boardFrame) boardRead ∧
      demo.feederEntry 0 = some metered ∧ metered.board = 2 ∧
      [(⟨1, 60000, 1601, 230, .ok⟩ : BoardSample)].find? (fun y => y.position = metered.position) =
        some ⟨1, 60000, 1601, 230, .ok⟩ ∧
      [(⟨1, 60000, 1601, 230, .fault⟩ : BoardSample)].find? (fun y => y.position = metered.position) =
        some ⟨1, 60000, 1601, 230, .fault⟩ ∧
      [(⟨2, 60000, 1601, 230, .ok⟩ : BoardSample)].find? (fun y => y.position = metered.position) = none ∧
      (∀ z, demo.feederEntry 31 = some z → z.board ≠ 2) ∧
      (∀ state ∈ [SampleState.live, .held], SlotOf (sampled state none) 2 (unit .board 1) ∧
        stepOf (sampled state none) 2 [⟨1, 60001, 1601, 230, .ok⟩] 0 =
          some (metered, ⟨50000, 39, false, none⟩, ⟨1, 60001, 1601, 230, .ok⟩)) ∧
      ((sampled .stale none).feederRec 0).state = .stale ∧ OpenFor (open_ 87300 (sampled .live none)) metered.account ∧
      ¬ OpenFor (sampled .live none) metered.account ∧
      ((cycling [2]).setRec 0).hire.meteredMj ≤ 2 ^ 64 - 1 ∧ (cycling [2]).unattributed ≤ 2 ^ 64 - 1 ∧
      WindowMet metered.mode metered.low metered.high 1601 ∧ ¬ WindowMet metered.mode metered.low metered.high 1600 ∧
      (cycling [2]).limitFlag 0 = false ∧ (cycling [2]).engine.outstanding = none ∧ ((cycling [2]).link 2).state ≠ some .lost ∧
      (allFeeders.filter fun g => ((cycling [2]).feederEntry g).any fun z => z.board = 2).length ≤ 4 := by
  refine ⟨⟨rfl, rfl, rfl, rfl, (fun q h => by cases h), rfl⟩, ⟨_, rfl, test_board_report_is_read, rfl, rfl⟩, rfl, rfl,
    by decide, by decide, by decide, (fun z h => by cases h), fun state h => ?_, rfl, ⟨rfl, rfl, _, rfl, rfl⟩,
    (fun h => by cases h.1), by decide, by decide, (by decide : 1600 < 1601), (by decide : ¬ 1600 < 1600), rfl, rfl, by decide,
    by decide⟩
  simp only [List.mem_cons, List.not_mem_nil, or_false] at h
  rcases h with rfl | rfl <;> exact ⟨⟨rfl, rfl, rfl, rfl, (fun q h => by cases h), rfl⟩, by decide⟩

/-- The reports of the four positions; a position learnt, unchanged, changed by hand with a sequence in flight and without; the changes that
each phase awaits, with each abort mark, each verification, and a source to restore and none. -/
theorem witness_ChangeReportIsApplied :
    (∀ x ∈ changeReports, ValidFrom 3 (unit .change 1) (.frame (reportFrame 4 2 x.1))
      ⟨4, .change, x.2.1, x.2.2, 4 :: 2 :: x.1⟩) ∧
      (∀ q pos, SlotOf (switching q pos) 3 (unit .change 1) ∧ (switching q pos).engine.outstanding = none ∧
        ((switching q pos).link 3).state ≠ some .lost ∧ (switching q pos).pointEntry 0 = some changed ∧
        (switching q pos).switched 0 = some (3, 0, 1) ∧ ((switching q pos).pointRec 0).seq = some q ∧
        ((switching q pos).pointRec 0).position = pos) ∧
      SlotOf (cycling [3]) 3 (unit .change 1) ∧ ((cycling [3]).pointRec 0).position = .a ∧
      ((cycling [3]).pointRec 0).seq = none ∧
      (((cycling [3]).modPoint 0 fun r => { r with position := .unknown }).pointRec 0).position = .unknown ∧
      mapped .a = .a ∧ mapped .opened ≠ .a ∧ mapped .fault ≠ .a ∧
      ¬ Awaited (moving .dead .none) .b ∧ ¬ Awaited (moving .opening .none) .b ∧
      Awaited (moving .opening .none) .opened ∧ Awaited (moving .closing .none) .b ∧
      Awaited (moving .recovering .none) .a ∧
      (∀ mark, ({ moving .opening .none with abort := some mark } : Sequence).abort = some mark) ∧
      (∀ v, ({ moving .closing .none with verification := v } : Sequence).verification = v) ∧
      Restorable (atRun 0 .online (switching (moving .opening .none) .a)) (moving .opening .none) ∧
      ¬ Restorable (switching (moving .opening .none) .a) (moving .opening .none) := by
  refine ⟨valid_change, fun q pos => ⟨⟨rfl, rfl, rfl, rfl, (fun q h => by cases h), rfl⟩, rfl, ?_, rfl, rfl, rfl, rfl⟩,
    ⟨rfl, rfl, rfl, rfl, (fun q h => by cases h), rfl⟩, rfl, rfl, rfl, rfl, by decide, by decide, ?_, ?_, Or.inl ⟨rfl, rfl⟩,
    Or.inr (Or.inl ⟨rfl, rfl⟩), Or.inr (Or.inr ⟨rfl, Or.inr ⟨rfl, by decide⟩⟩), fun _ => rfl, fun _ => rfl,
    ⟨Or.inl rfl, 0, rfl, by decide, by decide⟩, ?_⟩
  · show ((cycling [3]).link 3).state ≠ some .lost
    decide
  · rintro (⟨h, -⟩ | ⟨h, -⟩ | ⟨h, -⟩) <;> cases h
  · rintro (⟨-, h⟩ | ⟨h, -⟩ | ⟨h, -⟩) <;> cases h
  · rintro ⟨-, n, h, hr, -⟩
    cases h
    exact absurd hr (by decide)

/-- A buffer with the first two bytes of the shortest ticket, and one with its first eight. -/
def buffered (n : Nat) : TicketBuffer := ⟨[12, 0, 0, 0, 0, 99, 1, 0].take n, 12, 0⟩

/-- Every meter state in every session state: a REQUEST that is permitted, and one for each denial; a volume above the high-water volume and
at it; the chunks of a ticket in their order, repeated and out of it; and a store with a place and with none. -/
theorem witness_FuelReportIsApplied :
    (∀ x ∈ fuelReports, ValidFrom 4 (unit .fuel 1) (.frame (reportFrame 5 3 x.1))
      ⟨5, .fuel, x.2.1, x.2.2, 5 :: 3 :: x.1⟩) ∧
      (∀ x, SlotOf (fuelling x) 4 (unit .fuel 1) ∧ (fuelling x).engine.outstanding = none ∧
        ((fuelling x).link 4).state ≠ some .lost ∧ ((fuelling x).meter 0).session = some x) ∧
      SlotOf (cycling [4]) 4 (unit .fuel 1) ∧ ((cycling [4]).meter 0).session = none ∧
      ((cycling [4]).meter 0).place = .free ∧ ((cycling [4]).meter 0).requestMark ≠ some 1 ∧ MeterRoom (cycling [4]) 0 ∧
      Hired (cycling [4]) 1 0 ∧ Denial (cycling [4]) 0 1 none ∧ Denial (cycling [4]) 0 9 (some .notHired) ∧
      Denial ((cycling [4]).modMeter 1 fun r => { r with session := some ⟨.granting, 0, 0, 0, 0, false⟩ }) 0 1
        (some .setBusy) ∧
      Denial ((cycling [4]).modTank 0 fun t => { t with book := 801 }) 0 1 (some .noRoom) ∧
      (((cycling [4]).modMeter 0 fun r => { r with lastChunk := some 0 }).meter 0).lastChunk = some 0 ∧
      (40 < 50 ∧ ((cycling [4]).tank 0).book ≤ ((cycling [4]).tank 0).capacity) ∧ 40 ≤ 40 ∧
      placesTaken (cycling [4]) < 16 ∧
      16 ≤ placesTaken { cycling [4] with tickets := List.replicate 16 ⟨⟨1, 1, 1, none, none, none, none, none⟩, 0, 1, 0⟩ } ∧
      (12 : Byte).toNat = 12 ∧ (11 : Byte).toNat < 12 ∧
      ((1 : Byte).toNat = (buffered 8).lastChunk.toNat + 1 ∧ (0 : Byte) = (buffered 8).lastChunk ∧
        (3 : Byte).toNat ≠ (buffered 8).lastChunk.toNat + 1) ∧
      (buffered 2).bytes.length < (buffered 2).length ∧
      (12 ≤ ((buffered 8).bytes ++ [40, 0, 8, 178]).length ∧
        parseTicket (((buffered 8).bytes ++ [40, 0, 8, 178]).take 12) = some ⟨99, 1, 40, none, none, none, none, none⟩ ∧
        parseTicket (((buffered 8).bytes ++ [40, 0, 8, 179]).take 12) = none) := by
  have hire : Hired (cycling [4]) 1 0 := ⟨rfl, _, rfl, rfl⟩
  have idle : ∀ m, ((cycling [4]).meter m).session = none := by decide
  have alone : ∀ j x, j ≠ (0 : MeterNo) → ((cycling [4]).meter j).session = some x → x.set ≠ 0 :=
    fun j x _ h => by rw [idle j] at h; cases h
  refine ⟨valid_fuel, fun x => ⟨⟨rfl, rfl, rfl, rfl, (fun q h => by cases h), rfl⟩, rfl, ?_, rfl⟩,
    ⟨rfl, rfl, rfl, rfl, (fun q h => by cases h), rfl⟩, rfl, rfl, by decide, ⟨by decide, (fun c h => by cases h), fun q h => by cases h⟩,
    hire, .none 0 hire alone (by decide), .notHired (fun n h => by have := h.1; omega),
    .setBusy 0 hire ⟨1, _, by decide, rfl, rfl⟩, .noRoom 0 hire alone (by decide), rfl, ⟨by decide, by decide⟩, by decide,
    by decide, by decide, rfl, by decide, ⟨rfl, rfl, by decide⟩, by decide, by decide, by decide +kernel, by decide +kernel⟩
  show ((cycling [4]).link 4).state ≠ some .lost
  decide

/-- A LOST unit heard again: the second half of `LinkLostIsTold`. -/
theorem witness_LinkLostIsTold_return :
    SlotOf ((cycling [3]).modLink 3 fun l => { l with state := some .lost }) 3 (unit .change 1) ∧
      (((cycling [3]).modLink 3 fun l => { l with state := some .lost }).link 3).state = some .lost ∧
      ValidFrom 3 (unit .change 1) (.frame changeFrame) (changeRead .none [4, 2, 0, 2, 1]) ∧
      (∃ x, (cycling [0]).setEntry 0 = some x ∧ x.unit = 0) :=
  ⟨⟨rfl, rfl, rfl, rfl, (fun q h => by cases h), rfl⟩, rfl, ⟨_, rfl, test_change_reports_are_read.1, rfl, rfl⟩, _, rfl, rfl⟩

/-- The Office Port sending, with what waits behind it. -/
def sending (f : TxFrame) (waiting : List OfficeFrame) (r : Option Response) : State :=
  { demo with port := { demo.port with tx := some f, rxQueue := waiting, response := r } }

theorem witness_LineEvents :
    ({ demo.engine with fde := true } : Engine).fde = true ∧ demo.engine.fde = false ∧
      ({ demo.port with rx := .partialFrame [0] } : Port).rx = .partialFrame [0] ∧ demo.port.rx = .hunting ∧
      (sending .response [] none).port.rxQueue = [] ∧ (sending .response [⟨0, 1, 1, []⟩] none).port.rxQueue =
        ⟨0, 1, 1, []⟩ :: [] ∧ Calm (sending .notice [] none) ∧ Calm (sending .copy [] none) ∧
      (sending .notice [] (some ⟨0, 1, 1, ⟨.ok, .none⟩⟩)).port.response = some ⟨0, 1, 1, ⟨.ok, .none⟩⟩ ∧
      demo.due = [] ∧ (sending .notice [] none).due = [] :=
  ⟨rfl, rfl, rfl, rfl, rfl, rfl, ⟨rfl, rfl, rfl⟩, ⟨rfl, rfl, rfl⟩, rfl, rfl, rfl⟩

/-! ### Requests: each is taken while the Port is calm -/

/-- An entry of each kind loaded and unloaded; the indexes at the ends of their ranges, and just outside. -/
theorem witness_StatusAndNumberedReads :
    Calm demo ∧ (∃ e, demo.unitEntry 4 = some e ∧ e.enabled = true ∧ e.kind = .fuel ∧ e.owner = (0 : MeterNo).val + 1) ∧
      (∀ e, demo.unitEntry 62 = some e → e.enabled = false ∨ e.kind ≠ .fuel) ∧ demo.feederEntry 0 ≠ none ∧
      demo.feederEntry 31 = none ∧ demo.setEntry 0 ≠ none ∧ demo.setEntry 7 = none ∧ demo.pointEntry 11 = none ∧
      (∃ e, demo.pointEntry 1 = some e ∧ e.source = .fixed 0) ∧ demo.switched 0 = some (3, 0, 1) ∧
      OpenFor (open_ 87300 demo) 0 ∧ ¬ OpenFor (open_ 87300 demo) 47 ∧ 63 < 64 ∧ 32 < 33 ∧ 8 < 9 ∧ 12 < 13 ∧
      48 < 49 :=
  ⟨calm_demo, ⟨_, rfl, rfl, rfl, rfl⟩, (fun e h => by cases h), by decide, by decide, by decide, by decide, by decide,
    ⟨_, rfl, rfl⟩, by decide, ⟨rfl, rfl, _, rfl, rfl⟩, (fun h => by obtain ⟨-, -, e, he, -⟩ := h; cases he), by decide,
    by decide, by decide, by decide, by decide⟩

/-- A new time that reaches the next boundary, and one a second short of it. -/
theorem witness_SetClock :
    Calm demo ∧ 86399 < 86400 ∧ 999 < 1000 ∧ 86399 ≤ 86399 ∧ demo.site.live = false ∧
      Calm (open_ 87300 demo) ∧ (open_ 87300 demo).site.live = true ∧
      (open_ 87300 demo).billing.interval = some ⟨86400, true, 87300, 0, false⟩ ∧
      (open_ 87300 demo).billing.clock = some 86400500 ∧ 87300 ≤ ((1 * 86400 + 900) * 1000 + 0) / 1000 ∧
      ((1 * 86400 + 899) * 1000 + 999) / 1000 < 87300 :=
  ⟨calm_demo, by decide, by decide, by decide, rfl, ⟨rfl, rfl, rfl⟩, rfl, rfl, rfl, by decide, by decide⟩

theorem witness_StartCycles :
    Calm (cycling []) ∧ (cycling []).engine.running = true ∧ Calm State.reset ∧ State.reset.engine.running = false ∧
      (∀ a, State.reset.enabledUnit a = false) ∧ Calm demo ∧ demo.engine.running = false ∧
      ∃ a, demo.enabledUnit a = true :=
  ⟨⟨rfl, rfl, rfl⟩, rfl, ⟨rfl, rfl, rfl⟩, rfl, by decide, calm_demo, rfl, 0, by decide⟩

/-- A command of set 1 outstanding. -/
def starting_ (s : State) : State :=
  { s with engine := { s.engine with outstanding := some ⟨⟨0, .start, [], .sets 0⟩, true, false⟩ } }

theorem witness_StopCycles :
    Calm demo ∧ demo.engine.running = false ∧ Calm (cycling [0]) ∧ (cycling [0]).engine.running = true ∧
      (cycling [0]).engine.outstanding = none ∧
      (asked officeCommand (cycling [3])).engine.outstanding = some ⟨⟨3, .indicate, [170], .office 9⟩, true, false⟩ ∧
      (starting_ (cycling [0])).engine.outstanding = some ⟨⟨0, .start, [], .sets 0⟩, true, false⟩ ∧
      OpenFor (open_ 87300 (cycling [0])) 0 ∧ ¬ OpenFor demo 0 :=
  ⟨calm_demo, rfl, ⟨rfl, rfl, rfl⟩, rfl, rfl, rfl, rfl, ⟨rfl, rfl, _, rfl, rfl⟩, fun h => by cases h.1⟩

theorem witness_FieldRestart :
    Calm (asked officeCommand (cycling [3])) ∧ (asked officeCommand (cycling [3])).engine.outstanding =
      some ⟨⟨3, .indicate, [170], .office 9⟩, true, false⟩ ∧ demo.enabledUnit 0 = true ∧ demo.enabledUnit 62 = false ∧
      demo.switched 0 ≠ none ∧ demo.switched 1 = none ∧ Calm demo :=
  ⟨⟨rfl, rfl, rfl⟩, rfl, by decide, by decide, by decide, by decide, calm_demo⟩

/-- NO_ANSWER for a START on each kind of attempt, its number above the crank attempts among them, and for a STOP; for each phase of a sequence; and
for a PERMIT and a REVOKE. -/
theorem witness_StopCycles_owners :
    (∀ run ∈ [RunState.starting 3 3 none false, .starting 2 3 none false, .starting 4 3 none false, .starting 1 3 none true,
        .stopping], ∀ code,
      Calm (asked (setCommand code) (atRun 0 run (cycling [0]))) ∧
      (asked (setCommand code) (atRun 0 run (cycling [0]))).engine.running = true ∧
      (asked (setCommand code) (atRun 0 run (cycling [0]))).engine.outstanding = some ⟨setCommand code, true, false⟩ ∧
      (asked (setCommand code) (atRun 0 run (cycling [0]))).setEntry 0 = some (hired 0) ∧
      ((asked (setCommand code) (atRun 0 run (cycling [0]))).setRec 0).run = run ∧
      ((asked (setCommand code) (atRun 0 run (cycling [0]))).setRec 0).due = none) ∧
    (∀ q pos code, Calm (asked ⟨3, code, [], .changeover 0⟩ (switching q pos)) ∧
      (asked ⟨3, code, [], .changeover 0⟩ (switching q pos)).engine.running = true ∧
      ((asked ⟨3, code, [], .changeover 0⟩ (switching q pos)).pointRec 0).seq = some q ∧
      ((asked ⟨3, code, [], .changeover 0⟩ (switching q pos)).pointRec 0).due = none) ∧
    (∀ x code, Calm (asked ⟨4, code, [], .fuel 0⟩ (fuelling x)) ∧
      (asked ⟨4, code, [], .fuel 0⟩ (fuelling x)).engine.running = true ∧
      ((asked ⟨4, code, [], .fuel 0⟩ (fuelling x)).meter 0).session = some x ∧
      ((asked ⟨4, code, [], .fuel 0⟩ (fuelling x)).meter 0).due = false) := by
  refine ⟨fun run h code => ?_, fun q pos code => ⟨⟨rfl, rfl, rfl⟩, rfl, rfl, rfl⟩,
    fun x code => ⟨⟨rfl, rfl, rfl⟩, rfl, rfl, rfl⟩⟩
  simp only [List.mem_cons, List.not_mem_nil, or_false] at h
  rcases h with rfl | rfl | rfl | rfl | rfl <;> exact ⟨⟨rfl, rfl, rfl⟩, rfl, rfl, rfl, rfl, rfl⟩

/-- An office entry queued behind an outstanding one; a START and a STOP of set 1 with a FIXED point and with none; a START that waits for the
unreachable mark; a sequence with its command outstanding, and with none; and sessions in each phase. -/
theorem witness_FieldRestart_owners :
    (let s := queueing [officeCommand] (asked officeCommand (cycling [3]))
     Calm s ∧ endedByRestart s = [officeCommand, officeCommand] ∧ s.port.notices.length + s.engine.queue.length ≤ 11) ∧
    (∀ run ∈ [RunState.starting 1 3 (some 5) true, .stopping], ∀ code,
      Calm (asked (setCommand code) (offDuty run)) ∧
      endedByRestart (asked (setCommand code) (offDuty run)) = [setCommand code] ∧
      (asked (setCommand code) (offDuty run)).setEntry 0 ≠ none ∧
      ((asked (setCommand code) (offDuty run)).setRec 0).run = run ∧
      ((asked (setCommand code) (offDuty run)).setRec 0).due = none ∧
      ((asked (setCommand code) (offDuty run)).setRec 0).reservations = [] ∧
      (∀ p, (asked (setCommand code) (offDuty run)).pointEntry p = none)) ∧
    ((asked (setCommand .stop) (atRun 0 .stopping (cycling [0]))).pointEntry 1 = some { changed with source := .fixed 0 }) ∧
    (let s := (atRun 0 (.starting 2 3 none false) demo).modSet 0 fun r => { r with due := some .start, unreachable := true }
     Unasked s (.sets 0) ∧ s.setEntry 0 ≠ none ∧ (s.setRec 0).unreachable = true ∧ (s.setRec 0).place = .free ∧
        (s.setRec 0).due = some .start) ∧
    (Unasked demo (.sets 0) ∧ (demo.setRec 0).unreachable = false) ∧
    (∀ phase ∈ [Phase.opening, .closing, .recovering], ∀ code,
      let s := asked ⟨3, code, [], .changeover 0⟩ (switching (moving phase .none) .opened)
      endedByRestart s = [⟨3, code, [], .changeover 0⟩] ∧ (s.pointRec 0).seq = some (moving phase .none) ∧
        (s.pointRec 0).due = none ∧ s.switched 0 ≠ none) ∧
    (let s := switching (moving .dead (.dead 9)) .opened
     (s.setRec 1).unreachable = false ∧ (s.setRec 0).unreachable = false) ∧
    (∀ phase ∈ [SessionPhase.granting, .dispensing, .ticketing (some 3) none], ∀ code cancel,
      let s := asked ⟨4, code, [], .fuel 0⟩ (fuelling ⟨phase, 0, 200, 40, 40, cancel⟩)
      Calm s ∧ endedByRestart s = [⟨4, code, [], .fuel 0⟩] ∧
        (s.meter 0).session = some ⟨phase, 0, 200, 40, 40, cancel⟩ ∧ (s.meter 0).due = false ∧ (s.meter 1).session = none ∧
        Unasked s (.fuel 1)) := by
  refine ⟨⟨⟨rfl, rfl, rfl⟩, rfl, by decide⟩, fun run h code => ?_, rfl,
    ⟨unasked _ _ rfl rfl, by decide, rfl, rfl, rfl⟩, ⟨unasked _ _ rfl rfl, rfl⟩, fun phase h code => ?_, ⟨rfl, rfl⟩,
    fun phase h code cancel => ?_⟩ <;> simp only [List.mem_cons, List.not_mem_nil, or_false] at h
  · have entries : ∀ p, (offDuty .stopped).pointEntry p = none := by decide
    rcases h with rfl | rfl <;> exact ⟨⟨rfl, rfl, rfl⟩, rfl, (fun h => by cases h), rfl, rfl, rfl, entries⟩
  · rcases h with rfl | rfl | rfl <;> exact ⟨rfl, rfl, rfl, (fun h => by cases h)⟩
  · rcases h with rfl | rfl | rfl <;>
      exact ⟨⟨rfl, rfl, rfl⟩, rfl, rfl, rfl, rfl, (fun c h => by cases h),
        (fun q h => by cases h; exact (fun h => by cases h))⟩

/-- In COMMISSION after reset the clock is the first item that fails; the demonstration site with its cycle running has none. -/
theorem witness_GoLive :
    Calm (open_ 87300 demo) ∧ (open_ 87300 demo).site.live = true ∧ Calm State.reset ∧ State.reset.site.live = false ∧
      GoLiveFails State.reset .clock ∧
      (∀ other, GoLiveFails State.reset other → goLiveRank .clock ≤ goLiveRank other) ∧
      Calm (cycling []) ∧ (cycling []).site.live = false ∧ (∀ item, ¬ GoLiveFails (cycling []) item) ∧
      (cycling []).billing.clock = some 86400500 := by
  refine ⟨⟨rfl, rfl, rfl⟩, rfl, ⟨rfl, rfl, rfl⟩, rfl, rfl, fun other _ => ?_, ⟨rfl, rfl, rfl⟩, rfl, fun item h => ?_, rfl⟩
  · cases other <;> simp only [goLiveRank] <;> omega
  · have units : ∀ a, (cycling []).unitEntry a = none ∨ a = 0 ∨ a = 1 ∨ a = 2 ∨ a = 3 ∨ a = 4 := by decide
    have feeders : ∀ f, (cycling []).feederEntry f = none ∨ f = 0 := by decide
    have sets : ∀ n, (cycling []).setEntry n = none ∨ n = 0 ∨ n = 1 := by decide
    have points : ∀ p, (cycling []).pointEntry p = none ∨ p = 0 ∨ p = 1 := by decide
    have sides : ∀ p, (cycling []).switched p = none ∨ p = 0 := by decide
    have accounts : ∀ k, (cycling []).accountEntry k = none ∨ k = 0 := by decide
    cases item with
    | clock => cases h
    | cycles => cases h
    | tariff => cases h
    | slots => exact absurd (show (cycling []).tables.slotsFit = false from h) (by decide)
    | unit a =>
      obtain ⟨e, he, -, hn⟩ := h
      rcases units a with h0 | rfl | rfl | rfl | rfl | rfl
      · rw [h0] at he; cases he
      · cases he; exact hn ⟨0, _, rfl, rfl, rfl⟩
      · cases he; exact hn ⟨1, _, rfl, rfl, rfl⟩
      · cases he; exact hn ⟨0, _, rfl, rfl⟩
      · cases he; exact hn ⟨0, 0, 1, rfl, rfl⟩
      · cases he; exact hn trivial
    | feederBoard f =>
      obtain ⟨e, he, hn⟩ := h
      rcases feeders f with h0 | rfl
      · rw [h0] at he; cases he
      · cases he; rcases hn _ rfl with h1 | h1
        · cases h1
        · exact h1 rfl
    | feederPoint f =>
      obtain ⟨e, he, hn⟩ := h
      rcases feeders f with h0 | rfl
      · rw [h0] at he; cases he
      · cases he; cases hn
    | feederAccount f =>
      obtain ⟨e, he, hn⟩ := h
      rcases feeders f with h0 | rfl
      · rw [h0] at he; cases he
      · cases he; cases hn _ rfl
    | setUnit n =>
      obtain ⟨e, he, -, hn⟩ := h
      rcases sets n with h0 | rfl | rfl
      · rw [h0] at he; cases he
      · cases he; rcases hn _ rfl with h1 | h1 | h1
        · cases h1
        · exact h1 rfl
        · exact h1 rfl
      · cases he; rcases hn _ rfl with h1 | h1 | h1
        · cases h1
        · exact h1 rfl
        · exact h1 rfl
    | pointSource p =>
      obtain ⟨e, he, n, hs, hn⟩ := h
      rcases points p with h0 | rfl | rfl
      · rw [h0] at he; cases he
      · cases he
        rcases hs with hs | ⟨u, k, hs | hs⟩ <;> cases hs <;> cases hn _ rfl
      · cases he
        rcases hs with hs | ⟨u, k, hs | hs⟩ <;> cases hs <;> cases hn _ rfl
    | pointUnit p =>
      obtain ⟨u, x, y, he, hn⟩ := h
      rcases sides p with h0 | rfl
      · rw [h0] at he; cases he
      · cases he; rcases hn _ rfl with h1 | h1 | h1
        · cases h1
        · exact h1 rfl
        · exact h1 rfl
    | accountClass k =>
      obtain ⟨e, table, he, -, ht, hc⟩ := h
      rcases accounts k with h0 | rfl
      · rw [h0] at he; cases he
      · cases he; cases ht; exact absurd hc (by decide)

/-- The site LIVE with its record queue full. -/
def full : State :=
  { open_ 87300 demo with
    billing := { (open_ 87300 demo).billing with
      records := List.replicate 512 (.bill ⟨1, 0, 0, 1, none, none, 0, 0, 0, 0⟩) } }

/-- The demonstration site with a number of records held, and the next record number at its end. -/
def holding (n : Nat) : State :=
  { demo with billing := { demo.billing with
      records := List.replicate n (.bill ⟨1, 0, 0, 1, none, none, 0, 0, 0, 0⟩), nextRecord := 4294967295 } }

theorem full_records : full.billing.records.length = 512 := List.length_replicate

/-- COMMISSION; the record queue full; the record queue empty, with a commit waiting and without. -/
theorem witness_StandDown :
    Calm demo ∧ demo.site.live = false ∧ Calm full ∧ full.site.live = true ∧
      512 - full.billing.records.length < full.activeAccounts.length ∧ Calm (open_ 87300 demo) ∧
      (open_ 87300 demo).site.live = true ∧
      (open_ 87300 demo).billing.interval = some ⟨86400, true, 87300, 0, false⟩ ∧
      (open_ 87300 demo).billing.clock = some 86400500 ∧
      (open_ 87300 demo).activeAccounts.length ≤ 512 - (open_ 87300 demo).billing.records.length ∧
      (∀ k, -18000000 ≤ ((open_ 87300 demo).account k).carry) ∧
      ({ demo.tariff with pending := .commitPending dayTariff } : Tariff).pending = .commitPending dayTariff ∧
      demo.tariff.pending.isCommitted = false := by
  have one : full.activeAccounts.length = 1 := by decide
  refine ⟨calm_demo, rfl, ⟨rfl, rfl, rfl⟩, rfl, ?_, ⟨rfl, rfl, rfl⟩, rfl, rfl, rfl, by decide, by decide, rfl, rfl⟩
  rw [full_records, one]; decide

/-- The unit of set 1, in use while the set warms up. -/
theorem busy_unit : OwnerBusy (atRun 0 (.warming 0) demo) (unit .set 1) :=
  Or.inl ⟨rfl, 0, rfl, trivial⟩

theorem idle_unit (s : State) (kind : UnitKind) (h : kind = .board) (owner : Nat) : ¬ OwnerBusy s (unit kind owner) := by
  subst h
  rintro (⟨h, -⟩ | ⟨h, -⟩ | ⟨h, -⟩) <;> cases h

/-- Each refusal and each effect of LOAD UNIT: an exact repeat, a kind that would change in LIVE, a unit in use, a board the live
site needs, a board that feeders name taking another kind, a unit enabled, disabled, cleared while it is not enabled, and kept with the
owner 16. -/
theorem witness_LoadUnit :
    Calm demo ∧ 63 < 64 ∧ owners .set < 9 ∧ owners .board < 17 ∧ owners .change < 13 ∧ owners .fuel < 3 ∧
    demo.unitEntry 2 = some (unit .board 1) ∧ (open_ 87300 demo).site.live = true ∧
    ((open_ 87300 demo).unitEntry 2).map (fun e => (e.kind, e.owner)) ≠
      (none : Option UnitEntry).map (fun e => (e.kind, e.owner)) ∧
    (∃ o, (atRun 0 (.warming 0) demo).unitEntry 0 = some o ∧ OwnerBusy (atRun 0 (.warming 0) demo) o) ∧
    KindNamed (open_ 87300 demo) 2 .board ∧ ¬ OwnerBusy (open_ 87300 demo) (unit .board 1) ∧
    (KindNamed demo 2 .board ∧ (unit .board 1).kind ≠ (unit .set 3).kind) ∧
    (demo.unitEntry 62 = none ∧ (demo.putUnitEntry 62 (some (unit .board 16))).tables.slotsFit = true) ∧
    (demo.putUnitEntry 2 none).tables.slotsFit = true ∧
    (demo.putUnitEntry 2 (some (unit .board 16))).tables.slotsFit = true ∧ ¬ OwnerBusy demo (unit .board 1) ∧
    ¬ demo.site.live = true ∧ ¬ KindNamed demo 4 .fuel ∧
    ((demo.putUnitEntry 62 (some (disabled (unit .board 2)))).unitEntry 62 = some (disabled (unit .board 2)) ∧
      (demo.putUnitEntry 62 none).tables.slotsFit = true ∧ ¬ OwnerBusy demo (disabled (unit .board 2))) := by
  refine ⟨calm_demo, by decide, by decide, by decide, by decide, by decide, rfl, rfl, by decide,
    ⟨_, rfl, busy_unit⟩, Or.inl ⟨rfl, 0, _, rfl, rfl⟩, idle_unit _ _ rfl _,
    ⟨Or.inl ⟨rfl, 0, _, rfl, rfl⟩, by decide⟩, ⟨rfl, by decide⟩, by decide, by decide, idle_unit _ _ rfl _,
    by decide, ?_, rfl, by decide, ?_⟩ <;>
  rintro (⟨h, -⟩ | ⟨h, -⟩ | ⟨h, -⟩) <;> cases h

/-- CLEAR of an entry that is not enabled ends what is queued for the unit UNIT_LOST, and leaves the rest of the queue (R4). -/
theorem test_clear_of_a_disabled_unit_ends_its_commands :
    let s := demo.putUnitEntry 62 (some (disabled (unit .board 2)))
    let t := ({ s with engine := { s.engine with
      queue := [⟨62, .indicate, [], .office 7⟩, ⟨3, .indicate, [], .office 8⟩] } }).storeUnit 62 none
    t.engine.queue = [⟨3, .indicate, [], .office 8⟩] ∧
      t.port.notices.map Notice.body = [.commandResult 7 62 .indicate .unitLost 0] := by decide

/-- The fields that load an entry of the demonstration feeder. -/
def wired (position low high : Nat) : FeederFields := ⟨3, position, 1, 1, some .above, low, high⟩

/-- Each refusal and each effect: an exact repeat, a moved feeder and an edited window in LIVE, a board that is none, a place taken,
a new entry; an account whose class would change in LIVE, and one whose customer does. -/
theorem witness_LoadFeederAndAccount :
    Calm demo ∧ 32 < 33 ∧ 48 < 49 ∧ (wired 5 0 0).position > 4 ∧ (wired 1 1 0).high < (wired 1 1 0).low ∧
    demo.feederEntry 0 = some metered ∧ (⟨2, 1, 0, 0, .above, 0, 1600⟩ : FeederEntry) = metered ∧
    (some metered).map (fun e : FeederEntry => (e.board, e.position, e.point, e.account)) ≠
      (some { metered with position := 4 }).map (fun e : FeederEntry => (e.board, e.position, e.point, e.account)) ∧
    (some metered).map (fun e : FeederEntry => (e.board, e.position, e.point, e.account)) =
      (some { metered with low := 1600 }).map (fun e : FeederEntry => (e.board, e.position, e.point, e.account)) ∧
    (demo.unitEntry 4 = some (unit .fuel 1) ∧ (unit .fuel 1).kind ≠ .board) ∧
    (∃ x, demo.feederEntry 0 = some x ∧ x.board = 2 ∧ x.position = 1) ∧
    (demo.feederEntry 31 = none ∧ (∀ u, demo.unitEntry 2 = some u → u.kind = .board) ∧
      ∀ g x, g ≠ 31 → demo.feederEntry g = some x → x.board ≠ 2 ∨ x.position ≠ 4) ∧
    (demo.accountEntry 0).map (fun e => (e.active, e.tariffClass)) ≠
      (some ⟨true, 7, 1234⟩ : Option AccountEntry).map (fun e => (e.active, e.tariffClass)) ∧
    (demo.accountEntry 0).map (fun e => (e.active, e.tariffClass)) =
      (some ⟨true, 0, 65535⟩ : Option AccountEntry).map (fun e => (e.active, e.tariffClass)) := by
  have feeders : ∀ f, demo.feederEntry f = none ∨ f = 0 := by decide
  refine ⟨calm_demo, by decide, by decide, by decide, by decide, rfl, rfl, by decide, by decide, ⟨rfl, by decide⟩,
    ⟨_, rfl, rfl, rfl⟩, ⟨rfl, fun u h => by cases h; rfl, fun g x _ h => ?_⟩, by decide, by decide⟩
  rcases feeders g with h0 | rfl
  · rw [h0] at h; cases h
  · cases h; exact Or.inr (by decide)

/-- The fields that would store the demonstration set entry of a unit. -/
def rated (unit : Nat) (enabled : Bool) (capacity : Nat) : SetFields :=
  { unit, enabled := some enabled, rating := 100, capacity, noLoadRate := 5000, incrementalRate := 250
    lowLevel := 300, reserveLevel := 100, lowLoadLimit := 300, overloadLimit := 900, overloadHold := 50
    warmUpLong := 300, warmUpShort := 50, hotWindow := 600, coolDown := 60, crankAttempts := 3, crankWindow := 100
    sensorTolerance := 50 }

/-- Each refusal and each effect of LOAD SET: an exact repeat, a capacity that would change in LIVE, a set that warms up, a source in
service, the unit of another set, a smaller tank, a set enabled, and a set disabled. -/
theorem witness_LoadSet :
    Calm demo ∧ 8 < 9 ∧ 63 < 64 ∧ storedSet 0 true (rated 1 true 1000) = hired 0 ∧ demo.setEntry 0 = some (hired 0) ∧
    (some (hired 0)).map (fun e : SetEntry => (e.unit, e.rating, e.capacity)) ≠
      (some (storedSet 0 true (rated 1 true 9))).map (fun e : SetEntry => (e.unit, e.rating, e.capacity)) ∧
    (InFlight ((atRun 0 (.warming 0) demo).setRec 0).run ∧
      (some (hired 0)).map (fun e : SetEntry => (e.unit, e.enabled, e.rating, e.capacity)) ≠
        (some (storedSet 0 false (rated 1 false 1000))).map
          (fun e : SetEntry => (e.unit, e.enabled, e.rating, e.capacity))) ∧
    ¬ InFlight (demo.setRec 0).run ∧ ((∃ p, demo.connectedSet p = some 0) ∧ (storedSet 0 false (rated 1 false 1000)).enabled = false) ∧
    (∃ x, demo.setEntry 1 = some x ∧ x.unit = (storedSet 1 true (rated 2 true 1000)).unit) ∧
    ((storedSet 0 true (rated 1 true 799)).capacity < (demo.tank 0).book ∧
      (∀ u, demo.unitEntry (storedSet 0 true (rated 1 true 799)).unit = some u → u.kind = .set)) ∧
    (demo.setEntry 7 = none ∧ (demo.setRec 7).due = none ∧ demo.unitEntry 62 = none ∧
      ∀ k x, k ≠ 7 → demo.setEntry k = some x → x.unit ≠ 62) ∧
    ((∀ p, demo.connectedSet p ≠ some 1) ∧ (demo.setRec 1).reservations = [] ∧ (demo.setRec 1).due = none) := by
  have sets : ∀ n, demo.setEntry n = none ∨ n = 0 ∨ n = 1 := by decide
  refine ⟨calm_demo, by decide, by decide, by decide, rfl, by decide, ⟨trivial, by decide⟩, ?_, ⟨⟨0, by decide⟩, rfl⟩,
    ⟨_, rfl, rfl⟩, ⟨by decide, fun u h => by cases h; rfl⟩, ⟨rfl, rfl, rfl, fun k x _ h => ?_⟩,
    ⟨by decide, rfl, rfl⟩⟩
  · intro h; exact h
  · rcases sets k with h0 | rfl | rfl
    · rw [h0] at h; cases h
    · cases h; decide
    · cases h; decide

/-- The fields of a switched point, its timings omitted or at the ends of their ranges. -/
def switchable (unit a b : Nat) (dead confirm prepare : Option Nat) : PointFields :=
  ⟨.switched unit a b, dead, confirm, prepare, 50, some true, some true, some true⟩

/-- Each refusal and each effect of LOAD POINT: an exact repeat, a source that would change in LIVE, a sequence in flight, the office
share too full for one more switched point, a unit that is none, a timing edit, and a point that ceases to be SWITCHED. -/
theorem witness_LoadPoint :
    Calm demo ∧ 12 < 13 ∧ (∀ source, ¬ SourceNamed .unnamed source) ∧ (∀ source, ¬ SourceNamed (.switched 4 1 1) source) ∧
    SourceNamed (switchable 4 1 2 none none none).source (.switched 3 0 1) ∧
    storedPoint (.switched 3 0 1) true true true (switchable 4 1 2 none none none) = changed ∧
    (storedPoint (.switched 3 0 1) true true true (switchable 4 1 2 (some 0) (some 255) (some 9))).deadTime = 5 ∧
    (demo.pointEntry 0 = some changed ∧ Switched changed) ∧
    (some changed).map PointEntry.source ≠ (none : Option PointEntry).map PointEntry.source ∧
    ((inFlight (moving .dead .none) .opened demo).pointRec 0).seq ≠ none ∧
    (∀ o, demo.pointEntry 11 = some o → ¬ Switched o) ∧
    24 - (10 + (demo.putPointEntry 11 (some changed)).tables.switchedCount) ≤ 12 ∧
    (∃ x, demo.unitEntry 2 = some x ∧ x.kind ≠ .change) ∧ demo.switched 0 = some (3, 0, 1) ∧
    (some changed).map PointEntry.source = (some { changed with deadTime := 5 }).map PointEntry.source ∧
    (demo.site.live = false ∧ (demo.pointRec 0).seq = none ∧ ({ demo with schedule := [⟨1, 0, 0, .b⟩] } : State).schedule.length ≤ 16) := by
  refine ⟨calm_demo, by decide, fun x h => ?_, fun x h => ?_, ⟨rfl, rfl, rfl, by decide⟩, by decide, by decide,
    ⟨rfl, 3, 0, 1, rfl⟩, by decide, by decide, (fun o h => by cases h), by decide, ⟨_, rfl, by decide⟩, by decide, rfl,
    rfl, rfl, by decide⟩
  · cases x <;> exact h
  · cases x with
    | fixed n => exact h
    | switched u a b => exact h.2.2.2 (Fin.ext (by have := h.2.1; have := h.2.2.1; omega))

theorem witness_SiteCycleAndGate :
    Calm demo ∧ 14 ∉ [5, 10, 15, 30, 60] ∧ 60 ∈ [5, 10, 15, 30, 60] ∧ 60 ≠ demo.site.values.intervalMin ∧
      demo.site.values.intervalMin = 15 ∧ (open_ 87300 demo).site.live = true ∧ demo.site.live = false ∧
      (∃ c : ClassNo, ∃ bands : List Band,
        ({ dayTariff with classes := dayTariff.classes.set 7 (some [⟨0, 1⟩, ⟨300, 2⟩]) } : TariffTable).classes[c] =
          some bands ∧ ∃ b ∈ bands, ¬ b.start % (10 * 60) = 0) ∧
      (∀ (c : ClassNo) (bands : List Band), dayTariff.classes[c] = some bands → ∀ b ∈ bands, b.start % (60 * 60) = 0) ∧
      Code.permit ∈ [Code.start, .stop, .openSwitch, .closeA, .closeB, .permit, .deny, .revoke] ∧
      codeKind .indicate ≠ .set ∧
      plainCommands.map (fun x => x.2.1) = [.alarmReset, .lampTest, .indicate, .resetMax, .identify, .message] := by
  have classes : ∀ c : ClassNo, dayTariff.classes[c] = none ∨ c = 0 := by decide
  refine ⟨calm_demo, by decide, by decide, by decide, rfl, rfl, rfl, ⟨7, _, rfl, ⟨300, 2⟩, by decide, by decide⟩,
    fun c bands h b hb => ?_, by decide, by decide, rfl⟩
  rcases classes c with h0 | rfl
  · rw [h0] at h; cases h
  · have : bands = [⟨0, 2500⟩] := by cases h; rfl
    subst this
    simp only [List.mem_singleton] at hb
    subst hb; decide

theorem witness_ClearFlagsAndHire :
    Calm demo ∧ 4095 < 4096 ∧ 4096 ≤ 4096 ∧ 63 < 64 ∧ 8 < 9 := ⟨calm_demo, by decide, by decide, by decide, by decide⟩

/-- Set 2 with its unreachable mark. -/
def cutOff (s : State) : State := s.modSet 1 fun r => { r with unreachable := true }

/-- Set 2, which feeds no point, in every run state. -/
theorem witness_SetStart :
    Calm demo ∧ 8 < 9 ∧ demo.setEntry 1 = some (hired 1) ∧ (demo.setRec 1).run = .stopped ∧
      (demo.setRec 1).unreachable = false ∧ ((cutOff demo).setRec 1).unreachable = true ∧
      ((cutOff demo).setRec 1).run = .stopped ∧
      (∀ run ∈ [RunState.offline, .unseen, .fault .setAlarm, .starting 3 3 (some 0) true, .online, .warming 0, .cooling 0,
        .stopping], ((atRun 1 run demo).setRec 1).run = run ∧ Calm (atRun 1 run demo)) ∧
      ((atRun 1 .stopping demo).modSet 1 fun r => { r with place := .sent .stop }).setRec 1 =
        { (atRun 1 .stopping demo).setRec 1 with place := .sent .stop } ∧
      ¬ (((atRun 1 .stopping demo).setRec 1).due = some .stop ∨
        ((atRun 1 .stopping demo).setRec 1).place = .queued .stop ∨
        ((atRun 1 .stopping demo).setRec 1).place = .sent .stop) := by
  refine ⟨calm_demo, by decide, rfl, by decide, by decide, by decide, by decide, fun run h => ?_, by decide, by decide⟩
  simp only [List.mem_cons, List.not_mem_nil, or_false] at h
  rcases h with rfl | rfl | rfl | rfl | rfl | rfl | rfl | rfl <;> exact ⟨by decide, rfl, rfl, rfl⟩

/-- Set 2 in FAULT, its latest report in an engine state. -/
def faulted (engine : EngineState) : State :=
  (atRun 1 (.fault .setAlarm) demo).modSet 1 fun r => { r with latest := some ⟨engine, 0, 0, 0, 0⟩ }

theorem witness_SetStopAndClearFault :
    Calm demo ∧ StopTested ((atRun 0 .online demo).setRec 0) ∧ (atRun 0 .online demo).inService 0 = true ∧
      StopTested ((atRun 1 .online demo).setRec 1) ∧ (atRun 1 .online demo).inService 1 = false ∧
      (cutOff (atRun 1 .online demo)).inService 1 = false ∧
      ((cutOff (atRun 1 .online demo)).setRec 1).unreachable = true ∧ ((atRun 1 .online demo).setRec 1).unreachable = false ∧
      0 < (hired 1).coolDown ∧ ({ hired 1 with coolDown := 0 } : SetEntry).coolDown = 0 ∧
      (atRun 1 (.warming 0) demo).inService 1 = false ∧ (atRun 1 (.starting 1 3 none false) demo).inService 1 = false ∧
      StopTested ((faulted .running).setRec 1) ∧ (faulted .running).inService 1 = false ∧
      ¬ StopTested ((faulted .stopped).setRec 1) ∧ (demo.setRec 1).run = .stopped ∧
      ((faulted .faulted).setRec 1).latest = some ⟨.faulted, 0, 0, 0, 0⟩ ∧
      ((faulted .running).setRec 1).run = .fault .setAlarm ∧ ((cutOff (faulted .running)).setRec 1).unreachable = true ∧
      (∀ why, (demo.setRec 1).run ≠ .fault why) := by
  refine ⟨calm_demo, Or.inl (by decide), by decide, Or.inl (by decide), by decide, by decide, by decide, by decide,
    by decide, rfl, by decide, by decide, Or.inr (Or.inr (Or.inr ⟨⟨_, rfl⟩, _, rfl, Or.inl rfl⟩)), by decide, ?_, rfl,
    rfl, rfl, by decide, fun why h => by cases h⟩
  rintro (h | ⟨c, h⟩ | ⟨a, m, c, x, h⟩ | ⟨-, x, h, h1 | h1⟩)
  · cases h
  · cases h
  · cases h
  · cases h; cases h1
  · cases h; cases h1

/-- Point 1 draws more than set 2 can bear. -/
def heavy : State :=
  demo.modFeeder 0 fun r => { r with state := .live, latest := some ⟨60000, 50, 230, false, false, 0⟩ }

/-- A state in which point 1's request toward side B passes every check, and one for each check it can fail. -/
theorem witness_Changeover :
    Calm demo ∧ 12 < 13 ∧ demo.switched 1 = none ∧ ((inFlight (moving .dead .none) .opened demo).pointRec 0).seq ≠ none ∧
      Accepts demo 0 .a (some .noChange) ∧ Accepts (demo.modLink 3 fun l => { l with state := some .lost }) 0 .b (some .unreachable) ∧
      Accepts (demo.modPoint 0 fun r => { r with selector := none }) 0 .b (some .localPanel) ∧
      Accepts (atRun 1 (.fault .setAlarm) demo) 0 .b (some .notEligible) ∧
      Accepts heavy 0 .b (some .capacity) ∧
      Accepts demo 0 .b none ∧ (demo.pointRec 0).seq = none ∧ demo.pointEntry 0 = some changed ∧
      (demo.setRec 1).run = .stopped ∧
      (Accepts (atRun 1 .online demo) 0 .b none ∧ ((atRun 1 .online demo).setRec 1).run = .online) ∧
      (Accepts ((atRun 1 .online demo).modPoint 0 fun r => { r with position := .opened }) 0 .b none) ∧
      (Accepts (atRun 1 (.starting 1 3 none true) demo) 0 .b none) := by
  refine ⟨calm_demo, by decide, by decide, by decide, .noChange (by decide) (by decide),
    .unreachable 3 0 1 (by decide) (by decide) (Or.inl (by decide)),
    .localPanel 3 0 1 (by decide) (by decide) (by decide) (by decide) (by decide),
    .notEligible 3 0 1 (by decide) (by decide) (by decide) (by decide) (by decide) (by decide),
    .capacity 3 0 1 (by decide) (by decide) (by decide) (by decide) (by decide) (by decide) (by decide),
    .passes 3 0 1 (by decide) (by decide) (by decide) (by decide) (by decide) (by decide) (by decide), by decide, by decide,
    by decide, ⟨.passes 3 0 1 (by decide) (by decide) (by decide) (by decide) (by decide) (by decide) (by decide), by decide⟩,
    .passes 3 0 1 (by decide) (by decide) (by decide) (by decide) (by decide) (by decide) (by decide),
    .passes 3 0 1 (by decide) (by decide) (by decide) (by decide) (by decide) (by decide) (by decide)⟩

/-- Point 1 with a sequence in flight and a command place. -/
def placed (q : Sequence) (place : Place) (s : State) : State :=
  s.modPoint 0 fun r => { r with seq := some q, place }

theorem witness_CancelChangeover :
    Calm demo ∧ 12 < 13 ∧ demo.switched 1 = none ∧ demo.switched 0 ≠ none ∧ (demo.pointRec 0).seq = none ∧
      (∀ phase ∈ [Phase.preparing, .opening, .dead, .closing, .recovering], ∀ place ∈ [Place.queued .openSwitch, .sent .openSwitch],
        (placed (moving phase .none) place demo).switched 0 ≠ none ∧
        ((placed (moving phase .none) place demo).pointRec 0).seq = some (moving phase .none) ∧
        ((placed (moving phase .none) place demo).pointRec 0).place = place ∧
        ((placed (moving phase .none) place demo).pointRec 0).due = none) ∧
      (∀ c : Code, Place.sent .openSwitch ≠ .queued c) ∧ (moving .opening .none).abort = none ∧
      ({ moving .opening .none with abort := some .targetFault } : Sequence).abort ≠ none ∧
      ({ moving .dead .none with originalSet := none } : Sequence).originalSet = none ∧
      (moving .dead .none).originalSet ≠ none ∧
      Restorable (inFlight (moving .dead .none) .opened fedFromOne) (moving .dead .none) ∧
      ¬ Restorable (inFlight (moving .dead .none) .opened demo) (moving .dead .none) := by
  refine ⟨calm_demo, by decide, by decide, by decide, by decide, by decide, (fun c h => by cases h), rfl, by decide, rfl,
    by decide, ⟨Or.inl rfl, 0, rfl, by decide, by decide⟩, ?_⟩
  rintro ⟨-, n, h, hr, -⟩
  cases h
  exact absurd hr (by decide)

/-- The schedule filled with entries of a far day, and one entry more or less. -/
def booked (n : Nat) : State := { demo with schedule := List.replicate n ⟨65535, 86399, 1, .b⟩ }

theorem witness_ScheduleRequests :
    Calm State.reset ∧ State.reset.billing.clock = none ∧ Calm demo ∧ demo.billing.clock = some 86400500 ∧ 12 < 13 ∧
      86399 < 86400 ∧ demo.switched 1 = none ∧ demo.switched 0 ≠ none ∧
      (∃ x ∈ (booked 1).schedule, x.point = 1 ∧ x.day = 65535 ∧ x.second = 86399) ∧
      entrySeconds ⟨0, 85799, 0, .b⟩ + demo.site.values.lateLimit < 86400500 / 1000 ∧
      86400500 / 1000 ≤ entrySeconds ⟨0, 85800, 0, .b⟩ + demo.site.values.lateLimit ∧ 16 ≤ (booked 16).schedule.length ∧
      (booked 15).schedule.length < 16 ∧
      (∀ x ∈ (booked 16).schedule, ¬ (x.point = (0 : PointNo) ∧ x.day = 0 ∧ x.second = 85800)) := by
  refine ⟨⟨rfl, rfl, rfl⟩, rfl, calm_demo, rfl, by decide, by decide, by decide, by decide, ⟨_, List.mem_singleton.mpr rfl, rfl, rfl, rfl⟩,
    by decide, by decide, Nat.le_of_eq List.length_replicate.symm, ?_, fun x h => ?_⟩
  · rw [show (booked 15).schedule.length = 15 from List.length_replicate]; decide
  · rw [List.eq_of_mem_replicate h]; decide

/-- An unloaded set; a set with a delivery in hand; a set without a sensor level; a set with one. -/
theorem witness_TankSet :
    Calm demo ∧ 8 < 9 ∧ demo.setEntry 7 = none ∧ Calm delivering ∧ delivering.setEntry 0 ≠ none ∧
      (∃ m x, (delivering.meter m).session = some x ∧ x.set = 0) ∧ demo.setEntry 0 = some (hired 0) ∧
      (¬ ∃ m x, (demo.meter m).session = some x ∧ x.set = 0) ∧
      ((demo.modSet 0 fun r => { r with latest := none }).setRec 0).latest = none ∧
      (∃ x, (demo.setRec 0).latest = some x ∧ x.sensor = 800 ∧ 800 ≠ 65535) ∧
      min (demo.tank 0).capacity 300 ≤ (hired 0).lowLevel ∧ (demo.tank 0).low = false ∧
      min (demo.tank 0).capacity 100 ≤ (hired 0).reserveLevel ∧ (demo.tank 0).reserve = false := by
  have idle : ∀ m, (demo.meter m).session = none := by decide
  refine ⟨calm_demo, by decide, rfl, ⟨rfl, rfl, rfl⟩, by decide, ⟨0, _, rfl, rfl⟩, rfl, ?_, by decide,
    ⟨_, rfl, rfl, by decide⟩, by decide, by decide, by decide, by decide⟩
  rintro ⟨m, x, h, -⟩
  rw [idle m] at h; cases h

/-- Meter 1 with a session and a command place. -/
def metering (phase : SessionPhase) (cancel : Bool) (place : Place) : State :=
  demo.modMeter 0 fun r => { r with session := some ⟨phase, 0, 200, 40, 40, cancel⟩, place }

theorem witness_CancelDelivery :
    Calm demo ∧ 2 < 3 ∧ (demo.meter 0).session = none ∧
      (∀ phase ∈ [SessionPhase.granting, .dispensing, .ticketing (some 0) none, .ticketing none none],
        ∀ cancel, ∀ place ∈ [Place.free, .queued .permit, .sent .permit, .sent .revoke],
          ((metering phase cancel place).meter 0).session = some ⟨phase, 0, 200, 40, 40, cancel⟩ ∧
          ((metering phase cancel place).meter 0).place = place) ∧
      Calm (metering .dispensing false .free) :=
  ⟨calm_demo, by decide, by decide, by decide, ⟨rfl, rfl, rfl⟩⟩

theorem witness_Tickets :
    Calm demo ∧ demo.tickets = [] ∧
      ({ demo with tickets := [⟨⟨1, 1, 1, none, none, none, none, none⟩, 0, 1, 0⟩] } : State).tickets ≠ [] ∧ 0 < 255 ∧
      ((metering (.ticketing none none) false .free).meter 0).session =
        some ⟨.ticketing none none, 0, 200, 40, 40, false⟩ ∧ (demo.meter 1).session = none := by
  exact ⟨calm_demo, rfl, by decide, by decide, by decide, by decide⟩

/-- Each refusal and each effect: the class out of range, a band out of range, a commit waiting, another identifier, bands that are not
in order, and six bands. -/
theorem witness_LoadTariffClass :
    Calm demo ∧ ({ demo.tariff with lockout := true } : Tariff).lockout = true ∧ demo.tariff.lockout = false ∧ 8 < 9 ∧
      ¬ (([⟨86400, 0⟩] : List Band).length ≤ 6 ∧ ∀ b ∈ ([⟨86400, 0⟩] : List Band), b.start ≤ 86399 ∧ b.rate ≤ 9999999) ∧
      ({ demo.tariff with pending := .commitPending dayTariff } : Tariff).pending = .commitPending dayTariff ∧
      dayTariff.identifier ≠ 8 ∧ dayTariff.mode = .halfEven ∧ demo.tariff.pending = .empty ∧
      ¬ (([⟨900, 0⟩] : List Band) = [] ∨ ValidBands 900 [⟨900, 0⟩]) ∧
      ValidBands 900 [⟨0, 9999999⟩, ⟨900, 0⟩, ⟨1800, 0⟩, ⟨2700, 0⟩, ⟨3600, 0⟩, ⟨85500, 1⟩] := by
  refine ⟨calm_demo, rfl, rfl, by decide, ?_, rfl, by decide, rfl, rfl, ?_, by decide, ⟨_, rfl, rfl⟩, by decide, by decide⟩
  · rintro ⟨-, h⟩
    exact absurd (h ⟨86400, 0⟩ (List.mem_singleton.mpr rfl)).1 (by decide)
  · rintro (h | ⟨-, ⟨b, hb, h0⟩, -⟩)
    · cases h
    · cases hb; cases h0

/-- A pending table whose class 1 is absent, so that account 1 has none, and the active table again. -/
theorem witness_CommitAndReadTariff :
    Calm demo ∧ demo.tariff.lockout = false ∧ (∀ table, demo.tariff.pending ≠ .loaded table) ∧
      (∃ e, demo.accountEntry 0 = some e ∧ e.active = true ∧
        (⟨7, .halfEven, Vector.replicate 8 none⟩ : TariffTable).classes[e.tariffClass] = none) ∧
      (∀ k e, demo.accountEntry k = some e → dayTariff.classes[e.tariffClass] ≠ none) ∧
      (open_ 87300 demo).site.live = true ∧ demo.site.live = false ∧ 8 < 9 ∧
      demo.tariff.active = some dayTariff ∧ 8 = (7 : ClassNo).val + 1 ∧ 8 ≤ 8 := by
  have accounts : ∀ k, demo.accountEntry k = none ∨ k = 0 := by decide
  refine ⟨calm_demo, rfl, fun table h => ?_, ⟨_, rfl, rfl, by decide⟩, fun k e h => ?_, rfl, rfl, by decide, rfl, rfl, by decide⟩
  · cases h
  · rcases accounts k with h0 | rfl
    · rw [h0] at h; cases h
    · cases h; decide

theorem witness_DiscardAndTrial :
    Calm demo ∧ demo.tariff.pending = .empty ∧ (∀ table, demo.tariff.pending ≠ .loaded table) ∧
      ({ demo.tariff with pending := .loaded dayTariff } : Tariff).pending = .loaded dayTariff ∧
      ({ demo.tariff with pending := .commitPending dayTariff } : Tariff).pending = .commitPending dayTariff :=
  ⟨calm_demo, rfl, (fun table h => by cases h), rfl, rfl⟩

theorem witness_Records : Calm demo := calm_demo

theorem witness_CloseBill :
    Calm demo ∧ 48 < 49 ∧ Calm full ∧ 512 ≤ full.billing.records.length ∧
      512 - full.billing.records.length < full.activeAccounts.length ∧ demo.billing.records.length < 512 ∧
      -5000 ≤ (demo.account 0).chargeCarry ∧ demo.activeAccounts = [0] ∧
      demo.activeAccounts.length ≤ 512 - demo.billing.records.length ∧ demo.accountEntry 47 = none ∧
      (Calm (holding 384) ∧ (holding 384).billing.records.length = 384 ∧ 384 < (holding 385).billing.records.length ∧
        (holding 384).port.notices.length ≤ 4) := by
  have one : full.activeAccounts.length = 1 := by decide
  refine ⟨calm_demo, by decide, ⟨rfl, rfl, rfl⟩, Nat.le_of_eq full_records.symm, ?_, by decide, by decide, by decide, by decide, rfl,
    ⟨rfl, rfl, rfl⟩, List.length_replicate, ?_, by decide⟩
  rotate_left
  · rw [show (holding 385).billing.records.length = 385 from List.length_replicate]; decide
  rw [full_records, one]; decide

/-- After record 4,294,967,295 the next number is 1 (R173). -/
theorem test_record_number_wraps : ((holding 0).billAccount 0).billing.records.map Record.number = [4294967295] ∧
    ((holding 0).billAccount 0).billing.nextRecord = 1 := by decide

/-- The command queue with room for the office, and without. -/
def queued (n : Nat) : State :=
  { demo with engine := { demo.engine with queue := List.replicate n ⟨3, .indicate, [], .office 9⟩ } }

theorem witness_PassThroughAndUnlisted :
    Calm demo ∧ (∀ e, demo.unitEntry 62 = some e → e.enabled = false) ∧ demo.unitEntry 3 = some (unit .change 1) ∧
      (unit .change 1).enabled = true ∧ codeKind .indicate = .change ∧ codeKind .alarmReset ≠ .change ∧
      demo.port.gate.get .indicate = some .pass ∧
      (({ demo.port.gate with indicate := .refuse } : GateTable).get .indicate = some .refuse) ∧
      (({ demo.port.gate with indicate := .passIfIdle } : GateTable).get .indicate = some .passIfIdle) ∧
      ¬ OwnerIdle (inFlight (moving .dead .none) .opened demo) (unit .change 1) ∧
      OfficeRoom demo ∧ OfficeRoom (queued 7) ∧ ¬ OfficeRoom (queued 8) ∧ (8 : Nat) ≤ 8 ∧
      (0 : Byte) = 0 ∧ 43 < (44 : Byte).toNat ∧ 63 < (64 : Byte).toNat ∧
      (¬ ∃ n args, ([9, 1] : List Byte) = n :: args ∧ n.toNat ≤ 8 ∧ args.length = n.toNat) ∧
      (∃ n args, ([1, 7] : List Byte) = n :: args ∧ n.toNat ≤ 8 ∧ args.length = n.toNat) ∧
      (63 : Byte).toNat < 64 ∧ 77 < (78 : Byte).toNat ∧ (64 : Byte).toNat ∈ [64, 65, 68, 69, 70, 74, 75, 76] ∧
      ((1, [0]) ∈ layoutLengths ∧ ([0] : List Byte).length ∉ [0] ∧ (43, [1]) ∈ layoutLengths ∧
        ([] : List Byte).length ∉ [1]) ∧
      (requestOf 12 [1, 0, 7, 0, 0, 0, 0]).isNone = true ∧ (requestOf 22 [4]).isNone = true := by
  refine ⟨calm_demo, (fun e h => by cases h), rfl, rfl, rfl, by decide, by decide, rfl, rfl, fun h => ?_, by unfold OfficeRoom; decide,
    by unfold OfficeRoom; decide, by unfold OfficeRoom; decide, by decide, rfl, by decide, by decide, ?_, ⟨_, _, rfl, by decide, rfl⟩, by decide, by decide,
    by decide, by decide, by decide, by decide⟩
  · exact absurd (h.2.1 rfl 0 rfl) (by decide)
  · rintro ⟨n, args, h, hn, -⟩
    cases h
    exact absurd hn (by decide)

/-! ### Well-formedness: one ill-formed term for each check, which the check refuses -/

/-- A clock second of four bytes; a period, an index, a mask or a count one past its bytes. -/
theorem test_ill_formed_numbers :
    (Instr.setClock 1 65536 0 0).wellFormed = false ∧ (Instr.setClock 1 0 16777216 0).wellFormed = false ∧
      (Instr.setClock 1 0 0 65536).wellFormed = false ∧ (Instr.setCycle 1 65536).wellFormed = false ∧
      (Instr.readTable 1 none 256).wellFormed = false ∧ (Instr.readUnit 1 256).wellFormed = false ∧
      (Instr.readFeeder 1 256).wellFormed = false ∧ (Instr.readSet 1 256).wellFormed = false ∧
      (Instr.readPoint 1 256).wellFormed = false ∧ (Instr.readAccount 1 256).wellFormed = false ∧
      (Instr.clearFlagsFeederLimit 1 4294967296).wellFormed = false ∧ (Instr.clearFlagsSetFlag 1 256).wellFormed = false ∧
      (Instr.clearFlagsTankFlag 1 256 ⟨true, true, true⟩).wellFormed = false ∧
      (Instr.clearFlagsPointFlag 1 65536).wellFormed = false ∧ (Instr.clearFlagsUnitCounts 1 256).wellFormed = false ∧
      (Instr.setStart 1 256).wellFormed = false ∧ (Instr.setStop 1 256).wellFormed = false ∧
      (Instr.setClearFault 1 256).wellFormed = false ∧ (Instr.clearHire 1 256).wellFormed = false ∧
      (Instr.changeover 1 256 none).wellFormed = false ∧ (Instr.cancelChangeover 1 256).wellFormed = false ∧
      (Instr.loadSchedule 1 65536 0 1 none).wellFormed = false ∧ (Instr.loadSchedule 1 0 16777216 1 none).wellFormed = false ∧
      (Instr.loadSchedule 1 0 0 256 none).wellFormed = false ∧ (Instr.deleteSchedule 1 256 0 0).wellFormed = false ∧
      (Instr.deleteSchedule 1 1 65536 0).wellFormed = false ∧ (Instr.deleteSchedule 1 1 0 16777216).wellFormed = false ∧
      (Instr.tankSet 1 256 .sensor).wellFormed = false ∧ (Instr.cancelDelivery 1 256).wellFormed = false ∧
      (Instr.releaseTickets 1 256).wellFormed = false ∧ (Instr.readTariff 1 true none 256).wellFormed = false ∧
      (Instr.releaseRecords 1 65536).wellFormed = false ∧ (Instr.closeBill 1 256).wellFormed = false := by decide

/-- A field of each load one past its bytes; a point of no kind with fields; an interval length that no byte names. -/
theorem test_ill_formed_loads :
    (Instr.loadUnit 1 256 .clear).wellFormed = false ∧
      (Instr.loadUnit 1 1 (.entry ⟨none, none, none, 256, 1⟩)).wellFormed = false ∧
      (Instr.loadUnit 1 1 (.entry ⟨none, none, none, 0, 256⟩)).wellFormed = false ∧
      (Instr.loadFeeder 1 256 .clear).wellFormed = false ∧
      (Instr.loadFeeder 1 1 (.entry (wired 256 0 0))).wellFormed = false ∧
      (Instr.loadFeeder 1 1 (.entry (wired 1 0 65536))).wellFormed = false ∧
      (Instr.loadSet 1 256 .clear).wellFormed = false ∧
      (Instr.loadSet 1 1 (.entry (rated 256 true 0))).wellFormed = false ∧
      (Instr.loadSet 1 1 (.entry (rated 1 true 65536))).wellFormed = false ∧
      (Instr.loadPoint 1 256 .clear).wellFormed = false ∧
      (Instr.loadPoint 1 1 (.entry (switchable 256 1 2 none none none))).wellFormed = false ∧
      (Instr.loadPoint 1 1 (.entry (switchable 1 256 2 none none none))).wellFormed = false ∧
      (Instr.loadPoint 1 1 (.entry (switchable 1 1 256 none none none))).wellFormed = false ∧
      (Instr.loadPoint 1 1 (.entry { switchable 1 1 2 none none none with source := .fixed 256 })).wellFormed = false ∧
      (Instr.loadPoint 1 1 (.entry (switchable 1 1 2 (some 256) none none))).wellFormed = false ∧
      (Instr.loadPoint 1 1 (.entry (switchable 1 1 2 none (some 256) none))).wellFormed = false ∧
      (Instr.loadPoint 1 1 (.entry (switchable 1 1 2 none none (some 65536)))).wellFormed = false ∧
      (Instr.loadPoint 1 1 (.entry { switchable 1 1 2 none none none with deadThreshold := 65536 })).wellFormed = false ∧
      (Instr.loadPoint 1 1 (.entry { switchable 1 1 2 none none none with source := .unnamed })).wellFormed = false ∧
      (Instr.loadAccount 1 256 .clear).wellFormed = false ∧
      (Instr.loadAccount 1 1 (.entry ⟨none, 256, 0⟩)).wellFormed = false ∧
      (Instr.loadAccount 1 1 (.entry ⟨none, 1, 65536⟩)).wellFormed = false ∧
      (Instr.loadSite 1 ⟨256, 5, 15, 200, 50, 600⟩).wellFormed = false ∧
      (Instr.loadSite 1 ⟨20, 5, 15, 65536, 50, 600⟩).wellFormed = false ∧
      (Instr.loadSite 1 ⟨20, 5, 20, 200, 50, 600⟩).wellFormed = false := by decide

/-- A level that is how SENSOR is sent; a tariff of 170 bands, and ones whose fields are too long; nine arguments; a slot frame of 260
bytes; events left over by the command that does not meet them; a frame that another row lists. -/
theorem test_ill_formed_others :
    (Instr.tankSet 1 1 (.level 65535)).wellFormed = false ∧
      (Instr.loadTariffClass 1 true 0 none 1 (List.replicate 170 ⟨0, 0⟩)).wellFormed = false ∧
      (Instr.loadTariffClass 1 true 65536 none 1 []).wellFormed = false ∧
      (Instr.loadTariffClass 1 true 0 none 256 []).wellFormed = false ∧
      (Instr.loadTariffClass 1 true 0 none 1 [⟨16777216, 0⟩]).wellFormed = false ∧
      (Instr.loadTariffClass 1 true 0 none 1 [⟨0, 16777216⟩]).wellFormed = false ∧
      (Instr.alarmReset 1 0 (List.replicate 9 0)).wellFormed = false ∧
      (Instr.lampTest 1 0 (List.replicate 9 0)).wellFormed = false ∧
      (Instr.indicate 1 0 (List.replicate 9 0)).wellFormed = false ∧
      (Instr.resetMax 1 0 (List.replicate 9 0)).wellFormed = false ∧
      (Instr.identify 1 0 (List.replicate 9 0)).wellFormed = false ∧
      (Instr.message 1 0 (List.replicate 9 0)).wellFormed = false ∧
      (Instr.slotEnd (.frame (List.replicate 260 0)) []).wellFormed = false ∧
      (Instr.slotEnd .nothing [.schedule]).wellFormed = false ∧ (Instr.cycleStart false [.linkLost 0]).wellFormed = false ∧
      (Instr.unlistedOfficeFrame 0 1 4 []).wellFormed = false ∧
      (Instr.unlistedOfficeFrame 1 1 71 [0]).wellFormed = false := by decide +kernel

/-- A frame longer than the line carries. -/
theorem test_ill_formed_long_frame :
    (Instr.unlistedOfficeFrame 64 1 4 (List.replicate 1025 0)).wellFormed = false := by decide +kernel

/-! ### The worked figures of the spec -/

/-- The four steps of feeder 7, and the largest (4.10). -/
theorem test_feeder_steps :
    [(4120, 4190, 2, 100), (4190, 4260, 4, 100), (4260, 4260, 20, 100), (3950, 3980, 2, 100), (60000, 60000, 255, 500)].map
      (fun (p, n, d, t) => FeederStep.energy ⟨0, 0, 0, p, n, d, t, none, none, false, false, 0⟩) =
      [8310000, 16900000, 85200000, 7930000, 76500000000] := by decide

/-- A set at 300 kW in every cycle, and after a silence taken as 20 cycles (4.10). -/
theorem test_set_steps : setStepEnergy 3000 3000 1 100 = 30000000 ∧ setStepEnergy 2800 3000 20 100 = 580000000 := by decide

/-- The burn of set 2 at 300 kW and at 100 kW, and the largest (6.11, 6.2). -/
theorem test_burn_steps :
    burnUnits { hired 1 with noLoadRate := 6000, incrementalRate := 230 } 100 1 30000000 = 7500000000 ∧
      burnUnits { hired 1 with noLoadRate := 6000, incrementalRate := 230 } 100 1 10000000 = 2900000000 ∧
      burnUnits { hired 1 with noLoadRate := 20000, incrementalRate := 400 } 500 255 382500000000 = 155550000000000 := by
  decide

/-- The 48th burn step takes one decilitre, and leaves nothing (6.11). -/
theorem test_burn_takes_a_decilitre :
    let s := (demo.modTank 1 fun t => { t with residue := 352500000000 }).burn 1 7500000000
    (s.tank 1).book = 799 ∧ (s.tank 1).residue = 0 ∧ (s.setRec 1).hire.burnt = 1 := by decide

/-- The intervals and the bill of account 12, in both rounding modes (9.9). -/
theorem test_rounding :
    roundDiv .halfEven 37962000000 billedUnit = 1054 ∧ roundDiv .halfEven 37998000000 billedUnit = 1056 ∧
      roundDiv .halfUp 37962000000 billedUnit = 1055 ∧ roundDiv .halfEven 4479500 10000 = 448 ∧
      roundDiv .halfEven 12000000 billedUnit = 0 := by decide

/-! ### Single steps -/

/-- The outcome of the first command of a queue. -/
def after (c : Instr) (s : State) (p : State → Bool) : Bool :=
  match step { s with pending := [c] } with
  | .next t => p t
  | .fault _ => false
  | .refused _ => false

/-- SET CYCLE clamps 1 to 50 and rounds 499 down to 490 (R13). -/
theorem test_set_cycle :
    after (.setCycle 1 1) demo (fun t => t.site.period = 50) ∧
      after (.setCycle 1 499) demo (fun t => t.site.period = 490) := by decide

/-- A cycle start wraps the cycle number from 2^32 - 1 to 0 (R18). -/
theorem test_cycle_number_wraps :
    after (.cycleStart false []) { cycling [] with engine := { (cycling []).engine with cycleNo := 4294967295 } }
      (fun t => t.engine.cycleNo = 0) := by decide +kernel

/-- CLEAR FLAGS clears the marked feeders' limit flags and no other (R54). -/
theorem test_clear_limit_flags :
    after (.clearFlagsFeederLimit 1 0x80000001) { demo with limitFlags := Vector.replicate 32 true }
      (fun t => !t.limitFlag 0 && t.limitFlag 1 && t.limitFlag 30 && !t.limitFlag 31) := by decide

/-- TANK SET 1200 clamps to the capacity in force, and records what the book took (R103). -/
theorem test_tank_set :
    after (.tankSet 1 1 (.level 1200)) demo (fun t => (t.tank 0).book = 1000 && (t.tank 0).adjustments = 200) := by decide

/-- SET START of a STOPPED set enters STARTING with three attempts, and puts START in the queue (R80). -/
theorem test_set_start :
    after (.setStart 1 2) demo (fun t => (t.setRec 1).run = .starting 1 3 none false &&
      t.engine.queue = [⟨1, .start, [], .sets 1⟩]) := by decide

/-- CHANGEOVER to side B at an ONLINE set opens the switch (R129, R134). -/
theorem test_changeover :
    after (.changeover 1 1 (some .b)) (atRun 1 .online demo) (fun t =>
      (t.pointRec 0).place = .queued .openSwitch &&
        ((t.pointRec 0).seq.map Sequence.phase) = some .opening) := by decide

/-- A report of 50.0 kW is stored as 500 ‰ of a 100 kW set, and the ONLINE set stays ONLINE (R75, R86). -/
theorem test_slot_end :
    after (.slotEnd (.frame setFrame) []) (atRun 0 .online (cycling [0])) (fun t =>
      (t.setRec 0).loadFraction = some 500 && (t.setRec 0).run = .online &&
        (t.link 0).state = some .present) := by decide +kernel

/-- A frame on ORX is taken, and its response is being sent (R180 to R184). -/
theorem test_office_frame_received :
    after (.officeFrameReceived false ([195, 0, 3, 0, 9, 4, 112, 204].map .byte)) demo (fun t =>
      t.engine.running && t.port.tx = some .response &&
        t.port.response.map Response.tag = some 9) := by decide +kernel

/-- START CYCLES with a wrong check, cut off by a missing stop bit, and with a length of 2: each one frame error (R180). -/
theorem test_frame_errors :
    after (.officeFrameReceived false ([195, 0, 3, 0, 9, 4, 112, 205].map .byte)) demo (fun t =>
      t.port.frameErrors = 1 && t.port.rx = .hunting && !t.engine.running) ∧
      after (.officeFrameReceived false ([195, 0, 3].map .byte ++ [.framingError])) demo (fun t =>
        t.port.frameErrors = 1 && t.port.rx = .hunting) ∧
      after (.officeFrameReceived false ([195, 0, 2].map .byte)) demo (fun t => t.port.frameErrors = 1) := by decide +kernel

/-- A set that reports RUNNING in STARTING, 40 cycles after its last stop, warms up for the short time, and adds a start (R83). -/
theorem test_hot_start :
    after (.slotEnd (.frame setFrame) []) (stoppedAt 0 (.starting 2 3 (some 9) false)) (fun t =>
      (t.setRec 0).run = .warming 50 && (t.setRec 0).hire.starts = 1) := by decide +kernel

/-- 18 MJ more than 1054 units, a tie: 1054 by HALF_EVEN, at 0.2500 per kWh; the table waiting for the close prices the trial (R157, R168). -/
theorem test_priced :
    after .intervalCloseDue (leftOver .intervalClose { open_ 86400 demo with
        tariff := { demo.tariff with pending := .commitPending twoBands, trial := true }
        billing := { (open_ 86400 demo).billing with
          accounts := (open_ 86400 demo).billing.accounts.set 0 { (demo.account 0) with accumulator := 37962000000 } } })
      (fun t => (t.account 0).charge = 2635000 && (t.account 0).carry = 18000000 && t.tariff.active = some twoBands &&
        t.billing.records.map (fun r => match r with
          | .interval x => (x.units, x.band, x.charge, x.trial)
          | .bill _ => (0, 0, 0, none)) = [(1054, 1, 2635000, some ⟨8, 1, 2635000⟩)]) := by decide +kernel

/-- READ TARIFF with trial on and the latch clear: trial 0, latch 1, TEN low 0 (R147, R159, 10.8). -/
theorem test_read_tariff_bytes :
    sendFields (TariffView.fields ⟨true, .loaded dayTariff, true, false, false, .tableAbsent⟩) = [0, 1, 1, 0, 1, 0] := by
  decide

/-- The slot of a board disabled in mid-cycle is its feeders' missed poll, whatever is received (R45). -/
theorem test_disabled_board_misses_its_poll :
    after (.slotEnd (.frame boardFrame) []) ((sampled .live none).putUnitEntry 2 (some { unit .board 1 with enabled := false }))
      (fun t => (t.feederRec 0).state = .held && (t.feederRec 0).status = .missing) = true := by decide +kernel

/-- A close-off left over by a cycle start is taken before the next slot ends: the sample that comes opens no step (R48, R49). -/
theorem test_left_over_is_taken_first :
    after (.slotEnd (.frame boardFrame) []) { sampled .live none with
        due := [.holdLimit 0]
        engine := { (sampled .live none).engine with cycleNo := 60, holdInForce := 20, cycleLen := 100 } }
      (fun t => t.due = [] && (t.setRec 0).hire.meteredMj = 1000000000) = true := by decide +kernel

/-- LOAD POINT with a kind byte of 7: BAD_REQUEST short of the fields every point carries, BAD_VALUE with them (R1, R9). -/
theorem test_load_point_unnamed_kind :
    (requestOf 12 [1, 0, 7, 0, 0, 0, 0]).isNone = true ∧ (requestOf 12 [1, 0, 7, 0, 0, 0, 0, 0]).isSome = true := by decide

/-- A TEN fall in COMMIT_PENDING puts the table back and latches (R153). -/
theorem test_ten_fall :
    after .tenFall { demo with ten := true, tariff := { demo.tariff with pending := .commitPending dayTariff } } (fun t =>
      t.tariff.lockout && !t.ten && t.tariff.pending = .loaded dayTariff) := by decide

end Sys2Proof.Tests
end

section
/-! SUPPORT. CLEAR FLAGS and CLEAR HIRE (R54, R64, R96, R97, R107, R187): what a walk over a mask does, what each request answers, and
the statement assembled from them. -/

namespace Sys2Proof.ClearFlags

open Sys2Proof Sys2Proof.Machine Sys2Proof.Stated

/-! ### A request taken while the Port is calm -/

/-- A command whose arm is a management request, taken while the Port is calm, ends as its request answers. -/
theorem exec_request_calm {i : Instr} {s t : State} {tag : Byte} {kind : Nat} {r : Request} {reply : Reply}
    (calm : Calm s) (arm : exec i s = manage tag kind r s) (request : r s = (t, reply)) :
    exec i s = .next (answered t tag kind reply) := by
  obtain ⟨hresponse, hqueue, hdue⟩ := calm
  rw [arm, manage, State.serve_calm hresponse hqueue hdue, request]
  rfl

/-! ### Walks over a mask -/

theorem modSet_id (n : SetNo) (s : State) : s.modSet n (fun r => r) = s := by
  simp [State.modSet, State.putSet, State.setRec]

theorem modTank_id (n : SetNo) (s : State) : s.modTank n (fun t => t) = s := by
  simp [State.modTank, State.putTank, State.tank]

theorem modPoint_id (p : PointNo) (s : State) : s.modPoint p (fun r => r) = s := by
  simp [State.modPoint, State.putPoint, State.pointRec]

/-- Visiting the marked positions alone is visiting every position with an update that changes the marked ones alone. -/
theorem forEach_marked {n : Nat} {α : Type} (update : Fin n → (α → α) → State → State)
    (update_id : ∀ i s, update i (fun x => x) s = s) (mask : Nat) (f : α → α) (xs : List (Fin n)) (s : State) :
    forEach xs (fun i s => if marked mask i then update i f s else s) s =
      forEach xs (fun i s => update i (fun x => if marked mask i then f x else x) s) s := by
  congr 1
  funext i s
  cases marked mask i
  · exact (update_id i s).symm
  · rfl

theorem forEach_marked_modSet (mask : Nat) (f : SetRec → SetRec) (s : State) :
    forEach allSets (fun n s => if marked mask n then s.modSet n f else s) s =
      { s with sets := Vector.ofFn fun n => if marked mask n then f (s.setRec n) else s.setRec n } :=
  (forEach_marked (fun n f s => s.modSet n f) modSet_id mask f allSets s).trans (forEach_modSet _ s)

theorem forEach_marked_modTank (mask : Nat) (f : Tank → Tank) (s : State) :
    forEach allSets (fun n s => if marked mask n then s.modTank n f else s) s =
      { s with tanks := Vector.ofFn fun n => if marked mask n then f (s.tank n) else s.tank n } :=
  (forEach_marked (fun n f s => s.modTank n f) modTank_id mask f allSets s).trans (forEach_modTank _ s)

theorem forEach_marked_modPoint (mask : Nat) (f : PointRec → PointRec) (s : State) :
    forEach allPoints (fun p s => if marked mask p then s.modPoint p f else s) s =
      { s with points := Vector.ofFn fun p => if marked mask p then f (s.pointRec p) else s.pointRec p } :=
  (forEach_marked (fun p f s => s.modPoint p f) modPoint_id mask f allPoints s).trans (forEach_modPoint _ s)

/-- Clearing one limit flag, read back at any feeder. -/
theorem limitFlag_putLimitFlag_false (s : State) (f j : FeederNo) :
    (s.putLimitFlag f false).limitFlag j = (s.limitFlag j && decide (j ≠ f)) := by
  by_cases h : j = f
  · subst h; simp
  · simp [State.putLimitFlag_other s f false h, h]

/-- A walk clears the limit flags of the feeders it visits that are marked, and writes nothing else. -/
theorem forEach_marked_putLimitFlag (mask : Nat) (xs : List FeederNo) (s : State) :
    forEach xs (fun f s => if marked mask f then s.putLimitFlag f false else s) s =
      { s with limitFlags := Vector.ofFn fun j => s.limitFlag j && !(decide (j ∈ xs) && marked mask j) } := by
  induction xs generalizing s with
  | nil =>
    have same : s.limitFlags = Vector.ofFn s.limitFlag := by ext i hi; simp [State.limitFlag]
    simp [← same]
  | cons f xs ih =>
    rw [forEach_cons, ih]
    cases hf : marked mask f with
    | false =>
      have absent (j : FeederNo) : (decide (j ∈ f :: xs) && marked mask j) = (decide (j ∈ xs) && marked mask j) := by
        by_cases h : j = f
        · subst h; simp [hf]
        · simp [h]
      simp only [Bool.false_eq_true, if_false, absent]
    | true =>
      have cleared (j : FeederNo) : ((s.putLimitFlag f false).limitFlag j && !(decide (j ∈ xs) && marked mask j)) =
          (s.limitFlag j && !(decide (j ∈ f :: xs) && marked mask j)) := by
        rw [limitFlag_putLimitFlag_false]
        by_cases h : j = f
        · subst h; simp [hf]
        · simp [h]
      simp only [if_true, cleared]
      rfl

/-! ### What each selection of CLEAR FLAGS answers -/

/-- Selection FEEDER_LIMIT (R54). -/
theorem reqClearFeederLimit_eq (mask : Nat) (s : State) :
    reqClearFeederLimit mask s =
      ({ s with limitFlags := Vector.ofFn fun f : FeederNo => s.limitFlag f && !mask.testBit f }, .ok) := by
  rw [reqClearFeederLimit, forEach_marked_putLimitFlag]
  simp [allFeeders, marked]

/-- Selection TANK_FLAG (R107). -/
theorem reqClearTankFlag_eq (mask : Nat) (names : TankFlagNames) (s : State) :
    reqClearTankFlag mask names s =
      ({ s with tanks := Vector.ofFn fun n : SetNo =>
          if mask.testBit n then
            { s.tank n with
              low := (s.tank n).low && !names.low
              reserve := (s.tank n).reserve && !names.reserve
              discrepancy := (s.tank n).discrepancy && !names.discrepancy }
          else s.tank n }, .ok) := by
  rw [reqClearTankFlag, forEach_marked_modTank]
  rfl

/-- Selection SET_FLAG (R97). -/
theorem reqClearSetFlag_eq (mask : Nat) (s : State) :
    reqClearSetFlag mask s =
      ({ s with sets := Vector.ofFn fun n : SetNo =>
          { s.setRec n with localStart := (s.setRec n).localStart && !mask.testBit n } }, .ok) := by
  rw [reqClearSetFlag, forEach_marked_modSet]
  congr 3
  funext n
  cases h : mask.testBit n <;> simp [marked, h]

/-- Selection POINT_FLAG, for a mask of twelve positions (R131, R187). -/
theorem reqClearPointFlag_eq {mask : Nat} (h : mask < 4096) (s : State) :
    reqClearPointFlag mask s =
      ({ s with points := Vector.ofFn fun p : PointNo =>
          { s.pointRec p with autoBlocked := (s.pointRec p).autoBlocked && !mask.testBit p } }, .ok) := by
  rw [reqClearPointFlag, if_neg (by omega), forEach_marked_modPoint]
  congr 3
  funext p
  cases hp : mask.testBit p <;> simp [marked, hp]

/-- Selection POINT_FLAG, for a mask with a position beyond the twelfth (R187). -/
theorem reqClearPointFlag_outOfRange {mask : Nat} (h : 4096 ≤ mask) (s : State) :
    reqClearPointFlag mask s = (s, .refuse .badValue) :=
  if_pos h

/-- Selection UNIT_COUNTS, for a unit's address (R31, R187). -/
theorem reqClearUnitCounts_unit (a : Addr) (s : State) :
    reqClearUnitCounts (a.val + 1) s =
      ({ s with
        engine := { s.engine with
          links := s.engine.links.set a { s.link a with garbled := 0, missed := 0 } }
        port := { s.port with copyDrops := s.port.copyDrops.set a 0 } }, .ok) := by
  rw [reqClearUnitCounts, if_neg (Nat.succ_ne_zero _), numbered_succ]
  rfl

/-- Selection UNIT_COUNTS, for an address no unit has (R187). -/
theorem reqClearUnitCounts_outOfRange {address : Nat} (h : 63 < address) (s : State) :
    reqClearUnitCounts address s = (s, .refuse .badIndex) := by
  rw [reqClearUnitCounts, if_neg (by omega), numbered_none (.inr h)]

/-! ### What CLEAR HIRE answers -/

/-- One set's hire statement goes to 0 (R96). -/
theorem reqClearHire_set (n : SetNo) (s : State) :
    reqClearHire (n.val + 1) s = ({ s with sets := s.sets.set n { s.setRec n with hire := .zero } }, .ok) := by
  rw [reqClearHire, if_neg (Nat.succ_ne_zero _), numbered_succ]
  rfl

/-- Every set's hire statement and the unattributed energy go to 0 (R64, R96). -/
theorem reqClearHire_all (s : State) :
    reqClearHire 0 s =
      ({ s with
        sets := Vector.ofFn fun n : SetNo => { s.setRec n with hire := .zero }
        unattributed := 0 }, .ok) := by
  have walk : forEach allSets (fun n s => s.modHire n fun _ => .zero) s =
      { s with sets := Vector.ofFn fun n : SetNo => { s.setRec n with hire := .zero } } :=
    forEach_modSet (fun _ r => { r with hire := .zero }) s
  rw [reqClearHire, if_pos rfl, walk]

/-- A set number beyond the eighth (R96). -/
theorem reqClearHire_outOfRange {set : Nat} (h : 8 < set) (s : State) :
    reqClearHire set s = (s, .refuse .badIndex) := by
  rw [reqClearHire, if_neg (by omega), numbered_none (.inr h)]

/-! ### The statement -/

/-- Settles O46: each command is its request taken at once, and each request answers as said above. -/
theorem clearFlagsAndHire : Obligations.ClearFlagsAndHire := by
  unfold Obligations.ClearFlagsAndHire
  intro tag s calm
  refine ⟨fun mask => ?feederLimit, fun mask names => ?tankFlag, fun mask => ?setFlag, fun mask h => ?pointFlag,
    fun mask h => ?pointRefused, ?portCounts, fun a => ?unitCounts, fun address h => ?countsRefused,
    fun n => ?hireSet, ?hireAll, fun set h => ?hireRefused⟩
  case feederLimit => exact exec_request_calm calm rfl (reqClearFeederLimit_eq mask s)
  case tankFlag => exact exec_request_calm calm rfl (reqClearTankFlag_eq mask names s)
  case setFlag => exact exec_request_calm calm rfl (reqClearSetFlag_eq mask s)
  case pointFlag => exact exec_request_calm calm rfl (reqClearPointFlag_eq h s)
  case pointRefused => exact exec_request_calm calm rfl (reqClearPointFlag_outOfRange h s)
  case portCounts => exact exec_request_calm calm rfl (r := reqClearUnitCounts 0) rfl
  case unitCounts => exact exec_request_calm calm rfl (reqClearUnitCounts_unit a s)
  case countsRefused => exact exec_request_calm calm rfl (reqClearUnitCounts_outOfRange h s)
  case hireSet => exact exec_request_calm calm rfl (reqClearHire_set n s)
  case hireAll => exact exec_request_calm calm rfl (reqClearHire_all s)
  case hireRefused => exact exec_request_calm calm rfl (reqClearHire_outOfRange h s)

end Sys2Proof.ClearFlags
end

section
/-! SUPPORT. SET STOP and SET CLEAR FAULT (R84, R88): the notices that one event joins to the queue, what news of a set leaves in
service, what a change of run state makes of its set, what each request answers, and the statement assembled from them. -/

namespace Sys2Proof.StopAndClear

open Sys2Proof Sys2Proof.Machine Sys2Proof.Stated

/-! ### Notices joined to the queue (R191) -/

/-- At most `k` notices are raised: where the queue has room for so many, they join at its tail and none is displaced. -/
def Joined (k : Nat) (s t : State) : Prop :=
  s.port.notices.length + k ≤ 32 → ∃ added, added.length ≤ k ∧ t.port.notices = s.port.notices ++ added

theorem Joined.of_port {s t : State} (h : t.port = s.port) : Joined 0 s t :=
  fun _ => ⟨[], Nat.le_refl _, by simp [h]⟩

theorem Joined.mono {j k : Nat} {s t : State} (h : Joined j s t) (le : j ≤ k) : Joined k s t := fun room => by
  obtain ⟨added, few, eq⟩ := h (by omega)
  exact ⟨added, by omega, eq⟩

theorem Joined.trans {j k : Nat} {s t u : State} (h : Joined j s t) (h' : Joined k t u) : Joined (j + k) s u :=
  fun room => by
    obtain ⟨xs, fewX, eqX⟩ := h (by omega)
    obtain ⟨ys, fewY, eqY⟩ := h' (by rw [eqX, List.length_append]; omega)
    exact ⟨xs ++ ys, by rw [List.length_append]; omega, by rw [eqY, eqX, List.append_assoc]⟩

theorem Joined.raiseMarked (s : State) (urgent : Bool) (body : NoticeBody) : Joined 1 s (s.raiseMarked urgent body) :=
  fun room => ⟨[⟨s.port.nextNotice, urgent, body⟩], Nat.le_refl _, by
    rw [State.raiseMarked, Port.raise_room (by omega)]⟩

/-- A notice that is queued stays queued while there is room for what is raised after it. -/
theorem Joined.mem {k : Nat} {s t : State} (h : Joined k s t) (room : s.port.notices.length + k ≤ 32) {x : Notice}
    (mem : x ∈ s.port.notices) : x ∈ t.port.notices := by
  obtain ⟨added, -, eq⟩ := h room
  exact eq ▸ List.mem_append_left _ mem

/-- A notice raised while few are queued is told, whatever an event of a set raises after it. -/
theorem told_of_raise {k : Nat} {s u t : State} {body : NoticeBody} (port : u.port = s.port)
    (later : Joined k (u.raise body) t) (few : k ≤ 27) : Told s t body := fun short => by
  have queued : (u.raise body).port.notices = s.port.notices ++ [⟨s.port.nextNotice, false, body⟩] := by
    rw [State.raise, State.raiseMarked, port, Port.raise_room (by omega)]
  have room : (u.raise body).port.notices.length + k ≤ 32 := by
    rw [queued, List.length_append, List.length_singleton]; omega
  exact ⟨_, later.mem room (queued ▸ List.mem_append_right _ (List.mem_singleton_self _)), rfl⟩

/-! ### Service (R79) -/

theorem inService_eq_false {s : State} {n : SetNo} :
    s.inService n = false ↔ (∀ p, s.connectedSet p ≠ some n) ∧ (s.setRec n).reservations = [] := by
  simp [State.inService, allPoints]

/-- What a point connects is read from the tables and from its position alone (R123). -/
theorem connectedSet_congr {s t : State} {p : PointNo} (tables : t.tables = s.tables)
    (position : (t.pointRec p).position = (s.pointRec p).position) : t.connectedSet p = s.connectedSet p := by
  simp only [State.connectedSet, State.pointEntry, tables, position]

/-- What the sequencers may do on news of a set: no position changes and no set is reserved that was not, so that no set comes into
service; and at most `k` notices are raised. -/
structure NewsKeeps (k : Nat) (s t : State) : Prop where
  positions : ∀ p, (t.pointRec p).position = (s.pointRec p).position
  reservations : ∀ n, (s.setRec n).reservations = [] → (t.setRec n).reservations = []
  joined : Joined k s t

theorem NewsKeeps.inService {k : Nat} {s t : State} (h : NewsKeeps k s t) (tables : t.tables = s.tables) {n : SetNo}
    (idle : s.inService n = false) : t.inService n = false := by
  obtain ⟨connected, reserved⟩ := inService_eq_false.mp idle
  refine inService_eq_false.mpr ⟨fun p => ?_, h.reservations n reserved⟩
  rw [connectedSet_congr tables (h.positions p)]
  exact connected p

theorem NewsKeeps.refl (s : State) : NewsKeeps 0 s s := ⟨fun _ => rfl, fun _ h => h, .of_port rfl⟩

theorem NewsKeeps.mono {j k : Nat} {s t : State} (h : NewsKeeps j s t) (le : j ≤ k) : NewsKeeps k s t :=
  ⟨h.positions, h.reservations, h.joined.mono le⟩

theorem NewsKeeps.trans {j k : Nat} {s t u : State} (h : NewsKeeps j s t) (h' : NewsKeeps k t u) :
    NewsKeeps (j + k) s u :=
  ⟨fun p => (h'.positions p).trans (h.positions p), fun n e => h'.reservations n (h.reservations n e),
    h.joined.trans h'.joined⟩

theorem NewsKeeps.modPoint (s : State) (p : PointNo) {f : PointRec → PointRec}
    (h : ∀ r, (f r).position = r.position := by intro _; rfl) : NewsKeeps 0 s (s.modPoint p f) where
  positions k := by
    by_cases hk : k = p
    · subst hk; rw [State.modPoint_read, h]
    · rw [State.modPoint_other s p f hk]
  reservations _ e := e
  joined := .of_port rfl

theorem NewsKeeps.modSet (s : State) (n : SetNo) {f : SetRec → SetRec}
    (h : ∀ r, r.reservations = [] → (f r).reservations = [] := by intro _ e; exact e) : NewsKeeps 0 s (s.modSet n f) where
  positions _ := rfl
  reservations k e := by
    by_cases hk : k = n
    · subst hk; rw [State.modSet_read]; exact h _ e
    · rw [State.modSet_other s n f hk]; exact e
  joined := .of_port rfl

theorem NewsKeeps.withdraw (s : State) (o : Origin) : NewsKeeps 0 s (s.withdraw o) :=
  ⟨fun _ => rfl, fun _ e => e, .of_port rfl⟩

theorem NewsKeeps.enqueue {s t : State} {c : Command} (h : s.enqueue c = some t) : NewsKeeps 0 s t := by
  obtain ⟨-, -, -, rfl⟩ := State.enqueue_eq_some.mp h
  exact ⟨fun _ => rfl, fun _ e => e, .of_port rfl⟩

theorem NewsKeeps.raiseMarked (s : State) (urgent : Bool) (body : NoticeBody) :
    NewsKeeps 1 s (s.raiseMarked urgent body) :=
  ⟨fun _ => rfl, fun _ e => e, .raiseMarked s urgent body⟩

theorem NewsKeeps.release (s : State) (n : SetNo) (p : PointNo) : NewsKeeps 0 s (s.release n p) :=
  .modSet s n fun r e => by simp [e]

theorem NewsKeeps.dropPointCommand (s : State) (p : PointNo) : NewsKeeps 0 s (s.dropPointCommand p) :=
  (NewsKeeps.withdraw s _).trans (.modPoint _ p)

theorem NewsKeeps.putSeq (s : State) (p : PointNo) (q : Sequence) : NewsKeeps 0 s (s.putSeq p q) :=
  .modPoint s p

theorem NewsKeeps.endSequence (s : State) (p : PointNo) (o : SeqOutcome) (m : Option ManualPart) :
    NewsKeeps 1 s (s.endSequence p o m) := by
  unfold State.endSequence
  split
  · exact (NewsKeeps.refl s).mono (Nat.zero_le _)
  · exact (((NewsKeeps.dropPointCommand s p).trans (.release _ _ p)).trans (.modPoint _ p)).trans
      (.raiseMarked _ _ _)

theorem NewsKeeps.enqueuePoint (s : State) (p : PointNo) (c : Code) : NewsKeeps 0 s (s.enqueuePoint p c) := by
  unfold State.enqueuePoint
  split
  · exact .refl s
  · split
    · exact .refl s
    next h => exact (NewsKeeps.enqueue h).trans (.modPoint _ p)

theorem NewsKeeps.enqueueRecovery (s : State) (p : PointNo) (q : Sequence) (c : Code) :
    NewsKeeps 1 s (s.enqueueRecovery p q c) := by
  unfold State.enqueueRecovery
  split
  · exact (NewsKeeps.enqueuePoint s p c).mono (Nat.zero_le _)
  · exact .endSequence s p _ _

theorem NewsKeeps.enterRecovering (s : State) (p : PointNo) (q : Sequence) (why : RecoveryReason) :
    NewsKeeps 1 s (s.enterRecovering p q why) := by
  have entered := fun q => (NewsKeeps.dropPointCommand s p).trans (.putSeq _ p q)
  unfold State.enterRecovering
  dsimp only
  split
  · split
    · have due := fun q c => (entered q).trans (.modPoint _ p (f := fun r => { r with due := some c }))
      split
      · exact (due _ _).trans (.enqueueRecovery _ p _ _)
      · exact (due _ _).mono (Nat.zero_le _)
    · exact (entered _).trans (.endSequence _ p _ _)
  · exact (entered _).trans (.endSequence _ p _ _)

theorem NewsKeeps.tryEnqueuePoint (s : State) (p : PointNo) : NewsKeeps 1 s (s.tryEnqueuePoint p) := by
  have enqueued := fun c => (NewsKeeps.enqueuePoint s p c).mono (Nat.zero_le 1)
  unfold State.tryEnqueuePoint
  dsimp only
  split
  · split
    · split
      · exact enqueued _
      · exact .enterRecovering s p _ _
    · exact .enqueueRecovery s p _ _
    all_goals exact enqueued _
  · exact (NewsKeeps.refl s).mono (Nat.zero_le _)

theorem NewsKeeps.proceed (s : State) (p : PointNo) (q : Sequence) : NewsKeeps 1 s (s.proceed p q) := by
  unfold State.proceed
  split
  · exact (NewsKeeps.putSeq s p _).mono (Nat.zero_le _)
  · exact (NewsKeeps.modPoint s p).trans (.tryEnqueuePoint _ p)

/-- News of a set, told to one sequencer, raises one notice at most: that its sequence has ended. -/
theorem NewsKeeps.seqNews (s : State) (n : SetNo) (p : PointNo) : NewsKeeps 1 s (s.seqNews n p) := by
  have same := (NewsKeeps.refl s).mono (Nat.zero_le 1)
  unfold State.seqNews
  split
  · exact same
  · dsimp only
    repeat' split
    all_goals first
      | exact same
      | exact .proceed s p _
      | exact .endSequence s p _ _
      | exact (NewsKeeps.putSeq s p _).mono (Nat.zero_le _)
      | exact .enterRecovering s p _ _

/-- A walk whose every visit raises one notice at most raises one at most for each of its visits. -/
theorem NewsKeeps.forEach {α : Type} {f : α → State → State} (h : ∀ x s, NewsKeeps 1 s (f x s)) (xs : List α)
    (s : State) : NewsKeeps xs.length s (forEach xs f s) := by
  induction xs generalizing s with
  | nil => exact .refl s
  | cons x xs ih => exact ((h x s).trans (ih _)).mono (by simp; omega)

theorem NewsKeeps.tellSequencers (s : State) (n : SetNo) : NewsKeeps 12 s (s.tellSequencers n) :=
  NewsKeeps.forEach (fun p s => .seqNews s n p) allPoints s

/-! ### A change of run state (R76, R78, R90) -/

/-- A sequencer writes no hire counter. -/
theorem seqFrame_hire {s t : State} (h : SeqFrame s t) (n : SetNo) : (t.setRec n).hire = (s.setRec n).hire :=
  (congrArg SetRec.hire (h.sets n) :)

/-- The state of a run state change before it is told: the run state, and the commands it does not call for gone (R78). -/
def runSet (s : State) (n : SetNo) (run : RunState) : State :=
  (s.modSet n fun r => { r with run, overloadRun := 0 }).dropUncalled n

theorem dropUncalled_hire (s : State) (n : SetNo) : ((s.dropUncalled n).setRec n).hire = (s.setRec n).hire := by
  unfold State.dropUncalled
  dsimp only
  split
  · split
    · simp
    · simp
  all_goals simp

theorem NewsKeeps.dropUncalled (s : State) (n : SetNo) : NewsKeeps 0 s (s.dropUncalled n) := by
  unfold State.dropUncalled
  dsimp only
  split
  · split
    · exact .modSet s n
    · exact (NewsKeeps.withdraw s _).trans (.modSet _ n)
  all_goals exact .modSet s n

theorem dropUncalled_port (s : State) (n : SetNo) : (s.dropUncalled n).port = s.port := by
  unfold State.dropUncalled
  dsimp only
  split
  · split <;> rfl
  all_goals rfl

theorem dropUncalled_cycleNo (s : State) (n : SetNo) : (s.dropUncalled n).engine.cycleNo = s.engine.cycleNo :=
  (congrArg Engine.cycleNo (RunFrame.dropUncalled n s).engine :)

theorem runSet_port (s : State) (n : SetNo) (run : RunState) : (runSet s n run).port = s.port :=
  dropUncalled_port _ n

theorem changeRun_eq (s : State) (n : SetNo) (run : RunState) (why : StateReason) (attempts : Option Nat) :
    s.changeRun n run why attempts =
      ((runSet s n run).raise (.setState n (s.setRec n).run.name run.name why attempts s.engine.cycleNo)).tellSequencers
        n := by
  have cycle : (runSet s n run).engine.cycleNo = s.engine.cycleNo := dropUncalled_cycleNo _ n
  rw [← cycle]
  rfl

theorem NewsKeeps.changeRun (s : State) (n : SetNo) (run : RunState) (why : StateReason) (attempts : Option Nat) :
    NewsKeeps 13 s (s.changeRun n run why attempts) := by
  rw [changeRun_eq]
  have set : NewsKeeps 0 s (runSet s n run) := (NewsKeeps.modSet s n).trans (.dropUncalled _ n)
  exact (set.trans (.raiseMarked _ _ _)).trans (.tellSequencers _ n)

theorem changeRun_hire (s : State) (n : SetNo) (run : RunState) (why : StateReason) (attempts : Option Nat) :
    ((s.changeRun n run why attempts).setRec n).hire = (s.setRec n).hire := by
  rw [changeRun_eq]
  calc ((((runSet s n run).raise _).tellSequencers n).setRec n).hire
      = (((runSet s n run).raise _).setRec n).hire := seqFrame_hire (.tellSequencers _ n) n
    _ = ((s.modSet n fun r => { r with run, overloadRun := 0 }).setRec n).hire := dropUncalled_hire _ n
    _ = (s.setRec n).hire := by rw [State.modSet_read]

/-- A change of run state does not bring its set into service. -/
theorem changeRun_inService {s : State} {n : SetNo} (idle : s.inService n = false) (run : RunState) (why : StateReason)
    (attempts : Option Nat) : (s.changeRun n run why attempts).inService n = false :=
  (NewsKeeps.changeRun s n run why attempts).inService (RunFrame.changeRun n s run why attempts).tables idle

/-- The SET STATE notice of a change is told, whatever a second change in the same event raises after it (R76). -/
theorem told_changeRun {k : Nat} {s t : State} {n : SetNo} {run : RunState} {why : StateReason}
    {attempts : Option Nat} (later : Joined k (s.changeRun n run why attempts) t) (few : k ≤ 15) :
    Told s t (.setState n (s.setRec n).run.name run.name why attempts s.engine.cycleNo) := by
  rw [changeRun_eq] at later
  exact told_of_raise (runSet_port s n run) ((NewsKeeps.tellSequencers _ n).joined.trans later) (by omega)

/-! ### STOP made due, and the entries into STOPPING, COOLING and WARMING (R78, R83 to R85) -/

/-- STOP is due or queued (R78). -/
def StopAsked (r : SetRec) : Prop := r.due = some .stop ∨ r.place = .queued .stop

/-- For a set not in service the test of R79 passes, and a due STOP is queued or stays due. -/
theorem tryEnqueueSet_stop {s : State} {n : SetNo} (idle : s.inService n = false) (due : (s.setRec n).due = some .stop) :
    ((s.tryEnqueueSet n).setRec n).run = (s.setRec n).run ∧ ((s.tryEnqueueSet n).setRec n).hire = (s.setRec n).hire ∧
      StopAsked ((s.tryEnqueueSet n).setRec n) ∧ (s.tryEnqueueSet n).port = s.port := by
  have staysDue : StopAsked (s.setRec n) := .inl due
  unfold State.tryEnqueueSet
  dsimp only
  split
  next code hdue _ _ =>
    obtain rfl : code = .stop := Option.some.inj (hdue.symm.trans due)
    rw [idle, Bool.and_false, if_neg Bool.false_ne_true]
    split
    · exact ⟨rfl, rfl, staysDue, rfl⟩
    · split
      · exact ⟨rfl, rfl, staysDue, rfl⟩
      next enqueued =>
        obtain ⟨-, -, -, rfl⟩ := State.enqueue_eq_some.mp enqueued
        rw [State.modSet_read]
        exact ⟨rfl, rfl, .inr rfl, rfl⟩
  · exact ⟨rfl, rfl, staysDue, rfl⟩

theorem makeDue_stop {s : State} {n : SetNo} (idle : s.inService n = false) :
    ((s.makeDue n .stop).setRec n).run = (s.setRec n).run ∧ ((s.makeDue n .stop).setRec n).hire = (s.setRec n).hire ∧
      StopAsked ((s.makeDue n .stop).setRec n) ∧ (s.makeDue n .stop).port = s.port := by
  have made : NewsKeeps 0 s (s.modSet n fun r => { r with due := some .stop }) := .modSet s n
  obtain ⟨run, hire, asked, port⟩ := tryEnqueueSet_stop (made.inService rfl idle) (by rw [State.modSet_read])
  rw [State.modSet_read] at run hire
  exact ⟨run, hire, asked, port⟩

/-- A set not in service enters STOPPING, with STOP due or queued (R84, R85). -/
theorem enterStopping_idle {s : State} {n : SetNo} (idle : s.inService n = false) (why : StateReason) :
    ((s.enterStopping n why).setRec n).run = .stopping ∧ StopAsked ((s.enterStopping n why).setRec n) ∧
      ((s.enterStopping n why).setRec n).hire = (s.setRec n).hire ∧ Joined 13 s (s.enterStopping n why) ∧
      Told s (s.enterStopping n why) (.setState n (s.setRec n).run.name .stopping why none s.engine.cycleNo) := by
  obtain ⟨run, hire, asked, port⟩ := makeDue_stop (changeRun_inService idle .stopping why none)
  exact ⟨run.trans (State.changeRun_run n s .stopping why none).1, asked,
    hire.trans (changeRun_hire s n .stopping why none),
    (NewsKeeps.changeRun s n .stopping why none).joined.trans (.of_port port),
    told_changeRun (.of_port port) (by omega)⟩

/-- A set not in service enters COOLING; with nothing to count it goes on to STOPPING in the same event (R84, R85). -/
theorem enterCooling_idle {s : State} {n : SetNo} (idle : s.inService n = false) (counter : Nat) :
    (0 < counter → ((s.enterCooling n counter).setRec n).run = .cooling counter) ∧
      (counter = 0 → ((s.enterCooling n counter).setRec n).run = .stopping ∧
        StopAsked ((s.enterCooling n counter).setRec n)) ∧
      ((s.enterCooling n counter).setRec n).hire = (s.setRec n).hire ∧
      Told s (s.enterCooling n counter) (.setState n (s.setRec n).run.name .cooling .office none s.engine.cycleNo) := by
  have hire := changeRun_hire s n (.cooling counter) .office none
  unfold State.enterCooling
  dsimp only
  split
  next zero =>
    have idle' := changeRun_inService idle (.cooling counter) .office none
    obtain ⟨run, asked, hire', joined, -⟩ := enterStopping_idle idle' .timer
    exact ⟨fun pos => absurd zero (by omega), fun _ => ⟨run, asked⟩, hire'.trans hire,
      told_changeRun joined (by omega)⟩
  next pos =>
    exact ⟨fun _ => (State.changeRun_run n s _ _ none).1, fun zero => absurd zero pos, hire,
      told_changeRun (.of_port rfl) (by omega)⟩

/-- The state with one start more in the set's starts counter (R83, R96). -/
def startCounted (s : State) (n : SetNo) : State := s.modHire n fun h => { h with starts := satAdd max64 h.starts 1 }

theorem startCounted_setRec (s : State) (n : SetNo) :
    (startCounted s n).setRec n =
      { s.setRec n with
        hire := { (s.setRec n).hire with starts := min (2 ^ 64 - 1) ((s.setRec n).hire.starts + 1) } } :=
  State.modSet_read s n _

theorem Joined.startCounted (s : State) (n : SetNo) : Joined 0 s (startCounted s n) := .of_port rfl

theorem enterWarming_eq (s : State) (n : SetNo) (counter : Nat) (why : StateReason) :
    s.enterWarming n counter why =
      if counter = 0 then (startCounted (s.changeRun n (.warming counter) why) n).changeRun n .online .timer
      else startCounted (s.changeRun n (.warming counter) why) n := rfl

/-- A set enters WARMING, counted as a start; with nothing to count it goes on to ONLINE in the same event (R83). -/
theorem enterWarming_spec (s : State) (n : SetNo) (counter : Nat) (why : StateReason) :
    ((s.enterWarming n counter why).setRec n).run = (if counter = 0 then .online else .warming counter) ∧
      ((s.enterWarming n counter why).setRec n).hire =
        { (s.setRec n).hire with starts := min (2 ^ 64 - 1) ((s.setRec n).hire.starts + 1) } ∧
      Told s (s.enterWarming n counter why) (.setState n (s.setRec n).run.name .warming why none s.engine.cycleNo) := by
  have run := (State.changeRun_run n s (.warming counter) why none).1
  have hire := changeRun_hire s n (.warming counter) why none
  have told {t : State} := told_changeRun (k := 13) (s := s) (t := t) (n := n) (run := .warming counter) (why := why)
    (attempts := none)
  rw [enterWarming_eq]
  generalize s.changeRun n (.warming counter) why none = t at run hire told ⊢
  have silent := Joined.startCounted t n
  have counted := startCounted_setRec t n
  rw [hire] at counted
  generalize startCounted t n = u at silent counted ⊢
  split
  next =>
    exact ⟨(State.changeRun_run n u .online .timer none).1, by rw [changeRun_hire, counted],
      told (silent.trans (NewsKeeps.changeRun u n .online .timer none).joined) (by omega)⟩
  next =>
    rw [counted]
    exact ⟨run, rfl, told (silent.mono (by omega)) (by omega)⟩

/-! ### What SET STOP answers (R84) -/

theorem turning_iff {r : SetRec} :
    r.turning = true ↔ ∃ x, r.latest = some x ∧ (x.engine = .running ∨ x.engine = .cranking) := by
  simp [SetRec.turning, Option.any_eq_true]

/-- The model tests SET STOP in the states that R84 names. -/
theorem stopTested_iff {r : SetRec} : r.stopTested = true ↔ StopTested r := by
  unfold SetRec.stopTested StopTested
  cases h : r.run <;> simp [turning_iff]

theorem reqSetStop_badIndex {set : Nat} (h : set = 0 ∨ 8 < set) (s : State) :
    reqSetStop set s = (s, .refuse .badIndex) := by
  rw [reqSetStop, numbered_none h]

theorem reqSetStop_state {s : State} {n : SetNo} (h : (s.setRec n).run = .offline ∨ (s.setRec n).run = .unseen) :
    reqSetStop (n.val + 1) s = (s, .refuse .state) := by
  simp [reqSetStop, h]

/-- A set that R84 tests is neither OFFLINE nor UNSEEN. -/
theorem seen_of_stopTested {r : SetRec} (h : StopTested r) : ¬ (r.run = .offline ∨ r.run = .unseen) := by
  obtain h | ⟨c, h⟩ | ⟨a, m, c, x, h⟩ | ⟨⟨why, h⟩, -⟩ := h <;> simp [h]

theorem reqSetStop_inService {s : State} {n : SetNo} (tested : StopTested (s.setRec n)) (h : s.inService n = true) :
    reqSetStop (n.val + 1) s = (s, .refuse .inService) := by
  simp [reqSetStop, seen_of_stopTested tested, stopTested_iff.mpr tested, h]

theorem reqSetStop_unreachable {s : State} {n : SetNo} (tested : StopTested (s.setRec n))
    (idle : s.inService n = false) (h : (s.setRec n).unreachable = true) :
    reqSetStop (n.val + 1) s = (s, .refuse .unreachable) := by
  simp [reqSetStop, seen_of_stopTested tested, stopTested_iff.mpr tested, idle, h]

theorem reqSetStop_tested {s : State} {n : SetNo} (tested : StopTested (s.setRec n)) (idle : s.inService n = false)
    (reach : (s.setRec n).unreachable = false) : reqSetStop (n.val + 1) s = (s.stopSet n, .ok) := by
  simp [reqSetStop, seen_of_stopTested tested, idle, reach]

theorem reqSetStop_untested {s : State} {n : SetNo}
    (seen : ¬ ((s.setRec n).run = .offline ∨ (s.setRec n).run = .unseen)) (untested : ¬ StopTested (s.setRec n)) : reqSetStop (n.val + 1) s = (s.stopSet n, .ok) := by
  simp [reqSetStop, seen, mt stopTested_iff.mp untested]

theorem stopSet_online {s : State} {n : SetNo} {e : SetEntry} (entry : s.setEntry n = some e)
    (run : (s.setRec n).run = .online) : s.stopSet n = s.enterCooling n e.coolDown := by
  simp [State.stopSet, run, entry]

theorem stopSet_warming {s : State} {n : SetNo} {c : Nat} (run : (s.setRec n).run = .warming c) :
    s.stopSet n = s.enterStopping n .office := by
  simp [State.stopSet, run]

theorem stopSet_turning {s : State} {n : SetNo} {why : FaultReason} (run : (s.setRec n).run = .fault why)
    (tested : StopTested (s.setRec n)) : s.stopSet n = s.enterStopping n .office := by
  have turning : (s.setRec n).turning = true := by simpa [SetRec.stopTested, run] using stopTested_iff.mpr tested
  simp [State.stopSet, run, turning]

theorem stopSet_starting {s : State} {n : SetNo} {attempt allowed : Nat} {crank : Option Nat} {mark : Bool}
    (run : (s.setRec n).run = .starting attempt allowed crank mark) :
    s.stopSet n =
      { s with sets := s.sets.set n { s.setRec n with run := .starting attempt allowed crank true } } := by
  simp [State.stopSet, run, State.modSet, State.putSet, SetRec.setStopPending]

/-- The states in which SET STOP changes nothing (R84). -/
theorem stopSet_same {s : State} {n : SetNo}
    (h : ((∃ why, (s.setRec n).run = .fault why) ∧ ¬ StopTested (s.setRec n)) ∨ (s.setRec n).run = .stopped ∨
      (∃ c, (s.setRec n).run = .cooling c) ∨ (s.setRec n).run = .stopping) : s.stopSet n = s := by
  obtain ⟨⟨why, run⟩, untested⟩ | run | ⟨c, run⟩ | run := h
  · have still : (s.setRec n).turning = false := by
      simpa [SetRec.stopTested, run] using mt stopTested_iff.mp untested
    simp [State.stopSet, run, still]
  all_goals simp [State.stopSet, run]

/-- SET STOP answers OK and changes nothing in these states (R84). -/
theorem reqSetStop_same {s : State} {n : SetNo}
    (h : ((∃ why, (s.setRec n).run = .fault why) ∧ ¬ StopTested (s.setRec n)) ∨ (s.setRec n).run = .stopped ∨
      (∃ c, (s.setRec n).run = .cooling c) ∨ (s.setRec n).run = .stopping) :
    reqSetStop (n.val + 1) s = (s, .ok) := by
  have stays := stopSet_same h
  have taken : reqSetStop (n.val + 1) s = (s.stopSet n, .ok) := by
    obtain ⟨⟨why, run⟩, untested⟩ | run | ⟨c, run⟩ | run := h
    · exact reqSetStop_untested (by simp [run]) untested
    all_goals exact reqSetStop_untested (by simp [run]) (by simp [StopTested, run])
  rw [taken, stays]

/-! ### What SET CLEAR FAULT answers (R88) -/

theorem reqSetClearFault_badIndex {set : Nat} (h : set = 0 ∨ 8 < set) (s : State) :
    reqSetClearFault set s = (s, .refuse .badIndex) := by
  rw [reqSetClearFault, numbered_none h]

theorem name_eq_fault {run : RunState} : run.name = .fault ↔ ∃ why, run = .fault why := by
  cases run <;> simp [RunState.name]

theorem reqSetClearFault_noFault {s : State} {n : SetNo} (h : ∀ why, (s.setRec n).run ≠ .fault why) :
    reqSetClearFault (n.val + 1) s = (s, .refuse .state) := by
  have other : (s.setRec n).run.name ≠ .fault := fun e => (name_eq_fault.mp e).elim h
  simp [reqSetClearFault, other]

section
variable {s : State} {n : SetNo} {why : FaultReason} {x : SetReport}

theorem reqSetClearFault_unreachable (run : (s.setRec n).run = .fault why) (h : (s.setRec n).unreachable = true) :
    reqSetClearFault (n.val + 1) s = (s, .refuse .unreachable) := by
  simp [reqSetClearFault, run, RunState.name, h]

theorem reqSetClearFault_faulted (run : (s.setRec n).run = .fault why) (reach : (s.setRec n).unreachable = false)
    (latest : (s.setRec n).latest = some x) (h : x.engine = .faulted) :
    reqSetClearFault (n.val + 1) s = (s, .refuse .state) := by
  simp [reqSetClearFault, run, RunState.name, reach, latest, h]

theorem reqSetClearFault_cleared (run : (s.setRec n).run = .fault why) (reach : (s.setRec n).unreachable = false)
    (latest : (s.setRec n).latest = some x) (h : x.engine ≠ .faulted) :
    reqSetClearFault (n.val + 1) s = (s.leaveFault n x.engine, .ok) := by
  simp only [reqSetClearFault, numbered_succ, run, RunState.name, reach, latest, Option.map_some]
  cases engine : x.engine with
  | faulted => exact absurd engine h
  | stopped => rfl
  | cranking => rfl
  | running => rfl

end

/-- A set leaves FAULT by its engine: to WARMING with warm-up short, counted as a start, or to STOPPED (R83, R88). -/
theorem leaveFault_spec {s : State} {n : SetNo} {e : SetEntry} (entry : s.setEntry n = some e) (engine : EngineState) :
    (engine = .running →
      ((s.leaveFault n engine).setRec n).run = (if e.warmUpShort = 0 then .online else .warming e.warmUpShort) ∧
      ((s.leaveFault n engine).setRec n).hire =
        { (s.setRec n).hire with starts := min (2 ^ 64 - 1) ((s.setRec n).hire.starts + 1) } ∧
      Told s (s.leaveFault n engine) (.setState n (s.setRec n).run.name .warming .cleared none s.engine.cycleNo)) ∧
    (engine ≠ .running →
      ((s.leaveFault n engine).setRec n).run = .stopped ∧
      ((s.leaveFault n engine).setRec n).hire = (s.setRec n).hire ∧
      Told s (s.leaveFault n engine) (.setState n (s.setRec n).run.name .stopped .cleared none s.engine.cycleNo)) := by
  constructor
  · intro running
    rw [State.leaveFault, if_pos running, entry]
    exact enterWarming_spec s n e.warmUpShort .cleared
  · intro other
    rw [State.leaveFault, if_neg other]
    exact ⟨(State.changeRun_run n s .stopped .cleared none).1, changeRun_hire s n .stopped .cleared none,
      told_changeRun (.of_port rfl) (by omega)⟩

theorem runFrame_leaveFault (s : State) (n : SetNo) (engine : EngineState) : RunFrame n s (s.leaveFault n engine) := by
  unfold State.leaveFault
  split
  · exact .enterWarming n s _ _
  · exact .changeRun n s _ _ _

/-! ### The statement -/

/-- A change that keeps to the frame of a run state change leaves alone what a set request does, once it is answered. -/
theorem setFrame_answered {s t : State} {n : SetNo} (h : RunFrame n s t) (tag : Byte) (kind : Nat) (reply : Reply) :
    SetFrame s (answered t tag kind reply) n := by
  obtain ⟨stopCycle, -, latest, -⟩ := h.figures
  have reported (k : SetNo) :
      (t.setRec k).stopCycle = (s.setRec k).stopCycle ∧ (t.setRec k).latest = (s.setRec k).latest := by
    by_cases hk : k = n
    · subst hk; exact ⟨stopCycle, latest⟩
    · exact ⟨(congrArg SetRec.stopCycle (h.others k hk) :), (congrArg SetRec.latest (h.others k hk) :)⟩
  have outside : SameOutside s (answered t tag kind reply) := ⟨h.tables, h.site, h.engine, h.feeders, h.limitFlags,
    h.unattributed, h.tanks, h.meters, h.tickets, h.schedule, h.tariff, h.ten, h.billing, h.pending⟩
  exact ⟨fun k hk => (congrArg SetRec.run (h.others k hk) :), fun k => (reported k).1, fun k => (reported k).2,
    fun k hk => (congrArg SetRec.hire (h.others k hk) :), outside, h.due⟩

/-- SET STOP of a set that goes to STOPPING at once, with STOP due or queued (R84). -/
theorem setStop_enterStopping {s : State} {n : SetNo} (tag : Byte) (calm : Calm s)
    (request : reqSetStop (n.val + 1) s = (s.enterStopping n .office, .ok)) (idle : s.inService n = false) :
    ∃ t, exec (.setStop tag (n.val + 1)) s = .next t ∧ Answers t tag 24 ⟨.ok, .none⟩ ∧
      (t.setRec n).run = .stopping ∧ ((t.setRec n).due = some .stop ∨ (t.setRec n).place = .queued .stop) ∧
      (t.setRec n).hire = (s.setRec n).hire ∧
      Told s t (.setState n (s.setRec n).run.name .stopping .office none s.engine.cycleNo) ∧ SetFrame s t n := by
  obtain ⟨run, asked, hire, -, told⟩ := enterStopping_idle idle .office
  have frame := RunFrame.enterStopping n s .office
  generalize s.enterStopping n .office = t at request run asked hire told frame
  exact ⟨_, ClearFlags.exec_request_calm calm rfl request, rfl, run, asked, hire, told,
    setFrame_answered frame tag 24 _⟩

/-- SET STOP of an ONLINE set: COOLING, or through it to STOPPING (R84, R85). -/
theorem setStop_online {s : State} {n : SetNo} {e : SetEntry} (tag : Byte) (calm : Calm s)
    (entry : s.setEntry n = some e) (online : (s.setRec n).run = .online) (idle : s.inService n = false)
    (reach : (s.setRec n).unreachable = false) :
    ∃ t, exec (.setStop tag (n.val + 1)) s = .next t ∧ Answers t tag 24 ⟨.ok, .none⟩ ∧
      (0 < e.coolDown → (t.setRec n).run = .cooling e.coolDown) ∧
      (e.coolDown = 0 → (t.setRec n).run = .stopping ∧
        ((t.setRec n).due = some .stop ∨ (t.setRec n).place = .queued .stop)) ∧
      (t.setRec n).hire = (s.setRec n).hire ∧
      Told s t (.setState n .online .cooling .office none s.engine.cycleNo) ∧ SetFrame s t n := by
  have request := reqSetStop_tested (.inl online) idle reach
  rw [stopSet_online entry online] at request
  obtain ⟨cools, stops, hire, told⟩ := enterCooling_idle idle e.coolDown
  rw [online] at told
  have frame := RunFrame.enterCooling n s e.coolDown
  generalize s.enterCooling n e.coolDown = t at request cools stops hire told frame
  exact ⟨_, ClearFlags.exec_request_calm calm rfl request, rfl, cools, stops, hire, told,
    setFrame_answered frame tag 24 _⟩

/-- SET CLEAR FAULT of a set that may leave FAULT (R88). -/
theorem setClearFault_cleared {s : State} {n : SetNo} {e : SetEntry} {why : FaultReason} {x : SetReport} (tag : Byte)
    (calm : Calm s) (entry : s.setEntry n = some e) (fault : (s.setRec n).run = .fault why)
    (reach : (s.setRec n).unreachable = false) (latest : (s.setRec n).latest = some x) (engine : x.engine ≠ .faulted) :
    ∃ t, exec (.setClearFault tag (n.val + 1)) s = .next t ∧ Answers t tag 25 ⟨.ok, .none⟩ ∧
      (x.engine = .running →
        (t.setRec n).run = (if e.warmUpShort = 0 then .online else .warming e.warmUpShort) ∧
        (t.setRec n).hire =
          { (s.setRec n).hire with starts := min (2 ^ 64 - 1) ((s.setRec n).hire.starts + 1) } ∧
        Told s t (.setState n .fault .warming .cleared none s.engine.cycleNo)) ∧
      (x.engine ≠ .running → (t.setRec n).run = .stopped ∧ (t.setRec n).hire = (s.setRec n).hire ∧
        Told s t (.setState n .fault .stopped .cleared none s.engine.cycleNo)) ∧
      SetFrame s t n := by
  obtain ⟨warms, stops⟩ := leaveFault_spec entry x.engine
  rw [fault] at warms stops
  have request := reqSetClearFault_cleared fault reach latest engine
  have frame := runFrame_leaveFault s n x.engine
  generalize s.leaveFault n x.engine = t at request warms stops frame
  exact ⟨_, ClearFlags.exec_request_calm calm rfl request, rfl, warms, stops, setFrame_answered frame tag 25 _⟩

/-- Settles O48: each command is its request taken at once, and each request answers as said above. -/
theorem setStopAndClearFault : Obligations.SetStopAndClearFault := by
  unfold Obligations.SetStopAndClearFault
  refine ⟨fun tag set s calm h => ⟨?stopIndex, ?clearIndex⟩, fun tag n s calm =>
    ⟨fun h => ?stopState, fun tested h => ?stopInService, fun tested idle h => ?stopUnreachable,
      fun e entry run idle reach => setStop_online tag calm entry run idle reach,
      fun e c _ run idle reach => ?stopWarming, fun e why _ run tested idle reach => ?stopTurning,
      fun a m c x run idle reach => ?stopStarting, fun h => ?stopSame, fun h => ?clearState,
      fun why run h => ?clearUnreachable, fun why x run reach latest h => ?clearFaulted,
      fun e why x entry run reach latest h => setClearFault_cleared tag calm entry run reach latest h⟩⟩
  case stopIndex => exact ClearFlags.exec_request_calm calm rfl (reqSetStop_badIndex h s)
  case clearIndex => exact ClearFlags.exec_request_calm calm rfl (reqSetClearFault_badIndex h s)
  case stopState => exact ClearFlags.exec_request_calm calm rfl (reqSetStop_state h)
  case stopInService => exact ClearFlags.exec_request_calm calm rfl (reqSetStop_inService tested h)
  case stopUnreachable => exact ClearFlags.exec_request_calm calm rfl (reqSetStop_unreachable tested idle h)
  case stopWarming =>
    have request := reqSetStop_tested (.inr (.inl ⟨c, run⟩)) idle reach
    rw [stopSet_warming run] at request
    have stopped := setStop_enterStopping tag calm request idle
    rwa [run] at stopped
  case stopTurning =>
    have request := reqSetStop_tested tested idle reach
    rw [stopSet_turning run tested] at request
    have stopped := setStop_enterStopping tag calm request idle
    rwa [run] at stopped
  case stopStarting =>
    have request := reqSetStop_tested (.inr (.inr (.inl ⟨a, m, c, x, run⟩))) idle reach
    rw [stopSet_starting run] at request
    exact ClearFlags.exec_request_calm calm rfl request
  case stopSame => exact ClearFlags.exec_request_calm calm rfl (reqSetStop_same h)
  case clearState => exact ClearFlags.exec_request_calm calm rfl (reqSetClearFault_noFault h)
  case clearUnreachable => exact ClearFlags.exec_request_calm calm rfl (reqSetClearFault_unreachable run h)
  case clearFaulted => exact ClearFlags.exec_request_calm calm rfl (reqSetClearFault_faulted run reach latest h)

end Sys2Proof.StopAndClear
end

section
/-! SUPPORT. TANK SET (R103, R104): what a threshold test does to its tank and tells, what the book's taking of a level leaves, what
the request answers, and the statement assembled from them. -/

namespace Sys2Proof.TankSet

open Sys2Proof Sys2Proof.Machine Sys2Proof.Stated Sys2Proof.StopAndClear

/-! ### The threshold tests (R104) -/

/-- A notice raised between a few others of its event is told. -/
theorem told_of_raise_between {j k : Nat} {s u t : State} {body : NoticeBody} (earlier : Joined j s u)
    (later : Joined k (u.raise body) t) (few : j + k ≤ 27) : Told s t body := fun short => by
  obtain ⟨added, fewAdded, eq⟩ := earlier (by omega)
  have queued : u.port.notices.length ≤ 4 + j := by rw [eq, List.length_append]; omega
  have raised : (u.raise body).port.notices = u.port.notices ++ [⟨u.port.nextNotice, false, body⟩] := by
    rw [State.raise, State.raiseMarked, Port.raise_room (by omega)]
  have room : (u.raise body).port.notices.length + k ≤ 32 := by
    rw [raised, List.length_append, List.length_singleton]; omega
  exact ⟨_, later.mem room (raised ▸ List.mem_append_right _ (List.mem_singleton_self _)), rfl⟩

/-- The common form of the two tests: where one fires, the tank is marked and the notice raised. -/
def flagTest (s : State) (n : SetNo) (fires : Bool) (mark : Tank → Tank) (flag : SetFlag) : State :=
  if fires then
    (s.modTank n mark).raise (.setFlag n flag (some (s.tank n).book) none none s.engine.cycleNo)
  else s

theorem testLow_eq (s : State) (n : SetNo) (e : SetEntry) : s.testLow n e =
    flagTest s n (lowMet e (s.tank n) && !(s.tank n).low) (fun t => { t with low := true }) .low := rfl

theorem testReserve_eq (s : State) (n : SetNo) (e : SetEntry) : s.testReserve n e =
    flagTest s n (reserveMet e (s.tank n) && !(s.tank n).reserve) (fun t => { t with reserve := true }) .reserve := rfl

section
variable (s : State) (n : SetNo) (fires : Bool) (mark : Tank → Tank) (flag : SetFlag)

theorem flagTest_tank : (flagTest s n fires mark flag).tank n = if fires then mark (s.tank n) else s.tank n := by
  cases fires
  · rfl
  · exact State.modTank_read s n mark

theorem flagTest_other {k : SetNo} (h : k ≠ n) : (flagTest s n fires mark flag).tank k = s.tank k := by
  cases fires
  · rfl
  · exact State.modTank_other s n mark h

/-- A test writes the tanks and the Port alone. -/
theorem flagTest_frame : { flagTest s n fires mark flag with tanks := s.tanks, port := s.port } = s := by
  cases fires <;> rfl

theorem flagTest_joined : Joined 1 s (flagTest s n fires mark flag) := by
  cases fires
  · exact (Joined.of_port rfl).mono (Nat.zero_le _)
  · exact .raiseMarked (s.modTank n mark) false _

end

theorem testLow_tank (s : State) (n : SetNo) (e : SetEntry) :
    (s.testLow n e).tank n = { s.tank n with low := (s.tank n).low || lowMet e (s.tank n) } := by
  rw [testLow_eq, flagTest_tank]
  obtain ⟨_, _, _, _, _, low, _, _, _⟩ := s.tank n
  generalize lowMet e _ = met
  cases met <;> cases low <;> rfl

theorem testReserve_tank (s : State) (n : SetNo) (e : SetEntry) :
    (s.testReserve n e).tank n = { s.tank n with reserve := (s.tank n).reserve || reserveMet e (s.tank n) } := by
  rw [testReserve_eq, flagTest_tank]
  obtain ⟨_, _, _, _, _, _, reserve, _, _⟩ := s.tank n
  generalize reserveMet e _ = met
  cases met <;> cases reserve <;> rfl

/-- What the threshold test of a loaded set does (R104): each flag is set where its condition is met, with a notice where it was
clear, and no other tank and nothing outside the tanks and the Port changes. -/
structure Tested (s t : State) (n : SetNo) (e : SetEntry) : Prop where
  tank : t.tank n =
    { s.tank n with
      low := (s.tank n).low || lowMet e (s.tank n)
      reserve := (s.tank n).reserve || reserveMet e (s.tank n) }
  others : ∀ k, k ≠ n → t.tank k = s.tank k
  frame : { t with tanks := s.tanks, port := s.port } = s
  low : lowMet e (s.tank n) = true → (s.tank n).low = false →
    Told s t (.setFlag n .low (some (s.tank n).book) none none s.engine.cycleNo)
  reserve : reserveMet e (s.tank n) = true → (s.tank n).reserve = false →
    Told s t (.setFlag n .reserve (some (s.tank n).book) none none s.engine.cycleNo)

theorem testThresholds_spec {s : State} {n : SetNo} {e : SetEntry} (entry : s.setEntry n = some e) :
    Tested s (s.testThresholds n) n e := by
  have tests : s.testThresholds n = (s.testLow n e).testReserve n e := by rw [State.testThresholds, entry]
  have lowTank := testLow_tank s n e
  have lowFrame : { s.testLow n e with tanks := s.tanks, port := s.port } = s := flagTest_frame ..
  have lowJoined : Joined 1 s (s.testLow n e) := flagTest_joined s n _ _ _
  rw [tests]
  refine ⟨?tank, fun k h => ?others, ?frame, fun met clear => ?low, fun met clear => ?reserve⟩
  case tank =>
    rw [testReserve_tank, lowTank]
    rfl
  case others => exact (flagTest_other _ n _ _ _ h).trans (flagTest_other s n _ _ _ h)
  case frame =>
    have reserveFrame : { (s.testLow n e).testReserve n e with
      tanks := (s.testLow n e).tanks, port := (s.testLow n e).port } = s.testLow n e := flagTest_frame ..
    rw [← reserveFrame] at lowFrame
    exact lowFrame
  case low =>
    have raises : s.testLow n e = (s.modTank n fun t => { t with low := true }).raise
        (.setFlag n .low (some (s.tank n).book) none none s.engine.cycleNo) := by
      rw [testLow_eq, met, clear]
      rfl
    have later : Joined 1 (s.testLow n e) ((s.testLow n e).testReserve n e) := flagTest_joined _ n _ _ _
    rw [raises] at later ⊢
    exact told_of_raise rfl later (by omega)
  case reserve =>
    have cycle : (s.testLow n e).engine.cycleNo = s.engine.cycleNo :=
      (congrArg (fun t : State => t.engine.cycleNo) lowFrame :)
    have raises : (s.testLow n e).testReserve n e = ((s.testLow n e).modTank n fun t => { t with reserve := true }).raise
        (.setFlag n .reserve (some (s.tank n).book) none none s.engine.cycleNo) := by
      have fires : (reserveMet e ((s.testLow n e).tank n) && !((s.testLow n e).tank n).reserve) = true := by
        rw [lowTank]
        simpa [clear, reserveMet] using met
      rw [testReserve_eq, flagTest, if_pos fires, cycle, lowTank]
    rw [raises]
    exact told_of_raise_between (lowJoined.trans (.of_port rfl)) (.of_port rfl) (by omega)

/-! ### The book takes a level (R100, R103) -/

/-- The state in which the thresholds are tested: the adjustment recorded, and the level in the book. -/
def booked (s : State) (n : SetNo) (level : Nat) : State :=
  (s.recordAdjustment n ((level : Int) - (s.tank n).book)).modTank n fun t =>
    { t with book := level, residue := 0, discCount := 0 }

theorem setBook_eq (s : State) (n : SetNo) (level : Nat) : s.setBook n level = (booked s n level).testThresholds n := rfl

section
variable (s : State) (n : SetNo) (level : Nat)

theorem booked_tank : (booked s n level).tank n =
    { s.tank n with
      book := level, residue := 0, discCount := 0
      adjustments := hold64 ((s.tank n).adjustments + ((level : Int) - (s.tank n).book)) } := by
  simp [booked, State.recordAdjustment]

theorem booked_setRec : (booked s n level).setRec n =
    { s.setRec n with hire := { (s.setRec n).hire with
        adjustments := hold64 ((s.setRec n).hire.adjustments + ((level : Int) - (s.tank n).book)) } } := by
  simp [booked, State.recordAdjustment, State.modHire]

theorem booked_other {k : SetNo} (h : k ≠ n) :
    (booked s n level).tank k = s.tank k ∧ (booked s n level).setRec k = s.setRec k := by
  simp [booked, State.recordAdjustment, State.modHire, State.modTank_other, State.modSet_other, h]

theorem booked_frame : { booked s n level with tanks := s.tanks, sets := s.sets } = s := rfl

end

/-! ### What the request answers (R103) -/

theorem sessionFor_eq_true {s : State} {n : SetNo} :
    s.sessionFor n = true ↔ ∃ m x, (s.meter m).session = some x ∧ x.set = n := by
  simp [State.sessionFor, allMeters, Option.any_eq_true]

/-- The level a TANK SET asks for, before the clamp: the level given, or the sensor level of the set's latest report. -/
def Asked (s : State) (n : SetNo) (level : TankLevel) (l : Nat) : Prop :=
  level = .level l ∨ (level = .sensor ∧ ∃ x, (s.setRec n).latest = some x ∧ x.sensor = l ∧ l ≠ 65535)

theorem tankLevel_of_asked {s : State} {n : SetNo} {level : TankLevel} {l : Nat} (h : Asked s n level l) :
    s.tankLevel n level = some (min (s.tank n).capacity l) := by
  obtain rfl | ⟨rfl, x, latest, rfl, known⟩ := h
  · rfl
  · simp [State.tankLevel, latest, known]

theorem tankLevel_of_not_asked {s : State} {n : SetNo} {level : TankLevel} (h : ∀ l, ¬ Asked s n level l) :
    s.tankLevel n level = none := by
  cases level with
  | level l => exact absurd (.inl rfl) (h l)
  | sensor =>
    cases latest : (s.setRec n).latest with
    | none => simp [State.tankLevel, latest]
    | some x =>
      have unknown : x.sensor = 65535 := by
        by_contra known
        exact h x.sensor (.inr ⟨rfl, x, latest, rfl, known⟩)
      simp [State.tankLevel, latest, unknown]

theorem reqTankSet_badIndex {set : Nat} (h : set = 0 ∨ 8 < set) (level : TankLevel) (s : State) :
    reqTankSet set level s = (s, .refuse .badIndex) := by
  rw [reqTankSet, numbered_none h]

section
variable {s : State} {n : SetNo} {level : TankLevel}

theorem reqTankSet_notLoaded (h : s.setEntry n = none) : reqTankSet (n.val + 1) level s = (s, .refuse .notValid) := by
  simp [reqTankSet, h]

theorem reqTankSet_busy (loaded : s.setEntry n ≠ none) (h : s.sessionFor n = true) :
    reqTankSet (n.val + 1) level s = (s, .refuse .busy) := by
  simp [reqTankSet, loaded, h]

theorem reqTankSet_noLevel (loaded : s.setEntry n ≠ none) (idle : s.sessionFor n = false)
    (h : s.tankLevel n level = none) : reqTankSet (n.val + 1) level s = (s, .refuse .notValid) := by
  simp [reqTankSet, loaded, idle, h]

theorem reqTankSet_taken {book : Nat} (loaded : s.setEntry n ≠ none) (idle : s.sessionFor n = false)
    (h : s.tankLevel n level = some book) : reqTankSet (n.val + 1) level s =
      (s.setBook n book, .okWith (.tank book ((book : Int) - (s.tank n).book))) := by
  simp [reqTankSet, loaded, idle, h]

end

/-! ### The statement -/

/-- Settles O52: the command is its request taken at once; each check refuses in its order, and a level that is taken goes into the
book, with its adjustment recorded, before the thresholds are tested. -/
theorem tankSet : Obligations.TankSet := by
  unfold Obligations.TankSet
  refine ⟨fun tag set level s calm h => ClearFlags.exec_request_calm calm rfl (reqTankSet_badIndex h level s),
    fun tag n level s calm => ?_⟩
  intro filling asked
  have idle_of (h : ¬ filling) : s.sessionFor n = false := Bool.eq_false_iff.mpr (mt sessionFor_eq_true.mp h)
  refine ⟨fun h => ?notLoaded, fun loaded h => ?busy, fun loaded idle h => ?noLevel, fun e l entry idle h => ?taken⟩
  case notLoaded => exact ClearFlags.exec_request_calm calm rfl (reqTankSet_notLoaded h)
  case busy => exact ClearFlags.exec_request_calm calm rfl (reqTankSet_busy loaded (sessionFor_eq_true.mpr h))
  case noLevel =>
    exact ClearFlags.exec_request_calm calm rfl
      (reqTankSet_noLevel loaded (idle_of idle) (tankLevel_of_not_asked h))
  case taken =>
    intro book adjustment
    have request := reqTankSet_taken (by simp [entry]) (idle_of idle) (tankLevel_of_asked h)
    obtain ⟨tank, others, frame, low, reserve⟩ :=
      testThresholds_spec (s := booked s n book) (n := n) (e := e) entry
    rw [← setBook_eq] at tank others frame low reserve
    have sets : (s.setBook n book).sets = (booked s n book).sets := (congrArg State.sets frame :)
    have setRec (k : SetNo) : (s.setBook n book).setRec k = (booked s n book).setRec k :=
      congrArg (fun v : Vector SetRec 8 => v[k]) sets
    rw [booked_tank] at tank low reserve
    refine ⟨_, ClearFlags.exec_request_calm calm rfl request, rfl, tank, (setRec n).trans (booked_setRec s n book),
      fun k hk => ?_, fun met clear => low (decide_eq_true met) clear,
      fun met clear => reserve (decide_eq_true met) clear, ?_⟩
    · obtain ⟨tankSame, setSame⟩ := booked_other s n book hk
      exact ⟨(others k hk).trans tankSame, (setRec k).trans setSame⟩
    · exact congrArg (fun t : State => { t with tanks := s.tanks, sets := s.sets }) frame

end Sys2Proof.TankSet
end

section
/-! SUPPORT. READ RECORDS and RELEASE RECORDS (R174, R175): what each request answers, and the statement assembled from them. -/

namespace Sys2Proof.RecordQueue

open Sys2Proof Sys2Proof.Machine Sys2Proof.Stated

/-- Removing records with the count clamped to the number held removes the same ones as removing the whole count: beyond the last
there is none to remove (R175). -/
theorem drop_clamped (count : Nat) (records : List Record) :
    records.drop (min count records.length) = records.drop count := by
  rw [List.drop_eq_drop_iff, Nat.min_assoc, Nat.min_self]

/-- READ RECORDS answers the number held and the oldest eight, and leaves the state (R174). -/
theorem reqReadRecords_eq (s : State) :
    reqReadRecords s = (s, ⟨.ok, .records s.billing.records.length (s.billing.records.take 8)⟩) :=
  rfl

/-- RELEASE RECORDS removes from the head of the queue, and names what is then its head (R175). -/
theorem reqReleaseRecords_eq (count : Nat) (s : State) :
    reqReleaseRecords count s =
      ({ s with billing := { s.billing with records := s.billing.records.drop count } },
        ⟨.ok, .released (min count s.billing.records.length)
          ((s.billing.records.drop count).head?.map Record.number)⟩) := by
  simp only [reqReleaseRecords, drop_clamped]
  rfl

/-- Settles O58: each command is its request taken at once, and each request answers as said above. -/
theorem records : Obligations.Records := by
  unfold Obligations.Records
  intro tag s calm
  refine ⟨?read, fun count => ?release⟩
  case read => exact ClearFlags.exec_request_calm calm rfl (reqReadRecords_eq s)
  case release => exact ClearFlags.exec_request_calm calm rfl (reqReleaseRecords_eq count s)

end Sys2Proof.RecordQueue
end

section
/-! SUPPORT. What every event and every request keeps, aspect by aspect: one relation, said once of every operation of the model, from
which the invariants of the step are derived. -/

namespace Sys2Proof.Keeping

open Sys2Proof Sys2Proof.Machine

/-! ### The aspects -/

/-- An aspect of the state that the operations keep: the queue of commands, what only requests and resets write, and the invariants. -/
inductive Aspect where
  | pending | fixed | running | engine | limits | times | due | ranges
  | queue | schedule | records | tickets | port | tanks | points | live

/-- What requests and resets alone write: tables, site, TEN, gate, clock, and the clockwork of the cycle. -/
def fixedPart (s : State) :
    Tables × Site × Bool × GateTable × Option Nat × Bool × CycleNo × Nat × Nat × Nat :=
  (s.tables, s.site, s.ten, s.port.gate, s.billing.clock, s.engine.running, s.engine.cycleNo, s.engine.cycleLen,
    s.engine.holdInForce, s.engine.age)

/-- The engine but for its links and its queue: what its own work at a cycle start and at the end of a slot writes. -/
def enginePart (s : State) : Engine := { s.engine with links := Vector.replicate 63 .reset, queue := [] }

/-- The hire times of a set, which a closing cycle alone adds to (R90, R96). -/
def hireTimes (r : SetRec) : Nat × Nat × Nat := (r.hire.runMs, r.hire.lowLoadMs, r.hire.overloadMs)

/-- The session holds a claimed place of the ticket store (R114). -/
def claims (r : MeterRec) : Bool :=
  match r.session with
  | some x =>
    match x.phase with
    | .ticketing _ (some _) => true
    | .ticketing _ none | .granting | .dispensing => false
  | none => false

/-- What no operation but a report, a load and the start of a run writes of a set: its hire times and its baseline. -/
def lastingPart (r : SetRec) : (Nat × Nat × Nat) × Option SetBaseline := (hireTimes r, r.baseline)

/-- No feeder has had a sample, nor missed one it could have had (R46). -/
def Unsampled (s : State) : Prop := ∀ f, s.feederRec f = .none

/-- What samples and reports alone write: the limit flags, the baselines of the sets, and the records of feeders that have none. -/
structure SamplesKept (s t : State) : Prop where
  flags : t.limitFlags = s.limitFlags
  baseline : ∀ n, (t.setRec n).baseline = (s.setRec n).baseline
  unsampled : Unsampled s → Unsampled t

theorem SamplesKept.of_sets {s t : State} (flags : t.limitFlags = s.limitFlags) (sets : t.sets = s.sets)
    (unsampled : Unsampled s → Unsampled t) : SamplesKept s t where
  flags := flags
  baseline n := by rw [State.setRec, State.setRec, sets]
  unsampled := unsampled

theorem placesClaimed_eq (s : State) : s.placesClaimed = (allMeters.filter fun m => claims (s.meter m)).length := rfl

/-- An aspect is kept from a state to a later one. -/
def Keeps (x : Aspect) (s t : State) : Prop :=
  match x with
  | .pending => t.pending = s.pending
  | .fixed => fixedPart t = fixedPart s
  | .running => t.engine.running = s.engine.running
  | .engine => enginePart t = enginePart s
  | .limits => SamplesKept s t
  | .times => ∀ n, hireTimes (t.setRec n) = hireTimes (s.setRec n)
  | .due => t.due = s.due
  | .ranges => s.site.InRange ∧ s.billing.ClockInRange → t.site.InRange ∧ t.billing.ClockInRange
  | .queue => QueueBounded s.engine.queue → QueueBounded t.engine.queue
  | .schedule => s.schedule.length ≤ 16 → t.schedule.length ≤ 16
  | .records => s.billing.records.length ≤ 512 → t.billing.records.length ≤ 512
  | .tickets => s.tickets.length + s.placesClaimed ≤ 16 → t.tickets.length + t.placesClaimed ≤ 16
  | .port => s.port.Bounded → t.port.Bounded
  | .tanks => s.TanksSound → t.TanksSound
  | .points => s.PointsSound → t.PointsSound
  | .live => s.LiveSound → t.LiveSound

theorem Keeps.refl (x : Aspect) (s : State) : Keeps x s s := by
  cases x with
  | pending | fixed | running | engine | due => exact rfl
  | limits => exact ⟨rfl, fun _ => rfl, id⟩
  | times => exact fun _ => rfl
  | ranges | queue | schedule | records | tickets | port | tanks | points | live => exact id

theorem Keeps.trans {x : Aspect} {a b c : State} (h : Keeps x a b) (k : Keeps x b c) : Keeps x a c := by
  cases x with
  | pending | fixed | running | engine | due => exact Eq.trans k h
  | limits => exact ⟨k.flags.trans h.flags, fun n => (k.baseline n).trans (h.baseline n), fun i => k.unsampled (h.unsampled i)⟩
  | times => exact fun n => (k n).trans (h n)
  | ranges | queue | schedule | records | tickets | port | tanks | points | live => exact fun i => k (h i)

/-- The last of several operations keeps what those before it have kept. -/
theorem Keeps.after {x : Aspect} {a b c : State} (k : Keeps x b c) (h : Keeps x a b) : Keeps x a c := h.trans k

/-- What an aspect reads of the state is the same. -/
def Same (x : Aspect) (s t : State) : Prop :=
  match x with
  | .pending => t.pending = s.pending
  | .fixed => fixedPart t = fixedPart s
  | .running => t.engine.running = s.engine.running
  | .engine => enginePart t = enginePart s
  | .limits => (t.limitFlags, t.sets, t.feeders) = (s.limitFlags, s.sets, s.feeders)
  | .times => t.sets = s.sets
  | .due => t.due = s.due
  | .ranges => (t.site, t.billing.clock) = (s.site, s.billing.clock)
  | .queue => t.engine.queue = s.engine.queue
  | .schedule => t.schedule = s.schedule
  | .records => t.billing.records = s.billing.records
  | .tickets => (t.tickets, t.meters) = (s.tickets, s.meters)
  | .port => t.port = s.port
  | .tanks => t.tanks = s.tanks
  | .points => t.points = s.points
  | .live => (t.site, t.billing.interval, t.billing.clock, t.tariff) =
      (s.site, s.billing.interval, s.billing.clock, s.tariff)

theorem Keeps.of_same {x : Aspect} {s t : State} (h : Same x s t) : Keeps x s t := by
  cases x with
  | pending | fixed | running | engine | due => exact h
  | limits =>
    obtain ⟨flags, sets, feeders⟩ := Prod.mk.inj h |>.imp id Prod.mk.inj
    exact .of_sets flags sets fun i f => by rw [State.feederRec, feeders]; exact i f
  | times => exact fun n => by rw [State.setRec, State.setRec, show t.sets = s.sets from h]
  | ranges =>
    obtain ⟨hsite, hclock⟩ := Prod.mk.inj h
    intro ⟨hs, hc⟩
    exact ⟨hsite ▸ hs, fun n hn => hc n (hclock ▸ hn)⟩
  | queue => exact fun i => (show t.engine.queue = s.engine.queue from h) ▸ i
  | schedule => exact fun i => (show t.schedule = s.schedule from h) ▸ i
  | records => exact fun i => (show t.billing.records = s.billing.records from h) ▸ i
  | tickets =>
    obtain ⟨htickets, hmeters⟩ := Prod.mk.inj h
    intro i
    have hclaims : t.placesClaimed = s.placesClaimed := by simp only [placesClaimed_eq, State.meter, hmeters]
    rw [htickets, hclaims]; exact i
  | port => exact fun i => (show t.port = s.port from h) ▸ i
  | tanks => exact fun i n => by rw [State.tank, show t.tanks = s.tanks from h]; exact i n
  | points => exact fun i p => by rw [State.pointRec, show t.points = s.points from h]; exact i p
  | live =>
    simp only [Same, Prod.mk.injEq] at h
    obtain ⟨hsite, hinterval, hclock, htariff⟩ := h
    exact fun i => ⟨by rw [hsite, hinterval]; exact i.interval, by rw [hsite, hclock]; exact i.clock,
      by rw [hsite, htariff]; exact i.tariff, by rw [hsite, htariff]; exact i.commit⟩

/-- What every visit of a walk keeps, the walk keeps. -/
theorem Keeps.forEach {x : Aspect} {α : Type} {xs : List α} {f : α → State → State}
    (h : ∀ a ∈ xs, ∀ s, Keeps x s (f a s)) (s : State) : Keeps x s (forEach xs f s) :=
  forEach_rel (Keeps.refl x) Keeps.trans h s

/-! ### Writes of one entry -/

section
variable {x : Aspect} (s : State)

theorem Keeps.putUnitEntry (hx : x ≠ .fixed) (a : Addr) (e : Option UnitEntry) : Keeps x s (s.putUnitEntry a e) :=
  .of_same (by cases x with | fixed => exact absurd rfl hx | _ => exact rfl)

theorem Keeps.putFeederEntry (hx : x ≠ .fixed) (f : FeederNo) (e : Option FeederEntry) :
    Keeps x s (s.putFeederEntry f e) :=
  .of_same (by cases x with | fixed => exact absurd rfl hx | _ => exact rfl)

theorem Keeps.putSetEntry (hx : x ≠ .fixed) (n : SetNo) (e : Option SetEntry) : Keeps x s (s.putSetEntry n e) :=
  .of_same (by cases x with | fixed => exact absurd rfl hx | _ => exact rfl)

theorem Keeps.putPointEntry (hx : x ≠ .fixed) (p : PointNo) (e : Option PointEntry) :
    Keeps x s (s.putPointEntry p e) :=
  .of_same (by cases x with | fixed => exact absurd rfl hx | _ => exact rfl)

theorem Keeps.putAccountEntry (hx : x ≠ .fixed) (k : AccountNo) (e : Option AccountEntry) :
    Keeps x s (s.putAccountEntry k e) :=
  .of_same (by cases x with | fixed => exact absurd rfl hx | _ => exact rfl)

theorem Keeps.modLink (a : Addr) (f : LinkRec → LinkRec) : Keeps x s (s.modLink a f) :=
  .of_same (by cases x <;> exact rfl)

/-- A write of a feeder's record keeps every aspect, the samples where an unsampled record stays one. -/
theorem Keeps.putFeeder (i : FeederNo) {r : FeederRec} (h : x = .limits → s.feederRec i = .none → r = .none) :
    Keeps x s (s.putFeeder i r) := by
  cases x with
  | limits =>
    refine .of_sets rfl rfl fun blank f => ?_
    by_cases e : f = i
    · rw [e, State.putFeeder_read]; exact h rfl (blank i)
    · rw [State.putFeeder_other s i _ e]; exact blank f
  | _ => exact .of_same rfl

theorem Keeps.modFeeder (i : FeederNo) {f : FeederRec → FeederRec}
    (h : x = .limits → s.feederRec i = .none → f (s.feederRec i) = .none) : Keeps x s (s.modFeeder i f) := .putFeeder s i h

theorem Keeps.putLimitFlag (hx : x ≠ .limits) (i : FeederNo) (b : Bool) : Keeps x s (s.putLimitFlag i b) :=
  .of_same (by cases x with | limits => exact absurd rfl hx | _ => exact rfl)

theorem Keeps.modAccount (k : AccountNo) (f : AccountRec → AccountRec) : Keeps x s (s.modAccount k f) :=
  .of_same (by cases x <;> exact rfl)

theorem Keeps.putUnattributed (n : Nat) : Keeps x s { s with unattributed := n } :=
  .of_same (by cases x <;> exact rfl)

theorem Keeps.putFreeCount (n : Nat) : Keeps x s { s with freeCount := n } := .of_same (by cases x <;> exact rfl)

theorem Keeps.clearFeeders : Keeps x s s.clearFeeders := by
  cases x with
  | limits => exact .of_sets rfl rfl fun _ _ => Vector.getElem_replicate _
  | _ => exact .of_same rfl

/-- A write of a set keeps every aspect, where it leaves the hire times and the baseline of its set. -/
theorem Keeps.modSet (n : SetNo) {f : SetRec → SetRec} (h : ∀ r, lastingPart (f r) = lastingPart r) :
    Keeps x s (s.modSet n f) := by
  cases x with
  | times =>
    intro k
    by_cases e : k = n
    · rw [e, State.modSet_read]; exact congrArg Prod.fst (h _)
    · rw [State.modSet_other s n f e]
  | limits =>
    refine ⟨rfl, fun k => ?_, id⟩
    by_cases e : k = n
    · rw [e, State.modSet_read]; exact congrArg Prod.snd (h _)
    · rw [State.modSet_other s n f e]
  | _ => exact .of_same rfl

/-- A write of a set that leaves its baseline keeps every aspect but the hire times. -/
theorem Keeps.modSet_of_ne (hx : x ≠ .times) (n : SetNo) {f : SetRec → SetRec} (h : ∀ r, (f r).baseline = r.baseline) :
    Keeps x s (s.modSet n f) := by
  cases x with
  | times => exact absurd rfl hx
  | limits =>
    refine ⟨rfl, fun k => ?_, id⟩
    by_cases e : k = n
    · rw [e, State.modSet_read, h]
    · rw [State.modSet_other s n f e]
  | _ => exact .of_same rfl

/-- Any write of a set keeps every aspect but the hire times and the samples. -/
theorem Keeps.modSet_any (ht : x ≠ .times) (hl : x ≠ .limits) (n : SetNo) (f : SetRec → SetRec) : Keeps x s (s.modSet n f) := by
  cases x with
  | times => exact absurd rfl ht
  | limits => exact absurd rfl hl
  | _ => exact .of_same rfl

/-- A write of a set that leaves its hire times keeps every aspect but the samples. -/
theorem Keeps.modSet_times (hx : x ≠ .limits) (n : SetNo) {f : SetRec → SetRec} (h : ∀ r, hireTimes (f r) = hireTimes r) :
    Keeps x s (s.modSet n f) := by
  cases x with
  | times =>
    intro k
    by_cases e : k = n
    · rw [e, State.modSet_read, h]
    · rw [State.modSet_other s n f e]
  | limits => exact absurd rfl hx
  | _ => exact .of_same rfl

theorem Keeps.modHire (n : SetNo) {f : Hire → Hire}
    (h : ∀ r, ((f r).runMs, (f r).lowLoadMs, (f r).overloadMs) = (r.runMs, r.lowLoadMs, r.overloadMs)) :
    Keeps x s (s.modHire n f) := .modSet s n fun r => Prod.ext (h r.hire) rfl

/-- A write of a tank that keeps it sound. -/
theorem Keeps.modTank (n : SetNo) {f : Tank → Tank} (h : (s.tank n).Sound → (f (s.tank n)).Sound) :
    Keeps x s (s.modTank n f) := by
  cases x with
  | tanks =>
    intro i k
    by_cases e : k = n
    · rw [e, State.modTank_read]; exact h (i n)
    · rw [State.modTank_other s n f e]; exact i k
  | _ => exact .of_same rfl

/-- Any write of a tank keeps every aspect but the tanks'. -/
theorem Keeps.modTank_of_ne (hx : x ≠ .tanks) (n : SetNo) (f : Tank → Tank) : Keeps x s (s.modTank n f) :=
  .of_same (by cases x with | tanks => exact absurd rfl hx | _ => exact rfl)

/-- A write of a point that keeps it sound. -/
theorem Keeps.modPoint (p : PointNo) {f : PointRec → PointRec}
    (h : (s.pointRec p).Sound → (f (s.pointRec p)).Sound) : Keeps x s (s.modPoint p f) := by
  cases x with
  | points =>
    intro i k
    by_cases e : k = p
    · rw [e, State.modPoint_read]; exact h (i p)
    · rw [State.modPoint_other s p f e]; exact i k
  | _ => exact .of_same rfl

/-- Any write of a point keeps every aspect but the points'. -/
theorem Keeps.modPoint_of_ne (hx : x ≠ .points) (p : PointNo) (f : PointRec → PointRec) : Keeps x s (s.modPoint p f) :=
  .of_same (by cases x with | points => exact absurd rfl hx | _ => exact rfl)

/-- A sound point stays sound under a write that leaves its position and its sequence. -/
theorem sound_of_eq {r r' : PointRec} (hp : r'.position = r.position) (hs : r'.seq = r.seq) (h : r.Sound) :
    r'.Sound := by
  intro q hq
  rw [hp]
  exact h q (hs ▸ hq)

/-- A write of a point that leaves its position and its sequence. -/
theorem Keeps.modPoint_aside (p : PointNo) {f : PointRec → PointRec}
    (h : ∀ r, (f r).position = r.position ∧ (f r).seq = r.seq) : Keeps x s (s.modPoint p f) :=
  .modPoint s p (sound_of_eq (h _).1 (h _).2)

theorem placesClaimed_modMeter {m : MeterNo} {f : MeterRec → MeterRec}
    (h : claims (f (s.meter m)) = true → claims (s.meter m) = true) :
    (s.modMeter m f).placesClaimed ≤ s.placesClaimed := by
  rw [placesClaimed_eq, placesClaimed_eq]
  refine (List.monotone_filter_right allMeters fun k hk => ?_).length_le
  by_cases e : k = m
  · rw [e, State.modMeter_read] at hk; rw [e]; exact h hk
  · rwa [State.modMeter_other s m f e] at hk

/-- A write of a meter that claims no place of the ticket store. -/
theorem Keeps.modMeter (m : MeterNo) {f : MeterRec → MeterRec}
    (h : claims (f (s.meter m)) = true → claims (s.meter m) = true) : Keeps x s (s.modMeter m f) := by
  cases x with
  | tickets => exact fun i => Nat.le_trans (Nat.add_le_add_left (placesClaimed_modMeter s h) _) i
  | _ => exact .of_same rfl

/-- A write of a meter that leaves its session. -/
theorem Keeps.modMeter_aside (m : MeterNo) {f : MeterRec → MeterRec} (h : ∀ r, (f r).session = r.session) :
    Keeps x s (s.modMeter m f) := .modMeter s m fun c => by rwa [claims, h] at c

/-- Any write of a meter keeps every aspect but the ticket store's. -/
theorem Keeps.modMeter_of_ne (hx : x ≠ .tickets) (m : MeterNo) (f : MeterRec → MeterRec) : Keeps x s (s.modMeter m f) :=
  .of_same (by cases x with | tickets => exact absurd rfl hx | _ => exact rfl)

/-! ### Notices and copies (R191, R194) -/

/-- Raising a notice leaves the rest of the Port alone. -/
theorem raise_others (p : Port) (urgent : Bool) (body : NoticeBody) :
    (p.raise urgent body).gate = p.gate ∧ (p.raise urgent body).copies = p.copies ∧
      (p.raise urgent body).rxQueue = p.rxQueue ∧ (p.raise urgent body).frameErrors = p.frameErrors ∧
      (p.raise urgent body).rxOverflows = p.rxOverflows := by
  have e := (Port.raise_frame p urgent body).1
  have gate := congrArg Port.gate e
  have copies := congrArg Port.copies e
  have rxQueue := congrArg Port.rxQueue e
  have frameErrors := congrArg Port.frameErrors e
  have rxOverflows := congrArg Port.rxOverflows e
  exact ⟨gate, copies, rxQueue, frameErrors, rxOverflows⟩

theorem raise_bounded {p : Port} (h : p.Bounded) (urgent : Bool) (body : NoticeBody) :
    (p.raise urgent body).Bounded := by
  obtain ⟨-, copies, rxQueue, frameErrors, rxOverflows⟩ := raise_others p urgent body
  exact
    { notices := Port.raise_length h.notices urgent body
      copies := copies ▸ h.copies
      rxQueue := rxQueue ▸ h.rxQueue
      frameErrors := frameErrors ▸ h.frameErrors
      rxOverflows := rxOverflows ▸ h.rxOverflows }

theorem Keeps.raiseMarked (urgent : Bool) (body : NoticeBody) : Keeps x s (s.raiseMarked urgent body) := by
  cases x with
  | port => exact fun i => raise_bounded i urgent body
  | fixed =>
    show fixedPart _ = fixedPart _
    simp only [fixedPart, State.raiseMarked, (raise_others s.port urgent body).1]
  | _ => exact .of_same rfl

theorem Keeps.raise (body : NoticeBody) : Keeps x s (s.raise body) := .raiseMarked s false body

/-- A write of the Port alone keeps every aspect but the Port's, where it leaves the gate. -/
theorem Keeps.putPort {p : Port} (hp : x = .port → s.port.Bounded → p.Bounded)
    (hg : x = .fixed → p.gate = s.port.gate) : Keeps x s { s with port := p } := by
  cases x with
  | port => exact fun i => hp rfl i
  | fixed =>
    show fixedPart _ = fixedPart _
    simp only [fixedPart, hg rfl]
  | _ => exact .of_same rfl

/-! ### The command queue (R32, R33) -/

theorem QueueBounded.sublist {q r : List Command} (h : QueueBounded q) (sub : r.Sublist q) : QueueBounded r :=
  ⟨Nat.le_trans sub.length_le h.entries, Nat.le_trans (sub.filter _).length_le h.office⟩

theorem Keeps.putQueue {queue : List Command} (sub : queue.Sublist s.engine.queue) : Keeps x s (s.putQueue queue) := by
  cases x with
  | queue => exact fun i => QueueBounded.sublist i sub
  | _ => exact .of_same rfl

theorem Keeps.withdraw (o : Origin) : Keeps x s (s.withdraw o) := .putQueue s List.filter_sublist

/-- The queue takes an entry only where it has room for it (R32). -/
theorem Keeps.enqueue {s t : State} {c : Command} (h : s.enqueue c = some t) : Keeps x s t := by
  obtain ⟨room, office, -, rfl⟩ := State.enqueue_eq_some.mp h
  cases x with
  | queue =>
    intro i
    refine ⟨by simp only [List.length_append, List.length_singleton]; omega, ?_⟩
    rw [List.filter_append, List.length_append]
    cases hc : c.isOffice with
    | false => simpa [hc] using i.office
    | true =>
      have share := office hc
      rw [State.officeRoom, Bool.and_eq_true, decide_eq_true_eq, Engine.officeQueued] at share
      simp only [List.filter_cons, hc, if_true, List.filter_nil, List.length_singleton]
      omega
  | _ => exact .of_same rfl

/-- The engine's own record of a cycle keeps every aspect but the engine's. -/
theorem Keeps.putOutstanding (hx : x ≠ .engine) (q : Option Outstanding) : Keeps x s (s.putOutstanding q) :=
  .of_same (by cases x with | engine => exact absurd rfl hx | _ => exact rfl)

end

end Sys2Proof.Keeping
end

section
/-! SUPPORT. What the Changeover Sequencer and the Set Supervisor keep (R76 to R90, R123 to R142). -/

namespace Sys2Proof.Keeping

open Sys2Proof Sys2Proof.Machine

/-! ### A point alone out of order -/

/-- Every point but one is sound. -/
def OthersSound (p : PointNo) (s : State) : Prop := ∀ k, k ≠ p → (s.pointRec k).Sound

theorem OthersSound.of_all {s : State} (h : s.PointsSound) (p : PointNo) : OthersSound p s := fun k _ => h k

theorem OthersSound.modPoint {s : State} {p : PointNo} (h : OthersSound p s) (f : PointRec → PointRec) :
    OthersSound p (s.modPoint p f) := fun k hk => by
  rw [State.modPoint_other s p f hk]; exact h k hk

/-- A write of the point that puts it in order again. -/
theorem points_modPoint {s : State} {p : PointNo} {f : PointRec → PointRec} (h : OthersSound p s)
    (hp : (f (s.pointRec p)).Sound) : (s.modPoint p f).PointsSound := fun k => by
  by_cases e : k = p
  · rw [e, State.modPoint_read]; exact hp
  · rw [State.modPoint_other s p f e]; exact h k e

/-- A sequencer without a sequence is sound. -/
theorem sound_idle {r : PointRec} (h : r.seq = none) : r.Sound := fun q hq => by rw [h] at hq; cases hq

/-- What a point's soundness asks of its sequence and its position. -/
def Stands (q : Sequence) (pos : SwPos) : Prop :=
  q.counter.Fits q.phase ∧
    match q.phase with
    | .preparing => pos = q.originalPos ∧ pos ≠ .unknown
    | .opening => pos = q.originalPos ∧ pos ≠ .unknown
    | .dead => pos = .opened
    | .closing => pos = .opened
    | .recovering => pos ≠ .unknown

/-- A sequencer in flight is sound by its counter and its position. -/
theorem sound_seq {r : PointRec} {q : Sequence} (h : r.seq = some q) : r.Sound ↔ Stands q r.position :=
  ⟨fun i => i q h, fun i y hy => by rw [h] at hy; cases hy; exact i⟩

/-- A sequencer that takes a sequence is sound by it. -/
theorem sound_put {r : PointRec} {q : Sequence} (h : Stands q r.position) : ({ r with seq := some q } : PointRec).Sound :=
  (sound_seq rfl).mpr h

theorem sound_putDue {r : PointRec} {q : Sequence} {due : Option Code} (h : Stands q r.position) :
    ({ r with seq := some q, due } : PointRec).Sound :=
  (sound_seq rfl).mpr h

/-- A sequence in flight knows its point's position. -/
theorem position_known {r : PointRec} {q : Sequence} (h : r.seq = some q) (i : r.Sound) : r.position ≠ .unknown := by
  obtain ⟨-, hpos⟩ := (sound_seq h).mp i
  cases hphase : q.phase <;> rw [hphase] at hpos
  case preparing | opening => exact hpos.2
  case dead | closing => rw [hpos]; exact SwPos.noConfusion
  case recovering => exact hpos

/-- In DEAD and in CLOSING the point is OPEN (R135). -/
theorem position_opened {r : PointRec} {q : Sequence} (h : r.seq = some q) (hq : q.phase = .dead ∨ q.phase = .closing)
    (i : r.Sound) : r.position = .opened := by
  obtain ⟨-, hpos⟩ := (sound_seq h).mp i
  rcases hq with hq | hq <;> rw [hq] at hpos <;> exact hpos

section
variable {x : Aspect} (s : State) (p : PointNo) (q : Sequence)

/-! ### Reservations, the command place, and ends (R95, R130 to R132) -/

theorem Keeps.reserve (n : SetNo) (load : Nat) : Keeps x s (s.reserve n p load) := .modSet s n fun _ => rfl

theorem Keeps.release (n : SetNo) : Keeps x s (s.release n p) := .modSet s n fun _ => rfl

theorem Keeps.dropPointCommand : Keeps x s (s.dropPointCommand p) :=
  (Keeps.withdraw s _).trans (.modPoint_aside _ p fun _ => ⟨rfl, rfl⟩)

theorem Keeps.endSequence (o : SeqOutcome) (m : Option ManualPart) : Keeps x s (s.endSequence p o m) := by
  unfold State.endSequence
  split
  · exact .refl x s
  · exact (((Keeps.dropPointCommand s p).trans (.release _ p _)).trans
      (.modPoint _ p fun _ => sound_idle rfl)).trans (.raiseMarked _ _ _)

theorem points_endSequence {s : State} {p : PointNo} (h : OthersSound p s) (o : SeqOutcome) (m : Option ManualPart) :
    (s.endSequence p o m).PointsSound := fun k => by
  obtain ⟨hseq, -, -, others⟩ := s.endSequence_points p o m
  by_cases e : k = p
  · rw [e]; exact sound_idle hseq
  · rw [others k e]; exact h k e

/-- A change of a point whose sequence ends in the same event. -/
theorem Keeps.modPoint_endSequence (f : PointRec → PointRec) (o : SeqOutcome) (m : Option ManualPart) :
    Keeps x s ((s.modPoint p f).endSequence p o m) := by
  by_cases hx : x = .points
  · subst hx
    exact fun i => points_endSequence ((OthersSound.of_all i p).modPoint f) o m
  · exact (Keeps.modPoint_of_ne s hx p f).trans (.endSequence _ p o m)

theorem Keeps.modPoint_endClosed (f : PointRec → PointRec) : Keeps x s ((s.modPoint p f).endClosed p q) := by
  unfold State.endClosed
  split
  · exact .modPoint_endSequence s p f _ _
  · exact .modPoint_endSequence s p f _ _
  · exact (Keeps.putFreeCount s _).trans (.modPoint_endSequence { s with freeCount := s.freeCount + 1 } p f _ _)

theorem Keeps.enqueuePoint (code : Code) : Keeps x s (s.enqueuePoint p code) := by
  unfold State.enqueuePoint
  split
  · exact .refl x s
  · split
    · exact .refl x s
    · rename_i t ht
      exact (Keeps.enqueue ht).trans (.modPoint_aside t p fun _ => ⟨rfl, rfl⟩)

theorem Keeps.enqueueRecovery (code : Code) : Keeps x s (s.enqueueRecovery p q code) := by
  unfold State.enqueueRecovery
  split
  · exact .enqueuePoint s p code
  · exact .endSequence s p _ _

/-! ### Phases (R129, R133 to R138) -/

end

/-- What entry into RECOVERING does once the sequence stands in its new phase (R138). -/
def tryRestore (s : State) (p : PointNo) (q : Sequence) : State :=
  match q.originalPos.close with
  | some code =>
    if q.originalSet.any s.onlineReachable then
      let s := s.modPoint p fun r => { r with due := some code }
      if (s.pointRec p).place = .free then s.enqueueRecovery p q code else s
    else s.endSequence p .dark none
  | none => s.endSequence p .dark none

theorem enterRecovering_eq (s : State) (p : PointNo) (q : Sequence) (why : RecoveryReason) :
    s.enterRecovering p q why = tryRestore ((s.dropPointCommand p).putSeq p
      { q with phase := .recovering, recovery := some why, counter := .none }) p
      { q with phase := .recovering, recovery := some why, counter := .none } := rfl

section
variable {x : Aspect} (s : State) (p : PointNo) (q : Sequence)

theorem Keeps.tryRestore : Keeps x s (tryRestore s p q) := by
  have due : ∀ code : Code, Keeps x s (s.modPoint p fun r => { r with due := some code }) :=
    fun _ => .modPoint_aside s p fun _ => ⟨rfl, rfl⟩
  unfold Keeping.tryRestore
  split
  · split
    · dsimp only
      split
      · exact (due _).trans (.enqueueRecovery _ p q _)
      · exact due _
    · exact .endSequence s p _ _
  · exact .endSequence s p _ _

theorem dropPointCommand_position : ((s.dropPointCommand p).pointRec p).position = (s.pointRec p).position := by
  simp [State.dropPointCommand]

/-- A point whose position is known stays sound when its sequencer enters RECOVERING. -/
theorem sound_recovering {r : PointRec} (h : r.position ≠ .unknown) (why : RecoveryReason) :
    ({ r with seq := some { q with phase := .recovering, recovery := some why, counter := .none } } : PointRec).Sound :=
  sound_put ⟨trivial, h⟩

theorem Keeps.enterRecovering (why : RecoveryReason)
    (h : (s.pointRec p).Sound → (s.pointRec p).position ≠ .unknown) : Keeps x s (s.enterRecovering p q why) := by
  rw [enterRecovering_eq]
  refine ((Keeps.dropPointCommand s p).trans (.modPoint _ p fun i => ?_)).trans (.tryRestore _ p _)
  rw [← dropPointCommand_position s p] at h
  exact sound_recovering q (h (sound_of_eq (by simp [State.dropPointCommand]) (by simp [State.dropPointCommand]) i)) why

theorem points_enterRecovering {s : State} {p : PointNo} (h : OthersSound p s) (q : Sequence) (why : RecoveryReason)
    (hp : (s.pointRec p).position ≠ .unknown) : (s.enterRecovering p q why).PointsSound := by
  rw [enterRecovering_eq]
  refine Keeps.tryRestore (x := .points) _ p _ (points_modPoint ?_ (sound_recovering q ?_ why))
  · exact OthersSound.modPoint (s := s.withdraw (.changeover p)) h _
  · rw [dropPointCommand_position]; exact hp

theorem Keeps.tryEnqueuePoint : Keeps x s (s.tryEnqueuePoint p) := by
  unfold State.tryEnqueuePoint
  dsimp only
  split
  · rename_i q code hseq _ _
    split
    · split
      · exact .enqueuePoint s p code
      · exact .enterRecovering s p q _ (position_known hseq)
    · exact .enqueueRecovery s p q code
    all_goals exact .enqueuePoint s p code
  · exact .refl x s

theorem Keeps.putSeq (h : (s.pointRec p).Sound → ({ s.pointRec p with seq := some q } : PointRec).Sound) :
    Keeps x s (s.putSeq p q) := .modPoint s p h

theorem Keeps.enterOpening
    (h : (s.pointRec p).Sound → (s.pointRec p).position = q.originalPos ∧ (s.pointRec p).position ≠ .unknown) :
    Keeps x s (s.enterOpening p q) :=
  (Keeps.modPoint s p fun i => sound_putDue (by exact ⟨trivial, h i⟩)).trans (.tryEnqueuePoint _ p)

theorem Keeps.enterDead (c : CycleNo) (h : (s.pointRec p).Sound → (s.pointRec p).position = .opened) :
    Keeps x s (s.enterDead p q c) :=
  .putSeq s p _ fun i => sound_put ⟨rfl, h i⟩

theorem Keeps.proceed
    (h : (s.pointRec p).Sound → (s.pointRec p).position = q.originalPos ∧ (s.pointRec p).position ≠ .unknown) :
    Keeps x s (s.proceed p q) := by
  unfold State.proceed
  split
  · rename_i opened
    exact .enterDead s p q _ fun i => (h i).1.trans opened
  · exact .enterOpening s p q h

theorem Keeps.enterClosing (v : Verification) (h : (s.pointRec p).Sound → (s.pointRec p).position = .opened) :
    Keeps x s (s.enterClosing p q v) :=
  (Keeps.modPoint s p fun i => sound_putDue (by exact ⟨trivial, h i⟩)).trans (.tryEnqueuePoint _ p)

theorem Keeps.endOpening : Keeps x s (s.endOpening p q) := .endSequence s p _ _

/-- A counter of the confirm timeout belongs to the phases that await a command. -/
theorem Keeps.loadConfirm (hseq : (s.pointRec p).seq = some q)
    (h : q.phase = .opening ∨ q.phase = .closing ∨ q.phase = .recovering) : Keeps x s (s.loadConfirm p q) :=
  .putSeq s p _ fun i => sound_put ⟨h, ((sound_seq hseq).mp i).2⟩

theorem Keeps.applyDeadCheck {u : State} (h : (s.pointRec p).Sound → (s.pointRec p).position = .opened)
    (hu : Keeps x s u) : Keeps x s (s.applyDeadCheck p q u) := by
  unfold State.applyDeadCheck
  split
  · exact .enterClosing s p q _ h
  · exact .enterClosing s p q _ h
  · exact .enterRecovering s p q _ fun i => by rw [h i]; exact SwPos.noConfusion
  · exact hu

variable {s p q}

/-- A dead counter and a window belong to DEAD, where the point is OPEN. -/
theorem opened_of_counter (hseq : (s.pointRec p).seq = some q)
    (h : (∃ n, q.counter = .dead n) ∨ ∃ n, q.counter = .window n) (i : (s.pointRec p).Sound) :
    q.phase = .dead ∧ (s.pointRec p).position = .opened := by
  have fits := ((sound_seq hseq).mp i).1
  have hphase : q.phase = .dead := by
    rcases h with ⟨n, hn⟩ | ⟨n, hn⟩ <;> rw [hn] at fits <;> exact fits
  exact ⟨hphase, position_opened hseq (.inl hphase) i⟩

theorem Keeps.expireDead (hseq : (s.pointRec p).seq = some q) (h : ∃ n, q.counter = .dead n) :
    Keeps x s (s.expireDead p q) :=
  .applyDeadCheck s p q (fun i => (opened_of_counter hseq (.inl h) i).2) (.putSeq s p _ fun i =>
    sound_put ⟨(opened_of_counter hseq (.inl h) i).1, ((sound_seq hseq).mp i).2⟩)

theorem Keeps.windowCheck (hseq : (s.pointRec p).seq = some q) (h : ∃ n, q.counter = .window n) :
    Keeps x s (s.windowCheck p q) := by
  have opened := fun i => (opened_of_counter hseq (.inr h) i).2
  refine .applyDeadCheck s p q opened ?_
  split
  · exact .enterClosing s p q _ opened
  · exact .refl x s

theorem Keeps.expireConfirm (hseq : (s.pointRec p).seq = some q) : Keeps x s (s.expireConfirm p q) := by
  unfold State.expireConfirm
  split
  · exact .endOpening s p q
  · exact .enterRecovering s p q _ (position_known hseq)
  · exact .endSequence s p _ _
  · exact .refl x s
  · exact .refl x s

variable (s p)

/-! ### News of a set (R76, R139) -/

theorem Keeps.seqNews (n : SetNo) : Keeps x s (s.seqNews n p) := by
  unfold State.seqNews
  split
  · exact .refl x s
  · rename_i q hseq
    dsimp only
    split
    · split
      · rename_i hphase
        split
        · refine .proceed s p q fun i => ?_
          have hpos := ((sound_seq hseq).mp i).2
          rw [hphase] at hpos
          exact hpos
        · split
          · exact .refl x s
          · exact .refl x s
          · exact .endSequence s p _ _
      · split
        · exact .refl x s
        · split
          · exact .endSequence s p _ _
          · exact .putSeq s p _ fun i => sound_put (q := { q with abort := _ }) ((sound_seq hseq).mp i)
      · split
        · exact .refl x s
        · exact .enterRecovering s p q _ (position_known hseq)
      · split
        · exact .refl x s
        · exact .enterRecovering s p q _ (position_known hseq)
      · exact .refl x s
    · split
      · split
        · exact .refl x s
        · exact .endSequence s p _ _
      · exact .refl x s

theorem Keeps.tellSequencers (n : SetNo) : Keeps x s (s.tellSequencers n) := .forEach (fun p _ s => .seqNews s p n) s

/-! ### Outcomes and reports (R125, R126, R132) -/

theorem awaits_phase {q : Sequence} {code : Code} (h : q.awaits = some code) :
    q.phase = .opening ∨ q.phase = .closing ∨ q.phase = .recovering := by
  unfold Sequence.awaits at h
  cases hphase : q.phase <;> simp_all

theorem Keeps.applySeqOutcome {q : Sequence} {code : Code} (hseq : (s.pointRec p).seq = some q)
    (h : q.awaits = some code) (o : CommandOutcome) : Keeps x s (s.applySeqOutcome p q o) := by
  unfold State.applySeqOutcome
  split
  · exact .endSequence s p _ _
  · exact .loadConfirm s p q hseq (awaits_phase h)
  all_goals
    split
    · exact .endOpening s p q
    · exact .enterRecovering s p q _ (position_known hseq)
    · exact .endSequence s p _ _
    · exact .refl x s
    · exact .refl x s

theorem Keeps.pointOutcome (code : Code) (o : CommandOutcome) : Keeps x s (s.pointOutcome p code o) := by
  unfold State.pointOutcome
  dsimp only
  have free : Keeps x s (s.modPoint p fun r => { r with place := .free }) := .modPoint_aside s p fun _ => ⟨rfl, rfl⟩
  split
  · rename_i q hseq
    split
    · rename_i h
      rw [Bool.and_eq_true, decide_eq_true_eq] at h
      exact free.trans (.applySeqOutcome _ p hseq h.1 o)
    · exact free
  · exact free

theorem Keeps.manualChange (y : ReportedPos) (sel : Selector) : Keeps x s (s.manualChange p y sel) := by
  unfold State.manualChange
  dsimp only
  split
  · exact .modPoint_endSequence s p _ _ _
  · rename_i hseq
    refine (Keeps.modPoint s p fun _ => sound_idle ?_).trans (.raise _ _)
    rwa [State.putPosition, State.modPoint_read] at hseq

/-- The change that OPENING awaits, taken: DEAD, or RECOVERING under an abort mark (R134). -/
theorem Keeps.opened (q : Sequence) (c : CycleNo) (why : RecoveryReason) :
    Keeps x s ((s.putPosition p .opened).enterDead p q c) ∧
      Keeps x s ((s.putPosition p .opened).enterRecovering p q why) := by
  have hpos : ((s.putPosition p .opened).pointRec p).position = .opened := by
    rw [State.putPosition, State.modPoint_read]
  by_cases hx : x = .points
  · subst hx
    have others (i : s.PointsSound) : OthersSound p (s.putPosition p .opened) := (OthersSound.of_all i p).modPoint _
    exact ⟨fun i => points_modPoint (others i) (sound_put (by exact ⟨rfl, hpos⟩)),
      fun i => points_enterRecovering (others i) q why (by rw [hpos]; exact SwPos.noConfusion)⟩
  · have put : Keeps x s (s.putPosition p .opened) := .modPoint_of_ne s hx p _
    exact ⟨put.trans (.enterDead _ p q c fun _ => hpos),
      put.trans (.enterRecovering _ p q why fun _ => by rw [hpos]; exact SwPos.noConfusion)⟩

theorem Keeps.positionChange (y : ReportedPos) (sel : Selector) : Keeps x s (s.positionChange p y sel) := by
  unfold State.positionChange
  split
  · exact .manualChange s p y sel
  · rename_i q hseq
    dsimp only
    split
    · split
      · rename_i opened
        subst opened
        split
        · exact (Keeps.opened s p q _ .notDead).1
        · exact (Keeps.opened s p q 0 _).2
      · exact .manualChange s p y sel
    · split
      · exact .modPoint_endClosed s p q _
      · exact .manualChange s p y sel
    · split
      · exact .modPoint_endClosed s p q _
      · split
        · exact .modPoint_endSequence s p _ _ _
        · exact .manualChange s p y sel
    · exact .manualChange s p y sel
    · exact .manualChange s p y sel

/-- A position that was not known is learnt where no sequence is in flight (R125). -/
theorem Keeps.changeReport (a : Addr) (owner : Nat) (y : ReportedPos) (sel : Selector) :
    Keeps x s (s.changeReport a owner y sel) := by
  unfold State.changeReport
  split
  · exact .refl x s
  · rename_i p _
    split
    · exact .refl x s
    · dsimp only
      split
      · have selector : Keeps x s (s.modPoint p fun r => { r with selector := some sel }) :=
          .modPoint_aside s p fun _ => ⟨rfl, rfl⟩
        refine selector.trans ?_
        generalize (s.modPoint p fun r => { r with selector := some sel }) = u
        split
        · exact .refl x u
        · split
          · rename_i unknown
            refine .modPoint u p fun i => sound_idle ?_
            show (u.pointRec p).seq = none
            by_contra hseq
            obtain ⟨q, hq⟩ := Option.ne_none_iff_exists'.mp hseq
            exact position_known (r := u.pointRec p) hq i unknown
          · split
            · exact .manualChange u p y sel
            · exact .positionChange u p y sel
      · exact .refl x s

/-! ### Lost units and field restart (R141, R142) -/

theorem Keeps.forgetPosition (o : SeqOutcome) : Keeps x s (s.forgetPosition p o) := .modPoint_endSequence s p _ o none

theorem Keeps.changeLost (a : Addr) : Keeps x s (s.changeLost a) :=
  .forEach (fun p _ s => by
    split
    · exact .forgetPosition s p _
    · exact .refl x s) s

theorem Keeps.restartPoints : Keeps x s s.restartPoints :=
  .forEach (fun p _ s => by
    split
    · exact .forgetPosition s p _
    · exact .refl x s) s

end

end Sys2Proof.Keeping
end

section
/-! SUPPORT. What the Set Supervisor and the Fuel Controller keep (files 05 and 06). -/

namespace Sys2Proof.Keeping

open Sys2Proof Sys2Proof.Machine

section
variable {x : Aspect} (s : State) (n : SetNo)

/-! ### Run state changes and the command place (R76, R78) -/

theorem Keeps.dropUncalled : Keeps x s (s.dropUncalled n) := by
  unfold State.dropUncalled
  dsimp only
  split
  · split
    · exact .modSet s n fun _ => rfl
    · exact .after (.modSet _ n fun _ => rfl) (.withdraw s _)
  · exact .modSet s n fun _ => rfl
  · exact .modSet s n fun _ => rfl

theorem Keeps.changeRun (run : RunState) (why : StateReason) (attempts : Option Nat) :
    Keeps x s (s.changeRun n run why attempts) :=
  .after (.tellSequencers _ n) (.after (.raise _ _) (.after (.dropUncalled _ n) (.modSet s n fun _ => rfl)))

theorem Keeps.enterFault (why : FaultReason) (attempts : Option Nat) : Keeps x s (s.enterFault n why attempts) :=
  .changeRun s n _ _ _

theorem Keeps.tryEnqueueSet : Keeps x s (s.tryEnqueueSet n) := by
  unfold State.tryEnqueueSet
  dsimp only
  split
  · split
    · exact .after (.changeRun _ n _ _ _) (.modSet s n fun _ => rfl)
    · split
      · exact .refl x s
      · split
        · exact .refl x s
        · rename_i t ht
          exact .after (.modSet t n fun _ => rfl) (.enqueue ht)
  · exact .refl x s

theorem Keeps.makeDue (code : Code) : Keeps x s (s.makeDue n code) :=
  .after (.tryEnqueueSet _ n) (.modSet s n fun _ => rfl)

theorem Keeps.enterStarting (why : StateReason) : Keeps x s (s.enterStarting n why) :=
  .after (.makeDue _ n _) (.changeRun s n _ why none)

theorem Keeps.enterStopping (why : StateReason) : Keeps x s (s.enterStopping n why) :=
  .after (.makeDue _ n _) (.changeRun s n _ why none)

theorem Keeps.enterWarming (counter : Nat) (why : StateReason) : Keeps x s (s.enterWarming n counter why) := by
  unfold State.enterWarming
  have warming := (Keeps.changeRun (x := x) s n (.warming counter) why none).trans
    (.modHire _ n (f := fun h => { h with starts := satAdd max64 h.starts 1 }) fun _ => rfl)
  dsimp only
  split
  · exact warming.trans (.changeRun _ n _ _ _)
  · exact warming

theorem Keeps.enterCooling (counter : Nat) : Keeps x s (s.enterCooling n counter) := by
  unfold State.enterCooling
  dsimp only
  split
  · exact .after (.enterStopping _ n _) (.changeRun s n _ _ _)
  · exact .changeRun s n _ _ _

theorem Keeps.endAttempt : Keeps x s (s.endAttempt n) := by
  unfold State.endAttempt
  split
  · split
    · exact .changeRun s n _ _ _
    · split
      · exact .after (.makeDue _ n _) (.modSet s n fun _ => rfl)
      · exact .enterFault s n _ _
  · exact .refl x s

theorem Keeps.startSucceeds (e : SetEntry) (mark : Bool) (cycle : CycleNo) :
    Keeps x s (s.startSucceeds n e mark cycle) := by
  unfold State.startSucceeds
  split
  · exact .enterStopping s n _
  · exact .enterWarming s n _ _

theorem Keeps.startOutcome (o : CommandOutcome) : Keeps x s (s.startOutcome n o) := by
  unfold State.startOutcome
  split
  · exact .modSet s n fun r => by split <;> rfl
  · exact .endAttempt s n
  · exact .endAttempt s n
  · exact .endAttempt s n
  · exact .modSet s n fun _ => rfl

theorem Keeps.stopOutcome (o : CommandOutcome) : Keeps x s (s.stopOutcome n o) := by
  unfold State.stopOutcome
  split
  · exact .refl x s
  · exact .changeRun s n _ _ _
  · exact .changeRun s n _ _ _
  · exact .changeRun s n _ _ _
  · exact .modSet s n fun _ => rfl

theorem Keeps.setOutcome (code : Code) (o : CommandOutcome) : Keeps x s (s.setOutcome n code o) := by
  have free : Keeps x s (s.modSet n fun r => { r with place := .free }) := .modSet s n fun _ => rfl
  unfold State.setOutcome
  dsimp only
  split
  · exact free
  · split
    · exact free.trans (.startOutcome _ n o)
    · exact free.trans (.stopOutcome _ n o)

/-! ### The unreachable mark, UNSEEN and OFFLINE (R8, R77, R89) -/

theorem Keeps.setMark (mark : Bool) : Keeps x s (s.setMark n mark) := by
  unfold State.setMark
  split
  · exact .refl x s
  · exact .after (.tellSequencers _ n) (.modSet s n fun _ => rfl)

theorem Keeps.clearMark : Keeps x s (s.clearMark n) := by
  unfold State.clearMark
  split
  · exact .after (.tryEnqueueSet _ n) (.setMark s n _)
  · exact .refl x s

theorem Keeps.refreshMark : Keeps x s (s.refreshMark n) := by
  unfold State.refreshMark
  dsimp only
  split
  · exact .setMark s n _
  · exact .clearMark s n

theorem Keeps.forgetSet (hx : x ≠ .limits) : Keeps x s (s.forgetSet n) :=
  .after (.modSet_times _ hx n fun _ => rfl) (.withdraw s _)

theorem Keeps.enterUnseen (hx : x ≠ .limits) (why : StateReason) : Keeps x s (s.enterUnseen n why) :=
  .after (.refreshMark _ n) (.after (.changeRun _ n _ _ _) (.forgetSet s n hx))

theorem Keeps.enterOffline (hx : x ≠ .limits) (why : StateReason) : Keeps x s (s.enterOffline n why) :=
  .after (.setMark _ n _) (.after (.changeRun _ n _ _ _) (.forgetSet s n hx))

/-! ### Reports and expiries (R75, R81, R83, R85, R87, R97) -/

theorem Keeps.setLocalStart : Keeps x s (s.setLocalStart n) := by
  unfold State.setLocalStart
  split
  · exact .refl x s
  · exact .after (.raise _ _) (.modSet s n fun _ => rfl)

theorem Keeps.unexpectedStop (cycle : CycleNo) : Keeps x s (s.unexpectedStop n cycle) :=
  .after (.enterFault _ n _ _) (.modSet s n fun _ => rfl)

theorem Keeps.applyReport (e : SetEntry) (engine : EngineState) (cycle : CycleNo) :
    Keeps x s (s.applyReport n e engine cycle) := by
  unfold State.applyReport
  split
  case h_2 | h_3 => exact .changeRun s n _ _ _
  case h_4 | h_7 | h_15 | h_22 | h_23 | h_24 => exact .enterFault s n _ _
  case h_6 => exact .after (.setLocalStart _ n) (.enterWarming s n _ _)
  case h_10 => exact .startSucceeds s n e _ cycle
  case h_11 =>
    split
    · exact .enterFault s n _ _
    · exact .endAttempt s n
  case h_14 => exact .after (.changeRun _ n _ _ _) (.modSet s n fun _ => rfl)
  case h_25 | h_26 | h_27 | h_28 | h_29 | h_30 => exact .unexpectedStop s n cycle
  all_goals exact .refl x s

theorem Keeps.storeReport (hx : x ≠ .limits) (e : SetEntry) (r : SetReport) : Keeps x s (s.storeReport n e r) :=
  .modSet_times s hx n fun _ => rfl

theorem Keeps.expireWarmUp : Keeps x s (s.expireWarmUp n) := by
  unfold State.expireWarmUp
  split
  · exact .changeRun s n _ _ _
  · exact .refl x s

theorem Keeps.expireCoolDown : Keeps x s (s.expireCoolDown n) := by
  unfold State.expireCoolDown
  split
  · exact .enterStopping s n _
  · exact .refl x s

theorem Keeps.expireCrank : Keeps x s (s.expireCrank n) := by
  unfold State.expireCrank
  split
  · exact .endAttempt s n
  · exact .refl x s

theorem Keeps.clearStopPending : Keeps x s (s.modSet n SetRec.clearStopPending) :=
  .modSet s n fun r => by unfold SetRec.clearStopPending; split <;> rfl

theorem Keeps.startRequest : Keeps x s (s.startRequest n).1 := by
  unfold State.startRequest
  split
  · split
    · exact .refl x s
    · dsimp only
      exact .enterStarting s n .sequencer
  · exact .clearStopPending s n
  all_goals exact .refl x s

/-- The closing cycle credits the hire times alone (R90, R96). -/
theorem Keeps.closeCycle (hx : x ≠ .times) (len : Nat) : Keeps x s (s.closeCycle len) :=
  .forEach (fun n _ s => .modSet_of_ne s hx n fun r => by
    have ran : (r.addRunTime len).baseline = r.baseline := by
      unfold SetRec.addRunTime
      split <;> rfl
    dsimp only
    split
    · rw [← ran]
      unfold SetRec.loadWindow
      split <;> rfl
    · exact ran) s

/-! ### The tank account (R99 to R104) -/

/-- A tank stays sound where its book, capacity, residue and discrepancy count stay. -/
theorem tank_sound_of_eq {t u : Tank} (h : u.book = t.book ∧ u.capacity = t.capacity ∧ u.residue = t.residue ∧
    u.discCount = t.discCount) (i : t.Sound) : u.Sound := by
  obtain ⟨book, capacity, residue, count⟩ := h
  exact ⟨by rw [book, capacity]; exact i.book, by rw [residue]; exact i.residue, by rw [count]; exact i.discCount⟩

/-- A write of a tank that leaves its book, capacity, residue and discrepancy count. -/
theorem Keeps.modTank_aside {f : Tank → Tank} (h : ∀ t, (f t).book = t.book ∧ (f t).capacity = t.capacity ∧
    (f t).residue = t.residue ∧ (f t).discCount = t.discCount) : Keeps x s (s.modTank n f) :=
  .modTank s n (tank_sound_of_eq (h _))

theorem Keeps.recordAdjustment (d : Int) : Keeps x s (s.recordAdjustment n d) :=
  .after (.modHire _ n fun _ => rfl) (.modTank_aside s n fun _ => ⟨rfl, rfl, rfl, rfl⟩)

theorem Keeps.setDiscrepancy (d : Option Int) (sensor : Option Nat) : Keeps x s (s.setDiscrepancy n d sensor) := by
  unfold State.setDiscrepancy
  dsimp only
  split
  · exact .refl x s
  · exact .after (.raise _ _) (.modTank_aside s n fun _ => ⟨rfl, rfl, rfl, rfl⟩)

theorem Keeps.testLow (e : SetEntry) : Keeps x s (s.testLow n e) := by
  unfold State.testLow
  dsimp only
  split
  · exact .after (.raise _ _) (.modTank_aside s n fun _ => ⟨rfl, rfl, rfl, rfl⟩)
  · exact .refl x s

theorem Keeps.testReserve (e : SetEntry) : Keeps x s (s.testReserve n e) := by
  unfold State.testReserve
  dsimp only
  split
  · exact .after (.raise _ _) (.modTank_aside s n fun _ => ⟨rfl, rfl, rfl, rfl⟩)
  · exact .refl x s

theorem Keeps.testThresholds : Keeps x s (s.testThresholds n) := by
  unfold State.testThresholds
  split
  · exact .refl x s
  · exact .after (.testReserve _ n _) (.testLow s n _)

/-- Where the book of a tank does not fit its capacity, the clamp makes it fit: what a change of the book makes of the tank's soundness
asks nothing of the book before (R100). -/
theorem tank_sound_changeBook (d : Int) {k : SetNo} (residue : (s.tank k).residue < decilitre)
    (count : (s.tank k).discCount ≤ 20) (book : k ≠ n → (s.tank k).book ≤ (s.tank k).capacity) :
    ((s.changeBook n d).tank k).Sound := by
  obtain ⟨hbook, hcapacity, hresidue, hcount⟩ := s.changeBook_tank n k d
  refine ⟨?_, hresidue ▸ residue, hcount ▸ count⟩
  rw [hbook, hcapacity]
  split
  · rename_i e
    subst e
    have := clamp_book (s.tank n).capacity ((s.tank n).book + d)
    omega
  · rename_i e
    exact book fun h => e h.symm

theorem Keeps.changeBook (d : Int) : Keeps x s (s.changeBook n d) := by
  by_cases hx : x = .tanks
  · subst hx
    exact fun i k => tank_sound_changeBook s n d (i k).residue (i k).discCount fun _ => (i k).book
  · unfold State.changeBook
    dsimp only
    refine .after (.testThresholds _ n) ?_
    have adjusted : ∀ (stored level : Int), Keeps x s (if stored = level then
        s.modTank n fun t => { t with book := stored.toNat }
        else (s.modTank n fun t => { t with book := stored.toNat }).recordAdjustment n (stored - level)) := by
      intro stored level
      split
      · exact .modTank_of_ne s hx n _
      · exact .after (.recordAdjustment _ n _) (.modTank_of_ne s hx n _)
    split
    · exact .after (.setDiscrepancy _ n _ _) (adjusted _ _)
    · exact adjusted _ _

theorem Keeps.storeCapacity (capacity : Nat) : Keeps x s (s.storeCapacity n capacity) := by
  unfold State.storeCapacity
  dsimp only
  by_cases hx : x = .tanks
  · subst hx
    intro i
    have put (k : SetNo) : ((s.modTank n fun t => { t with capacity }).tank k).residue < decilitre ∧
        ((s.modTank n fun t => { t with capacity }).tank k).discCount ≤ 20 ∧
        (k ≠ n → ((s.modTank n fun t => { t with capacity }).tank k).book ≤
          ((s.modTank n fun t => { t with capacity }).tank k).capacity) := by
      by_cases e : k = n
      · subst e
        rw [State.modTank_read]
        exact ⟨(i k).residue, (i k).discCount, fun h => absurd rfl h⟩
      · rw [State.modTank_other s n _ e]
        exact ⟨(i k).residue, (i k).discCount, fun _ => (i k).book⟩
    split
    · exact fun k => tank_sound_changeBook _ n 0 (put k).1 (put k).2.1 (put k).2.2
    · rename_i fits
      intro k
      refine ⟨?_, (put k).1, (put k).2.1⟩
      by_cases e : k = n
      · subst e
        rw [State.modTank_read] at fits ⊢
        exact Nat.le_of_not_lt fits
      · exact (put k).2.2 e
  · split
    · exact .after (.changeBook _ n 0) (.modTank_of_ne s hx n _)
    · exact .modTank_of_ne s hx n _

/-! ### Burn (R101, R102) -/

/-- A decilitre burnt lowers its tank's residue by one decilitre, and leaves every discrepancy count and every other residue. -/
theorem burnOne_tank (k : SetNo) (h : ∀ k, (s.tank k).book ≤ (s.tank k).capacity) :
    ((s.burnOne n).tank k).residue = (if k = n then (s.tank n).residue - decilitre else (s.tank k).residue) ∧
      ((s.burnOne n).tank k).discCount = (s.tank k).discCount ∧
      ((s.burnOne n).tank k).book ≤ ((s.burnOne n).tank k).capacity := by
  unfold State.burnOne
  dsimp only
  obtain ⟨hbook, hcapacity, hresidue, hcount⟩ :=
    (s.modTank n fun t => { t with residue := t.residue - decilitre }).changeBook_tank n k (-1)
  rw [State.modHire_tank, hresidue, hcount, hbook, hcapacity]
  by_cases e : k = n
  · subst e
    rw [State.modTank_read]
    have := clamp_book (s.tank k).capacity ((s.tank k).book + -1)
    simp only [if_true]
    exact ⟨trivial, trivial, by omega⟩
  · rw [State.modTank_other s n _ e, if_neg e, if_neg fun h => e h.symm]
    exact ⟨rfl, rfl, h k⟩

theorem Keeps.burnOne (hx : x ≠ .tanks) : Keeps x s (s.burnOne n) :=
  .after (.modHire _ n fun _ => rfl) (.after (.changeBook _ n _) (.modTank_of_ne s hx n _))

theorem Keeps.burnTimes (hx : x ≠ .tanks) (k : Nat) (s : State) : Keeps x s (s.burnTimes n k) := by
  induction k generalizing s with
  | zero => exact .refl x s
  | succ k ih => exact .after (ih _) (.burnOne s n hx)

/-- Burning whole decilitres takes that many off the residue (R102). -/
theorem burnTimes_tank (j : Nat) (s : State) (h : ∀ k, (s.tank k).book ≤ (s.tank k).capacity) (k : SetNo) :
    ((s.burnTimes n j).tank k).residue =
        (if k = n then (s.tank n).residue - j * decilitre else (s.tank k).residue) ∧
      ((s.burnTimes n j).tank k).discCount = (s.tank k).discCount ∧
      ((s.burnTimes n j).tank k).book ≤ ((s.burnTimes n j).tank k).capacity := by
  induction j generalizing s with
  | zero =>
    refine ⟨?_, rfl, h k⟩
    split
    · rename_i e; rw [e, Nat.zero_mul, Nat.sub_zero]; rfl
    · rfl
  | succ j ih =>
    have one := fun k => burnOne_tank s n k h
    obtain ⟨hresidue, hcount, hbook⟩ := ih (s.burnOne n) fun k => (one k).2.2
    refine ⟨?_, hcount.trans (one k).2.1, hbook⟩
    refine hresidue.trans ?_
    rw [(one n).1, (one k).1, if_pos rfl, Nat.sub_sub, Nat.succ_mul, Nat.add_comm (j * decilitre)]
    split
    · rfl
    · rfl

theorem Keeps.burn (units : Nat) : Keeps x s (s.burn n units) := by
  unfold State.burn
  dsimp only
  by_cases hx : x = .tanks
  · subst hx
    intro i k
    have put (k : SetNo) : ((s.modTank n fun t => { t with residue := t.residue + units }).tank k).book ≤
        ((s.modTank n fun t => { t with residue := t.residue + units }).tank k).capacity := by
      by_cases e : k = n
      · subst e; rw [State.modTank_read]; exact (i k).book
      · rw [State.modTank_other s n _ e]; exact (i k).book
    obtain ⟨hresidue, hcount, hbook⟩ := burnTimes_tank n
      (((s.modTank n fun t => { t with residue := t.residue + units }).tank n).residue / decilitre) _ put k
    refine ⟨hbook, ?_, ?_⟩
    · rw [hresidue]
      split
      · have e := Nat.div_add_mod' ((s.modTank n fun t => { t with residue := t.residue + units }).tank n).residue
          decilitre
        have lt := Nat.mod_lt ((s.modTank n fun t => { t with residue := t.residue + units }).tank n).residue
          (show 0 < decilitre by decide)
        omega
      · rename_i e
        rw [State.modTank_other s n _ e]
        exact (i k).residue
    · rw [hcount]
      by_cases e : k = n
      · subst e; rw [State.modTank_read]; exact (i k).discCount
      · rw [State.modTank_other s n _ e]; exact (i k).discCount
  · exact .after (.burnTimes n hx _ _) (.modTank_of_ne s hx n _)

/-! ### The sensor check (R106) -/

theorem Keeps.expireDiscrepancy : Keeps x s (s.expireDiscrepancy n) := by
  unfold State.expireDiscrepancy
  split
  · exact .setDiscrepancy s n _ _
  · exact .refl x s

theorem Keeps.putDue (hx : x ≠ .due) (due : List TimedEvent) : Keeps x s { s with due } :=
  .of_same (by cases x with | due => exact absurd rfl hx | _ => exact rfl)

theorem Keeps.checkSensor (e : SetEntry) (sensor : Nat) (leave : Bool) (hx : x = .due → leave = false) :
    Keeps x s (s.checkSensor n e sensor leave) := by
  unfold State.checkSensor
  dsimp only
  split
  · exact .refl x s
  · split
    · exact .modTank s n fun i => ⟨i.book, i.residue, Nat.zero_le _⟩
    · have counted : Keeps x s (s.modTank n fun t => { t with discCount := satAdd 20 t.discCount 1 }) :=
        .modTank s n fun i => ⟨i.book, i.residue, satAdd_le _ _ _⟩
      split
      · rename_i left
        rw [Bool.and_eq_true] at left
        exact counted.trans (.putDue _ (fun h => by rw [hx h] at left; exact Bool.noConfusion left.1) _)
      · exact counted.trans (.expireDiscrepancy _ n)

end

end Sys2Proof.Keeping
end

section
/-! SUPPORT. What deliveries, energy, feeders, intervals and changeover requests keep (files 03, 04, 06, 07 and 09). -/

namespace Sys2Proof.Keeping

open Sys2Proof Sys2Proof.Machine

/-! ### Places of the ticket store (R114) -/

/-- The places claimed, meter by meter. -/
theorem placesClaimed_two (s : State) :
    s.placesClaimed = (claims (s.meter 0)).toNat + (claims (s.meter 1)).toNat := by
  rw [placesClaimed_eq, show allMeters = [0, 1] from rfl]
  cases h0 : claims (s.meter 0) <;> cases h1 : claims (s.meter 1) <;> simp [h0, h1]

/-- A meter of the two, and the other one. -/
theorem placesClaimed_split (s : State) (m : MeterNo) :
    s.placesClaimed = (claims (s.meter m)).toNat + (claims (s.meter (m + 1))).toNat := by
  rw [placesClaimed_two]
  fin_cases m
  · rfl
  · exact Nat.add_comm _ _

theorem other_meter (m : MeterNo) : m + 1 ≠ m := by fin_cases m <;> decide

/-- A meter that changes alone changes the places claimed by its own claim. -/
theorem placesClaimed_change {s t : State} {m : MeterNo} (h : ∀ k, k ≠ m → t.meter k = s.meter k) :
    t.placesClaimed + (claims (s.meter m)).toNat = s.placesClaimed + (claims (t.meter m)).toNat := by
  rw [placesClaimed_split t m, placesClaimed_split s m, h _ (other_meter m)]
  omega

section
variable {x : Aspect} (s : State) (m : MeterNo)

/-! ### The meter's command place, and ends (R108, R117) -/

theorem Keeps.enqueueFuel {s t : State} {m : MeterNo} {a : Addr} {code : Code} {args : List Byte}
    (h : s.enqueueFuel m a code args = some t) : Keeps x s t := by
  unfold State.enqueueFuel at h
  obtain ⟨u, hu, rfl⟩ := Option.map_eq_some_iff.mp h
  exact .after (.modMeter_aside _ m fun _ => rfl) (.enqueue hu)

/-- A command of a meter joins the queue, and the meter's session and what it holds stay. -/
theorem enqueueFuel_meter {s t : State} {m : MeterNo} {a : Addr} {code : Code} {args : List Byte}
    (h : s.enqueueFuel m a code args = some t) : (t.meter m).session = (s.meter m).session := by
  unfold State.enqueueFuel at h
  obtain ⟨u, hu, rfl⟩ := Option.map_eq_some_iff.mp h
  obtain ⟨-, -, -, rfl⟩ := State.enqueue_eq_some.mp hu
  rw [State.modMeter_read]
  rfl

theorem Keeps.tryEnqueueMeter : Keeps x s (s.tryEnqueueMeter m) := by
  unfold State.tryEnqueueMeter
  dsimp only
  split
  · split
    · exact .refl x s
    · rename_i h
      exact .after (.modMeter_aside _ m fun _ => rfl) (.enqueueFuel h)
  · exact .refl x s

theorem Keeps.dropMeterCommand : Keeps x s (s.dropMeterCommand m) :=
  .after (.modMeter_aside _ m fun _ => rfl) (.withdraw s _)

theorem Keeps.addDelivered (n : SetNo) (volume : Nat) : Keeps x s (s.addDelivered n volume) :=
  .after (.modHire _ n fun _ => rfl) (.modTank_aside s n fun _ => ⟨rfl, rfl, rfl, rfl⟩)

theorem Keeps.endSession (d : SessionEnd) : Keeps x s (s.endSession m d) := by
  unfold State.endSession
  split
  · exact .refl x s
  · rename_i y _
    refine .after (.raise _ _) ?_
    have zero : Keeps x s (((s.dropMeterCommand m).modMeter m fun r =>
        { r with session := none, promoted := false, lastChunk := d.lastChunk }).modTank y.set fun t =>
        { t with discCount := 0 }) :=
      .after (.modTank _ _ fun i => ⟨i.book, i.residue, Nat.zero_le _⟩)
        (.after (.modMeter _ m fun c => by simp [claims] at c) (.dropMeterCommand s m))
    split
    · exact zero
    · exact .after (.addDelivered _ _ _) zero

/-- The end of a session frees its place, and leaves the other meters. -/
theorem endSession_meters (d : SessionEnd) : ((s.endSession m d).meter m).session = none ∧
    (∀ k, k ≠ m → (s.endSession m d).meter k = s.meter k) ∧ (s.endSession m d).tickets = s.tickets := by
  unfold State.endSession
  split
  · rename_i h
    exact ⟨h, fun _ _ => rfl, rfl⟩
  · refine ⟨?_, fun k hk => ?_, ?_⟩
    all_goals dsimp only; split
    all_goals simp [State.addDelivered, State.dropMeterCommand, State.modMeter_other, *]

/-! ### Requests and dispensing (R109, R111, R112) -/

theorem Keeps.permit (a : Addr) (n : SetNo) : Keeps x s (s.permit m a n) := by
  unfold State.permit
  dsimp only
  split
  · exact .refl x s
  · rename_i h
    exact .after (.modMeter _ m fun c => by simp [claims] at c) (.enqueueFuel h)

theorem Keeps.deny (a : Addr) (k : Nat) (why : DenyReason) : Keeps x s (s.deny m a k why) := by
  unfold State.deny
  dsimp only
  split
  · exact .refl x s
  · rename_i h
    exact .after (.raise _ _) (.after (.modMeter_aside _ m fun _ => rfl) (.enqueueFuel h))

theorem Keeps.takeRequest (a : Addr) (k : Nat) : Keeps x s (s.takeRequest m a k) := by
  unfold State.takeRequest
  dsimp only
  split
  · split
    · exact .permit s m a _
    · exact .deny s m a k _
    · exact .refl x s
  · exact .refl x s

/-- A session outside TICKETING claims no place. -/
theorem claims_of_phase {r : MeterRec} {y : Session} (h : r.session = some y) (hp : y.phase = .granting ∨ y.phase = .dispensing) :
    claims r = false := by
  unfold claims
  rw [h]
  rcases hp with hp | hp <;> simp [hp]

theorem Keeps.bookDelivery {y : Session} (hy : y.phase = .dispensing) (volume : Nat) :
    Keeps x s (s.bookDelivery m y volume) := by
  unfold State.bookDelivery
  split
  · refine .after (.modMeter _ m fun c => ?_) (.changeBook s y.set _)
    rw [claims_of_phase (y := { y with live := _, highWater := volume }) rfl (.inr hy)] at c
    cases c
  · exact .refl x s

theorem Keeps.enterTicketing : Keeps x s (s.enterTicketing m) := by
  refine .after (.modMeter _ m fun c => ?_) (.dropMeterCommand s m)
  unfold claims at c
  cases h : ((s.dropMeterCommand m).meter m).session <;> simp [h] at c

/-! ### Ticket transfer (R113 to R116) -/

theorem Keeps.askAck (hx : x ≠ .engine) (a : Addr) (chunk : Byte) : Keeps x s (s.askAck m a chunk) :=
  .of_same (by cases x with | engine => exact absurd rfl hx | _ => exact rfl)

/-- A session without a buffer claims no place. -/
theorem Keeps.putTicketing_none (y : Session) (wait : Option Nat) : Keeps x s (s.putTicketing m y wait none) :=
  .modMeter s m fun c => by simp [claims] at c

/-- A meter holds a place, or finds one free (R114). -/
def Room (s : State) (m : MeterNo) : Prop := claims (s.meter m) = true ∨ s.placeFree = true

variable {s m}

theorem Keeps.putTicketing_some (room : Room s m) (y : Session) (wait : Option Nat) (b : TicketBuffer) :
    Keeps x s (s.putTicketing m y wait (some b)) := by
  by_cases hx : x = .tickets
  · subst hx
    intro i
    have change := placesClaimed_change (s := s) (t := s.putTicketing m y wait (some b)) (m := m)
      fun k hk => State.modMeter_other s m _ hk
    have claimed : claims ((s.putTicketing m y wait (some b)).meter m) = true := by
      simp [State.putTicketing, claims]
    rw [claimed] at change
    have tickets : (s.putTicketing m y wait (some b)).tickets = s.tickets := rfl
    rw [tickets]
    rcases room with holds | free
    · rw [holds] at change; omega
    · simp only [State.placeFree, decide_eq_true_eq] at free
      simp only [Bool.toNat_true] at change
      omega
  · exact .modMeter_of_ne s hx m _

/-- A step of the tank account writes tanks, hire statements and notices alone. -/
def TankWrites (s t : State) : Prop := ∃ tanks sets port, t = { s with tanks, sets, port }

theorem TankWrites.refl (s : State) : TankWrites s s := ⟨s.tanks, s.sets, s.port, rfl⟩

theorem TankWrites.trans {s t u : State} (h : TankWrites s t) (k : TankWrites t u) : TankWrites s u := by
  obtain ⟨_, _, _, rfl⟩ := h
  obtain ⟨tanks, sets, port, rfl⟩ := k
  exact ⟨tanks, sets, port, rfl⟩

theorem TankWrites.modTank (s : State) (n : SetNo) (f : Tank → Tank) : TankWrites s (s.modTank n f) :=
  ⟨_, s.sets, s.port, rfl⟩

theorem TankWrites.recordAdjustment (s : State) (n : SetNo) (d : Int) : TankWrites s (s.recordAdjustment n d) :=
  ⟨_, _, s.port, rfl⟩

theorem TankWrites.addDelivered (s : State) (n : SetNo) (volume : Nat) : TankWrites s (s.addDelivered n volume) :=
  ⟨_, _, s.port, rfl⟩

theorem TankWrites.setDiscrepancy (s : State) (n : SetNo) (d : Option Int) (sensor : Option Nat) :
    TankWrites s (s.setDiscrepancy n d sensor) := by
  unfold State.setDiscrepancy
  dsimp only
  split
  · exact .refl s
  · exact ⟨_, s.sets, _, rfl⟩

theorem TankWrites.testLow (s : State) (n : SetNo) (e : SetEntry) : TankWrites s (s.testLow n e) := by
  unfold State.testLow
  dsimp only
  split
  · exact ⟨_, s.sets, _, rfl⟩
  · exact .refl s

theorem TankWrites.testReserve (s : State) (n : SetNo) (e : SetEntry) : TankWrites s (s.testReserve n e) := by
  unfold State.testReserve
  dsimp only
  split
  · exact ⟨_, s.sets, _, rfl⟩
  · exact .refl s

theorem TankWrites.testThresholds (s : State) (n : SetNo) : TankWrites s (s.testThresholds n) := by
  unfold State.testThresholds
  split
  · exact .refl s
  · exact (TankWrites.testLow s n _).trans (.testReserve _ n _)

theorem TankWrites.changeBook (s : State) (n : SetNo) (d : Int) : TankWrites s (s.changeBook n d) := by
  unfold State.changeBook
  dsimp only
  refine TankWrites.trans ?_ (.testThresholds _ n)
  have adjusted : ∀ (stored level : Int), TankWrites s (if stored = level then
      s.modTank n fun t => { t with book := stored.toNat }
      else (s.modTank n fun t => { t with book := stored.toNat }).recordAdjustment n (stored - level)) := by
    intro stored level
    split
    · exact .modTank s n _
    · exact (TankWrites.modTank s n _).trans (.recordAdjustment _ n _)
  split
  · exact (adjusted _ _).trans (.setDiscrepancy _ n _ _)
  · exact adjusted _ _

/-- The record of a ticket takes the place that its meter holds, or one that is free (R116). -/
theorem tickets_endSession {s u : State} {m : MeterNo} (room : Room s m) (meters : u.meters = s.meters)
    (tickets : u.tickets.length = s.tickets.length + 1) (d : SessionEnd) (i : s.tickets.length + s.placesClaimed ≤ 16) :
    (u.endSession m d).tickets.length + (u.endSession m d).placesClaimed ≤ 16 := by
  obtain ⟨ended, others, same⟩ := endSession_meters u m d
  have meter (k : MeterNo) : u.meter k = s.meter k := congrArg (·.get k) meters
  have change := placesClaimed_change (s := s) (m := m) fun k hk => (others k hk).trans (meter k)
  have free : claims ((u.endSession m d).meter m) = false := by simp [claims, ended]
  rw [free, Bool.toNat_false] at change
  rw [same, tickets]
  rcases room with holds | free
  · rw [holds, Bool.toNat_true] at change
    omega
  · simp only [State.placeFree, decide_eq_true_eq] at free
    omega

theorem Keeps.putTickets (hx : x ≠ .tickets) (s : State) (tickets : List TicketRecord) :
    Keeps x s { s with tickets } :=
  .of_same (by cases x with | tickets => exact absurd rfl hx | _ => exact rfl)

/-- A ticket that is taken takes the place of its buffer (R116). -/
theorem Keeps.takeTicket (room : Room s m) (y : Session) (t : Ticket) (chunk : Byte) :
    Keeps x s (s.takeTicket m y t chunk) := by
  unfold State.takeTicket
  dsimp only
  by_cases hx : x = .tickets
  · subst hx
    have writes := (TankWrites.changeBook s y.set ((t.volume : Int) - y.live)).trans (.addDelivered _ y.set t.volume)
    generalize (s.changeBook y.set ((t.volume : Int) - y.live)).addDelivered y.set t.volume = u at writes ⊢
    obtain ⟨_, _, _, rfl⟩ := writes
    refine tickets_endSession room ?_ ?_ _
    · rfl
    · exact List.length_append
  · exact .after (.endSession _ m _) (.after (.putTickets hx _ _)
      (.after (.addDelivered _ _ _) (.changeBook s _ _)))

theorem Keeps.acceptChunk (hx : x ≠ .engine) (room : Room s m) (a : Addr) (y : Session) (b : TicketBuffer) :
    Keeps x s (s.acceptChunk m a y b) := by
  have room' : Room (s.askAck m a b.lastChunk) m := room
  unfold State.acceptChunk
  dsimp only
  split
  · exact .after (.putTicketing_some room' y _ b) (.askAck s m hx a _)
  · split
    · exact .after (.takeTicket room' y _ _) (.askAck s m hx a _)
    · exact .after (.endSession _ m _) (.askAck s m hx a _)

theorem Keeps.firstChunk (hx : x ≠ .engine) (a : Addr) (y : Session) (bytes : List Byte) :
    Keeps x s (s.firstChunk m a y bytes) := by
  unfold State.firstChunk
  split
  · exact .endSession s m _
  · split
    · exact .putTicketing_none s m y none
    · rename_i free
      split
      · exact .acceptChunk hx (.inr (by simpa using free)) a y _
      · exact .endSession s m _

theorem Keeps.ticketChunk (hx : x ≠ .engine) (a : Addr) (y : Session) (buffer : Option TicketBuffer) (chunk : Byte)
    (bytes : List Byte) (h : buffer.isSome = true → claims (s.meter m) = true) :
    Keeps x s (s.ticketChunk m a y buffer chunk bytes) := by
  unfold State.ticketChunk
  split
  · split
    · exact .firstChunk hx a y bytes
    · exact .endSession s m _
  · split
    · exact .acceptChunk hx (.inl (h rfl)) a y _
    · split
      · exact .askAck s m hx a chunk
      · exact .endSession s m _

theorem Keeps.ticketingReport (hx : x ≠ .engine) (a : Addr) (y : Session) (buffer : Option TicketBuffer) (f : FuelBody)
    (h : buffer.isSome = true → claims (s.meter m) = true) : Keeps x s (s.ticketingReport m a y buffer f) := by
  unfold State.ticketingReport
  split
  · exact .ticketChunk hx a y buffer _ _ h
  · split
    · exact .endSession s m _
    · exact .endSession s m _
    all_goals exact .refl x s

/-! ### Meter reports and outcomes (R109 to R112, R118 to R120) -/

theorem Keeps.dispensingReport (hx : x ≠ .engine) (a : Addr) {y : Session} (hy : y.phase = .dispensing) (f : FuelBody) :
    Keeps x s (s.dispensingReport m a y f) := by
  have booked := Keeps.bookDelivery (x := x) s m hy f.volume
  unfold State.dispensingReport
  dsimp only
  split
  · exact booked
  · exact .after (.enterTicketing _ m) booked
  · split
    · exact .after (.ticketChunk hx a _ none _ _ fun h => by cases h) (.after (.enterTicketing _ m) booked)
    · exact .after (.enterTicketing _ m) booked
  · exact .after (.endSession _ m _) booked
  · exact .after (.endSession _ m _) booked

variable (s m)

theorem Keeps.idleReport (hx : x ≠ .engine) (a : Addr) (f : FuelBody) : Keeps x s (s.idleReport m a f) := by
  have forgets : ∀ u, Keeps x s u → Keeps x s (if f.state = .ticket then u
      else u.modMeter m fun r => { r with lastChunk := none }) := fun u h => by
    split
    · exact h
    · exact .after (.modMeter_aside _ m fun _ => rfl) h
  have rest : ∀ u, Keeps x s u → Keeps x s (if f.state = .request then u.takeRequest m a f.requested else u) :=
    fun u h => by
      split
      · exact .after (.takeRequest _ m a _) h
      · exact h
  unfold State.idleReport
  dsimp only
  refine rest _ (forgets _ ?_)
  split
  · split
    · exact .askAck s m hx a _
    · exact .refl x s
  · exact .refl x s

theorem Keeps.fuelReport (hx : x ≠ .engine) (a : Addr) (owner : Nat) (f : FuelBody) :
    Keeps x s (s.fuelReport a owner f) := by
  unfold State.fuelReport
  split
  · exact .refl x s
  · rename_i m _
    have seen : Keeps x s (if f.state = .request then s else s.modMeter m fun r => { r with requestMark := none }) := by
      split
      · exact .refl x s
      · exact .modMeter_aside s m fun _ => rfl
    dsimp only
    generalize (if f.state = .request then s else s.modMeter m fun r => { r with requestMark := none }) = u at seen ⊢
    split
    · exact .after (.idleReport u m hx a f) seen
    · rename_i y hsession
      split
      · exact seen
      · rename_i hphase
        exact .after (.dispensingReport hx a hphase f) seen
      · rename_i wait buffer hphase
        refine .after (.ticketingReport hx a y buffer f fun hb => ?_) seen
        obtain ⟨b, rfl⟩ := Option.isSome_iff_exists.mp hb
        simp [claims, hsession, hphase]

theorem Keeps.permitOutcome (y : Session) (o : CommandOutcome) : Keeps x s (s.permitOutcome m y o) := by
  unfold State.permitOutcome
  split
  · exact .modMeter s m fun c => by simp [claims] at c
  · exact .endSession s m _
  · split
    · exact .endSession s m _
    · exact .endSession s m _
  · exact .endSession s m _
  · exact .endSession s m _

theorem Keeps.revokeOutcome (o : CommandOutcome) : Keeps x s (s.revokeOutcome m o) := by
  unfold State.revokeOutcome
  split <;> exact .endSession s m _

theorem Keeps.meterOutcome (code : Code) (o : CommandOutcome) : Keeps x s (s.meterOutcome m code o) := by
  have free : Keeps x s (s.modMeter m fun r => { r with place := .free }) := .modMeter_aside s m fun _ => rfl
  unfold State.meterOutcome
  dsimp only
  split
  · exact free
  · split
    · split
      · exact .after (.permitOutcome _ m _ o) free
      · exact free
    · split
      · exact .after (.revokeOutcome _ m o) free
      · exact free
    · exact free

theorem Keeps.meterLost (owner : Nat) : Keeps x s (s.meterLost owner) := by
  unfold State.meterLost
  split
  · exact .refl x s
  · exact .endSession s _ _

theorem claims_tick (r : MeterRec) : claims r.tick = claims r := by
  rcases r with ⟨_ | ⟨⟨⟩ | ⟨⟩ | ⟨_ | w, _ | b⟩, _, _, _, _, _⟩, _, _, _, _, _⟩ <;> rfl

theorem claims_unhold (wait : Nat) (r : MeterRec) : claims (r.unhold wait) = claims r := by
  rcases r with ⟨_ | ⟨⟨⟩ | ⟨⟩ | ⟨_ | w, _ | b⟩, _, _, _, _, _⟩, _, _, _, _, _⟩ <;> rfl

theorem Keeps.expireTicketWait : Keeps x s (s.expireTicketWait m) := by
  unfold State.expireTicketWait
  split
  · split
    · exact .endSession s m _
    all_goals exact .refl x s
  · exact .refl x s

theorem Keeps.setBook {n : SetNo} {level : Nat} (h : level ≤ (s.tank n).capacity) : Keeps x s (s.setBook n level) :=
  .after (.testThresholds _ n) (.after (.modTank _ n fun i => ⟨by
    obtain ⟨-, hcapacity, -, -⟩ := s.recordAdjustment_tank n n ((level : Int) - (s.tank n).book)
    exact hcapacity ▸ h, (by decide : (0 : Nat) < decilitre), Nat.zero_le _⟩) (.recordAdjustment s n _))

end

/-! ### Energy and feeders (files 03 and 04) -/

section
variable {x : Aspect} (s : State)

theorem Keeps.billStep (k : AccountNo) (energy : Nat) (estimated clamped : Bool) :
    Keeps x s (s.billStep k energy estimated clamped) := by
  unfold State.billStep
  split
  · exact .modAccount s k _
  · exact .refl x s

theorem Keeps.attribute (y : FeederStep) : Keeps x s (s.attribute y) := by
  unfold State.attribute
  split
  · exact .modHire s _ fun _ => rfl
  · exact .putUnattributed s _

theorem Keeps.handStep (y : FeederStep) : Keeps x s (s.handStep y) := .after (.attribute _ y) (.billStep s _ _ _ _)

theorem Keeps.setStep (n : SetNo) (e : SetEntry) (b : SetBaseline) (power : Nat) (clamped : Bool) (engine : EngineState) :
    Keeps x s (s.setStep n e b power clamped engine) := by
  unfold State.setStep
  dsimp only
  split
  · exact .after (.burn _ n _) (.modHire s n fun _ => rfl)
  · exact .modHire s n fun _ => rfl

theorem Keeps.integrateSet (hx : x ≠ .limits) (n : SetNo) (e : SetEntry) (raw : Nat) (engine : EngineState) :
    Keeps x s (s.integrateSet n e raw engine) := by
  unfold State.integrateSet
  dsimp only
  refine .after (.modSet_times _ hx n fun _ => rfl) ?_
  split
  · exact .refl x s
  · exact .setStep s n e _ _ _ engine

theorem Keeps.setReport (a : Addr) (owner : Nat) (engine : EngineState) (power sensor : Nat) (alarm : Byte)
    (leave : SetNo → Bool) (hl : x ≠ .limits) (hx : x = .due → ∀ n, leave n = false) :
    Keeps x s (s.setReport a owner engine power sensor alarm leave) := by
  unfold State.setReport
  split
  · exact .refl x s
  · rename_i n _
    split
    · exact .refl x s
    · rename_i e _
      dsimp only
      split
      · exact .after (.checkSensor _ n e sensor _ fun h => hx h n) (.after (.integrateSet _ hl n e power engine)
          (.after (.applyReport _ n e engine _) (.storeReport s n hl _ _)))
      · exact .refl x s

theorem Keeps.testWindow (hx : x ≠ .limits) (f : FeederNo) (e : FeederEntry) (current : Nat) :
    Keeps x s (s.testWindow f e current) := by
  unfold State.testWindow
  split
  · exact .after (.raise _ _) (.putLimitFlag s hx f true)
  · exact .refl x s

theorem Keeps.setBaseline (hx : x ≠ .limits) (f : FeederNo) (e : FeederEntry) (y : Sample) : Keeps x s (s.setBaseline f e y) :=
  .modFeeder s f fun h => absurd h hx

theorem Keeps.reportGap (k : AccountNo) : Keeps x s (s.reportGap k) := by
  unfold State.reportGap
  split
  · exact .modAccount s k _
  · exact .refl x s

theorem Keeps.takeSample (hx : x ≠ .limits) (f : FeederNo) (e : FeederEntry) (y : Sample) :
    Keeps x s (s.takeSample f e y) := by
  have tested := Keeps.testWindow s hx f e y.current
  unfold State.takeSample
  dsimp only
  refine .after (.setBaseline _ hx f e y) ?_
  split
  · exact .after (.handStep _ _) tested
  · exact .after (.handStep _ _) tested
  · exact .after (.reportGap _ _) tested
  · exact tested

theorem Keeps.missPoll (f : FeederNo) {status : FeederStatus} (h : x = .limits → status = .missing) :
    Keeps x s (s.missPoll f status) := .modFeeder s f fun hx blank => by
  rw [blank, h hx]
  rfl

theorem Keeps.missBoard (a : Addr) : Keeps x s (s.missBoard a) := .forEach (fun f _ s => .missPoll s f fun _ => rfl) s

theorem Keeps.feederOfReport (hx : x ≠ .limits) (samples : List BoardSample) (f : FeederNo) :
    Keeps x s (s.feederOfReport samples f) := by
  unfold State.feederOfReport
  split
  · exact .refl x s
  · split
    · exact .missPoll s f fun _ => rfl
    · split
      · exact .missPoll s f fun h => absurd h hx
      · exact .takeSample s hx f _ _

theorem Keeps.boardReport (hx : x ≠ .limits) (a : Addr) (samples : List BoardSample) :
    Keeps x s (s.boardReport a samples) := .forEach (fun f _ s => .feederOfReport s hx samples f) s

theorem Keeps.closeOff (f : FeederNo) : Keeps x s (s.closeOff f) := by
  unfold State.closeOff
  split
  · rename_i baseline
    have kept (y : FeederStep) := Keeps.handStep (x := x) s y
    split
    · cases x with
      | limits =>
        exact ⟨(kept _).flags, (kept _).baseline, fun i => by rw [i f] at baseline; cases baseline⟩
      | _ => exact .after (.modFeeder _ f nofun) (kept _)
    · exact .refl x s
  · exact .refl x s

/-! ### Intervals (file 09) and the tariff store (file 08) -/

theorem Keeps.markAll (mark : Marks → Marks) : Keeps x s (s.markAll mark) :=
  .forEach (fun k _ s => by
    split
    · exact .modAccount s k _
    · exact .refl x s) s

theorem Keeps.markGap : Keeps x s s.markGap := .markAll s _

theorem Keeps.highWater (before : Nat) : Keeps x s (s.highWater before) := by
  unfold State.highWater
  split
  · exact .raise s _
  · exact .refl x s

/-- The billing engine but for its accounts, its records and their numbers. -/
theorem Keeps.push (hx : x ≠ .records) (r : Record) : Keeps x s { s with billing := s.billing.push r } :=
  .of_same (by cases x with | records => exact absurd rfl hx | _ => exact rfl)

theorem Keeps.closeAccount (hx : x ≠ .records) (start length : Nat) (short : Bool) (k : AccountNo) :
    Keeps x s (s.closeAccount start length short k) := by
  unfold State.closeAccount
  split
  · exact .refl x s
  · exact .after (.push _ hx _) (.modAccount s k _)

theorem Keeps.billAccount (hx : x ≠ .records) (k : AccountNo) : Keeps x s (s.billAccount k) :=
  .after (.push _ hx _) (.modAccount s k _)

/-- A walk whose visits each produce at most one record produces at most one for each member of the list. -/
theorem records_forEach {α : Type} {xs : List α} {f : α → State → State}
    (h : ∀ a s, (f a s).billing.records.length ≤ s.billing.records.length + 1) (s : State) :
    (forEach xs f s).billing.records.length ≤ s.billing.records.length + xs.length := by
  induction xs generalizing s with
  | nil => exact Nat.le_refl _
  | cons a xs ih =>
    have step := ih (f a s)
    have one := h a s
    simp only [forEach_cons, List.length_cons]
    omega

theorem records_closeAccount (start length : Nat) (short : Bool) (k : AccountNo) :
    (s.closeAccount start length short k).billing.records.length ≤ s.billing.records.length + 1 := by
  unfold State.closeAccount
  split
  · exact Nat.le_succ _
  · simp [Billing.push, State.modAccount, State.putAccount]

/-- A walk of closes or of bills that the record queue has room for. -/
theorem Keeps.produce {α : Type} {xs : List α} {f : α → State → State} {s : State}
    (room : xs.length ≤ s.billing.freeRecords)
    (one : ∀ a s, (f a s).billing.records.length ≤ s.billing.records.length + 1)
    (h : ∀ a s, x ≠ .records → Keeps x s (f a s)) : Keeps x s (Machine.forEach xs f s) := by
  by_cases hx : x = .records
  · subst hx
    intro i
    have := records_forEach (xs := xs) one s
    unfold Billing.freeRecords at room
    omega
  · exact .forEach (fun a _ s => h a s hx) s

/-- The tariff store takes a table into force: whatever it held, it is sound (R15, R151). -/
theorem Keeps.putInForce (table : TariffTable) : Keeps x s (s.putInForce table) := by
  refine .after (.raise _ _) ?_
  cases x with
  | live => exact fun i => ⟨i.interval, i.clock, fun _ => rfl, fun h => by cases h⟩
  | _ => exact .of_same rfl

theorem Keeps.tellClose : Keeps x s s.tellClose := by
  unfold State.tellClose
  split
  · exact .putInForce s _
  · exact .refl x s
  · exact .refl x s

/-- The open intervals take a value while some are open. -/
theorem Keeps.putInterval (i : OpenInterval) (h : x = .live → s.billing.interval.isSome = true) :
    Keeps x s { s with billing := { s.billing with interval := some i } } := by
  cases x with
  | live => exact fun l => ⟨l.interval.trans (h rfl), l.clock, l.tariff, l.commit⟩
  | _ => exact .of_same rfl

theorem Keeps.openIntervals (start : Nat) (b : Bool) (h : x = .live → s.billing.interval.isSome = true) :
    Keeps x s (s.openIntervals start b) := by
  unfold State.openIntervals
  dsimp only
  exact .after (.forEach (fun k _ s => .modAccount s k _) _) (.putInterval s _ h)

/-- What a walk over the accounts at a close leaves of the billing engine. -/
theorem interval_closeAccounts (xs : List AccountNo) (start length : Nat) (short : Bool) (s : State) :
    (forEach xs (fun k s => s.closeAccount start length short k) s).billing.interval = s.billing.interval := by
  induction xs generalizing s with
  | nil => rfl
  | cons k xs ih =>
    have one : (s.closeAccount start length short k).billing.interval = s.billing.interval := by
      unfold State.closeAccount
      split <;> rfl
    exact (ih _).trans one

theorem interval_tellClose : s.tellClose.billing = s.billing ∧ s.tellClose.site = s.site ∧
    s.tellClose.tariff.pending.isCommitted = false := by
  unfold State.tellClose
  split
  · exact ⟨rfl, rfl, rfl⟩
  · rename_i h; exact ⟨rfl, rfl, by rw [h]; rfl⟩
  · rename_i h; exact ⟨rfl, rfl, by rw [h]; rfl⟩

/-- The records of a close that the record queue has room for, and the table that comes into force with it. -/
def closed (s : State) (start length : Nat) (short : Bool) : State :=
  (forEach s.activeAccounts (fun k s => s.closeAccount start length short k) s).tellClose

theorem Keeps.closed (room : s.activeAccounts.length ≤ s.billing.freeRecords) (start length : Nat) (short : Bool) :
    Keeps x s (closed s start length short) :=
  .after (.tellClose _) (.produce room (fun k s => records_closeAccount s start length short k)
    fun k s hx => .closeAccount s hx start length short k)

theorem closed_interval (start length : Nat) (short : Bool) :
    (closed s start length short).billing.interval = s.billing.interval ∧
      (closed s start length short).tariff.pending.isCommitted = false := by
  obtain ⟨billing, -, commit⟩ := interval_tellClose
    (forEach s.activeAccounts (fun k s => s.closeAccount start length short k) s)
  exact ⟨(congrArg Billing.interval billing).trans (interval_closeAccounts _ start length short s), commit⟩

variable {s}

/-- A close that the record queue has room for, at a boundary or at a set clock. -/
theorem Keeps.closeIntervals (i : OpenInterval) (hi : s.billing.interval.isSome = true)
    (room : s.activeAccounts.length ≤ s.billing.freeRecords) {kind : CloseKind} (hkind : kind ≠ .standDown) (now : Nat) :
    Keeps x s (s.closeIntervals i kind now) := by
  refine .after (.highWater _ _) ?_
  have isOpen (start length : Nat) (short : Bool) : (Keeping.closed s start length short).billing.interval.isSome = true := by
    rw [(closed_interval s start length short).1]; exact hi
  cases kind with
  | boundary => exact .after (.openIntervals _ _ true fun _ => isOpen _ _ _) (.closed s room _ _ _)
  | timeSet => exact .after (.openIntervals _ _ false fun _ => isOpen _ _ _) (.closed s room _ _ _)
  | standDown => exact absurd rfl hkind

/-- The site goes to COMMISSION with no interval open, once no commit waits (R16). -/
theorem Keeps.commission (hx : x ≠ .fixed) (h : s.tariff.pending.isCommitted = false) : Keeps x s
    { s with billing := { s.billing with interval := none }, site := { s.site with live := false } } := by
  cases x with
  | fixed => exact absurd rfl hx
  | live => exact fun _ => ⟨rfl, fun c => Bool.noConfusion c, fun c => Bool.noConfusion c, fun c => absurd c (by simp [h])⟩
  | ranges => exact fun i => ⟨⟨i.1.hold, i.1.loss, i.1.interval, i.1.delivery, i.1.wait, i.1.late, i.1.period⟩, i.2⟩
  | _ => exact .of_same rfl

theorem Keeps.closeIntervals_standDown (hx : x ≠ .fixed) (i : OpenInterval)
    (room : s.activeAccounts.length ≤ s.billing.freeRecords) (now : Nat) :
    Keeps x s (s.closeIntervals i .standDown now) :=
  .after (.highWater _ _) (.after (.commission hx (closed_interval s _ _ _).2) (.closed s room _ _ _))

variable (s)

theorem interval_markAll (mark : Marks → Marks) :
    (s.markAll mark).billing.interval = s.billing.interval := by
  unfold State.markAll
  refine forEach_rel (R := fun s t => t.billing.interval = s.billing.interval) (fun _ => rfl) (fun h k => k.trans h)
    (fun k _ u => ?_) s
  split <;> rfl

theorem Keeps.extendIntervals (i : OpenInterval) (now : Nat) (hi : s.billing.interval.isSome = true) :
    Keeps x s (s.extendIntervals i now) :=
  .after (.raise _ _) (.after (.putInterval _ _ fun _ => by rw [interval_markAll]; exact hi) (.markAll s _))

theorem Keeps.testClose : Keeps x s s.testClose := by
  unfold State.testClose
  split
  · rename_i i now hi _
    have isOpen : s.billing.interval.isSome = true := by rw [hi]; rfl
    split
    · split
      · rename_i room
        refine .closeIntervals i isOpen room ?_ now
        split <;> exact CloseKind.noConfusion
      · exact .extendIntervals s i now isOpen
    · exact .refl x s
  · exact .refl x s

/-! ### Changeover requests and the schedule (R127 to R129, R143 to R145) -/

/-- What a request that passes the acceptance checks knows of its point (R128). -/
theorem position_of_accepted {s : State} {p : PointNo} {side : Side} (h : s.acceptanceRefusal p side = none) :
    (s.pointRec p).position ≠ .unknown := by
  intro unknown
  unfold State.acceptanceRefusal at h
  split at h
  · cases h
  · dsimp only at h
    split at h
    · cases h
    · rw [unknown] at h
      simp at h

/-- A start request finds its set ONLINE already only where it is (R80). -/
theorem online_of_alreadyOnline {s t : State} {n : SetNo} (h : s.startRequest n = (t, .alreadyOnline)) :
    (s.setRec n).run = .online := by
  unfold State.startRequest at h
  split at h
  case h_4 online => exact online
  case h_1 => split at h <;> exact StartResult.noConfusion (Prod.mk.inj h).2
  all_goals exact StartResult.noConfusion (Prod.mk.inj h).2

theorem Keeps.acceptChangeover {s : State} {p : PointNo} {side : Side} (h : s.acceptanceRefusal p side = none)
    (cause : Cause) : Keeps x s (s.acceptChangeover p side cause) := by
  have known := position_of_accepted h
  unfold State.acceptChangeover
  split
  · exact .refl x s
  · rename_i u a b _
    dsimp only
    have original : (s.newSequence p side cause a b).originalPos = (s.pointRec p).position := rfl
    have stands : Stands (s.newSequence p side cause a b) (s.pointRec p).position := ⟨rfl, rfl, known⟩
    generalize s.newSequence p side cause a b = q at original stands
    have filled : Keeps x s ((s.reserve q.targetSet p q.reservedLoad).putSeq p q) :=
      .after (.putSeq _ p q fun _ => sound_put stands) (.reserve s p q.targetSet _)
    have at_ : (((s.reserve q.targetSet p q.reservedLoad).putSeq p q).pointRec p).position = (s.pointRec p).position := by
      rw [State.putSeq, State.modPoint_read]; rfl
    generalize (s.reserve q.targetSet p q.reservedLoad).putSeq p q = u at filled at_ ⊢
    have proceeds : Keeps x s (u.proceed p q) :=
      .after (.proceed u p q fun _ => ⟨at_.trans original.symm, by rw [at_]; exact known⟩) filled
    have asked := Keeps.startRequest (x := x) u q.targetSet
    split
    · exact proceeds
    · rename_i offline
      split <;> rename_i e
      · rw [e] at asked
        exact .after asked filled
      · rw [e] at asked
        exact .after asked filled
      · exact absurd (online_of_alreadyOnline e) offline
      · rw [e] at asked
        exact .after (.endSequence _ p _ _) (.after asked filled)

theorem Keeps.autoRequest (p : PointNo) (n : SetNo) (cause : Cause) : Keeps x s (s.autoRequest p n cause) := by
  unfold State.autoRequest
  split
  · exact .refl x s
  · split
    · exact .refl x s
    · dsimp only
      split
      · exact .refl x s
      · split
        · exact .modPoint_aside s p fun _ => ⟨rfl, rfl⟩
        · rename_i h
          exact .acceptChangeover h cause

theorem Keeps.raiseLoad (n : SetNo) : Keeps x s (s.raiseLoad n) := by
  unfold State.raiseLoad
  split
  · exact .refl x s
  · split
    · split
      · exact .autoRequest s _ _ _
      · exact .refl x s
    · exact .refl x s

theorem Keeps.raiseForPoints (n : SetNo) (cause : Cause) (flag : PointEntry → Bool) :
    Keeps x s (s.raiseForPoints n cause flag) :=
  .forEach (fun p _ s => by
    split
    · split
      · exact .autoRequest s p _ cause
      · exact .refl x s
    · exact .refl x s) s

theorem Keeps.raiseFuel (n : SetNo) : Keeps x s (s.raiseFuel n) := by
  unfold State.raiseFuel
  split
  · exact .refl x s
  · split
    · exact .raiseForPoints s n _ _
    · exact .refl x s

theorem Keeps.putSchedule {schedule : List ScheduleEntry} (h : s.schedule.length ≤ 16 → schedule.length ≤ 16) :
    Keeps x s { s with schedule } := by
  cases x with
  | schedule => exact h
  | _ => exact .of_same rfl

theorem Keeps.removeScheduled (e : ScheduleEntry) (r : ScheduleResult) : Keeps x s (s.removeScheduled e r) :=
  .after (.raise _ _) (.putSchedule s fun i => Nat.le_trans (List.length_filter_le _ _) i)

theorem Keeps.fireScheduled (e : ScheduleEntry) : Keeps x s (s.fireScheduled e) := by
  unfold State.fireScheduled
  split
  · exact .removeScheduled s e _
  · rename_i h
    exact .after (.removeScheduled _ e _) (.acceptChangeover h _)

theorem Keeps.walkEntry (now : Nat) (acc : State × List PointNo) (e : ScheduleEntry) :
    Keeps x acc.1 (State.walkEntry now acc e).1 := by
  unfold State.walkEntry
  dsimp only
  split
  · exact .refl x _
  · split
    · exact .removeScheduled _ e _
    · split
      · exact .fireScheduled _ e
      · exact .refl x _

theorem Keeps.walkSchedule : Keeps x s s.walkSchedule := by
  unfold State.walkSchedule
  split
  · exact .refl x s
  · rename_i now _
    have walk : ∀ (xs : List ScheduleEntry) (acc : State × List PointNo),
        Keeps x acc.1 (xs.foldl (State.walkEntry now) acc).1 := by
      intro xs
      induction xs with
      | nil => exact fun acc => .refl x acc.1
      | cons e xs ih => exact fun acc => .after (ih _) (.walkEntry now acc e)
    exact walk s.schedule (s, [])

theorem Keeps.dropSchedule (p : PointNo) : Keeps x s (s.dropSchedule p) :=
  .forEach (fun e _ s => .removeScheduled s e _) s

end

end Sys2Proof.Keeping
end

section
/-! SUPPORT. What the Field Cycle Engine keeps: slots, cycle starts, STOP CYCLES and FIELD RESTART (file 02). -/

namespace Sys2Proof.Keeping

open Sys2Proof Sys2Proof.Machine

section
variable {x : Aspect} (s : State)

/-! ### Outcomes and the outstanding command (R34 to R36) -/

/-- The engine's own record of a cycle keeps every aspect but the engine's, and the clockwork where it leaves that. -/
theorem Keeps.putEngine (hx : x ≠ .engine) {e : Engine} (queue : x = .queue → e.queue.Sublist s.engine.queue)
    (running : x = .running → e.running = s.engine.running)
    (clockwork : x = .fixed → (e.running, e.cycleNo, e.cycleLen, e.holdInForce, e.age) =
      (s.engine.running, s.engine.cycleNo, s.engine.cycleLen, s.engine.holdInForce, s.engine.age)) :
    Keeps x s { s with engine := e } := by
  cases x with
  | engine => exact absurd rfl hx
  | queue => exact fun i => QueueBounded.sublist i (queue rfl)
  | running => exact running rfl
  | fixed =>
    have h := clockwork rfl
    simp only [Prod.mk.injEq] at h
    obtain ⟨running, cycleNo, cycleLen, holdInForce, age⟩ := h
    show fixedPart _ = fixedPart _
    simp only [fixedPart, running, cycleNo, cycleLen, holdInForce, age]
  | _ => exact .of_same rfl

theorem Keeps.giveOutcome (c : Command) (o : CommandOutcome) : Keeps x s (s.giveOutcome c o) := by
  unfold State.giveOutcome
  split
  · exact .raise s _
  · exact .setOutcome s _ _ o
  · exact .pointOutcome s _ _ o
  · exact .meterOutcome s _ _ o

theorem Keeps.resume (o : Origin) : Keeps x s (s.resume o) := by
  unfold State.resume
  split
  · exact .refl x s
  · exact .tryEnqueueSet s _
  · exact .tryEnqueuePoint s _
  · exact .tryEnqueueMeter s _

theorem Keeps.returnOutcome (c : Command) (o : CommandOutcome) : Keeps x s (s.returnOutcome c o) :=
  .after (.resume _ _) (.giveOutcome s c o)

theorem Keeps.endOutstanding (hx : x ≠ .engine) (o : CommandOutcome) : Keeps x s (s.endOutstanding o) := by
  unfold State.endOutstanding
  split
  · exact .refl x s
  · exact .after (.returnOutcome _ _ o) (.putOutstanding s hx none)

theorem Keeps.markSent (c : Command) : Keeps x s (s.markSent c) := by
  unfold State.markSent
  split
  · exact .refl x s
  · exact .modSet s _ fun _ => rfl
  · exact .modPoint_aside s _ fun _ => ⟨rfl, rfl⟩
  · exact .modMeter_aside s _ fun _ => rfl

theorem Keeps.sendCommand (hx : x ≠ .engine) (c : Command) : Keeps x s (s.sendCommand c) :=
  .after (.putOutstanding _ hx _) (.markSent s c)

theorem Keeps.selectFrom (hx : x ≠ .engine) (fuel : Nat) (s : State) : Keeps x s (s.selectFrom fuel) := by
  induction fuel generalizing s with
  | zero => exact .refl x s
  | succ fuel ih =>
    unfold State.selectFrom
    split
    · exact .refl x s
    · rename_i c rest hqueue
      have taken : Keeps x s (s.putQueue rest) := .putQueue s (by rw [hqueue]; exact List.sublist_cons_self _ _)
      dsimp only
      split
      · exact .after (.sendCommand _ hx c) taken
      · exact .after (ih _) (.after (.returnOutcome _ c _) taken)

/-! ### The header and the slot list (R20 to R24) -/

/-- A header is the engine's own: it leaves the queue and the clockwork. -/
theorem sendHeader_others (e : Engine) (slots : List Addr) (c : Option Command) :
    (e.sendHeader slots c).queue = e.queue ∧ (e.sendHeader slots c).links = e.links ∧
      ((e.sendHeader slots c).running, (e.sendHeader slots c).cycleNo, (e.sendHeader slots c).cycleLen,
        (e.sendHeader slots c).holdInForce, (e.sendHeader slots c).age) =
        (e.running, e.cycleNo, e.cycleLen, e.holdInForce, e.age) := by
  unfold Engine.sendHeader
  dsimp only
  split <;> exact ⟨rfl, rfl, rfl⟩

theorem Keeps.openCycle (hx : x ≠ .engine) (reply : Option Addr) (c : Option Command) :
    Keeps x s (s.openCycle reply c) := by
  unfold State.openCycle
  dsimp only
  split
  · exact .putEngine s hx (fun _ => List.Sublist.refl _) (fun _ => rfl) fun _ => rfl
  · exact .putEngine s hx (fun _ => by rw [(sendHeader_others _ _ _).1])
      (fun _ => (Prod.mk.inj (sendHeader_others _ _ _).2.2).1) fun _ => (sendHeader_others _ _ _).2.2

theorem Keeps.engineWork (hx : x ≠ .engine) : Keeps x s s.engineWork := by
  unfold State.engineWork
  split
  · exact .after (.openCycle _ hx _ _) (.putOutstanding s hx _)
  · exact .after (.openCycle _ hx _ _) (.selectFrom hx 160 s)

/-! ### Links (R28 to R31) -/

theorem Keeps.becomeLost (a : Addr) (e : UnitEntry) : Keeps x s (s.becomeLost a e) := by
  unfold State.becomeLost
  dsimp only
  have told : ∀ t, Keeps x s ((s.modLink a t).raise (.unitLink a .lost ((s.modLink a t).link a).misses)) :=
    fun t => .after (.raise _ _) (.modLink s a t)
  split
  · exact .after (.missBoard _ a) (told _)
  · exact .after (.forEach (fun n _ s => .setMark s n true) _) (told _)
  · exact .after (.changeLost _ a) (told _)
  · exact .after (.meterLost _ _) (told _)

theorem Keeps.missSlot (a : Addr) (e : UnitEntry) (garbled leave : Bool) (hx : x = .due → leave = false) :
    Keeps x s (s.missSlot a e garbled leave) := by
  unfold State.missSlot
  dsimp only
  have counted := Keeps.modLink (x := x) s a (LinkRec.miss · garbled)
  have linked : Keeps x s
      (if (s.link a).state = some .lost then s.modLink a (LinkRec.miss · garbled)
      else if ((s.modLink a (LinkRec.miss · garbled)).link a).misses <
          (s.modLink a (LinkRec.miss · garbled)).site.values.lossLimit then
        (s.modLink a (LinkRec.miss · garbled)).modLink a fun l => { l with state := some .silent }
      else if leave = true then
        { (s.modLink a (LinkRec.miss · garbled)).modLink a (fun l => { l with state := some .silent }) with
          due := (s.modLink a (LinkRec.miss · garbled)).due ++ [.linkLost a] }
      else (s.modLink a (LinkRec.miss · garbled)).becomeLost a e) := by
    split
    · exact counted
    · split
      · exact .after (.modLink _ a _) counted
      · split
        · rename_i left
          exact .after (.putDue _ (fun h => by rw [hx h] at left; cases left) _) (.after (.modLink _ a _) counted)
        · exact .after (.becomeLost _ a e) counted
  split
  · exact .after (.missBoard _ a) linked
  · exact linked
  · exact linked
  · exact linked

theorem Keeps.linkUp (a : Addr) : Keeps x s (s.linkUp a) := by
  unfold State.linkUp
  dsimp only
  split
  · exact .after (.forEach (fun n _ s => .clearMark s n) _) (.after (.raise _ _) (.modLink s a _))
  · exact .modLink s a _

theorem offerCopy_bounded {p : Port} (h : p.Bounded) (c : Copy) : (p.offerCopy c).Bounded := by
  unfold Port.offerCopy
  split
  · rename_i room
    exact ⟨h.notices, by rw [List.length_append]; exact room, h.rxQueue, h.frameErrors, h.rxOverflows⟩
  · exact ⟨h.notices, h.copies, h.rxQueue, h.frameErrors, h.rxOverflows⟩

theorem offerCopy_gate (p : Port) (c : Copy) : (p.offerCopy c).gate = p.gate := by
  unfold Port.offerCopy
  split <;> rfl

theorem Keeps.forward (a : Addr) (e : UnitEntry) (report : List Byte) : Keeps x s (s.forward a e report) := by
  unfold State.forward
  dsimp only
  split
  · exact .modLink s a _
  · split
    · exact .after (.putPort _ (fun _ i => offerCopy_bounded i _) fun _ => offerCopy_gate _ _) (.modLink s a _)
    · exact .modLink s a _

/-! ### The end of a slot (R25, R26, R35, R36) -/

theorem Keeps.handBody (hx : x ≠ .engine) (hl : x ≠ .limits) (a : Addr) (e : UnitEntry) (body : ReportBody)
    (leave : SetNo → Bool) (hd : x = .due → ∀ n, leave n = false) : Keeps x s (s.handBody a e body leave) := by
  unfold State.handBody
  split
  · exact .setReport s a _ _ _ _ _ leave hl hd
  · exact .boardReport s hl a _
  · exact .changeReport s a _ _ _
  · exact .fuelReport s hx a _ _

theorem Keeps.validSlot (hx : x ≠ .engine) (hl : x ≠ .limits) (a : Addr) (e : UnitEntry) (isReply : Bool)
    (r : FieldReport) (leave : SetNo → Bool) (hd : x = .due → ∀ n, leave n = false) :
    Keeps x s (s.validSlot a e isReply r leave) := by
  unfold State.validSlot
  dsimp only
  refine .after (.forward _ a e _) (.after (.handBody _ hx hl a e _ leave hd) ?_)
  split
  · exact .after (.endOutstanding _ hx _) (.linkUp s a)
  · exact .linkUp s a

theorem Keeps.closeSlot (hx : x ≠ .engine) : Keeps x s s.closeSlot :=
  .putEngine s hx (fun _ => List.Sublist.refl _) (fun _ => rfl) fun _ => rfl

theorem Keeps.endSlotOf (hx : x ≠ .engine) (hl : x ≠ .limits) (a : Addr) (received : SlotInput)
    (deferred : List TimedEvent) (hd : x = .due → deferred = []) : Keeps x s (s.endSlotOf a received deferred) := by
  have leave : ∀ y, x = .due → deferred.contains y = false := fun y h => by rw [hd h]; rfl
  have answered : ∀ t, Keeps x s t → ∀ isReply : Bool, Keeps x s (if isReply = true then t.endOutstanding .noAnswer else t) := by
    intro t h isReply
    split
    · exact .after (.endOutstanding _ hx _) h
    · exact h
  have closed := Keeps.closeSlot s hx
  unfold State.endSlotOf
  dsimp only
  split
  · exact .after (.endOutstanding _ hx _) closed
  · split
    · exact .after (.endOutstanding _ hx _) closed
    · exact .after (.missBoard _ a) closed
  · split
    · split
      · exact .after (.validSlot _ hx hl a _ _ _ _ fun h n => leave _ h) closed
      · exact answered _ (.after (.missSlot _ a _ _ _ (leave _)) closed) _
      · exact answered _ (.after (.missSlot _ a _ _ _ (leave _)) closed) _
    · split
      · exact .after (.endOutstanding _ hx _) closed
      · split
        · exact .after (.missBoard _ a) closed
        · exact closed

/-- Time passes: the clock keeps its range, and the clockwork alone moves (R161). -/
theorem Keeps.advance (hx : x ≠ .engine) (hf : x ≠ .fixed) (ms : Nat) : Keeps x s (s.advance ms) := by
  cases x with
  | engine => exact absurd rfl hx
  | fixed => exact absurd rfl hf
  | ranges =>
    refine fun i => ⟨i.1, fun t ht => ?_⟩
    obtain ⟨u, -, rfl⟩ := Option.map_eq_some_iff.mp (show s.billing.clock.map _ = some t from ht)
    exact Nat.min_le_left _ _
  | live => exact fun i => ⟨i.interval, fun h => by
      show (s.billing.clock.map _).isSome = true
      rw [Option.isSome_map]
      exact i.clock h, i.tariff, i.commit⟩
  | _ => exact .of_same rfl

theorem Keeps.bringTo (hx : x ≠ .engine) (hf : x ≠ .fixed) (ms : Nat) : Keeps x s (s.bringTo ms) := by
  unfold State.bringTo
  split
  · exact .advance s hx hf _
  · exact .refl x s

theorem Keeps.endSlot (hx : x ≠ .engine) (hf : x ≠ .fixed) (hl : x ≠ .limits) (received : SlotInput)
    (deferred : List TimedEvent) (hd : x = .due → deferred = []) : Keeps x s (s.endSlot received deferred) := by
  unfold State.endSlot
  split
  · split
    · exact .after (.endSlotOf _ hx hl _ received deferred hd) (.bringTo s hx hf _)
    · exact .refl x s
  · exact .refl x s

theorem Keeps.expireLink (a : Addr) : Keeps x s (s.expireLink a) := by
  unfold State.expireLink
  split
  · split
    · exact .becomeLost s a _
    · exact .refl x s
  · exact .refl x s

theorem Keeps.endHeaderWindow (hx : x ≠ .engine) (hf : x ≠ .fixed) : Keeps x s s.endHeaderWindow := by
  unfold State.endHeaderWindow
  split
  · exact .after (.putEngine _ hx (fun _ => List.Sublist.refl _) (fun _ => rfl) fun _ => rfl) (.bringTo s hx hf _)
  · exact .refl x s

/-! ### STOP CYCLES and FIELD RESTART (R39, R40) -/

theorem Keeps.abandonCycle (hx : x ≠ .engine) : Keeps x s s.abandonCycle :=
  .putEngine s hx (fun _ => List.Sublist.refl _) (fun _ => rfl) fun _ => rfl

theorem Keeps.stopCycles (hx : x ≠ .engine) (hf : x ≠ .fixed) (hr : x ≠ .running) : Keeps x s s.stopCycles := by
  have ended : Keeps x s (({ s.abandonCycle with engine := { s.abandonCycle.engine with running := false } } :
      State).endOutstanding .noAnswer) :=
    .after (.endOutstanding _ hx _)
      (.after (.putEngine _ hx (fun _ => List.Sublist.refl _) (fun h => absurd h hr) fun h => absurd h hf) (.abandonCycle s hx))
  unfold State.stopCycles
  dsimp only
  split
  · exact .after (.markGap _) ended
  · exact ended

theorem Keeps.linksAbsent : Keeps x s s.linksAbsent :=
  .forEach (fun a _ s => by
    split
    · exact .modLink s a _
    · exact .refl x s) s

theorem Keeps.clearMarks (cs : List Command) : Keeps x s (s.clearMarks cs) :=
  .forEach (fun n _ s => by
    split
    · exact .setMark s n false
    · exact .clearMark s n) s

theorem Keeps.fieldRestart (hx : x ≠ .engine) : Keeps x s s.fieldRestart := by
  have emptied : ∀ t : State, Keeps x t
      { t with engine := { t.engine with outstanding := none, queue := [] } } :=
    fun t => .putEngine t hx (fun _ => List.nil_sublist _) (fun _ => rfl) fun _ => rfl
  have acks : ∀ t : State, Keeps x t
      { t with engine := { t.engine with acks := Vector.replicate 2 none, lastAcked := none } } :=
    fun t => .putEngine t hx (fun _ => List.Sublist.refl _) (fun _ => rfl) fun _ => rfl
  have pointer : ∀ t : State, Keeps x t { t with engine := { t.engine with pollPointer := 0 } } :=
    fun t => .putEngine t hx (fun _ => List.Sublist.refl _) (fun _ => rfl) fun _ => rfl
  unfold State.fieldRestart
  dsimp only
  exact .after (.forEach (fun c _ s => .resume s c.origin) _) (.after (.restartPoints _) (.after (pointer _)
    (.after (.clearMarks _ _) (.after (.linksAbsent _) (.after (acks _)
      (.after (.forEach (fun c _ s => .giveOutcome s c .restart) _) (.after (emptied _) (.abandonCycle s hx))))))))

/-! ### Counters and timed events (R81, R83, R85, R115, R133 to R138) -/

theorem fits_tick {c : PhaseCounter} {phase : Phase} (h : c.Fits phase) : c.tick.Fits phase := by
  cases c <;> exact h

theorem sound_tick {r : PointRec} (h : r.Sound) :
    ({ r with seq := r.seq.map fun q => { q with counter := q.counter.tick } } : PointRec).Sound := by
  intro q hq
  obtain ⟨y, hy, rfl⟩ := Option.map_eq_some_iff.mp hq
  exact ⟨fits_tick (h y hy).1, (h y hy).2⟩

theorem Keeps.tickCounters : Keeps x s s.tickCounters := by
  have run : ∀ (n : SetNo) (s : State), Keeps x s (s.modSet n fun r => { r with run := r.run.tick }) :=
    fun n s => .modSet s n fun _ => rfl
  exact .after (.forEach (fun m _ s => .modMeter s m fun c => by rwa [claims_tick] at c) _)
    (.after (.forEach (fun p _ s => .modPoint s p sound_tick) _) (.forEach (fun n _ s => run n s) s))

/-- What happens to a sequence in flight whose counter stands at a value keeps what it keeps of such a sequence. -/
theorem Keeps.whenCounter {p : PointNo} {c : PhaseCounter} {f : Sequence → State}
    (h : ∀ q, (s.pointRec p).seq = some q → q.counter = c → Keeps x s (f q)) : Keeps x s (s.whenCounter p c f) := by
  unfold State.whenCounter
  split
  · rename_i q hseq
    split
    · rename_i hcounter
      exact h q hseq hcounter
    · exact .refl x s
  · exact .refl x s

/-- Every timed event keeps every aspect. -/
theorem Keeps.happen (e : TimedEvent) : Keeps x s (s.happen e) := by
  cases e with
  | loadRequest n => exact .raiseLoad s n
  | holdLimit f => exact .closeOff s f
  | warmUp n => exact .expireWarmUp s n
  | coolDown n => exact .expireCoolDown s n
  | crankWindow n => exact .expireCrank s n
  | prepare p => exact .whenCounter s fun _ _ _ => .endSequence s p _ _
  | confirm p => exact .whenCounter s fun q hseq _ => .expireConfirm hseq
  | deadTime p => exact .whenCounter s fun q hseq hc => .expireDead hseq ⟨0, hc⟩
  | window p => exact .whenCounter s fun q hseq hc => .windowCheck hseq ⟨0, hc⟩
  | ticketWait m => exact .expireTicketWait s m
  | schedule => exact .walkSchedule s
  | intervalClose => exact .testClose s
  | linkLost a => exact .expireLink s a
  | discrepancy n => exact .expireDiscrepancy s n

theorem Keeps.takeEvent (hx : x ≠ .due) (e : TimedEvent) : Keeps x s (s.takeEvent e) := by
  unfold State.takeEvent
  split
  · exact .after (.happen _ e) (.putDue s hx _)
  · exact .refl x s

variable {deferred : List TimedEvent}

theorem Keeps.takeOrDefer (hd : x = .due → deferred = []) (e : TimedEvent) : Keeps x s (s.takeOrDefer deferred e) := by
  unfold State.takeOrDefer
  split
  · rename_i h
    refine .putDue s (fun due => ?_) _
    rw [hd due] at h
    simp at h
  · exact .happen s e

/-! ### Cycle starts (R18, R38) -/

theorem Keeps.takeAll (hd : x = .due → deferred = []) {α : Type} (xs : List α) (kind : α → TimedEvent) :
    Keeps x s (s.takeAll deferred xs kind) := .forEach (fun a _ s => .takeOrDefer s hd (kind a)) s

theorem Keeps.enqueueDue : Keeps x s s.enqueueDue :=
  .after (.forEach (fun m _ s => .tryEnqueueMeter s m) _)
    (.after (.forEach (fun p _ s => .tryEnqueuePoint s p) _) (.forEach (fun n _ s => .tryEnqueueSet s n) s))

theorem Keeps.laterCheck (p : PointNo) : Keeps x s (s.laterCheck p) := by
  unfold State.laterCheck
  split
  · rename_i q hseq
    split
    · rename_i n hcounter
      exact .windowCheck hseq ⟨_, hcounter⟩
    · exact .refl x s
  · exact .refl x s

theorem Keeps.pointTimers (hd : x = .due → deferred = []) (p : PointNo) : Keeps x s (s.pointTimers deferred p) := by
  unfold State.pointTimers
  split
  · exact .takeOrDefer s hd _
  · exact .takeOrDefer s hd _
  · exact .takeOrDefer s hd _
  · exact .takeOrDefer s hd _
  · exact .laterCheck s p
  · exact .refl x s
  · exact .refl x s

theorem Keeps.endOrphan (hx : x ≠ .engine) : Keeps x s s.endOrphan := by
  unfold State.endOrphan
  split
  · exact .endOutstanding s hx _
  · exact .refl x s

theorem Keeps.newCycle (hx : x ≠ .engine) (hf : x ≠ .fixed) : Keeps x s s.newCycle :=
  .putEngine s hx (fun _ => List.Sublist.refl _) (fun _ => rfl) fun h => absurd h hf

theorem Keeps.ownersWork (hd : x = .due → deferred = []) (faulty : List SetNo) :
    Keeps x s (s.ownersWork faulty deferred) := by
  unfold State.ownersWork
  dsimp only
  exact .after (.forEach (fun n _ s => .raiseFuel s n) _) (.after (.takeAll _ hd _ _)
    (.after (.forEach (fun n _ s => .raiseForPoints s n _ _) _) (.after (.takeOrDefer _ hd _)
    (.after (.takeOrDefer _ hd _) (.after (.forEach (fun n _ s => .testThresholds s n) _)
    (.after (.takeAll _ hd _ _) (.after (.forEach (fun p _ s => .pointTimers s hd p) _) (.after (.enqueueDue _)
    (.after (.takeAll _ hd _ _) (.after (.takeAll _ hd _ _) (.after (.takeAll _ hd _ _) (.takeAll s hd _ _))))))))))))

theorem Keeps.cycleStart (hx : x ≠ .engine) (hf : x ≠ .fixed) (ht : x ≠ .times) (hd : x = .due → deferred = [])
    (closing : Option Nat) (selectLast : Bool) : Keeps x s (s.cycleStart closing selectLast deferred) := by
  have credited : Keeps x s (closing.elim s.newCycle fun len => s.newCycle.closeCycle len) := by
    cases closing with
    | none => exact .newCycle s hx hf
    | some len => exact .after (.closeCycle _ ht len) (.newCycle s hx hf)
  have counted : Keeps x s (closing.elim s.newCycle fun len => s.newCycle.closeCycle len).tickCounters.endOrphan :=
    .after (.endOrphan _ hx) (.after (.tickCounters _) credited)
  unfold State.cycleStart
  dsimp only
  split
  · exact .after (.engineWork _ hx) (.after (.ownersWork _ hd _) counted)
  · exact .after (.ownersWork _ hd _) (.after (.engineWork _ hx) counted)

theorem Keeps.endSilent (hx : x ≠ .engine) (hf : x ≠ .fixed) (hl : x ≠ .limits) (n : Nat) (s : State) :
    Keeps x s (s.endSilent n) := by
  induction n generalizing s with
  | zero => exact .refl x s
  | succ n ih => exact .after (ih _) (.endSlot s hx hf hl _ _ fun _ => rfl)

theorem Keeps.nextCycle (hx : x ≠ .engine) (hf : x ≠ .fixed) (hl : x ≠ .limits) (ht : x ≠ .times)
    (hd : x = .due → deferred = []) (selectLast : Bool) : Keeps x s (s.nextCycle selectLast deferred) := by
  unfold State.nextCycle
  split
  · exact .after (.cycleStart _ hx hf ht hd _ _) (.after (.bringTo _ hx hf _) (.endSilent hx hf hl _ s))
  · exact .refl x s

theorem Keeps.clearBaselines (hx : x ≠ .limits) : Keeps x s s.clearBaselines := by
  have cleared : ∀ (n : SetNo) (s : State), Keeps x s (s.modSet n fun r => { r with baseline := none }) :=
    fun n s => .modSet_times s hx n fun _ => rfl
  exact .forEach (fun n _ s => cleared n s) s

theorem Keeps.startRun (hx : x ≠ .engine) (hf : x ≠ .fixed) (hl : x ≠ .limits) (ht : x ≠ .times) (hr : x ≠ .running) :
    Keeps x s s.startRun := by
  have running : ∀ t : State, Keeps x t { t with engine := { t.engine with running := true } } :=
    fun t => .putEngine t hx (fun _ => List.Sublist.refl _) (fun h => absurd h hr) fun h => absurd h hf
  unfold State.startRun
  dsimp only
  exact .after (.cycleStart _ hx hf ht (fun _ => rfl) _ _)
    (.after (running _) (.after (.clearBaselines _ hl) (.clearFeeders s)))

end

end Sys2Proof.Keeping
end

section
/-! SUPPORT. What every request of the office keeps (files 01, 05 to 10). -/

namespace Sys2Proof.Keeping

open Sys2Proof Sys2Proof.Machine

/-- The aspects that requests keep: the queue of commands, what is left over, and the invariants. -/
def Aspect.Lasting (x : Aspect) : Prop :=
  x ≠ .fixed ∧ x ≠ .running ∧ x ≠ .engine ∧ x ≠ .limits ∧ x ≠ .times

/-- A request that keeps every lasting aspect. -/
def Safe (r : Request) : Prop := ∀ x : Aspect, x.Lasting → ∀ s, Keeps x s (r s).1

section
variable {x : Aspect} (s : State)

/-! ### The tariff store and the record queue (R149 to R155, R171, R175) -/

/-- The tariff store takes a pending table that waits for no close. -/
theorem Keeps.putPending (p : PendingTariff) (lockout trial : Bool) (h : p.isCommitted = true → s.site.live = true) :
    Keeps x s { s with tariff := { s.tariff with pending := p, lockout, trial } } := by
  cases x with
  | live => exact fun i => ⟨i.interval, i.clock, i.tariff, h⟩
  | _ => exact .of_same rfl

theorem Keeps.putTen (hx : x ≠ .fixed) (ten : Bool) : Keeps x s { s with ten } :=
  .of_same (by cases x with | fixed => exact absurd rfl hx | _ => exact rfl)

theorem Keeps.tenFall (hx : x ≠ .fixed) : Keeps x s s.tenFall := by
  unfold State.tenFall
  dsimp only
  split
  · exact .after (.raise _ _) (.after (.putPending _ _ _ _ fun h => Bool.noConfusion h) (.putTen s hx false))
  · exact .putTen s hx false
  · exact .putTen s hx false

theorem Keeps.sampleTen (hx : x ≠ .fixed) (level : Bool) : Keeps x s (s.sampleTen level) := by
  unfold State.sampleTen
  split
  · exact .putTen s hx true
  · split
    · exact .tenFall s hx
    · exact .refl x s

theorem Safe.atTen {r : Request} (h : Safe r) (ten : Bool) : Safe (atTen ten r) := fun x hx s =>
  .after (h x hx _) (.sampleTen s hx.1 ten)

theorem safe_loadTariffClass (identifier : Nat) (mode : Option RoundingMode) (cls : Nat) (bands : List Band) :
    Safe (reqLoadTariffClass identifier mode cls bands) := by
  intro x hx s
  unfold reqLoadTariffClass
  split
  · exact .refl x s
  · split
    · exact .refl x s
    · split
      · exact .refl x s
      · exact .refl x s
      · split
        · exact .refl x s
        · split
          · exact .refl x s
          · split
            · exact .refl x s
            · split
              · exact .refl x s
              · exact .putPending s _ _ _ fun h => Bool.noConfusion h

theorem safe_commitTariff : Safe reqCommitTariff := by
  intro x hx s
  unfold reqCommitTariff
  split
  · exact .refl x s
  · split
    · exact .refl x s
    · split
      · exact .refl x s
      · exact .refl x s
      · split
        · exact .refl x s
        · split
          · rename_i live
            exact .putPending s _ _ _ fun _ => live
          · exact .putInForce s _

theorem safe_discardTariff : Safe reqDiscardTariff := by
  intro x hx s
  unfold reqDiscardTariff
  split
  · exact .refl x s
  · split
    · exact .refl x s
    · exact .putPending s _ _ _ fun h => Bool.noConfusion h
    · exact .putPending s _ _ _ fun h => Bool.noConfusion h

theorem safe_trial (on : Option Bool) : Safe (reqTrial on) := by
  intro x hx s
  unfold reqTrial
  split
  · exact .refl x s
  · exact .refl x s
  · exact .refl x s
  · rename_i hpending
    exact .putPending s _ _ _ fun h => by rw [hpending] at h; cases h

theorem Keeps.putRecords {records : List Record} (h : records.length ≤ s.billing.records.length) :
    Keeps x s { s with billing := { s.billing with records } } := by
  cases x with
  | records => exact fun i => Nat.le_trans h i
  | _ => exact .of_same rfl

theorem safe_releaseRecords (count : Nat) : Safe (reqReleaseRecords count) := fun _ _ s =>
  .putRecords s (by rw [List.length_drop]; exact Nat.sub_le _ _)

theorem records_billAccount (k : AccountNo) (s : State) :
    (s.billAccount k).billing.records.length ≤ s.billing.records.length + 1 := by
  simp [State.billAccount, Billing.push, State.modAccount, State.putAccount]

theorem Keeps.billAccounts (ks : List AccountNo) : Keeps x s (s.billAccounts ks).1 := by
  unfold State.billAccounts
  split
  · exact .refl x s
  · rename_i room
    exact .after (.highWater _ _) (.produce (Nat.le_of_not_lt room) records_billAccount fun k s hx => .billAccount s hx k)

theorem safe_closeBill (account : Nat) : Safe (reqCloseBill account) := by
  intro x hx s
  unfold reqCloseBill
  split
  · exact .billAccounts s _
  · split
    · exact .refl x s
    · exact .billAccounts s _

/-! ### Site values, the clock, and the site states (R12 to R16, R162) -/

/-- The intervals, the clock and the site take values that leave LIVE sound. -/
theorem Keeps.setClock (new : Nat) (s : State) :
    Keeps .live s { s with billing := { s.billing with clock := some new } } :=
  fun i => ⟨i.interval, fun _ => rfl, i.tariff, i.commit⟩

theorem Keeps.mapInterval (f : OpenInterval → OpenInterval) :
    Keeps x s { s with billing := { s.billing with interval := s.billing.interval.map f } } := by
  cases x with
  | live => exact fun i => ⟨by
      show _ = (s.billing.interval.map f).isSome
      rw [Option.isSome_map]; exact i.interval, i.clock, i.tariff, i.commit⟩
  | _ => exact .of_same rfl

/-- A clock within the days that it can count (R161). -/
theorem Keeps.putClock (hx : x ≠ .fixed) {new : Nat} (h : x = .ranges → new ≤ clockEnd) :
    Keeps x s { s with billing := { s.billing with clock := some new } } := by
  cases x with
  | fixed => exact absurd rfl hx
  | live => exact .setClock new s
  | ranges => exact fun i => ⟨i.1, fun t ht => by cases ht; exact h rfl⟩
  | _ => exact .of_same rfl

theorem Keeps.reqSetClock (hx : x ≠ .fixed) {day second ms : Nat} (h : x = .ranges → day ≤ 65535) :
    Keeps x s (reqSetClock day second ms s).1 := by
  unfold Machine.reqSetClock
  split
  · exact .refl x s
  · rename_i fits
    have put : Keeps x s { s with billing := { s.billing with clock := some (daySeconds day second * 1000 + ms) } } :=
      .putClock s hx fun hr => by
        have := h hr
        unfold daySeconds clockEnd
        omega
    dsimp only
    split
    · exact .after (.mapInterval _ _) (.after (.markAll _ _) put)
    · exact put

theorem Keeps.putSite (hx : x ≠ .fixed) {site : Site} (hlive : x = .live → site.live = s.site.live)
    (hrange : x = .ranges → s.site.InRange → site.InRange) : Keeps x s { s with site } := by
  cases x with
  | fixed => exact absurd rfl hx
  | live =>
    have same := hlive rfl
    exact fun i => ⟨same.trans i.interval, fun h => i.clock (same ▸ h), fun h => i.tariff (same ▸ h),
      fun h => same.trans (i.commit h)⟩
  | ranges => exact fun i => ⟨hrange rfl i.1, i.2⟩
  | _ => exact .of_same rfl

/-- What LOAD SITE stores is within the ranges (R12). -/
theorem siteValuesOf_inRange {u : SiteFields} {v : SiteValues} (h : siteValuesOf u = some v) {site : Site}
    (i : site.InRange) : ({ site with values := v } : Site).InRange := by
  unfold siteValuesOf at h
  split at h
  · rename_i minutes
    cases h
    exact ⟨clampTo_bounds (by decide) _, clampTo_bounds (by decide) _, minutes, (clampTo_bounds (by decide) _).2,
      clampTo_bounds (by decide) _, (clampTo_bounds (by decide) _).2, i.period⟩
  · cases h

theorem safe_loadSite (u : SiteFields) : Safe (reqLoadSite u) := by
  intro x hx s
  unfold reqLoadSite
  split
  · exact .refl x s
  · rename_i hv
    split
    · exact .refl x s
    · split
      · exact .refl x s
      · exact .putSite s hx.1 (fun _ => rfl) fun _ => siteValuesOf_inRange hv

theorem safe_setCycle (period : Nat) : Safe (reqSetCycle period) := by
  intro x hx s
  unfold reqSetCycle
  split
  · exact .refl x s
  · obtain ⟨low, high, tens, -⟩ := storedPeriod_spec period
    exact .putSite s hx.1 (fun _ => rfl) fun _ i => ⟨i.hold, i.loss, i.interval, i.delivery, i.wait, i.late, low, high, tens⟩

/-- What GO LIVE has found where nothing fails (R15). -/
theorem ready_of_goLiveItem (h : s.goLiveItem = none) :
    s.billing.clock.isSome = true ∧ s.tariff.active.isSome = true := by
  unfold State.goLiveItem at h
  split at h
  · cases h
  · rename_i clock
    split at h
    · cases h
    · split at h
      · cases h
      · rename_i table
        exact ⟨by simpa [Option.isSome_iff_ne_none] using clock, by rw [table]; rfl⟩

/-- The site is LIVE, with what LIVE rests on of an earlier state. -/
structure Live (s t : State) : Prop where
  live : t.site.live = true
  clock : t.billing.clock = s.billing.clock
  tariff : t.tariff = s.tariff

theorem live_forEach_accounts {s t : State} (h : Live s t) (ks : List AccountNo) (f : AccountRec → AccountRec) :
    Live s (forEach ks (fun k s => s.modAccount k f) t) := by
  refine forEach_keeps (Live s) (fun k _ u i => ?_) h
  exact ⟨i.live, i.clock, i.tariff⟩

theorem interval_forEach_accounts (t : State) (ks : List AccountNo) (f : AccountRec → AccountRec) :
    (forEach ks (fun k s => s.modAccount k f) t).billing.interval = t.billing.interval := by
  refine forEach_keeps (fun u => u.billing.interval = t.billing.interval) (fun k _ u i => ?_) rfl
  exact i

theorem live_openIntervals {s t : State} (h : Live s t) (start : Nat) (onBoundary : Bool) :
    Live s (t.openIntervals start onBoundary) ∧
      (t.openIntervals start onBoundary).billing.interval.isSome = true := by
  unfold State.openIntervals
  dsimp only
  refine ⟨live_forEach_accounts ?_ _ _, ?_⟩
  · exact ⟨h.live, h.clock, h.tariff⟩
  · rw [interval_forEach_accounts]; rfl

theorem goLive_live : Live s s.goLive ∧ s.goLive.billing.interval.isSome = true := by
  have emptied (u : State) (h : Live s u) : Live s (forEach u.activeAccounts
      (fun k s => s.modAccount k fun r => { r with accumulator := 0 }) u) := live_forEach_accounts h _ _
  unfold State.goLive
  dsimp only
  have ready := emptied { s with site := { s.site with live := true } } ⟨rfl, rfl, rfl⟩
  generalize forEach ({ s with site := { s.site with live := true } } : State).activeAccounts _ _ = u at ready ⊢
  obtain ⟨opened, interval⟩ := live_openIntervals ready (u.billing.nowSeconds.getD 0) false
  exact ⟨⟨opened.live, opened.clock, opened.tariff⟩, interval⟩

/-- What GO LIVE opens: the intervals of a LIVE site. -/
theorem Keeps.goLive (hx : x ≠ .fixed) (h : s.goLiveItem = none) : Keeps x s s.goLive := by
  by_cases hlive : x = .live
  · subst hlive
    obtain ⟨clock, table⟩ := ready_of_goLiveItem s h
    obtain ⟨opened, interval⟩ := goLive_live s
    exact fun _ => ⟨opened.live.trans interval.symm, fun _ => by rw [opened.clock]; exact clock,
      fun _ => by rw [opened.tariff]; exact table, fun _ => opened.live⟩
  · exact .after (.clearFeeders _) (.after (.openIntervals _ _ false fun h => absurd h hlive)
      (.after (.forEach (fun k _ s => .modAccount s k _) _) (.putSite s hx (fun h => absurd h hlive)
        fun _ i => ⟨i.hold, i.loss, i.interval, i.delivery, i.wait, i.late, i.period⟩)))

theorem safe_goLive : Safe reqGoLive := by
  intro x hx s
  unfold reqGoLive
  split
  · exact .refl x s
  · split
    · exact .refl x s
    · rename_i ready
      exact .goLive s hx.1 ready

theorem safe_standDown : Safe reqStandDown := by
  intro x hx s
  unfold reqStandDown
  split
  · exact .refl x s
  · rename_i live
    split
    · exact .refl x s
    · rename_i room
      unfold State.standDown
      split
      · exact .closeIntervals_standDown hx.1 _ (Nat.le_of_not_lt room) _
      · rename_i closed
        by_cases hlive : x = .live
        · subst hlive
          intro i
          have live : s.site.live = true := by simpa using live
          obtain ⟨interval, hinterval⟩ := Option.isSome_iff_exists.mp (i.interval.symm.trans live)
          obtain ⟨now, hnow⟩ := Option.isSome_iff_exists.mp (i.clock live)
          exact (closed interval now hinterval hnow).elim
        · exact .putSite s hx.1 (fun h => absurd h hlive)
            fun _ i => ⟨i.hold, i.loss, i.interval, i.delivery, i.wait, i.late, i.period⟩

theorem safe_loadGate (kind : Option UnitKind) (code : Option Code) (permission : Option Permission) :
    Safe (reqLoadGate kind code permission) := by
  intro x hx s
  unfold reqLoadGate
  split
  · split
    · exact .refl x s
    · exact .putPort s (fun _ i => ⟨i.notices, i.copies, i.rxQueue, i.frameErrors, i.rxOverflows⟩) fun h => absurd h hx.1
  · exact .refl x s

/-! ### Site tables (R1 to R11) -/

theorem Keeps.unitAbsent (a : Addr) : Keeps x s (s.unitAbsent a) :=
  .after (.forEach (fun n _ s => .refreshMark s n) _) (.modLink s a _)

theorem Keeps.unitGone (hx : x ≠ .engine) (a : Addr) : Keeps x s (s.unitGone a) := by
  unfold State.unitGone
  dsimp only
  exact .after (.forEach (fun c _ s => .returnOutcome s c .unitLost) _)
    (.after (.putOutstanding _ hx _) (.after (.putQueue _ List.filter_sublist) (.modLink s a _)))

theorem Keeps.storeUnit (hx : x.Lasting) (a : Addr) (new : Option UnitEntry) : Keeps x s (s.storeUnit a new) := by
  have put := Keeps.putUnitEntry s hx.1 a new
  unfold State.storeUnit
  dsimp only
  split
  · exact .after (.unitAbsent _ a) (.after (.modLink _ a _) put)
  · exact .after (.unitGone _ hx.2.2.1 a) put
  · split
    · exact put
    · exact .after (.unitAbsent _ a) put
  · split
    · exact .after (.unitGone _ hx.2.2.1 a) put
    · exact put

theorem safe_loadUnit (address : Nat) (form : LoadForm UnitFields) : Safe (reqLoadUnit address form) := by
  intro x hx s
  unfold reqLoadUnit
  split
  · exact .refl x s
  · rename_i a _
    have store (new : Option UnitEntry) : Keeps x s
        (if new = s.unitEntry a then (s, Reply.okWith (.unitEntry new))
        else match s.unitRefusal a new with
          | some code => (s, .refuse code)
          | none => (s.storeUnit a new, .okWith (.unitEntry new))).1 := by
      split
      · exact .refl x s
      · split
        · exact .refl x s
        · exact .storeUnit s hx a new
    dsimp only
    split
    · exact store none
    · split
      · exact .refl x s
      · exact store (some _)

theorem Keeps.storeFeeder (hx : x ≠ .fixed) (f : FeederNo) (new : Option FeederEntry) :
    Keeps x s (s.storeFeeder f new) := by
  unfold State.storeFeeder
  dsimp only
  split
  · exact .putFeederEntry s hx f new
  · exact .after (.putFeeder _ f fun _ _ => rfl) (.putFeederEntry s hx f new)

theorem safe_loadFeeder (feeder : Nat) (form : LoadForm FeederFields) : Safe (reqLoadFeeder feeder form) := by
  intro x hx s
  unfold reqLoadFeeder
  split
  · exact .refl x s
  · rename_i f _
    have store (new : Option FeederEntry) : Keeps x s
        (if new = s.feederEntry f then (s, Reply.okWith (.feederEntry new))
        else match s.feederRefusal f new with
          | some code => (s, .refuse code)
          | none => (s.storeFeeder f new, .okWith (.feederEntry new))).1 := by
      split
      · exact .refl x s
      · split
        · exact .refl x s
        · exact .storeFeeder s hx.1 f new
    dsimp only
    split
    · exact store none
    · split
      · exact .refl x s
      · exact store (some _)

theorem Keeps.moveUnit (hx : x ≠ .limits) (n : SetNo) (old new : Option SetEntry) : Keeps x s (s.moveUnit n old new) := by
  unfold State.moveUnit
  split
  · split
    · exact .refl x s
    · exact .after (.refreshMark _ n) (.modSet_times s hx n fun _ => rfl)
  · exact .refl x s

theorem Keeps.storeSet (hx : x ≠ .fixed) (hl : x ≠ .limits) (n : SetNo) (new : Option SetEntry) : Keeps x s (s.storeSet n new) := by
  have capacity : Keeps x s (new.elim (s.putSetEntry n new) fun e => (s.putSetEntry n new).storeCapacity n e.capacity) := by
    cases new with
    | none => exact .putSetEntry s hx n none
    | some e => exact .after (.storeCapacity _ n _) (.putSetEntry s hx n (some e))
  have moved := Keeps.after (.moveUnit _ hl n (s.setEntry n) new) capacity
  unfold State.storeSet
  dsimp only
  split
  · exact .after (.enterUnseen _ n hl _) moved
  · exact .after (.enterOffline _ n hl _) moved
  · exact moved

theorem safe_loadSet (set : Nat) (form : LoadForm SetFields) : Safe (reqLoadSet set form) := by
  intro x hx s
  unfold reqLoadSet
  split
  · exact .refl x s
  · rename_i n _
    have store (new : Option SetEntry) : Keeps x s
        (if new = s.setEntry n then (s, Reply.okWith (.setEntry new))
        else match s.setRefusal n new with
          | some code => (s, .refuse code)
          | none => (s.storeSet n new, .okWith (.setEntry new))).1 := by
      split
      · exact .refl x s
      · split
        · exact .refl x s
        · exact .storeSet s hx.1 hx.2.2.2.1 n new
    dsimp only
    split
    · exact store none
    · split
      · exact .refl x s
      · exact store (some _)

/-- A point entry is stored only while the point's sequencer is IDLE (R1). -/
theorem idle_of_pointRefusal {p : PointNo} {new : Option PointEntry} (h : s.pointRefusal p new = none) :
    (s.pointRec p).seq = none := by
  unfold State.pointRefusal at h
  split at h
  · cases h
  · split at h
    · cases h
    · rename_i idle
      simpa using idle

theorem Keeps.storePoint (hx : x ≠ .fixed) {p : PointNo} (new : Option PointEntry) (h : (s.pointRec p).seq = none) :
    Keeps x s (s.storePoint p new) := by
  have put := Keeps.putPointEntry s hx p new
  have idle : ((s.putPointEntry p new).pointRec p).seq = none := h
  unfold State.storePoint
  dsimp only
  have moved : Keeps x s (if (s.pointEntry p).map PointEntry.source = new.map PointEntry.source then
      s.putPointEntry p new
      else (s.putPointEntry p new).modPoint p fun r => { r with position := .unknown, selector := none }) := by
    split
    · exact put
    · exact .after (.modPoint _ p fun _ => sound_idle idle) put
  split
  · exact .after (.dropSchedule _ p) moved
  · exact moved

theorem safe_loadPoint (point : Nat) (form : LoadForm PointFields) : Safe (reqLoadPoint point form) := by
  intro x hx s
  unfold reqLoadPoint
  split
  · exact .refl x s
  · rename_i p _
    have store (new : Option PointEntry) : Keeps x s
        (if new = s.pointEntry p then (s, Reply.okWith (.pointEntry new))
        else match s.pointRefusal p new with
          | some code => (s, .refuse code)
          | none => (s.storePoint p new, .okWith (.pointEntry new))).1 := by
      split
      · exact .refl x s
      · split
        · exact .refl x s
        · rename_i passes
          exact .storePoint s hx.1 new (idle_of_pointRefusal s passes)
    dsimp only
    split
    · exact store none
    · split
      · exact .refl x s
      · exact store (some _)

theorem safe_loadAccount (account : Nat) (form : LoadForm AccountFields) : Safe (reqLoadAccount account form) := by
  intro x hx s
  unfold reqLoadAccount
  split
  · exact .refl x s
  · rename_i k _
    have store (new : Option AccountEntry) : Keeps x s
        (if (s.site.live && (s.accountEntry k).map AccountEntry.frozen ≠ new.map AccountEntry.frozen) = true then
          (s, Reply.refuse .state)
        else (s.putAccountEntry k new, .okWith (.accountEntry new))).1 := by
      split
      · exact .refl x s
      · exact .putAccountEntry s hx.1 k new
    dsimp only
    split
    · exact store none
    · split
      · exact .refl x s
      · exact store (some _)

end

end Sys2Proof.Keeping
end

section
/-! SUPPORT. What the requests about sets, points, deliveries and cycles keep, and what a frame keeps as a request. -/

namespace Sys2Proof.Keeping

open Sys2Proof Sys2Proof.Machine

section
variable {x : Aspect} (s : State)

/-! ### Reads, flags and counts (R54, R97, R107, R131, R185 to R187) -/

/-- A request that only reads. -/
theorem Safe.of_read {r : Request} (h : ∀ s, (r s).1 = s) : Safe r := fun x _ s => by rw [h]; exact .refl x s

theorem safe_readFeeder (feeder : Nat) : Safe (reqReadFeeder feeder) :=
  .of_read fun s => by unfold reqReadFeeder; split <;> rfl

theorem safe_readAccount (account : Nat) : Safe (reqReadAccount account) :=
  .of_read fun s => by unfold reqReadAccount; split <;> rfl

theorem safe_readTariff (table : Option TariffName) (cls : Nat) : Safe (reqReadTariff table cls) :=
  .of_read fun s => by
    unfold reqReadTariff
    split
    · rfl
    · split <;> rfl

/-- A change of the Port that leaves its queues and its counts in bounds. -/
theorem Keeps.putPort_of_lasting (hx : x.Lasting) {p : Port} (h : s.port.Bounded → p.Bounded) :
    Keeps x s { s with port := p } := .putPort s (fun _ => h) fun hf => absurd hf hx.1

theorem safe_readStatus : Safe reqReadStatus := fun _ hx s =>
  .putPort_of_lasting s hx fun i => ⟨i.notices, i.copies, i.rxQueue, i.frameErrors, i.rxOverflows⟩

theorem safe_clearFeederLimit (mask : Nat) : Safe (reqClearFeederLimit mask) := fun x hx s =>
  .forEach (fun f _ s => by
    split
    · exact .putLimitFlag s hx.2.2.2.1 f false
    · exact .refl x s) s

theorem safe_clearSetFlag (mask : Nat) : Safe (reqClearSetFlag mask) := fun x _ s =>
  .forEach (fun n _ s => by
    split
    · exact .modSet s n fun _ => rfl
    · exact .refl x s) s

theorem safe_clearTankFlag (mask : Nat) (names : TankFlagNames) : Safe (reqClearTankFlag mask names) := fun x _ s =>
  .forEach (fun n _ s => by
    split
    · exact .modTank_aside s n fun _ => ⟨rfl, rfl, rfl, rfl⟩
    · exact .refl x s) s

theorem safe_clearPointFlag (mask : Nat) : Safe (reqClearPointFlag mask) := by
  intro x _ s
  unfold reqClearPointFlag
  split
  · exact .refl x s
  · refine .forEach (fun p _ s => ?_) s
    split
    · exact .modPoint_aside s p fun _ => ⟨rfl, rfl⟩
    · exact .refl x s

theorem safe_clearUnitCounts (address : Nat) : Safe (reqClearUnitCounts address) := by
  intro x hx s
  unfold reqClearUnitCounts
  split
  · exact .putPort_of_lasting s hx fun i => ⟨i.notices, i.copies, i.rxQueue, Nat.zero_le _, Nat.zero_le _⟩
  · split
    · exact .refl x s
    · exact .after (.putPort_of_lasting _ hx fun i => ⟨i.notices, i.copies, i.rxQueue, i.frameErrors, i.rxOverflows⟩)
        (.modLink s _ _)

theorem Keeps.modHire_of_ne (hx : x ≠ .times) (n : SetNo) (f : Hire → Hire) : Keeps x s (s.modHire n f) :=
  .modSet_of_ne s hx n fun _ => rfl

theorem safe_clearHire (set : Nat) : Safe (reqClearHire set) := by
  intro x hx s
  have ht := hx.2.2.2.2
  unfold reqClearHire
  split
  · exact .after (.putUnattributed _ 0) (.forEach (fun n _ s => .modHire_of_ne s ht n _) s)
  · split
    · exact .refl x s
    · exact .modHire_of_ne s ht _ _

/-! ### Requests to a set (R80, R84, R88) -/

theorem safe_setStart (set : Nat) : Safe (reqSetStart set) := by
  intro x _ s
  unfold reqSetStart
  split
  · exact .refl x s
  · split
    case h_4 =>
      split
      · exact .refl x s
      · dsimp only
        exact .enterStarting s _ _
    case h_5 => exact .clearStopPending s _
    case h_8 =>
      dsimp only
      exact .changeRun s _ _ _ _
    case h_9 =>
      split
      · exact .refl x s
      · dsimp only
        exact .changeRun s _ _ _ _
    all_goals exact .refl x s

theorem Keeps.stopSet (n : SetNo) : Keeps x s (s.stopSet n) := by
  unfold State.stopSet
  split
  · exact .enterCooling s n _
  · exact .enterStopping s n _
  · exact .modSet s n fun r => by unfold SetRec.setStopPending; split <;> rfl
  · split
    · exact .enterStopping s n _
    · exact .refl x s
  all_goals exact .refl x s

theorem safe_setStop (set : Nat) : Safe (reqSetStop set) := by
  intro x _ s
  unfold reqSetStop
  split
  · exact .refl x s
  · dsimp only
    split
    · exact .refl x s
    · split
      · exact .refl x s
      · split
        · exact .refl x s
        · exact .stopSet s _

theorem Keeps.leaveFault (n : SetNo) (engine : EngineState) : Keeps x s (s.leaveFault n engine) := by
  unfold State.leaveFault
  split
  · exact .enterWarming s n _ _
  · exact .changeRun s n _ _ _

theorem safe_setClearFault (set : Nat) : Safe (reqSetClearFault set) := by
  intro x _ s
  unfold reqSetClearFault
  split
  · exact .refl x s
  · dsimp only
    split
    · exact .refl x s
    · split
      · exact .refl x s
      · split <;> dsimp only
        · exact .refl x s
        · exact .leaveFault s _ _
        · exact .leaveFault s _ _

/-! ### Requests to a point, and the schedule (R127 to R129, R140, R143, R144) -/

theorem safe_changeover (point : Nat) (side : Option Side) : Safe (reqChangeover point side) := by
  intro x _ s
  unfold reqChangeover
  split
  · exact .refl x s
  · split
    · exact .refl x s
    · split
      · exact .refl x s
      · split
        · exact .refl x s
        · split
          · exact .refl x s
          · rename_i accepted
            exact .acceptChangeover accepted _

theorem safe_cancelChangeover (point : Nat) : Safe (reqCancelChangeover point) := by
  intro x _ s
  unfold reqCancelChangeover
  split
  · exact .refl x s
  · rename_i p _
    split
    · exact .refl x s
    · split
      · exact .refl x s
      · rename_i q hseq
        split
        · exact .endSequence s p _ _
        · split
          · exact .endSequence s p _ _
          · exact .putSeq s p _ fun i => sound_put (q := { q with abort := _ }) ((sound_seq hseq).mp i)
        · split
          · exact .enterRecovering s p q _ (position_known hseq)
          · exact .endSequence s p _ _
        · exact .refl x s
        · exact .refl x s

theorem length_insertSchedule (e : ScheduleEntry) (xs : List ScheduleEntry) :
    (insertSchedule e xs).length = xs.length + 1 := by
  induction xs with
  | nil => rfl
  | cons y ys ih =>
    unfold insertSchedule
    split
    · rw [List.length_cons, ih, List.length_cons]
    · rfl

theorem safe_loadSchedule (day second point : Nat) (side : Option Side) :
    Safe (reqLoadSchedule day second point side) := by
  intro x _ s
  unfold reqLoadSchedule
  split
  · exact .refl x s
  · split
    · exact .refl x s
    · split
      · exact .refl x s
      · dsimp only
        split
        · exact .refl x s
        · split
          · exact .refl x s
          · split
            · exact .refl x s
            · split
              · exact .refl x s
              · split
                · exact .refl x s
                · rename_i room
                  exact .putSchedule s fun _ => by rw [length_insertSchedule]; omega

theorem safe_deleteSchedule (point day second : Nat) : Safe (reqDeleteSchedule point day second) := by
  intro x _ s
  unfold reqDeleteSchedule
  split
  · exact .refl x s
  · dsimp only
    split
    · exact .putSchedule s fun i => Nat.le_trans (List.length_filter_le _ _) i
    · exact .refl x s

/-! ### Tanks, deliveries and tickets (R103, R119, R121) -/

theorem tankLevel_le {n : SetNo} {level : TankLevel} {l : Nat} (h : s.tankLevel n level = some l) :
    l ≤ (s.tank n).capacity := by
  unfold State.tankLevel at h
  split at h
  · cases h
    exact Nat.min_le_left _ _
  · split at h
    · cases h
    · split at h
      · cases h
      · cases h
        exact Nat.min_le_left _ _

theorem safe_tankSet (set : Nat) (level : TankLevel) : Safe (reqTankSet set level) := by
  intro x _ s
  unfold reqTankSet
  split
  · exact .refl x s
  · split
    · exact .refl x s
    · split
      · exact .refl x s
      · split
        · exact .refl x s
        · rename_i fits
          exact .setBook s (tankLevel_le s fits)

/-- A cancel mark keeps the phase of its session. -/
theorem claims_cancel {r : MeterRec} {y : Session} (h : r.session = some y) :
    claims { r with session := some { y with cancel := true }, due := true } = claims r := by
  unfold claims
  rw [h]

theorem safe_cancelDelivery (meter : Nat) : Safe (reqCancelDelivery meter) := by
  intro x _ s
  unfold reqCancelDelivery
  split
  · exact .refl x s
  · rename_i m _
    split
    · exact .refl x s
    · rename_i y hsession
      have mark : Keeps x s ((s.modMeter m fun r =>
          { r with session := some { y with cancel := true }, due := true }).tryEnqueueMeter m) :=
        .after (.tryEnqueueMeter _ m) (.modMeter s m fun c => by rwa [claims_cancel hsession] at c)
      dsimp only
      split
      · split
        · exact .refl x s
        · split
          · exact .endSession s m _
          · exact mark
      · split
        · exact .refl x s
        · exact mark
      · exact .refl x s

theorem Keeps.dropTickets (n : Nat) : Keeps x s { s with tickets := s.tickets.drop n } := by
  by_cases hx : x = .tickets
  · subst hx
    intro i
    have := List.length_drop (i := n) (l := s.tickets)
    show (s.tickets.drop n).length + s.placesClaimed ≤ 16
    omega
  · exact .putTickets hx s _

theorem safe_releaseTickets (count : Nat) : Safe (reqReleaseTickets count) := by
  intro x _ s
  unfold reqReleaseTickets
  dsimp only
  split
  · exact .dropTickets s _
  · exact .after (.forEach (fun m _ s => .modMeter s m fun c => by rwa [claims_unhold] at c) _) (.dropTickets s _)

/-! ### Cycles and pass-through commands (R38 to R40, R188) -/

theorem safe_startCycles : Safe reqStartCycles := by
  intro x hx s
  unfold reqStartCycles
  split
  · exact .refl x s
  · split
    · dsimp only
      exact .startRun s hx.2.2.1 hx.1 hx.2.2.2.1 hx.2.2.2.2 hx.2.1
    · exact .refl x s

theorem safe_stopCycles : Safe reqStopCycles := by
  intro x hx s
  unfold reqStopCycles
  split
  · exact .stopCycles s hx.2.2.1 hx.1 hx.2.1
  · exact .refl x s

theorem safe_fieldRestart : Safe reqFieldRestart := fun _ hx s => .fieldRestart s hx.2.2.1

theorem safe_passThrough (a : Addr) (tag : Byte) (code : Option Code) (args : List Byte) :
    Safe (reqPassThrough a tag code args) := by
  intro x _ s
  unfold reqPassThrough
  split
  · exact .refl x s
  · split
    · exact .refl x s
    · exact .refl x s
    · split
      · exact .refl x s
      · rename_i queued
        exact .enqueue queued

end

/-! ### The layouts (R185, R196) -/

theorem Safe.noFields {r q : Request} (h : Safe r) {payload : List Byte} (hq : noFields r payload = some q) : Safe q := by
  unfold Machine.noFields at hq
  split at hq
  · cases hq; exact h
  · cases hq

theorem Safe.oneByte {r : Nat → Request} {q : Request} (h : ∀ b, Safe (r b)) {payload : List Byte}
    (hq : oneByte r payload = some q) : Safe q := by
  unfold Machine.oneByte at hq
  split at hq
  · cases hq; exact h _
  · cases hq

theorem Safe.loadForm {α : Type} {r : Nat → LoadForm α → Request} {fields : List Byte → Option α} {q : Request}
    (h : ∀ i form, Safe (r i form)) {payload : List Byte} (hq : loadForm r fields payload = some q) : Safe q := by
  unfold Machine.loadForm at hq
  split at hq
  · cases hq
  · split at hq
    · cases hq; exact h _ _
    · obtain ⟨u, -, rfl⟩ := Option.map_eq_some_iff.mp hq
      exact h _ _

theorem Safe.fixedForm {widths : List Nat} {r : List Nat → Option Request} {q : Request}
    (h : ∀ values y, fieldsOf widths payload = some values → r values = some y → Safe y)
    (hq : fixedForm widths r payload = some q) : Safe q := by
  obtain ⟨values, hv, hy⟩ := Option.bind_eq_some_iff.mp hq
  exact h values q hv hy

end Sys2Proof.Keeping
end

section
/-! SUPPORT. What frames, the transmitter, the receiver and the resets keep; and what a step keeps. -/

namespace Sys2Proof.Keeping

open Sys2Proof Sys2Proof.Machine

/-! ### The layouts (R185, R196) -/

theorem beNat_concat (bs : List Byte) (b : Byte) : beNat (bs ++ [b]) = beNat bs * 256 + b.toNat := by
  unfold beNat
  rw [List.foldl_append]
  rfl

theorem beNat_lt (bs : List Byte) : beNat bs < 256 ^ bs.length := by
  induction bs using List.reverseRecOn with
  | nil => exact Nat.one_pos
  | append_singleton bs b ih =>
    have := b.isLt
    rw [beNat_concat, List.length_append, List.length_singleton, Nat.pow_succ]
    omega

/-- A first field of two bytes. -/
theorem first_le {ws values : List Nat} {payload : List Byte} {v : Nat}
    (h : fieldsOf (2 :: ws) payload = some (v :: values)) : v ≤ 65535 := by
  unfold fieldsOf at h
  split at h
  · cases h
  · obtain ⟨rest, -, e⟩ := Option.map_eq_some_iff.mp h
    have := beNat_lt (payload.take 2)
    have taken : (payload.take 2).length = 2 := by rw [List.length_take]; omega
    rw [taken] at this
    cases e
    omega

theorem safe_siteRequest {payload : List Byte} {r : Request} (h : siteRequest payload = some r) : Safe r := by
  unfold siteRequest at h
  obtain ⟨values, -, hr⟩ := Option.bind_eq_some_iff.mp h
  split at hr
  · cases hr
    exact safe_loadSite _
  · cases hr

theorem safe_tariffRequest {payload : List Byte} {r : Request} (h : tariffRequest payload = some r) : Safe r := by
  unfold tariffRequest at h
  obtain ⟨values, -, hr⟩ := Option.bind_eq_some_iff.mp h
  split at hr
  · obtain ⟨bands, -, hr⟩ := Option.bind_eq_some_iff.mp hr
    cases hr
    exact safe_loadTariffClass _ _ _ _
  · cases hr

theorem safe_clearRequest {payload : List Byte} {r : Request} (h : clearRequest payload = some r) : Safe r := by
  unfold clearRequest at h
  split at h
  · cases h
  · dsimp only at h
    split at h
    · split at h
      · cases h; exact safe_clearFeederLimit _
      · cases h
    · split at h
      · cases h; exact safe_clearSetFlag _
      · cases h
    · split at h
      · cases h; exact safe_clearTankFlag _ _
      · cases h
    · split at h
      · cases h; exact safe_clearPointFlag _
      · cases h
    · exact .oneByte safe_clearUnitCounts h
    · cases h
      exact .of_read fun _ => rfl

/-- Every management request keeps every lasting aspect (R185). -/
theorem safe_requestOf {kind : Nat} {payload : List Byte} {r : Request} (h : requestOf kind payload = some r) : Safe r := by
  unfold requestOf at h
  split at h
  · exact .noFields safe_readStatus h
  · exact .fixedForm (fun values y hv hy => by
      split at hy
      · cases hy
        exact fun x hx s => .reqSetClock s hx.1 fun _ => first_le hv
      · cases hy) h
  · exact .fixedForm (fun values y _ hy => by
      split at hy
      · cases hy; exact safe_setCycle _
      · cases hy) h
  · exact .noFields safe_startCycles h
  · exact .noFields safe_stopCycles h
  · exact .noFields safe_goLive h
  · exact .noFields safe_standDown h
  · exact .noFields safe_fieldRestart h
  · exact .loadForm safe_loadUnit h
  · exact .loadForm safe_loadFeeder h
  · exact .loadForm safe_loadSet h
  · exact .loadForm safe_loadPoint h
  · exact .loadForm safe_loadAccount h
  · exact safe_siteRequest h
  · exact .fixedForm (fun values y _ hy => by
      split at hy
      · cases hy; exact safe_loadGate _ _ _
      · cases hy) h
  · exact .fixedForm (fun values y _ hy => by
      split at hy
      · cases hy; exact .of_read fun _ => rfl
      · cases hy) h
  · exact .oneByte (fun _ => .of_read fun _ => rfl) h
  · exact .oneByte safe_readFeeder h
  · exact .oneByte (fun _ => .of_read fun _ => rfl) h
  · exact .oneByte (fun _ => .of_read fun _ => rfl) h
  · exact .oneByte safe_readAccount h
  · exact safe_clearRequest h
  · exact .oneByte safe_setStart h
  · exact .oneByte safe_setStop h
  · exact .oneByte safe_setClearFault h
  · exact .oneByte safe_clearHire h
  · exact .fixedForm (fun values y _ hy => by
      split at hy
      · cases hy; exact safe_changeover _ _
      · cases hy) h
  · exact .oneByte safe_cancelChangeover h
  · exact .fixedForm (fun values y _ hy => by
      split at hy
      · cases hy; exact safe_loadSchedule _ _ _ _
      · cases hy) h
  · exact .fixedForm (fun values y _ hy => by
      split at hy
      · cases hy; exact safe_deleteSchedule _ _ _
      · cases hy) h
  · exact .noFields (.of_read fun _ => rfl) h
  · exact .fixedForm (fun values y _ hy => by
      split at hy
      · cases hy; exact safe_tankSet _ _
      · cases hy) h
  · exact .oneByte safe_cancelDelivery h
  · exact .noFields (.of_read fun _ => rfl) h
  · exact .oneByte safe_releaseTickets h
  · exact safe_tariffRequest h
  · exact .noFields safe_commitTariff h
  · exact .noFields safe_discardTariff h
  · exact .oneByte (fun _ => safe_trial _) h
  · exact .fixedForm (fun values y _ hy => by
      split at hy
      · cases hy; exact safe_readTariff _ _
      · cases hy) h
  · exact .noFields (.of_read fun _ => rfl) h
  · exact .fixedForm (fun values y _ hy => by
      split at hy
      · cases hy; exact safe_releaseRecords _
      · cases hy) h
  · exact .oneByte safe_closeBill h
  · cases h

theorem safe_handleFrame (f : OfficeFrame) : Safe (handleFrame f) := by
  intro x hx s
  unfold handleFrame
  split
  · split
    · exact .refl x s
    · rename_i managed
      exact safe_requestOf managed x hx s
  · split
    · exact .refl x s
    · split
      · exact .refl x s
      · exact safe_passThrough _ _ _ _ x hx s

section
variable {x : Aspect} (s : State)

/-! ### The Port (R180 to R184) -/

theorem Keeps.respond (hx : x.Lasting) (destination tag kind : Byte) (y : State × Reply) :
    Keeps x y.1 (State.respond destination tag kind y) :=
  .putPort_of_lasting y.1 hx fun i => ⟨i.notices, i.copies, i.rxQueue, i.frameErrors, i.rxOverflows⟩

theorem Keeps.takeFrame (hx : x.Lasting) : Keeps x s s.takeFrame := by
  unfold State.takeFrame
  split
  · rename_i f rest _ hqueue
    refine .after (.respond hx _ _ _ _) (.after (safe_handleFrame f x hx _) (.putPort_of_lasting s hx fun i => ?_))
    have := i.rxQueue
    rw [hqueue, List.length_cons] at this
    exact ⟨i.notices, i.copies, Nat.le_trans (Nat.le_succ _) this, i.frameErrors, i.rxOverflows⟩
  · exact .refl x s

theorem startTx_bounded {p : Port} (i : p.Bounded) : p.startTx.Bounded := by
  unfold Port.startTx
  split
  · exact ⟨i.notices, i.copies, i.rxQueue, i.frameErrors, i.rxOverflows⟩
  · exact i

theorem startTx_gate (p : Port) : p.startTx.gate = p.gate := by
  unfold Port.startTx
  split <;> rfl

theorem Keeps.startTx : Keeps x s s.startTx := .putPort s (fun _ => startTx_bounded) fun _ => startTx_gate _

theorem sent_bounded {p : Port} (i : p.Bounded) : p.sent.Bounded := by
  unfold Port.sent
  split
  · exact i
  · exact ⟨i.notices, i.copies, i.rxQueue, i.frameErrors, i.rxOverflows⟩
  · refine ⟨Nat.le_trans ?_ i.notices, i.copies, i.rxQueue, i.frameErrors, i.rxOverflows⟩
    rw [List.length_tail]
    exact Nat.sub_le _ _
  · refine ⟨i.notices, Nat.le_trans ?_ i.copies, i.rxQueue, i.frameErrors, i.rxOverflows⟩
    rw [List.length_tail]
    exact Nat.sub_le _ _

theorem Keeps.frameSent (hx : x.Lasting) : Keeps x s s.frameSent :=
  .after (.startTx _) (.after (.takeFrame _ hx) (.putPort_of_lasting s hx sent_bounded))

theorem Keeps.offerFrame (hx : x.Lasting) (f : OfficeFrame) : Keeps x s (s.offerFrame f) := by
  unfold State.offerFrame
  dsimp only
  split
  · rename_i room
    refine .after (.takeFrame _ hx) (.putPort_of_lasting s hx fun i => ?_)
    exact ⟨i.notices, i.copies, by rw [List.length_append]; exact room, i.frameErrors, i.rxOverflows⟩
  · exact .putPort_of_lasting s hx fun i => ⟨i.notices, i.copies, i.rxQueue, i.frameErrors, count16_le _⟩

theorem Keeps.frameError (hx : x.Lasting) : Keeps x s s.frameError :=
  .putPort_of_lasting s hx fun i => ⟨i.notices, i.copies, i.rxQueue, count16_le _, i.rxOverflows⟩

theorem Keeps.orxByte (hx : x.Lasting) (b : OrxByte) : Keeps x s (s.orxByte b) := by
  unfold State.orxByte
  split
  · exact .putPort_of_lasting s hx fun i => ⟨i.notices, i.copies, i.rxQueue, i.frameErrors, i.rxOverflows⟩
  · exact .after (.startTx _) (.offerFrame s hx _)
  · exact .frameError s hx

theorem Keeps.officeBytes (hx : x.Lasting) (ten : Bool) (orx : List OrxByte) : Keeps x s (s.officeBytes ten orx) :=
  .after (.startTx _) (.after (.forEach (fun b _ s => .orxByte s hx b) _) (.sampleTen s hx.1 ten))

theorem Keeps.byteGap (hx : x.Lasting) : Keeps x s s.byteGap := by
  unfold State.byteGap
  split
  · exact .refl x s
  · exact .frameError s hx

theorem Keeps.drain (hx : x.Lasting) (n : Nat) (s : State) : Keeps x s (s.drain n) := by
  induction n generalizing s with
  | zero => exact .refl x s
  | succ n ih =>
    unfold State.drain
    split
    · exact .refl x s
    · exact .after (ih _) (.after (.frameSent _ hx) (.after (.startTx _) (.takeFrame s hx)))

/-! ### What is left over (log entry 6) -/

theorem Keeps.settle (hd : x ≠ .due) : Keeps x s s.settle := by
  unfold State.settle
  split
  · exact .refl x s
  · exact .after (.startTx _) (.forEach (fun e _ s => .takeEvent s hd e) s)

/-- A request is taken once what was left over is taken (R182). -/
theorem Keeps.serve (hx : x.Lasting) (destination tag kind : Byte) {r : Request}
    (h : ∀ s, Keeps x s (r s).1) : Keeps x s.settle (s.serve destination tag kind r) := by
  unfold State.serve State.quiet
  exact .after (.startTx _) (.after (.respond hx _ _ _ _) (.after (h _) (.drain hx _ _)))

/-! ### The resets (R17) -/

/-- The state after reset meets every invariant of the aspects. -/
theorem reset_sound : State.reset.Bounded ∧ State.reset.TanksSound ∧ State.reset.site.InRange ∧
    State.reset.billing.ClockInRange ∧ State.reset.LiveSound ∧ State.reset.DueSound ∧ State.reset.PointsSound := by
  refine ⟨⟨⟨Nat.zero_le _, Nat.zero_le _⟩, Nat.zero_le _, Nat.zero_le _, by decide,
      ⟨Nat.zero_le _, Nat.zero_le _, Nat.zero_le _, Nat.zero_le _, Nat.zero_le _⟩⟩, fun n => ?_,
    ⟨by decide, by decide, by decide, by decide, by decide, by decide, by decide⟩, fun _ h => (by cases h),
    ⟨rfl, fun h => (by cases h), fun h => (by cases h), fun h => (by cases h)⟩, fun _ => rfl, fun p => ?_⟩
  · have : State.reset.tank n = .reset := Vector.getElem_replicate _
    rw [this]
    exact ⟨Nat.le_refl _, by decide, Nat.zero_le _⟩
  · have : State.reset.pointRec p = .reset := Vector.getElem_replicate _
    rw [this]
    exact sound_idle rfl

/-- A power-on reset keeps the queue of commands, and meets every invariant. -/
theorem Keeps.powerOn (hx : x.Lasting) (hd : x ≠ .due) (ten : Bool) : Keeps x s (s.powerOn ten) := by
  obtain ⟨bounded, tanks, site, clock, live, -, points⟩ := reset_sound
  obtain ⟨fixed, running, engine, limits, times⟩ := hx
  cases x with
  | fixed => exact absurd rfl fixed
  | running => exact absurd rfl running
  | engine => exact absurd rfl engine
  | limits => exact absurd rfl limits
  | times => exact absurd rfl times
  | due => exact absurd rfl hd
  | pending => exact rfl
  | ranges => exact fun _ => ⟨site, clock⟩
  | queue => exact fun _ => bounded.queue
  | schedule => exact fun _ => bounded.schedule
  | records => exact fun _ => bounded.records
  | tickets => exact fun _ => bounded.tickets
  | port => exact fun _ => bounded.port
  | tanks => exact fun _ => tanks
  | points => exact fun _ => points
  | live => exact fun _ => ⟨live.interval, live.clock, live.tariff, live.commit⟩

theorem Keeps.resetEngine (hx : x.Lasting) : Keeps x s s.resetEngine :=
  .putEngine s hx.2.2.1 (fun _ => List.nil_sublist _) (fun h => absurd h hx.2.1) fun h => absurd h hx.1

theorem Keeps.resetMeters : Keeps x s { s with meters := Vector.replicate 2 .reset } := by
  cases x with
  | tickets =>
    intro i
    have free : (({ s with meters := Vector.replicate 2 .reset } : State).placesClaimed) = 0 := rfl
    rw [free]
    exact Nat.le_trans (Nat.add_le_add_left (Nat.zero_le _) _) i
  | _ => exact .of_same rfl

theorem Keeps.resetFuel : Keeps x s s.resetFuel := by
  unfold State.resetFuel
  dsimp only
  refine .after (.resetMeters _) (.after (.forEach (fun n _ s => .modTank s n fun i => ?_) _)
    (.forEach (fun m _ s => ?_) s))
  · exact ⟨i.book, i.residue, Nat.zero_le _⟩
  · unfold State.settleSession
    split
    · split
      · exact .refl x s
      · exact .addDelivered s _ _
    · exact .refl x s

theorem lineReset_bounded {p : Port} (i : p.Bounded) : p.lineReset.Bounded :=
  ⟨Nat.zero_le _, Nat.zero_le _, Nat.zero_le _, i.frameErrors, i.rxOverflows⟩

theorem Keeps.lineReset (hx : x.Lasting) (hd : x = .due → s.due = []) : Keeps x s s.lineReset := by
  have sets (t : State) : Keeps x t t.resetSets := .forEach (fun n _ s => .modSet_any s hx.2.2.2.2 hx.2.2.2.1 n _) t
  have points (t : State) : Keeps x t t.resetPoints :=
    .forEach (fun p _ s => .modPoint s p fun _ => sound_idle rfl) t
  have links (t : State) : Keeps x t t.resetLinks := .forEach (fun a _ s => .modLink s a _) t
  have started : Keeps x s { s with ten := true, due := [] } := by
    by_cases h : x = .due
    · subst h
      exact (hd rfl).symm
    · exact .after (.putDue { s with ten := true } h []) (.putTen s hx.1 true)
  have reset := Keeps.after (.markGap _) (.after (points _) (.after (sets _) (.after (.resetFuel _)
    (.after (.clearFeeders _) (.after (links _) (.after (.resetEngine _ hx) started))))))
  exact .after (.putPort_of_lasting _ hx lineReset_bounded) reset

end

end Sys2Proof.Keeping
end

section
/-! SUPPORT. What every command does with what is left over, and what it keeps (log entries 1 and 6). -/

namespace Sys2Proof.Keeping

open Sys2Proof Sys2Proof.Machine

/-- A command that sets no day of the clock above the last (R161). -/
def DayFits (i : Instr) : Prop := ∀ tag day second ms, i = .setClock tag day second ms → day ≤ 65535

/-- What a command makes of a state: a power-on reset, a timed event of its own, a cycle start or a slot end, which may leave events over,
or, once what was left over is taken, something that keeps every lasting aspect. -/
inductive Taken (i : Instr) (s : State) : State → Prop
  | reset (ten : Bool) : Taken i s (s.powerOn ten)
  | timed (e : TimedEvent) : Taken i s (s.takeEvent e).startTx
  | cycle (selectLast : Bool) (deferred : List TimedEvent) : Taken i s (s.settle.nextCycle selectLast deferred).startTx
  | slot (received : SlotInput) (deferred : List TimedEvent) : Taken i s (s.settle.endSlot received deferred).startTx
  | settled {t : State} (h : ∀ x : Aspect, x.Lasting → (x = .ranges → DayFits i) → Keeps x s.settle t) : Taken i s t

theorem exec_taken (i : Instr) (s : State) : ∃ t, exec i s = .next t ∧ Taken i s t := by
  have served : ∀ {destination tag kind : Byte} {r : Request}, Safe r → Taken i s (s.serve destination tag kind r) :=
    fun h => .settled fun x hx _ => .serve s hx _ _ _ (h x hx)
  cases i with
  | powerOnReset ten => exact ⟨_, rfl, .reset ten⟩
  | lineReset => exact ⟨_, rfl, .settled fun x hx _ => .lineReset _ hx fun _ => s.settle_due⟩
  | tenFall => exact ⟨_, rfl, .settled fun x hx _ => .after (.startTx _) (.tenFall _ hx.1)⟩
  | cycleStart => exact ⟨_, rfl, .cycle _ _⟩
  | loadChangeoverRequest | holdLimitCloseOff | warmUpExpiry | coolDownExpiry | crankWindowExpiry |
    prepareTimeout | confirmTimeout | deadTimeExpiry | windowExpiry | ticketWaitExpiry | scheduleFire |
    intervalCloseDue | linkLost | discrepancySet =>
    exact ⟨_, rfl, .timed _⟩
  | slotEnd => exact ⟨_, rfl, .slot _ _⟩
  | byteGapTimeout => exact ⟨_, rfl, .settled fun x hx _ => .byteGap _ hx⟩
  | officeFrameReceived => exact ⟨_, rfl, .settled fun x hx _ => .officeBytes _ hx _ _⟩
  | frameTransmitted => exact ⟨_, rfl, .settled fun x hx _ => .frameSent _ hx⟩
  | readStatus _ ten => exact ⟨_, rfl, served (.atTen safe_readStatus ten)⟩
  | setClock =>
    exact ⟨_, rfl, .settled fun x hx day => .serve s hx _ _ _ fun u => .reqSetClock u hx.1 fun hr => day hr _ _ _ _ rfl⟩
  | setCycle => exact ⟨_, rfl, served (safe_setCycle _)⟩
  | startCycles => exact ⟨_, rfl, served safe_startCycles⟩
  | stopCycles => exact ⟨_, rfl, served safe_stopCycles⟩
  | goLive => exact ⟨_, rfl, served safe_goLive⟩
  | standDown => exact ⟨_, rfl, served safe_standDown⟩
  | fieldRestart => exact ⟨_, rfl, served safe_fieldRestart⟩
  | loadUnit => exact ⟨_, rfl, served (safe_loadUnit _ _)⟩
  | loadFeeder => exact ⟨_, rfl, served (safe_loadFeeder _ _)⟩
  | loadSet => exact ⟨_, rfl, served (safe_loadSet _ _)⟩
  | loadPoint => exact ⟨_, rfl, served (safe_loadPoint _ _)⟩
  | loadAccount => exact ⟨_, rfl, served (safe_loadAccount _ _)⟩
  | loadSite => exact ⟨_, rfl, served (safe_loadSite _)⟩
  | loadGate => exact ⟨_, rfl, served (safe_loadGate _ _ _)⟩
  | readTable | readUnit | readSet | readPoint | readSchedule | readTickets | readRecords =>
    exact ⟨_, rfl, served (.of_read fun _ => rfl)⟩
  | readFeeder => exact ⟨_, rfl, served (safe_readFeeder _)⟩
  | readAccount => exact ⟨_, rfl, served (safe_readAccount _)⟩
  | clearFlagsFeederLimit => exact ⟨_, rfl, served (safe_clearFeederLimit _)⟩
  | clearFlagsSetFlag => exact ⟨_, rfl, served (safe_clearSetFlag _)⟩
  | clearFlagsTankFlag => exact ⟨_, rfl, served (safe_clearTankFlag _ _)⟩
  | clearFlagsPointFlag => exact ⟨_, rfl, served (safe_clearPointFlag _)⟩
  | clearFlagsUnitCounts => exact ⟨_, rfl, served (safe_clearUnitCounts _)⟩
  | setStart => exact ⟨_, rfl, served (safe_setStart _)⟩
  | setStop => exact ⟨_, rfl, served (safe_setStop _)⟩
  | setClearFault => exact ⟨_, rfl, served (safe_setClearFault _)⟩
  | clearHire => exact ⟨_, rfl, served (safe_clearHire _)⟩
  | changeover => exact ⟨_, rfl, served (safe_changeover _ _)⟩
  | cancelChangeover => exact ⟨_, rfl, served (safe_cancelChangeover _)⟩
  | loadSchedule => exact ⟨_, rfl, served (safe_loadSchedule _ _ _ _)⟩
  | deleteSchedule => exact ⟨_, rfl, served (safe_deleteSchedule _ _ _)⟩
  | tankSet => exact ⟨_, rfl, served (safe_tankSet _ _)⟩
  | cancelDelivery => exact ⟨_, rfl, served (safe_cancelDelivery _)⟩
  | releaseTickets => exact ⟨_, rfl, served (safe_releaseTickets _)⟩
  | loadTariffClass _ ten _ _ _ _ => exact ⟨_, rfl, served (.atTen (safe_loadTariffClass _ _ _ _) ten)⟩
  | commitTariff _ ten => exact ⟨_, rfl, served (.atTen safe_commitTariff ten)⟩
  | discardTariff _ ten => exact ⟨_, rfl, served (.atTen safe_discardTariff ten)⟩
  | trial => exact ⟨_, rfl, served (safe_trial _)⟩
  | readTariff _ ten _ _ => exact ⟨_, rfl, served (.atTen (safe_readTariff _ _) ten)⟩
  | releaseRecords => exact ⟨_, rfl, served (safe_releaseRecords _)⟩
  | closeBill => exact ⟨_, rfl, served (safe_closeBill _)⟩
  | alarmReset | lampTest | indicate | resetMax | identify | message =>
    exact ⟨_, rfl, served (safe_passThrough _ _ _ _)⟩
  | headerWindowEnd => exact ⟨_, rfl, .settled fun x hx _ => .endHeaderWindow _ hx.2.2.1 hx.1⟩
  | unlistedOfficeFrame => exact ⟨_, rfl, served (safe_handleFrame _)⟩

/-- Every command keeps every lasting aspect but what is left over; the range of the clock where the day fits. -/
theorem Taken.keeps {i : Instr} {s t : State} (h : Taken i s t) {x : Aspect} (hx : x.Lasting) (hd : x ≠ .due)
    (day : x = .ranges → DayFits i) : Keeps x s t := by
  cases h with
  | reset ten => exact .powerOn s hx hd ten
  | timed e => exact .after (.startTx _) (.takeEvent s hd e)
  | cycle selectLast deferred =>
    exact .after (.startTx _) (.after (.nextCycle _ hx.2.2.1 hx.1 hx.2.2.2.1 hx.2.2.2.2 (fun h => absurd h hd) _)
      (.settle s hd))
  | slot received deferred =>
    exact .after (.startTx _) (.after (.endSlot _ hx.2.2.1 hx.1 hx.2.2.2.1 _ _ fun h => absurd h hd) (.settle s hd))
  | settled h => exact .after (h x hx day) (.settle s hd)

/-- While HALTED no cycle start and no slot end occurs. -/
theorem due_of_halted {s t : State} (running : Keeps .running s t) (halted : s.engine.running = false → t = s)
    (h : s.due = []) : t.DueSound := fun ht => by
  rw [halted ((show t.engine.running = s.engine.running from running) ▸ ht), h]

/-- What is left over is taken, or left over while RUNNING (log entry 6). -/
theorem Taken.due {i : Instr} {s t : State} (h : Taken i s t) (hs : s.DueSound) : t.DueSound := by
  cases h with
  | reset ten => exact fun _ => rfl
  | timed e =>
    intro ht
    have running : Keeps .running s (s.takeEvent e) := .takeEvent s (by simp) e
    have empty := hs ((show (s.takeEvent e).engine.running = s.engine.running from running) ▸ ht)
    show (s.takeEvent e).due = []
    rw [State.takeEvent_due, empty]
    rfl
  | cycle selectLast deferred =>
    refine due_of_halted (s := s.settle) (t := s.settle.nextCycle selectLast deferred) ?_ (fun halted => ?_) s.settle_due
    · exact .nextCycle _ (by simp) (by simp) (by simp) (by simp) (by simp) _
    · simp [State.nextCycle, halted]
  | slot received deferred =>
    refine due_of_halted (s := s.settle) (t := s.settle.endSlot received deferred) ?_ (fun halted => ?_) s.settle_due
    · exact .endSlot _ (by simp) (by simp) (by simp) _ _ (by simp)
    · simp [State.endSlot, halted]
  | settled h =>
    have due : Keeps .due s.settle t := h .due (by simp [Aspect.Lasting]) (by simp)
    exact fun _ => (show t.due = s.settle.due from due).trans s.settle_due

/-- The aspects that a step keeps whatever its command. -/
def Aspect.OfStep (x : Aspect) : Prop := x.Lasting ∧ x ≠ .due ∧ x ≠ .pending ∧ x ≠ .ranges

/-- Every step keeps every lasting aspect but the queue of commands and what is left over; the range of the clock where the day fits. -/
theorem step_keeps {x : Aspect} (hx : x.OfStep) {s t : State} (h : step s = .next t) : Keeps x s t := by
  obtain ⟨hx, hd, hp, hr⟩ := hx
  cases hs : s.pending with
  | nil =>
    rw [step_nil hs] at h
    cases h
    refine .trans (.settle s hd) ?_
    unfold State.idleTick
    split
    · exact .refl x _
    · exact .advance _ hx.2.2.1 hx.1 1
  | cons c rest =>
    rw [step_cons hs] at h
    obtain ⟨u, hu, taken⟩ := exec_taken c { s with pending := rest }
    rw [hu] at h
    cases h
    have dropped : Keeps x s { s with pending := rest } :=
      .of_same (by cases x with | pending => exact absurd rfl hp | _ => exact rfl)
    exact dropped.trans (taken.keeps hx hd fun h => absurd h hr)

theorem step_due {s t : State} (h : step s = .next t) (hs : s.DueSound) : t.DueSound := by
  cases hp : s.pending with
  | nil =>
    rw [step_nil hp] at h
    cases h
    unfold State.idleTick
    split
    · exact fun _ => s.settle_due
    · exact fun _ => s.settle_due
  | cons c rest =>
    rw [step_cons hp] at h
    obtain ⟨u, hu, taken⟩ := exec_taken c { s with pending := rest }
    rw [hu] at h
    cases h
    exact taken.due hs

/-- Settles O4: each queue and each store is an aspect that every step keeps. -/
theorem stepKeepsCapacities : Obligations.StepKeepsCapacities := by
  intro s t i h
  exact
    { queue := step_keeps (x := .queue) (by simp [Aspect.OfStep, Aspect.Lasting]) h i.queue
      schedule := step_keeps (x := .schedule) (by simp [Aspect.OfStep, Aspect.Lasting]) h i.schedule
      records := step_keeps (x := .records) (by simp [Aspect.OfStep, Aspect.Lasting]) h i.records
      tickets := step_keeps (x := .tickets) (by simp [Aspect.OfStep, Aspect.Lasting]) h i.tickets
      port := step_keeps (x := .port) (by simp [Aspect.OfStep, Aspect.Lasting]) h i.port }

/-- Settles O5: the clamp of every change of a book, and the whole decilitres that a burn takes from its residue. -/
theorem stepKeepsTanksSound : Obligations.StepKeepsTanksSound := fun _ _ i h =>
  step_keeps (x := .tanks) (by simp [Aspect.OfStep, Aspect.Lasting]) h i

/-- Settles O6, with the phase's place in every phase and the phase of every counter. -/
theorem stepKeepsDeadPointsOpen : Obligations.StepKeepsDeadPointsOpen := fun _ _ i h =>
  step_keeps (x := .points) (by simp [Aspect.OfStep, Aspect.Lasting]) h i

/-- Settles O8: what LIVE rests on is an aspect that every step keeps, and events are left over while RUNNING alone. -/
theorem stepKeepsLiveSound : Obligations.StepKeepsLiveSound := fun _ _ h =>
  ⟨step_keeps (x := .live) (by simp [Aspect.OfStep, Aspect.Lasting]) h, step_due h⟩

/-- Settles O2: the queue of commands is an aspect that every command keeps. -/
theorem everyCommandKeepsTheQueue : Obligations.EveryCommandKeepsTheQueue := by
  intro c s
  obtain ⟨t, ht, taken⟩ := exec_taken c s
  exact ⟨t, ht, taken.keeps (x := .pending) (by simp [Aspect.Lasting]) (by simp) (by simp)⟩

theorem dayFits_of_wellFormed {i : Instr} (h : i.wellFormed = true) : DayFits i := by
  rintro tag day second ms rfl
  simp only [Instr.wellFormed, Bool.and_eq_true, wordFits, decide_eq_true_eq] at h
  omega

/-- Settles O7: the loads clamp what they store, and a day of two bytes fits the clock. -/
theorem commandsKeepRanges : Obligations.CommandsKeepRanges := by
  intro c s t fits site clock h
  obtain ⟨u, hu, taken⟩ := exec_taken c s
  rw [hu] at h
  cases h
  exact taken.keeps (x := .ranges) (by simp [Aspect.Lasting]) (by simp) (fun _ => dayFits_of_wellFormed fits) ⟨site, clock⟩

/-- Settles O3: every value after reset is within its bounds. -/
theorem resetMeetsTheInvariants : Obligations.ResetMeetsTheInvariants := reset_sound

end Sys2Proof.Keeping
end

section
/-! SUPPORT. The step, the power-on reset, TEN, notices and the events of the office line (R17, R149, R153, R180 to R184, R191, R192). -/

namespace Sys2Proof.LineEvents

open Sys2Proof Sys2Proof.Machine Sys2Proof.Stated Sys2Proof.Keeping

/-! ### The step and what is left over (log entries 1, 6, 7) -/

/-- One millisecond of time, as the state that it leaves. -/
theorem idleTick_eq (s : State) : s.idleTick =
    if s.engine.running = true ∧ s.engine.cycleLen ≤ s.engine.age then s
    else
      { s with
        billing := { s.billing with clock := s.billing.clock.map fun ms => min clockEnd (ms + 1) }
        engine := { s.engine with age := s.engine.age + 1 } } := by
  simp only [State.idleTick, Bool.and_eq_true, decide_eq_true_eq]
  rfl

/-- A request takes what is left over before it acts. -/
theorem serve_settle (s : State) (destination tag kind : Byte) (r : Request) :
    s.settle.serve destination tag kind r = s.serve destination tag kind r := by
  simp only [State.serve, State.quiet, State.settle_settle]

/-- The command whose row a timed event is takes that event. -/
theorem exec_rowOf (x : TimedEvent) (s : State) : exec (rowOf x) s = .next (s.takeEvent x).startTx := by
  cases x <;> rfl

/-- A command that is no timed event's and no power-on reset takes what is left over before it acts. -/
theorem exec_settle {c : Instr} (s : State) (row : ∀ x, c ≠ rowOf x) (reset : ∀ ten, c ≠ .powerOnReset ten) :
    exec c s = exec c s.settle := by
  cases c with
  | powerOnReset ten => exact absurd rfl (reset ten)
  | loadChangeoverRequest n => exact absurd rfl (row (.loadRequest n))
  | holdLimitCloseOff f => exact absurd rfl (row (.holdLimit f))
  | warmUpExpiry n => exact absurd rfl (row (.warmUp n))
  | coolDownExpiry n => exact absurd rfl (row (.coolDown n))
  | crankWindowExpiry n => exact absurd rfl (row (.crankWindow n))
  | prepareTimeout p => exact absurd rfl (row (.prepare p))
  | confirmTimeout p => exact absurd rfl (row (.confirm p))
  | deadTimeExpiry p => exact absurd rfl (row (.deadTime p))
  | windowExpiry p => exact absurd rfl (row (.window p))
  | ticketWaitExpiry m => exact absurd rfl (row (.ticketWait m))
  | scheduleFire => exact absurd rfl (row .schedule)
  | intervalCloseDue => exact absurd rfl (row .intervalClose)
  | linkLost a => exact absurd rfl (row (.linkLost a))
  | discrepancySet n => exact absurd rfl (row (.discrepancy n))
  | lineReset => simp only [exec, execLineReset, State.settle_settle]
  | tenFall => simp only [exec, execTenFall, State.settle_settle]
  | cycleStart => simp only [exec, execCycleStart, State.settle_settle]
  | slotEnd => simp only [exec, execSlotEnd, State.settle_settle]
  | byteGapTimeout => simp only [exec, execByteGapTimeout, State.settle_settle]
  | officeFrameReceived => simp only [exec, execOfficeFrameReceived, State.settle_settle]
  | frameTransmitted => simp only [exec, execFrameTransmitted, State.settle_settle]
  | headerWindowEnd => simp only [exec, execHeaderWindowEnd, State.settle_settle]
  | _ => exact congrArg Host.Outcome.next (serve_settle s _ _ _ _).symm

/-- Taking the one event that is left over takes all that is left over. -/
theorem takeEvent_only {x : TimedEvent} {s : State} (h : s.due = [x]) : (s.takeEvent x).startTx = s.settle := by
  simp [State.settle, h, forEach]

theorem takeEvent_absent {x : TimedEvent} {s : State} (h : x ∉ s.due) : s.takeEvent x = s := by
  simp [State.takeEvent, h]

/-- An event that is left over has its effect once it is left over no longer. -/
theorem takeEvent_of_mem {x : TimedEvent} {s : State} (h : x ∈ s.due) :
    s.takeEvent x = { s with due := s.due.erase x }.happen x := by
  simp [State.takeEvent, h]

/-- What requests and resets alone write is not written by what is left over. -/
theorem settle_fixed (s : State) : fixedPart s.settle = fixedPart s := Keeps.settle (x := .fixed) s (by simp)

/-- Settles O1: the arms of the step, and what is left over before a command. -/
theorem stepTakesTheFront : Obligations.StepTakesTheFront := by
  refine ⟨fun c rest s h => step_cons h, fun s h hd => ?_, fun s h => ?_, fun c s row reset => exec_settle s row reset,
    fun x s h => ?_, fun x s h => ?_, fun s => ⟨s.settle_due, Keeps.settle (x := .pending) s (by simp), ?_, ?_⟩⟩
  · rw [step_idle h hd, idleTick_eq]
  · have pending : s.settle.pending = [] := Eq.trans (Keeps.settle (x := .pending) s (by simp)) h
    rw [step_nil h, step_nil pending, State.settle_settle]
  · rw [exec_rowOf, takeEvent_only h]
  · rw [exec_rowOf, takeEvent_absent h]
  · have fixed := settle_fixed s
    simp only [fixedPart, Prod.mk.injEq] at fixed
    obtain ⟨-, -, -, -, -, running, -⟩ := fixed
    exact running
  · have fixed := settle_fixed s
    simp only [fixedPart, Prod.mk.injEq] at fixed
    obtain ⟨-, -, -, -, -, -, cycleNo, -⟩ := fixed
    exact cycleNo

/-! ### The power-on reset (R17) -/

/-- Settles O11: every store of the state after reset holds its power-on value at every position. -/
theorem powerOnReset : Obligations.PowerOnReset := by
  intro ten s
  have each {α : Type} {n : Nat} (x : α) (i : Fin n) : (Vector.replicate n x)[i] = x := Vector.getElem_replicate _
  exact ⟨_, rfl, each _, each _, each _, each _, each _, rfl, each _, rfl, rfl, rfl, rfl, rfl, each _, rfl, rfl, rfl, rfl, rfl,
    fun f => ⟨each _ f, each _ f⟩, rfl, each _, each _, each _, rfl, each _, rfl, rfl, rfl, rfl, each _, rfl, rfl, rfl, rfl,
    rfl, rfl, rfl, rfl, rfl, each _, rfl, rfl, rfl, rfl, rfl, rfl, rfl⟩

/-! ### TEN (R149, R153) -/

theorem exec_tenFall {s : State} (h : s.due = []) : exec .tenFall s = .next s.tenFall.startTx := by
  simp only [exec, execTenFall, State.settle_nil h]

/-- A fall with no commit waiting does nothing but lower the line. -/
theorem tenFall_idle {s : State} (h : s.tariff.pending.isCommitted = false) : s.tenFall = { s with ten := false } := by
  unfold State.tenFall
  cases hp : s.tariff.pending with
  | commitPending table => simp [PendingTariff.isCommitted, hp] at h
  | empty | loaded => simp [hp]

/-- Settles O13: by the state of the pending table. -/
theorem tenFall : Obligations.TenFall := by
  refine ⟨fun s table hd hp => ?_, fun s hd hp => ?_, fun s => rfl, fun s h => ?_, fun s hd h => ?_⟩
  · rw [exec_tenFall hd, State.tenFall]
    simp only [hp]
  · rw [exec_tenFall hd, tenFall_idle hp]
  · simp [State.sampleTen, h]
  · rw [exec_tenFall hd]
    simp [State.sampleTen, h]

/-! ### Notices (R191, R192) -/

theorem dropNewestOrdinary_eq_none {xs : List Notice} (h : ∀ y ∈ xs, y.urgent = true) :
    dropNewestOrdinary xs = none := by
  induction xs with
  | nil => rfl
  | cons y ys ih =>
    rw [List.forall_mem_cons] at h
    simp [dropNewestOrdinary, ih h.2, h.1]

/-- The newest ordinary notice is the one behind which all are urgent. -/
theorem dropNewestOrdinary_of_urgent {kept newer : List Notice} {x : Notice} (hx : x.urgent = false)
    (h : ∀ y ∈ newer, y.urgent = true) : dropNewestOrdinary (kept ++ x :: newer) = some (kept ++ newer) := by
  induction kept with
  | nil => simp [dropNewestOrdinary, dropNewestOrdinary_eq_none h, hx]
  | cons k ks ih => simp [dropNewestOrdinary, ih]

/-- An urgent notice displaces the newest ordinary one that is not in transmission. -/
theorem displaceFor_newest {sending : Bool} {kept newer : List Notice} {x : Notice} (hx : x.urgent = false)
    (head : sending = true → kept ≠ []) (h : ∀ y ∈ newer, y.urgent = true) :
    displaceFor sending (kept ++ x :: newer) = some (kept ++ newer) := by
  cases sending with
  | false => exact dropNewestOrdinary_of_urgent hx h
  | true =>
    cases kept with
    | nil => exact absurd rfl (head rfl)
    | cons k ks => simp [displaceFor, dropNewestOrdinary_of_urgent hx h]

/-- Where every notice that is not in transmission is urgent, none is displaced. -/
theorem displaceFor_eq_none {sending : Bool} {xs : List Notice}
    (h : ∀ y ∈ if sending = true then xs.tail else xs, y.urgent = true) : displaceFor sending xs = none := by
  cases sending with
  | false => exact dropNewestOrdinary_eq_none h
  | true =>
    cases xs with
    | nil => rfl
    | cons k ks => simp [displaceFor, dropNewestOrdinary_eq_none (xs := ks) (by simpa using h)]

/-- What raising a notice does, by the room in the queue. -/
theorem noticeRaised (p : Port) (urgent : Bool) (body : NoticeBody) : NoticeRaised p (p.raise urgent body) urgent body where
  number := (Port.raise_frame p urgent body).2
  room h := by simp [Port.raise_room h]
  lost h hu := by simp [Port.raise, Nat.not_lt.mpr h, hu]
  displacing kept x newer h hu notices hx head newest := by
    simp only [Port.raise, Nat.not_lt.mpr h, hu, if_false, if_true]
    rw [notices, displaceFor_newest hx (by simpa using head) newest]
    exact ⟨rfl, rfl⟩
  noPlace h hu every := by
    simp only [Port.raise, Nat.not_lt.mpr h, hu, if_false, if_true]
    rw [displaceFor_eq_none (by simpa using every)]
    exact ⟨rfl, rfl⟩

/-- A DISCREPANCY flag that was clear is set with its notice (R104). -/
theorem setDiscrepancy_clear {s : State} {n : SetNo} (h : (s.tank n).discrepancy = false) (adjustment : Option Int)
    (sensor : Option Nat) : s.setDiscrepancy n adjustment sensor =
      { s with tanks := s.tanks.set n { s.tank n with discrepancy := true } }.raise
        (.setFlag n .discrepancy (some (s.tank n).book) adjustment sensor s.engine.cycleNo) := by
  simp only [State.setDiscrepancy, h, Bool.false_eq_true, if_false]
  rfl

/-- A DISCREPANCY flag that is set stays, with no notice (R104). -/
theorem setDiscrepancy_set {s : State} {n : SetNo} (h : (s.tank n).discrepancy = true) (adjustment : Option Int)
    (sensor : Option Nat) : s.setDiscrepancy n adjustment sensor = s := by
  simp [State.setDiscrepancy, h]

theorem exec_discrepancySet {s : State} {n : SetNo} (due : .discrepancy n ∈ s.due) (count : (s.tank n).discCount = 20) :
    exec (.discrepancySet n) s = .next
      (({ s with due := s.due.erase (.discrepancy n) }.setDiscrepancy n none
        ((s.setRec n).latest.map SetReport.sensor)).startTx) := by
  have standing : ({ s with due := s.due.erase (.discrepancy n) } : State).expireDiscrepancy n = _ := if_pos count
  exact congrArg (fun t => Host.Outcome.next t.startTx) ((takeEvent_of_mem due).trans standing)

/-- Settles O25: the count that stands at 20, and the raise of a notice by the room in the queue. -/
theorem discrepancySets : Obligations.DiscrepancySets := by
  refine ⟨fun n s due count flag => ?_, fun n s due count flag => ?_, fun s urgent body => ⟨noticeRaised _ _ _, rfl⟩⟩
  · rw [exec_discrepancySet due count]
    exact congrArg (fun t => Host.Outcome.next t.startTx) (setDiscrepancy_clear
      (s := { s with due := s.due.erase (.discrepancy n) }) flag none _)
  · rw [exec_discrepancySet due count]
    exact congrArg (fun t => Host.Outcome.next t.startTx) (setDiscrepancy_set
      (s := { s with due := s.due.erase (.discrepancy n) }) flag none _)

/-! ### The office line (R180 to R184) -/

/-- Settles O33: each event once nothing is left over. -/
theorem lineEvents : Obligations.LineEvents := by
  refine ⟨fun s hd fde => ?_, fun s hd fde => ?_, fun s bytes hd rx => ?_, fun s hd rx => ?_, fun s hd tx queue => ?_,
    fun s f rest hd tx queue => ?_, fun s tx calm => ?_, fun s r hd tx response => ?_, fun s tx calm => ?_⟩
  · simp [exec, execHeaderWindowEnd, State.settle_nil hd, State.endHeaderWindow, fde]
  · simp [exec, execHeaderWindowEnd, State.settle_nil hd, State.endHeaderWindow, fde]
  · simp [exec, execByteGapTimeout, State.settle_nil hd, State.byteGap, rx, State.frameError, count16, satAdd]
  · simp [exec, execByteGapTimeout, State.settle_nil hd, State.byteGap, rx]
  · simp [exec, execFrameTransmitted, State.settle_nil hd, State.frameSent, Port.sent, tx, State.takeFrame, queue,
      State.startTx, Port.startTx, Port.nextFrame, afterResponse]
  · simp [exec, execFrameTransmitted, State.settle_nil hd, State.frameSent, Port.sent, tx, State.takeFrame, queue]
  · obtain ⟨response, queue, hd⟩ := calm
    simp [exec, execFrameTransmitted, State.settle_nil hd, State.frameSent, Port.sent, tx, State.takeFrame, queue, response,
      State.startTx, Port.startTx, Port.nextFrame, afterResponse]
  · simp [exec, execFrameTransmitted, State.settle_nil hd, State.frameSent, Port.sent, tx, State.takeFrame, response,
      State.startTx, Port.startTx, Port.nextFrame]
  · obtain ⟨response, queue, hd⟩ := calm
    simp [exec, execFrameTransmitted, State.settle_nil hd, State.frameSent, Port.sent, tx, State.takeFrame, queue, response,
      State.startTx, Port.startTx, Port.nextFrame, afterResponse]

end Sys2Proof.LineEvents
end

section
/-! SUPPORT. The load requests of feeders and accounts, the site values, the cycle period and the command gate (R1, R2, R5, R6, R11 to
R13, R189). -/

namespace Sys2Proof.Loads

open Sys2Proof Sys2Proof.Machine Sys2Proof.Stated Sys2Proof.ClearFlags

/-- The form of a load reads as what it stores: nothing for CLEAR, an entry for fields within their ranges (R1, R196). -/
inductive Reads {α β : Type} (decode : α → Option β) : LoadForm α → Option β → Prop
  | clear : Reads decode .clear none
  | entry {u : α} {e : β} (h : decode u = some e) : Reads decode (.entry u) (some e)

theorem mem_allFeeders (f : FeederNo) : f ∈ allFeeders := List.mem_finRange f
theorem mem_allSets (n : SetNo) : n ∈ allSets := List.mem_finRange n
theorem mem_allPoints (p : PointNo) : p ∈ allPoints := List.mem_finRange p
theorem mem_allUnits (a : Addr) : a ∈ allUnits := List.mem_finRange a
theorem mem_allAccounts (k : AccountNo) : k ∈ allAccounts := List.mem_finRange k
theorem mem_allMeters (m : MeterNo) : m ∈ allMeters := List.mem_finRange m

/-! ### The feeder table (R5, R6) -/

/-- Fields outside their ranges make no feeder entry. -/
theorem feederEntryOf_none {u : FeederFields} (h : u.board = 0 ∨ 63 < u.board ∨ u.position = 0 ∨ 4 < u.position ∨
    u.point = 0 ∨ 12 < u.point ∨ u.account = 0 ∨ 48 < u.account ∨ u.mode = none ∨ u.high < u.low) :
    feederEntryOf u = none := by
  refine Option.eq_none_iff_forall_ne_some.mpr fun e he => ?_
  simp only [feederEntryOf, Option.bind_eq_bind, Option.bind_eq_some_iff, numbered_eq_some] at he
  obtain ⟨board, hboard, point, hpoint, account, haccount, mode, hmode, he⟩ := he
  split at he
  · rename_i ranges
    have mode_some : u.mode ≠ none := by simp [hmode]
    simp only [mode_some, false_or] at h
    omega
  · cases he

theorem feederEntryOf_fields {e : FeederEntry} (low : 1 ≤ e.position) (high : e.position ≤ 4) (limits : e.low ≤ e.high) :
    feederEntryOf ⟨e.board.val + 1, e.position, e.point.val + 1, e.account.val + 1, some e.mode, e.low, e.high⟩ = some e := by
  simp [feederEntryOf, low, high, limits]

section
variable {s : State} {f : FeederNo} {form : LoadForm FeederFields} {new : Option FeederEntry}

theorem reqLoadFeeder_badIndex {feeder : Nat} (h : feeder = 0 ∨ 32 < feeder) :
    reqLoadFeeder feeder form s = (s, .refuse .badIndex) := by
  simp [reqLoadFeeder, numbered_none h]

theorem reqLoadFeeder_badValue {u : FeederFields} (h : feederEntryOf u = none) :
    reqLoadFeeder (f.val + 1) (.entry u) s = (s, .refuse .badValue) := by
  simp [reqLoadFeeder, h]

theorem reqLoadFeeder_repeat (reads : Reads feederEntryOf form new) (h : new = s.feederEntry f) :
    reqLoadFeeder (f.val + 1) form s = (s, ⟨.ok, .feederEntry new⟩) := by
  cases reads with
  | clear => simp [reqLoadFeeder, h, Reply.okWith]
  | entry reads => simp [reqLoadFeeder, reads, ← h, Reply.okWith]

theorem reqLoadFeeder_refused (reads : Reads feederEntryOf form new) (h : new ≠ s.feederEntry f) {code : ResultCode}
    (refusal : s.feederRefusal f new = some code) : reqLoadFeeder (f.val + 1) form s = (s, .refuse code) := by
  cases reads with
  | clear => simp [reqLoadFeeder, h, refusal]
  | entry reads => simp [reqLoadFeeder, reads, h, refusal]

theorem reqLoadFeeder_stored (reads : Reads feederEntryOf form new) (h : new ≠ s.feederEntry f)
    (refusal : s.feederRefusal f new = none) :
    reqLoadFeeder (f.val + 1) form s = (s.storeFeeder f new, ⟨.ok, .feederEntry new⟩) := by
  cases reads with
  | clear => simp [reqLoadFeeder, h, refusal, Reply.okWith]
  | entry reads => simp [reqLoadFeeder, reads, h, refusal, Reply.okWith]

/-- The cross-reference checks of a feeder entry (R5). -/
theorem feederFits_iff : s.feederFits f new = true ↔ ∀ e, new = some e →
    (∀ u, s.unitEntry e.board = some u → u.kind = .board) ∧
      ∀ g x, g ≠ f → s.feederEntry g = some x → x.board ≠ e.board ∨ x.position ≠ e.position := by
  cases new with
  | none => simp [State.feederFits]
  | some e =>
    simp only [State.feederFits, Option.all_some, Bool.and_eq_true, Option.all_eq_true, List.all_eq_true, mem_allFeeders,
      Bool.or_eq_true, decide_eq_true_eq, Option.some.injEq, forall_eq', true_implies, ne_eq]
    refine and_congr Iff.rfl (forall_congr' fun g => ?_)
    by_cases hg : g = f <;> simp [hg]

end

/-- LOAD FEEDER, its refusals in their order, and what a load that passes writes (R1, R2, R5, R6). -/
theorem exec_loadFeeder {tag : Byte} {s : State} (calm : Calm s) (f : FeederNo) (form : LoadForm FeederFields)
    (new : Option FeederEntry) (reads : Reads feederEntryOf form new) :
    let old := s.feederEntry f
    let wiring := fun e : FeederEntry => (e.board, e.position, e.point, e.account)
    let fits := ∀ e, new = some e → (∀ u, s.unitEntry e.board = some u → u.kind = .board) ∧
      ∀ g x, g ≠ f → s.feederEntry g = some x → x.board ≠ e.board ∨ x.position ≠ e.position
    (new = old → exec (.loadFeeder tag (f.val + 1) form) s = .next (answered s tag 10 ⟨.ok, .feederEntry new⟩)) ∧
    (new ≠ old → s.site.live = true → old.map wiring ≠ new.map wiring →
      exec (.loadFeeder tag (f.val + 1) form) s = .next (refused s tag 10 .state)) ∧
    (new ≠ old → s.site.live = false ∨ old.map wiring = new.map wiring → ¬ fits →
      exec (.loadFeeder tag (f.val + 1) form) s = .next (refused s tag 10 .notValid)) ∧
    (new ≠ old → s.site.live = false → fits →
      exec (.loadFeeder tag (f.val + 1) form) s = .next (answered
        { s with
          tables := { s.tables with feeders := s.tables.feeders.set f new }
          feeders := s.feeders.set f ⟨.none, none, none, .missing⟩ } tag 10 ⟨.ok, .feederEntry new⟩)) ∧
    (new ≠ old → s.site.live = true → old.map wiring = new.map wiring → fits →
      exec (.loadFeeder tag (f.val + 1) form) s = .next (answered
        { s with tables := { s.tables with feeders := s.tables.feeders.set f new } } tag 10 ⟨.ok, .feederEntry new⟩)) := by
  intro old wiring fits
  have fits_iff : s.feederFits f new = true ↔ fits := feederFits_iff
  have frozen : FeederEntry.frozen = wiring := rfl
  refine ⟨fun same => ?_, fun differs live frozen' => ?_, fun differs frozen' unfit => ?_, fun differs live fit => ?_,
    fun differs live frozen' fit => ?_⟩
  · exact exec_request_calm calm rfl (reqLoadFeeder_repeat reads same)
  · refine exec_request_calm calm rfl (reqLoadFeeder_refused reads differs ?_)
    simp [State.feederRefusal, live, frozen, old, frozen']
  · refine exec_request_calm calm rfl (reqLoadFeeder_refused reads differs ?_)
    have unfit' : s.feederFits f new = false := Bool.eq_false_iff.mpr fun h => unfit (fits_iff.mp h)
    rcases frozen' with live | same
    · simp [State.feederRefusal, live, unfit']
    · simp [State.feederRefusal, frozen, show (s.feederEntry f).map wiring = new.map wiring from same, unfit']
  · have passes : s.feederRefusal f new = none := by simp [State.feederRefusal, live, fits_iff.mpr fit]
    rw [exec_request_calm calm rfl (reqLoadFeeder_stored reads differs passes)]
    simp [State.storeFeeder, State.putFeederEntry, live, State.putFeeder, FeederRec.none]
  · have passes : s.feederRefusal f new = none := by
      simp [State.feederRefusal, frozen, old, frozen', fits_iff.mpr fit]
    rw [exec_request_calm calm rfl (reqLoadFeeder_stored reads differs passes)]
    simp [State.storeFeeder, State.putFeederEntry, live]

/-! ### The account table (R11) -/

theorem accountEntryOf_none {u : AccountFields} (h : u.active = none ∨ u.tariffClass = 0 ∨ 8 < u.tariffClass) :
    accountEntryOf u = none := by
  rcases h with h | h
  · simp [accountEntryOf, h]
  · simp [accountEntryOf, numbered_none h]

theorem accountEntryOf_fields (e : AccountEntry) :
    accountEntryOf ⟨some e.active, e.tariffClass.val + 1, e.customer⟩ = some e := by
  simp [accountEntryOf]

section
variable {s : State} {k : AccountNo} {form : LoadForm AccountFields} {new : Option AccountEntry}

theorem reqLoadAccount_badIndex {account : Nat} (h : account = 0 ∨ 48 < account) :
    reqLoadAccount account form s = (s, .refuse .badIndex) := by
  simp [reqLoadAccount, numbered_none h]

theorem reqLoadAccount_badValue {u : AccountFields} (h : accountEntryOf u = none) :
    reqLoadAccount (k.val + 1) (.entry u) s = (s, .refuse .badValue) := by
  simp [reqLoadAccount, h]

theorem reqLoadAccount_frozen (reads : Reads accountEntryOf form new) (live : s.site.live = true)
    (h : (s.accountEntry k).map AccountEntry.frozen ≠ new.map AccountEntry.frozen) :
    reqLoadAccount (k.val + 1) form s = (s, .refuse .state) := by
  cases reads with
  | clear => simp_all [reqLoadAccount]
  | entry reads => simp_all [reqLoadAccount]

theorem reqLoadAccount_stored (reads : Reads accountEntryOf form new)
    (h : s.site.live = false ∨ (s.accountEntry k).map AccountEntry.frozen = new.map AccountEntry.frozen) :
    reqLoadAccount (k.val + 1) form s = (s.putAccountEntry k new, ⟨.ok, .accountEntry new⟩) := by
  cases reads with
  | clear => rcases h with h | h <;> simp_all [reqLoadAccount, Reply.okWith]
  | entry reads => rcases h with h | h <;> simp_all [reqLoadAccount, Reply.okWith]

end

/-- Settles O42: each refusal by its check, and what a load that passes writes. -/
theorem loadFeederAndAccount : Obligations.LoadFeederAndAccount := by
  intro tag s calm
  refine ⟨fun feeder form h => ?_, fun f u h => ?_, fun f form new h => ?_, fun account form h => ?_, fun k u h => ?_,
    fun k form new h => ?_⟩
  · exact exec_request_calm calm rfl (reqLoadFeeder_badIndex h)
  · exact exec_request_calm calm rfl (reqLoadFeeder_badValue (feederEntryOf_none h))
  · refine exec_loadFeeder calm f form new ?_
    rcases h with ⟨rfl, rfl⟩ | ⟨e, rfl, low, high, limits, rfl⟩
    · exact .clear
    · exact .entry (feederEntryOf_fields low high limits)
  · exact exec_request_calm calm rfl (reqLoadAccount_badIndex h)
  · exact exec_request_calm calm rfl (reqLoadAccount_badValue (accountEntryOf_none h))
  · have reads : Reads accountEntryOf form new := by
      rcases h with ⟨rfl, rfl⟩ | ⟨e, rfl, rfl⟩
      · exact .clear
      · exact .entry (accountEntryOf_fields e)
    exact ⟨fun live frozen => exec_request_calm calm rfl (reqLoadAccount_frozen reads live frozen),
      fun frozen => exec_request_calm calm rfl (reqLoadAccount_stored reads frozen)⟩

/-! ### Site values and the cycle period (R12, R13) -/

theorem siteValuesOf_none {u : SiteFields} (h : u.intervalMin ∉ intervalMinutes) : siteValuesOf u = none := by
  simp [siteValuesOf, h]

/-- The site values that a load stores, clamped (R12). -/
theorem siteValuesOf_some {u : SiteFields} (h : u.intervalMin ∈ intervalMinutes) : siteValuesOf u = some
    ⟨within 1 255 u.holdLimit, within 2 15 u.lossLimit, u.intervalMin, min 65535 u.minDelivery, within 10 255 u.ticketWait,
      min 3600 u.lateLimit⟩ := by
  simp [siteValuesOf, h, clampTo, within]

/-- Every band of a table fits an interval length (R12). -/
theorem fits_iff (table : TariffTable) (seconds : Nat) : table.fits seconds = true ↔
    ∀ (c : ClassNo) (bands : List Band), table.classes[c] = some bands → ∀ b ∈ bands, b.start % seconds = 0 := by
  simp only [TariffTable.fits, List.all_eq_true, Option.all_eq_true, decide_eq_true_eq]
  exact ⟨fun h c => h c (List.mem_finRange c), fun h c _ => h c⟩

/-- No table held clashes with an interval length where every band of the active and of the pending table fits it (R12). -/
theorem clashes_eq_false {t : Tariff} {minutes : Nat} : t.clashes minutes = false ↔
    ∀ table, t.active = some table ∨ t.pending = .loaded table ∨ t.pending = .commitPending table →
      table.fits (minutes * 60) = true := by
  have pending (table : TariffTable) :
      t.pending.table = some table ↔ t.pending = .loaded table ∨ t.pending = .commitPending table := by
    cases t.pending <;> simp [PendingTariff.table]
  simp only [Tariff.clashes, Bool.or_eq_false_iff, Bool.not_eq_false', Option.all_eq_true, pending, or_imp, forall_and]

section
variable {s : State}

theorem reqLoadSite_live {u : SiteFields} (h : u.intervalMin ∈ intervalMinutes)
    (changes : u.intervalMin ≠ s.site.values.intervalMin) (live : s.site.live = true) :
    reqLoadSite u s = (s, .refuse .state) := by
  simp [reqLoadSite, siteValuesOf_some h, changes, live]

theorem reqLoadSite_clash {u : SiteFields} (h : u.intervalMin ∈ intervalMinutes)
    (changes : u.intervalMin ≠ s.site.values.intervalMin) (live : s.site.live = false)
    (clash : s.tariff.clashes u.intervalMin = true) : reqLoadSite u s = (s, .refuse .notValid) := by
  simp [reqLoadSite, siteValuesOf_some h, changes, live, clash]

theorem reqLoadSite_stored {u : SiteFields} {v : SiteValues} (reads : siteValuesOf u = some v)
    (h : v.intervalMin = s.site.values.intervalMin ∨ s.site.live = false ∧ s.tariff.clashes v.intervalMin = false) :
    reqLoadSite u s = ({ s with site := { s.site with values := v } }, ⟨.ok, .site v⟩) := by
  rcases h with same | ⟨live, fits⟩
  · simp [reqLoadSite, reads, same, Reply.okWith]
  · simp [reqLoadSite, reads, live, fits, Reply.okWith]

/-! ### The command gate (R189) -/

theorem reqLoadGate_unnamed {kind : Option UnitKind} {code : Option Code} {v : Option Permission}
    (h : kind = none ∨ code = none ∨ v = none) : reqLoadGate kind code v s = (s, .refuse .badValue) := by
  unfold reqLoadGate
  split
  · simp at h
  · rfl

theorem reqLoadGate_refused {kind : UnitKind} {code : Code} (v : Permission)
    (h : codeOwned code = true ∨ codeKind code ≠ kind) :
    reqLoadGate (some kind) (some code) (some v) s = (s, .refuse .badValue) := by
  simp only [reqLoadGate, Bool.or_eq_true, decide_eq_true_eq, h, if_true]

theorem reqLoadGate_stored {code : Code} (v : Permission) (h : codeOwned code = false) :
    reqLoadGate (some (codeKind code)) (some code) (some v) s =
      ({ s with port := { s.port with gate := s.port.gate.put code v } }, ⟨.ok, .none⟩) := by
  simp [reqLoadGate, h, Reply.ok]

/-- The entry of a plain code takes its permission, and no other entry changes (R189). -/
theorem gate_put (gate : GateTable) {code : Code} (plain : codeOwned code = false) (v : Permission) :
    (gate.put code v).get code = some v ∧ ∀ other, other ≠ code → (gate.put code v).get other = gate.get other := by
  cases code with
  | start | stop | openSwitch | closeA | closeB | permit | deny | revoke => cases plain
  | alarmReset | lampTest | indicate | resetMax | identify | message =>
    refine ⟨rfl, fun other differs => ?_⟩
    cases other <;> simp_all [GateTable.get, GateTable.put]

end

/-- Settles O45: each refusal by its check, and what a request that passes writes. -/
theorem siteCycleAndGate : Obligations.SiteCycleAndGate := by
  intro tag s calm
  refine ⟨fun u h => ?_, fun u h => ?_, fun period live => ?_, fun period live => ?_, fun kind code v h => ?_,
    fun kind code v h => ?_, fun make code number v h => ?_⟩
  · exact exec_request_calm calm rfl (by simp [reqLoadSite, siteValuesOf_none h, Reply.refuse])
  · intro fits v
    have fits_iff : s.tariff.clashes u.intervalMin = false ↔ fits := by
      rw [clashes_eq_false]
      exact forall_congr' fun table => imp_congr_right fun _ => fits_iff table _
    refine ⟨fun changes live => ?_, fun changes live unfit => ?_, fun passes => ?_⟩
    · exact exec_request_calm calm rfl (reqLoadSite_live h changes live)
    · refine exec_request_calm calm rfl (reqLoadSite_clash h changes live ?_)
      exact Bool.eq_true_of_not_eq_false fun clear => unfit (fits_iff.mp clear)
    · refine exec_request_calm calm rfl (reqLoadSite_stored (siteValuesOf_some h) ?_)
      exact passes.imp_right fun ⟨live, fit⟩ => ⟨live, fits_iff.mpr fit⟩
  · exact exec_request_calm calm rfl (by simp [reqSetCycle, live, Reply.refuse])
  · obtain ⟨-, -, tens, most⟩ := storedPeriod_spec period
    refine ⟨storedPeriod period, tens, most, ?_,
      exec_request_calm calm rfl (by simp [reqSetCycle, live, Reply.okWith])⟩
    have nearest : storedPeriod period = within 50 500 period / 10 * 10 := rfl
    omega
  · exact exec_request_calm calm rfl (reqLoadGate_unnamed h)
  · refine exec_request_calm calm rfl (reqLoadGate_refused v (h.imp_left fun owned => ?_))
    cases code with
    | start | stop | openSwitch | closeA | closeB | permit | deny | revoke => rfl
    | alarmReset | lampTest | indicate | resetMax | identify | message => simp at owned
  · have plain : codeOwned code = false := by
      simp only [plainCommands, List.mem_cons, Prod.mk.injEq, List.not_mem_nil, or_false] at h
      rcases h with ⟨-, rfl, -⟩ | ⟨-, rfl, -⟩ | ⟨-, rfl, -⟩ | ⟨-, rfl, -⟩ | ⟨-, rfl, -⟩ | ⟨-, rfl, -⟩ <;> rfl
    obtain ⟨stored, others⟩ := gate_put s.port.gate plain v
    exact ⟨_, stored, others, exec_request_calm calm rfl (reqLoadGate_stored v plain)⟩

end Sys2Proof.Loads
end

section
/-! SUPPORT. The reads of figures, entries and records, the ticket store, and the requests about tariffs (R2, R114, R121, R147 to R151,
R154 to R159, R185, R186). -/

namespace Sys2Proof.Reads

open Sys2Proof Sys2Proof.Machine Sys2Proof.Stated Sys2Proof.ClearFlags Sys2Proof.Loads Sys2Proof.Keeping

/-! ### READ STATUS (R186) -/

/-- A sample of TEN writes the level, the pending table and the latch, and the notices (R149, R153). -/
theorem sampleTen_eq (s : State) (level : Bool) : ∃ pending lockout notices nextNotice overflow,
    s.sampleTen level =
      { s with
        ten := level, tariff := { s.tariff with pending, lockout }
        port := { s.port with notices, nextNotice, overflow } } := by
  have raised (p : Port) (urgent : Bool) (body : NoticeBody) : p.raise urgent body =
      { p with
        notices := (p.raise urgent body).notices, nextNotice := (p.raise urgent body).nextNotice
        overflow := (p.raise urgent body).overflow } := by
    have frame := (Port.raise_frame p urgent body).1
    generalize p.raise urgent body = q at frame ⊢
    cases q
    cases p
    simp_all
  cases level with
  | true => exact ⟨_, _, _, _, _, rfl⟩
  | false =>
    cases h : s.ten with
    | false => exact ⟨_, _, _, _, _, by simp only [State.sampleTen, h, Bool.false_eq_true, if_false]; rw [← h]⟩
    | true =>
      simp only [State.sampleTen, h, Bool.false_eq_true, if_false, if_true, State.tenFall]
      cases hp : s.tariff.pending with
      | commitPending table =>
        simp only [State.raise, State.raiseMarked]
        rw [raised]
        exact ⟨_, _, _, _, _, rfl⟩
      | empty | loaded => exact ⟨_, _, _, _, _, rfl⟩

/-- A request that reads the TEN line, taken while the Port is calm, at the level it finds (R149). -/
theorem exec_atTen_calm {i : Instr} {s t : State} {tag : Byte} {kind : Nat} {ten : Bool} {r : Request} {reply : Reply}
    (calm : Calm s) (arm : exec i s = manage tag kind (atTen ten r) s) (request : r (s.sampleTen ten) = (t, reply)) :
    exec i s = .next (answered t tag kind reply) :=
  exec_request_calm calm arm request

theorem readStatus_exec {tag : Byte} (ten : Bool) {s : State} (calm : Calm s) :
    let u := s.sampleTen ten
    exec (.readStatus tag ten) s = .next (answered { u with port := { u.port with overflow := false } } tag 1
      ⟨.ok, .status
        { live := s.site.live, clock := s.billing.clock, ten, running := s.engine.running
          cycleNo := s.engine.cycleNo, period := s.site.period, queued := s.engine.queue.length
          officeQueued := (s.engine.queue.filter Command.isOffice).length
          outstanding := s.engine.outstanding.map fun q => (q.command.target, q.command.origin)
          limitFlags := s.limitFlags, autoBlocked := s.points.map PointRec.autoBlocked
          unattributed := s.unattributed, tariffActive := s.tariff.active.isSome, pending := u.tariff.pending
          trial := s.tariff.trial, lockout := u.tariff.lockout, recordsHeld := s.billing.records.length
          nextRecord := s.billing.nextRecord, noticesQueued := u.port.notices.length
          overflow := u.port.overflow, frameErrors := s.port.frameErrors
          rxOverflows := s.port.rxOverflows, nextNotice := u.port.nextNotice }⟩) := by
  intro u
  refine exec_atTen_calm calm rfl ?_
  obtain ⟨pending, lockout, notices, nextNotice, overflow, eq⟩ := sampleTen_eq s ten
  simp only [u, eq]
  rfl

/-! ### Reads of one entry (R2, R185) -/

theorem readEntry_out {n index : Nat} (h : index = 0 ∨ n < index) (data : Fin n → ReplyData) :
    readEntry index data = .refuse .badIndex := by
  simp [readEntry, numbered_none h]

theorem readEntry_in {n : Nat} (i : Fin n) (data : Fin n → ReplyData) : readEntry (i.val + 1) data = ⟨.ok, data i⟩ := by
  simp [readEntry, Reply.okWith]

section
variable {s : State} {tag : Byte}

theorem intervalOpen_iff {k : AccountNo} : s.intervalOpen k = true ↔ OpenFor s k := by
  simp [State.intervalOpen, OpenFor, and_assoc, Option.any_eq_true]

theorem readTable_exec (calm : Calm s) :
    (∀ a : Addr, exec (.readTable tag (some .unit) (a.val + 1)) s =
      .next (answered s tag 16 ⟨.ok, .unitEntry (s.unitEntry a)⟩)) ∧
    (∀ f : FeederNo, exec (.readTable tag (some .feeder) (f.val + 1)) s =
      .next (answered s tag 16 ⟨.ok, .feederEntry (s.feederEntry f)⟩)) ∧
    (∀ n : SetNo, exec (.readTable tag (some .set) (n.val + 1)) s =
      .next (answered s tag 16 ⟨.ok, .setEntry (s.setEntry n)⟩)) ∧
    (∀ p : PointNo, exec (.readTable tag (some .point) (p.val + 1)) s =
      .next (answered s tag 16 ⟨.ok, .pointEntry (s.pointEntry p)⟩)) ∧
    (∀ k : AccountNo, exec (.readTable tag (some .account) (k.val + 1)) s =
      .next (answered s tag 16 ⟨.ok, .accountEntry (s.accountEntry k)⟩)) ∧
    exec (.readTable tag (some .site) 0) s = .next (answered s tag 16 ⟨.ok, .site s.site.values⟩) ∧
    exec (.readTable tag (some .gate) 0) s = .next (answered s tag 16 ⟨.ok, .gate s.port.gate⟩) ∧
    (∀ table size index, (table, size) ∈
        [(TableName.unit, 63), (.feeder, 32), (.set, 8), (.point, 12), (.account, 48)] →
      index = 0 ∨ size < index →
      exec (.readTable tag (some table) index) s = .next (refused s tag 16 .badIndex)) ∧
    (∀ table index, table = TableName.site ∨ table = .gate → index ≠ 0 →
      exec (.readTable tag (some table) index) s = .next (refused s tag 16 .badIndex)) ∧
    (∀ index, exec (.readTable tag none index) s = .next (refused s tag 16 .badValue)) := by
  refine ⟨fun a => ?_, fun f => ?_, fun n => ?_, fun p => ?_, fun k => ?_, ?_, ?_, fun table size index h out => ?_,
    fun table index h out => ?_, fun index => exec_request_calm calm rfl rfl⟩
  · exact exec_request_calm calm rfl (congrArg (Prod.mk s) (readEntry_in a _))
  · exact exec_request_calm calm rfl (congrArg (Prod.mk s) (readEntry_in f _))
  · exact exec_request_calm calm rfl (congrArg (Prod.mk s) (readEntry_in n _))
  · exact exec_request_calm calm rfl (congrArg (Prod.mk s) (readEntry_in p _))
  · exact exec_request_calm calm rfl (congrArg (Prod.mk s) (readEntry_in k _))
  · exact exec_request_calm calm rfl rfl
  · exact exec_request_calm calm rfl rfl
  · simp only [List.mem_cons, Prod.mk.injEq, List.not_mem_nil, or_false] at h
    rcases h with ⟨rfl, rfl⟩ | ⟨rfl, rfl⟩ | ⟨rfl, rfl⟩ | ⟨rfl, rfl⟩ | ⟨rfl, rfl⟩ <;>
      exact exec_request_calm calm rfl (congrArg (Prod.mk s) (readEntry_out out _))
  · rcases h with rfl | rfl <;> exact exec_request_calm calm rfl (by simp [reqReadTable, out, Reply.refuse])

theorem readUnit_exec (calm : Calm s) :
    (∀ (a : Addr) (m : MeterNo) (e : UnitEntry), s.unitEntry a = some e → e.enabled = true → e.kind = .fuel →
      e.owner = m.val + 1 → exec (.readUnit tag (a.val + 1)) s =
        .next (answered s tag 17 ⟨.ok, .unit ⟨s.link a, s.port.copyDrops[a], some (s.meter m)⟩⟩)) ∧
    (∀ a : Addr, (∀ e, s.unitEntry a = some e → e.enabled = false ∨ e.kind ≠ .fuel) →
      exec (.readUnit tag (a.val + 1)) s =
        .next (answered s tag 17 ⟨.ok, .unit ⟨s.link a, s.port.copyDrops[a], none⟩⟩)) ∧
    (∀ address, address = 0 ∨ 63 < address →
      exec (.readUnit tag address) s = .next (refused s tag 17 .badIndex)) := by
  refine ⟨fun a m e entry enabled kind owner => ?_, fun a other => ?_, fun address out => ?_⟩
  · have meter : s.meterOf a = some (s.meter m) := by simp [State.meterOf, entry, enabled, kind, owner]
    exact exec_request_calm calm rfl (congrArg (Prod.mk s) (by rw [readEntry_in, meter]))
  · have meter : s.meterOf a = none := by
      unfold State.meterOf
      split
      · rename_i e entry
        rcases other e entry with disabled | kind
        · simp [disabled]
        · simp [kind]
      · rfl
    exact exec_request_calm calm rfl (congrArg (Prod.mk s) (by rw [readEntry_in, meter]))
  · exact exec_request_calm calm rfl (congrArg (Prod.mk s) (readEntry_out out _))

theorem readFeeder_exec (calm : Calm s) :
    (∀ f : FeederNo, s.feederEntry f ≠ none → exec (.readFeeder tag (f.val + 1)) s =
      .next (answered s tag 18 ⟨.ok, .feeder ⟨some (s.feederRec f), s.limitFlag f⟩⟩)) ∧
    (∀ f : FeederNo, s.feederEntry f = none → exec (.readFeeder tag (f.val + 1)) s =
      .next (answered s tag 18 ⟨.ok, .feeder ⟨none, s.limitFlag f⟩⟩)) ∧
    (∀ feeder, feeder = 0 ∨ 32 < feeder →
      exec (.readFeeder tag feeder) s = .next (refused s tag 18 .badIndex)) := by
  refine ⟨fun f entry => ?_, fun f entry => ?_, fun feeder out => ?_⟩
  · exact exec_request_calm calm rfl
      (by simp [reqReadFeeder, Option.isSome_iff_ne_none.mpr entry, Reply.okWith])
  · exact exec_request_calm calm rfl (by simp [reqReadFeeder, entry, Reply.okWith])
  · exact exec_request_calm calm rfl (by simp [reqReadFeeder, numbered_none out, Reply.refuse])

theorem readSet_exec (calm : Calm s) :
    (∀ n : SetNo, s.setEntry n ≠ none → exec (.readSet tag (n.val + 1)) s =
      .next (answered s tag 19 ⟨.ok, .set ⟨s.setRec n, s.tank n⟩⟩)) ∧
    (∀ n : SetNo, s.setEntry n = none → exec (.readSet tag (n.val + 1)) s =
      .next (answered s tag 19 ⟨.ok, .set ⟨{ s.setRec n with run := .offline }, s.tank n⟩⟩)) ∧
    (∀ set, set = 0 ∨ 8 < set → exec (.readSet tag set) s = .next (refused s tag 19 .badIndex)) := by
  refine ⟨fun n entry => ?_, fun n entry => ?_, fun set out => ?_⟩
  · have shown : s.setView n = s.setRec n := if_pos (Option.isSome_iff_ne_none.mpr entry)
    exact exec_request_calm calm rfl (congrArg (Prod.mk s) (by rw [readEntry_in, shown]))
  · have shown : s.setView n = { s.setRec n with run := .offline } := by simp [State.setView, entry]
    exact exec_request_calm calm rfl (congrArg (Prod.mk s) (by rw [readEntry_in, shown]))
  · exact exec_request_calm calm rfl (congrArg (Prod.mk s) (readEntry_out out _))

/-- A point is SWITCHED by a unit between two sources where its entry says so (R9). -/
theorem switched_eq_some {p : PointNo} {u : Addr} {a b : SetNo} : s.switched p = some (u, a, b) ↔
    ∃ e, s.pointEntry p = some e ∧ e.source = .switched u a b := by
  unfold State.switched
  cases s.pointEntry p with
  | none => simp
  | some e => cases h : e.source <;> simp [h]

theorem readPoint_exec (calm : Calm s) :
    (∀ p : PointNo, s.pointEntry p = none → exec (.readPoint tag (p.val + 1)) s =
      .next (answered s tag 20 ⟨.ok, .point ⟨.notLoaded, s.pointRec p⟩⟩)) ∧
    (∀ (p : PointNo) (e : PointEntry) (n : SetNo), s.pointEntry p = some e → e.source = .fixed n →
      exec (.readPoint tag (p.val + 1)) s =
        .next (answered s tag 20 ⟨.ok, .point ⟨.fixed n, s.pointRec p⟩⟩)) ∧
    (∀ (p : PointNo) (x : Addr × SetNo × SetNo), s.switched p = some x →
      exec (.readPoint tag (p.val + 1)) s =
        .next (answered s tag 20 ⟨.ok, .point ⟨.switched (s.pointRec p).position, s.pointRec p⟩⟩)) ∧
    (∀ point, point = 0 ∨ 12 < point → exec (.readPoint tag point) s = .next (refused s tag 20 .badIndex)) := by
  refine ⟨fun p entry => ?_, fun p e n entry source => ?_, fun p ⟨u, a, b⟩ switched => ?_, fun point out => ?_⟩
  · have shown : s.shownPosition p = .notLoaded := by simp [State.shownPosition, entry]
    exact exec_request_calm calm rfl (congrArg (Prod.mk s) (by rw [readEntry_in, shown]))
  · have shown : s.shownPosition p = .fixed n := by simp [State.shownPosition, entry, source]
    exact exec_request_calm calm rfl (congrArg (Prod.mk s) (by rw [readEntry_in, shown]))
  · obtain ⟨e, entry, source⟩ := switched_eq_some.mp switched
    have shown : s.shownPosition p = .switched (s.pointRec p).position := by simp [State.shownPosition, entry, source]
    exact exec_request_calm calm rfl (congrArg (Prod.mk s) (by rw [readEntry_in, shown]))
  · exact exec_request_calm calm rfl (congrArg (Prod.mk s) (readEntry_out out _))

theorem readAccount_exec (calm : Calm s) :
    (∀ k : AccountNo, OpenFor s k → exec (.readAccount tag (k.val + 1)) s =
      .next (answered s tag 21 ⟨.ok, .account ⟨s.accountEntry k, s.billing.interval, s.account k⟩⟩)) ∧
    (∀ k : AccountNo, ¬ OpenFor s k → exec (.readAccount tag (k.val + 1)) s =
      .next (answered s tag 21 ⟨.ok, .account ⟨s.accountEntry k, none, s.account k⟩⟩)) ∧
    (∀ account, account = 0 ∨ 48 < account →
      exec (.readAccount tag account) s = .next (refused s tag 21 .badIndex)) := by
  refine ⟨fun k opened => ?_, fun k closed => ?_, fun account out => ?_⟩
  · exact exec_request_calm calm rfl (by simp [reqReadAccount, intervalOpen_iff.mpr opened, Reply.okWith])
  · have closed' : s.intervalOpen k = false := Bool.eq_false_iff.mpr fun h => closed (intervalOpen_iff.mp h)
    exact exec_request_calm calm rfl (by simp [reqReadAccount, closed', Reply.okWith])
  · exact exec_request_calm calm rfl (by simp [reqReadAccount, numbered_none out, Reply.refuse])

end

/-- Settles O34: the status, and each read by the number it names. -/
theorem statusAndNumberedReads : Obligations.StatusAndNumberedReads := by
  refine ⟨fun tag ten s calm => readStatus_exec ten calm, fun tag s calm => ?_⟩
  obtain ⟨units, feeders, sets, points, accounts, site, gate, outside, single, unnamed⟩ := readTable_exec (tag := tag) calm
  obtain ⟨meter, unit, noUnit⟩ := readUnit_exec (tag := tag) calm
  obtain ⟨feeder, unloaded, noFeeder⟩ := readFeeder_exec (tag := tag) calm
  obtain ⟨set, offline, noSet⟩ := readSet_exec (tag := tag) calm
  obtain ⟨notLoaded, fixed, switched, noPoint⟩ := readPoint_exec (tag := tag) calm
  exact ⟨units, feeders, sets, points, accounts, site, gate, outside, single, unnamed, meter, unit, noUnit, feeder, unloaded,
    noFeeder, set, offline, noSet, notLoaded, fixed, switched, noPoint, readAccount_exec calm⟩

/-! ### The ticket store (R114, R121) -/

/-- A session in TICKETING that is held waits again; any other is left (R114). -/
theorem unhold_spec (wait : Nat) (r : MeterRec) :
    (∀ x buffer, r.session = some x → x.phase = .ticketing none buffer →
      r.unhold wait = { r with session := some { x with phase := .ticketing (some wait) buffer } }) ∧
    ((∀ x buffer, r.session = some x → x.phase ≠ .ticketing none buffer) → r.unhold wait = r) := by
  refine ⟨fun x buffer session phase => by simp [MeterRec.unhold, session, phase], fun other => ?_⟩
  unfold MeterRec.unhold
  split
  · rename_i x session
    split
    · rename_i buffer phase
      exact absurd phase (other x buffer session)
    all_goals rfl
  · rfl

/-- A walk over the meters updates each by its own place. -/
theorem forEach_modMeter (f : MeterRec → MeterRec) (s : State) :
    forEach allMeters (fun m s => s.modMeter m f) s = { s with meters := s.meters.map f } := by
  have meters : forEach allMeters (fun m s => s.modMeter m f) s =
      { s with meters := (s.meters.set 0 (f s.meters[0])).set 1 (f (s.meters.set 0 (f s.meters[0]))[1]) } := rfl
  rw [meters]
  congr 1
  ext i hi
  interval_cases i <;> simp

theorem reqReleaseTickets_none {count : Nat} {s : State} (h : count = 0 ∨ s.tickets = []) :
    reqReleaseTickets count s = (s, ⟨.ok, .removed 0⟩) := by
  have zero : min count s.tickets.length = 0 := by
    rcases h with h | h
    · simp [h]
    · simp [h]
  simp [reqReleaseTickets, zero, Reply.okWith]

theorem reqReleaseTickets_some {count : Nat} {s : State} (some : 0 < count) (held : s.tickets ≠ []) :
    reqReleaseTickets count s =
      ({ s with
        tickets := s.tickets.drop count
        meters := s.meters.map (MeterRec.unhold s.site.values.ticketWait) },
        ⟨.ok, .removed (min count s.tickets.length)⟩) := by
  have removed : min count s.tickets.length ≠ 0 := by
    have := List.length_pos_iff.mpr held
    omega
  have rest : s.tickets.drop (min count s.tickets.length) = s.tickets.drop count := by
    rw [Nat.min_def]
    split
    · rfl
    · rw [List.drop_length, List.drop_eq_nil_of_le (by omega)]
  have walk := forEach_modMeter (MeterRec.unhold s.site.values.ticketWait) { s with tickets := s.tickets.drop count }
  simp only [reqReleaseTickets, removed, if_false, rest]
  exact Prod.ext walk rfl

/-- Settles O54: the store's oldest, and what removing them does to the sessions that are held. -/
theorem tickets : Obligations.Tickets := by
  intro tag s calm
  refine ⟨⟨s.placesClaimed, ?_, exec_request_calm calm rfl rfl⟩, fun count h => ?_, fun count some held => ?_⟩
  · unfold State.placesClaimed
    refine congrArg List.length (List.filter_congr fun m _ => ?_)
    cases (s.meter m).session with
    | none => rfl
    | some x => cases h : x.phase with
      | granting | dispensing => simp [h]
      | ticketing wait buffer => cases buffer <;> simp [h]
  · exact exec_request_calm calm rfl (reqReleaseTickets_none h)
  · refine ⟨_, exec_request_calm calm rfl (reqReleaseTickets_some some held), rfl, rfl, fun m x buffer session phase => ?_,
      fun m other => ?_, rfl⟩
    · rw [← (unhold_spec _ _).1 x buffer session phase]
      exact Vector.getElem_map _ _
    · exact (Vector.getElem_map _ _).trans ((unhold_spec _ _).2 other)

end Sys2Proof.Reads
end

section
/-! SUPPORT. The requests about tariffs (R147 to R151, R154 to R159). -/

namespace Sys2Proof.Tariffs

open Sys2Proof Sys2Proof.Machine Sys2Proof.Stated Sys2Proof.ClearFlags Sys2Proof.Loads Sys2Proof.Reads

section
variable {s : State} {tag : Byte}

/-- A sample of TEN finds the level. -/
theorem sampleTen_ten (s : State) (level : Bool) : (s.sampleTen level).ten = level := by
  obtain ⟨pending, lockout, notices, nextNotice, overflow, eq⟩ := sampleTen_eq s level
  rw [eq]

/-- A sample of TEN leaves the active table, and trial as it stands. -/
theorem sampleTen_tables (s : State) (level : Bool) : (s.sampleTen level).tariff.active = s.tariff.active ∧
    (s.sampleTen level).tariff.trial = s.tariff.trial := by
  obtain ⟨pending, lockout, notices, nextNotice, overflow, eq⟩ := sampleTen_eq s level
  rw [eq]
  exact ⟨rfl, rfl⟩

/-! ### DISCARD TARIFF and TRIAL (R154, R155) -/

theorem reqDiscardTariff_low (h : s.ten = false) : reqDiscardTariff s = (s, .refuse .disabled) := by
  simp [reqDiscardTariff, h]

theorem reqTrial_state {on : Option Bool} (h : ∀ table, s.tariff.pending ≠ .loaded table) :
    reqTrial on s = (s, .refuse .state) := by
  cases hp : s.tariff.pending with
  | loaded table => exact absurd hp (h table)
  | empty | commitPending => simp [reqTrial, hp]

theorem discardAndTrial_exec (calm : Calm s) :
    exec (.discardTariff tag false) s = .next (refused (s.sampleTen false) tag 38 .disabled) ∧
    (s.tariff.pending = .empty →
      exec (.discardTariff tag true) s = .next (answered { s with ten := true } tag 38 ⟨.ok, .none⟩)) ∧
    (∀ table, s.tariff.pending = .loaded table ∨ s.tariff.pending = .commitPending table →
      exec (.discardTariff tag true) s = .next (answered
        { s with ten := true, tariff := { s.tariff with pending := .empty, trial := false } } tag 38 ⟨.ok, .none⟩)) := by
  refine ⟨?_, fun h => ?_, fun table h => ?_⟩
  · exact exec_atTen_calm calm rfl (reqDiscardTariff_low (sampleTen_ten s false))
  · exact exec_atTen_calm calm rfl (by simp [reqDiscardTariff, State.sampleTen, h, Reply.ok])
  · exact exec_atTen_calm calm rfl (by rcases h with h | h <;> simp [reqDiscardTariff, State.sampleTen, h, Reply.ok])

end

/-- Settles O57: DISCARD by the level of TEN and the pending table, TRIAL by the pending table and its byte. -/
theorem discardAndTrial : Obligations.DiscardAndTrial := by
  intro tag s calm
  obtain ⟨low, empty, discard⟩ := discardAndTrial_exec (tag := tag) calm
  refine ⟨low, empty, discard, fun on h => exec_request_calm calm rfl (reqTrial_state h), fun table h => ?_,
    fun on table h => ?_⟩
  · exact exec_request_calm calm rfl (by simp [reqTrial, h, Reply.refuse])
  · exact exec_request_calm calm rfl (by simp [reqTrial, h, Reply.ok])

/-! ### COMMIT TARIFF and READ TARIFF (R151, R159) -/

section
variable {s : State} {tag : Byte}

/-- The class of the account is absent from a table. -/
def ClassAbsent (s : State) (table : TariffTable) (k : AccountNo) : Prop :=
  ∃ e, s.accountEntry k = some e ∧ e.active = true ∧ table.classes[e.tariffClass] = none

/-- The first of all positions that meets a test is the lowest that meets it. -/
theorem find_finRange {n : Nat} {test : Fin n → Bool} {k : Fin n} (h : test k = true)
    (lowest : ∀ j, test j = true → k ≤ j) : (List.finRange n).find? test = some k := by
  refine List.find?_eq_some_iff_getElem.mpr ⟨h, k.val, by simp, by simp, fun j hj => ?_⟩
  rw [Bool.not_eq_true', Bool.eq_false_iff]
  intro meets
  have := lowest _ meets
  simp only [List.getElem_finRange, Fin.le_def, Fin.val_cast] at this
  omega

theorem classAbsent_find (s : State) (table : TariffTable) : s.classAbsent table = allAccounts.find? fun k =>
    (s.accountEntry k).any fun e => e.active && (table.classes[e.tariffClass]).isNone := by
  unfold State.classAbsent State.activeAccounts
  rw [List.find?_filter]
  congr 1
  funext k
  cases s.accountEntry k with
  | none => rfl
  | some e => cases h : table.classes[e.tariffClass.val] <;> simp [h]

theorem lacksClass_iff {table : TariffTable} {k : AccountNo} :
    ((s.accountEntry k).any fun e => e.active && (table.classes[e.tariffClass]).isNone) = true ↔
      ClassAbsent s table k := by
  simp [ClassAbsent, Option.any_eq_true]

/-- The account that COMMIT TARIFF names is the lowest active one whose class the table lacks (R151). -/
theorem classAbsent_eq_some {table : TariffTable} {k : AccountNo} (h : ClassAbsent s table k)
    (lowest : ∀ j, ClassAbsent s table j → k ≤ j) : s.classAbsent table = some k := by
  rw [classAbsent_find]
  exact find_finRange (lacksClass_iff.mpr h) fun j hj => lowest j (lacksClass_iff.mp hj)

theorem classAbsent_eq_none {table : TariffTable} (h : ∀ k, ¬ ClassAbsent s table k) : s.classAbsent table = none := by
  rw [classAbsent_find]
  exact List.find?_eq_none.mpr fun k _ lacks => h k (lacksClass_iff.mp lacks)

theorem reqCommitTariff_low (h : s.ten = false) : reqCommitTariff s = (s, .refuse .disabled) := by
  simp [reqCommitTariff, h]

theorem reqCommitTariff_lockout (ten : s.ten = true) (h : s.tariff.lockout = true) :
    reqCommitTariff s = (s, .refuse .lockout) := by
  simp [reqCommitTariff, ten, h]

theorem reqCommitTariff_state (ten : s.ten = true) (clear : s.tariff.lockout = false)
    (h : ∀ table, s.tariff.pending ≠ .loaded table) : reqCommitTariff s = (s, .refuse .state) := by
  cases hp : s.tariff.pending with
  | loaded table => exact absurd hp (h table)
  | empty | commitPending => simp [reqCommitTariff, ten, clear, hp]

theorem commitTariff_exec (calm : Calm s) :
    let high := { s with ten := true }
    let absent := fun (table : TariffTable) (k : AccountNo) =>
      ∃ e, s.accountEntry k = some e ∧ e.active = true ∧ table.classes[e.tariffClass] = none
    exec (.commitTariff tag false) s = .next (refused (s.sampleTen false) tag 37 .disabled) ∧
    (s.tariff.lockout = true → exec (.commitTariff tag true) s = .next (refused high tag 37 .lockout)) ∧
    (s.tariff.lockout = false → (∀ table, s.tariff.pending ≠ .loaded table) →
      exec (.commitTariff tag true) s = .next (refused high tag 37 .state)) ∧
    (∀ table k, s.tariff.lockout = false → s.tariff.pending = .loaded table → absent table k →
      (∀ j, absent table j → k ≤ j) →
      exec (.commitTariff tag true) s = .next (answered high tag 37 ⟨.notValid, .accountItem k⟩)) ∧
    (∀ table, s.tariff.lockout = false → s.tariff.pending = .loaded table → (∀ k, ¬ absent table k) →
      (s.site.live = true → exec (.commitTariff tag true) s = .next (answered
        { high with tariff := { s.tariff with pending := .commitPending table } } tag 37 ⟨.ok, .none⟩)) ∧
      (s.site.live = false → exec (.commitTariff tag true) s = .next (answered
        ({ high with tariff := { s.tariff with active := some table, pending := .empty, trial := false } }.raise
          (.tariff true table.identifier s.engine.cycleNo s.billing.clock
            (s.tariff.active.map TariffTable.identifier))) tag 37 ⟨.ok, .none⟩))) := by
  intro high absent
  have high_eq : s.sampleTen true = high := rfl
  refine ⟨?_, fun lockout => ?_, fun clear other => ?_, fun table k clear pending lacks lowest => ?_,
    fun table clear pending every => ?_⟩
  · exact exec_atTen_calm calm rfl (reqCommitTariff_low (sampleTen_ten s false))
  · exact exec_atTen_calm calm rfl (reqCommitTariff_lockout (s := high) rfl lockout)
  · exact exec_atTen_calm calm rfl (reqCommitTariff_state (s := high) rfl clear other)
  · have item : high.classAbsent table = some k := classAbsent_eq_some lacks lowest
    exact exec_atTen_calm calm rfl (by rw [high_eq]; simp [reqCommitTariff, high, clear, pending, item])
  · have item : high.classAbsent table = none := classAbsent_eq_none every
    refine ⟨fun live => ?_, fun live => ?_⟩
    · exact exec_atTen_calm calm rfl
        (by rw [high_eq]; simp [reqCommitTariff, high, clear, pending, item, live, Reply.ok])
    · exact exec_atTen_calm calm rfl
        (by rw [high_eq]; simp [reqCommitTariff, high, clear, pending, item, live, Reply.ok, State.putInForce])

/-! ### READ TARIFF (R159) -/

theorem reqReadTariff_badIndex {name : Option TariffName} {cls : Nat} (h : 8 < cls) :
    reqReadTariff name cls s = (s, .refuse .badIndex) := by
  simp [reqReadTariff, h]

/-- The table that READ TARIFF names. -/
def tableNamed : TariffName → Tariff → Option TariffTable
  | .active, t => t.active
  | .pending, t => t.pending.table

theorem reqReadTariff_named (name : TariffName) {cls : Nat} (range : cls ≤ 8) : reqReadTariff (some name) cls s =
    (s, ⟨.ok, .tariff ⟨s.tariff.active.isSome, s.tariff.pending, s.tariff.trial, s.tariff.lockout, s.ten,
      tariffDetail (tableNamed name s.tariff) (numbered 8 cls)⟩⟩) := by
  cases name <;> simp [reqReadTariff, Nat.not_lt.mpr range, tableNamed, Reply.okWith]

/-- READ TARIFF of a table that the request finds, or of none. -/
theorem readTariff_exec (calm : Calm s) (ten : Bool) (name : TariffName) {cls : Nat} (range : cls ≤ 8)
    {table : Option TariffTable} (held : tableNamed name (s.sampleTen ten).tariff = table) :
    ∃ detail, exec (.readTariff tag ten (some name) cls) s = .next (answered (s.sampleTen ten) tag 40
        ⟨.ok, .tariff ⟨s.tariff.active.isSome, (s.sampleTen ten).tariff.pending, s.tariff.trial,
          (s.sampleTen ten).tariff.lockout, ten, detail⟩⟩) ∧
      (table = none → detail = .tableAbsent) ∧
      (∀ x, table = some x → cls = 0 →
        detail = .table x.identifier x.mode (allClasses.filter fun k => x.classes[k].isSome)) ∧
      (∀ x (c : ClassNo), table = some x → cls = c.val + 1 → detail = .cls x.classes[c]) := by
  obtain ⟨active, trial⟩ := sampleTen_tables s ten
  have request := reqReadTariff_named (s := s.sampleTen ten) name range
  rw [held, active, trial, sampleTen_ten] at request
  refine ⟨_, exec_atTen_calm calm rfl request, fun h => ?_, fun x h zero => ?_, fun x c h number => ?_⟩
  · rw [h]; rfl
  · simp [tariffDetail, h, zero, numbered, TariffTable.present]
  · simp [tariffDetail, h, number]

end

/-- Settles O56: COMMIT by its checks in their order, READ by its class and the table it names. -/
theorem commitAndReadTariff : Obligations.CommitAndReadTariff := by
  intro tag s calm
  obtain ⟨low, lockout, state, lacks, commits⟩ := commitTariff_exec (tag := tag) calm
  refine ⟨low, lockout, state, lacks, commits, fun ten name cls h => exec_atTen_calm calm rfl (reqReadTariff_badIndex h),
    fun ten cls h => exec_atTen_calm calm rfl (by simp [reqReadTariff, Nat.not_lt.mpr h, Reply.refuse]),
    fun ten name cls h => readTariff_exec calm ten name h ?_⟩
  cases name with
  | active => exact (sampleTen_tables s ten).1
  | pending => cases hp : (s.sampleTen ten).tariff.pending <;> simp [tableNamed, hp, PendingTariff.table]

/-! ### LOAD TARIFF CLASS (R148, R150) -/

/-- Starts rise where each is later than every one before it. -/
theorem startsRise_iff (bands : List Band) :
    startsRise bands = true ↔ bands.Pairwise fun a b => a.start < b.start := by
  rw [← List.isChain_iff_pairwise]
  induction bands with
  | nil => simp [startsRise]
  | cons a rest ih =>
    cases rest with
    | nil => simp [startsRise]
    | cons b rest => simp [startsRise, ih]

/-- The band lists that a class may hold (R148). -/
theorem bandsValid_iff (seconds : Nat) (bands : List Band) :
    bandsValid seconds bands = true ↔ ValidBands seconds bands := by
  simp only [bandsValid, ValidBands, Bool.and_eq_true, decide_eq_true_eq, startsRise_iff, List.all_eq_true,
    Option.any_eq_true]
  constructor
  · rintro ⟨⟨⟨⟨-, most⟩, head⟩, rise⟩, fit⟩
    exact ⟨most, head, rise, fit⟩
  · rintro ⟨most, ⟨b, head, zero⟩, rise, fit⟩
    refine ⟨⟨⟨⟨?_, most⟩, b, head, zero⟩, rise⟩, fit⟩
    cases bands with
    | nil => simp at head
    | cons => simp

section
variable {s : State} {identifier cls : Nat} {mode : Option RoundingMode} {bands : List Band}

theorem reqLoadTariffClass_low (h : s.ten = false) :
    reqLoadTariffClass identifier mode cls bands s = (s, .refuse .disabled) := by
  simp [reqLoadTariffClass, h]

theorem reqLoadTariffClass_lockout (ten : s.ten = true) (h : s.tariff.lockout = true) :
    reqLoadTariffClass identifier mode cls bands s = (s, .refuse .lockout) := by
  simp [reqLoadTariffClass, ten, h]

variable (ten : s.ten = true) (clear : s.tariff.lockout = false)
include ten clear

theorem reqLoadTariffClass_badIndex (h : cls = 0 ∨ 8 < cls) :
    reqLoadTariffClass identifier mode cls bands s = (s, .refuse .badIndex) := by
  simp [reqLoadTariffClass, ten, clear, numbered_none h]

/-- Each band's start and rate are within their ranges, and no class has more than six (R148). -/
def Clean (bands : List Band) : Prop := bands.length ≤ 6 ∧ ∀ b ∈ bands, b.start ≤ 86399 ∧ b.rate ≤ 9999999

omit ten clear in
theorem not_clean_iff : ¬ Clean bands ↔
    6 < bands.length ∨ bands.any (fun b => decide (86399 < b.start) || decide (9999999 < b.rate)) = true := by
  simp only [Clean, List.any_eq_true, Bool.or_eq_true, decide_eq_true_eq, not_and_or, not_forall, Nat.not_le, exists_prop]

theorem reqLoadTariffClass_badValue (c : ClassNo) (h : mode = none ∨ ¬ Clean bands) :
    reqLoadTariffClass identifier mode (c.val + 1) bands s = (s, .refuse .badValue) := by
  cases mode with
  | none => simp [reqLoadTariffClass, ten, clear]
  | some mode =>
    have unclean := not_clean_iff.mp (h.resolve_left (by simp))
    simp only [reqLoadTariffClass, ten, clear, numbered_succ, Bool.not_true, Bool.false_eq_true, if_false, unclean, if_true]

variable (clean : Clean bands) (mode : RoundingMode) (c : ClassNo)
include clean

theorem reqLoadTariffClass_busy (h : s.tariff.pending.isCommitted = true) :
    reqLoadTariffClass identifier (some mode) (c.val + 1) bands s = (s, .refuse .busy) := by
  have clean' := mt not_clean_iff.mpr (not_not.mpr clean)
  simp only [reqLoadTariffClass, ten, clear, numbered_succ, Bool.not_true, Bool.false_eq_true, if_false, clean', h, if_true]

theorem reqLoadTariffClass_mismatch (free : s.tariff.pending.isCommitted = false)
    (h : s.tariff.pending.mismatch identifier mode = true) :
    reqLoadTariffClass identifier (some mode) (c.val + 1) bands s = (s, .refuse .notValid) := by
  have clean' := mt not_clean_iff.mpr (not_not.mpr clean)
  simp only [reqLoadTariffClass, ten, clear, numbered_succ, Bool.not_true, Bool.false_eq_true, if_false, clean', free, h,
    if_true]

theorem reqLoadTariffClass_notValid (free : s.tariff.pending.isCommitted = false)
    (given : bands ≠ []) (h : ¬ ValidBands (s.site.values.intervalMin * 60) bands) :
    reqLoadTariffClass identifier (some mode) (c.val + 1) bands s = (s, .refuse .notValid) := by
  have clean' := mt not_clean_iff.mpr (not_not.mpr clean)
  have invalid := Bool.eq_false_iff.mpr (mt (bandsValid_iff _ _).mp h)
  simp only [reqLoadTariffClass, ten, clear, numbered_succ, Bool.not_true, Bool.false_eq_true, if_false, clean', free]
  split
  · rfl
  · simp [given, invalid]

/-- A load that passes writes its class into the pending table, a fresh one where there is none (R150). -/
theorem reqLoadTariffClass_stored {table : TariffTable}
    (valid : bands = [] ∨ ValidBands (s.site.values.intervalMin * 60) bands)
    (target : s.tariff.pending = .loaded table ∧ table.identifier = identifier ∧ table.mode = mode ∨
      s.tariff.pending = .empty ∧ table = ⟨identifier, mode, Vector.replicate 8 none⟩) :
    reqLoadTariffClass identifier (some mode) (c.val + 1) bands s =
      ({ s with tariff := { s.tariff with
          pending := .loaded { table with classes := table.classes.set c (if bands = [] then none else some bands) } } },
        ⟨.ok, .classes identifier (allClasses.filter fun k =>
          (table.classes.set c (if bands = [] then none else some bands))[k].isSome)⟩) := by
  have clean' := mt not_clean_iff.mpr (not_not.mpr clean)
  have passes : (!bands.isEmpty && !bandsValid (s.site.values.intervalMin * 60) bands) = false := by
    rcases valid with rfl | valid
    · rfl
    · simp [(bandsValid_iff _ _).mpr valid]
  have free : s.tariff.pending.isCommitted = false := by
    rcases target with ⟨h, -⟩ | ⟨h, -⟩ <;> rw [h] <;> rfl
  have same : s.tariff.pending.mismatch identifier mode = false := by
    rcases target with ⟨h, rfl, rfl⟩ | ⟨h, -⟩ <;> simp [h, PendingTariff.mismatch]
  have written : s.tariff.loadTarget identifier mode = table ∧ table.identifier = identifier := by
    rcases target with ⟨h, named, -⟩ | ⟨h, rfl⟩
    · exact ⟨by rw [Tariff.loadTarget, h], named⟩
    · exact ⟨by rw [Tariff.loadTarget, h], rfl⟩
  obtain ⟨written, named⟩ := written
  simp only [reqLoadTariffClass, ten, clear, numbered_succ, Bool.not_true, Bool.false_eq_true, if_false, clean', free, same,
    passes, written, TariffTable.write, named, TariffTable.present, Reply.okWith, List.isEmpty_iff]

end

/-- Settles O55: each refusal by its check, in their order, and the class that a load writes. -/
theorem loadTariffClass : Obligations.LoadTariffClass := by
  intro tag identifier bands s calm high clean valid
  have found {cls : Nat} {mode : Option RoundingMode} {t : State} {reply : Reply}
      (h : reqLoadTariffClass identifier mode cls bands high = (t, reply)) :
      exec (.loadTariffClass tag true identifier mode cls bands) s = .next (answered t tag 36 reply) :=
    exec_atTen_calm calm rfl h
  refine ⟨fun mode cls => exec_atTen_calm calm rfl (reqLoadTariffClass_low (sampleTen_ten s false)),
    fun mode cls lockout => found (reqLoadTariffClass_lockout rfl lockout), fun clear =>
    ⟨fun mode cls range => found (reqLoadTariffClass_badIndex (s := high) rfl clear range),
      fun mode c bad => found (reqLoadTariffClass_badValue (s := high) rfl clear c bad),
      fun mode c table cleanly pending => ?_, fun mode c table cleanly pending bad => ?_,
      fun mode c cleanly pending bad => ?_, fun mode c table cleanly validly target => ?_⟩⟩
  · exact found (reqLoadTariffClass_busy (s := high) rfl clear cleanly mode c (by rw [show high.tariff.pending = _ from pending]; rfl))
  · have free : high.tariff.pending.isCommitted = false := by rw [show high.tariff.pending = _ from pending]; rfl
    by_cases same : table.identifier = identifier ∧ table.mode = mode
    · obtain ⟨sameId, sameMode⟩ := same
      have invalid := (bad.resolve_left (not_not.mpr sameId)).resolve_left (not_not.mpr sameMode)
      exact found (reqLoadTariffClass_notValid (s := high) rfl clear cleanly mode c free (fun h => invalid (.inl h))
        fun h => invalid (.inr h))
    · refine found (reqLoadTariffClass_mismatch (s := high) rfl clear cleanly mode c free ?_)
      rw [show high.tariff.pending = _ from pending]
      simpa [PendingTariff.mismatch] using not_and_or.mp same
  · have free : high.tariff.pending.isCommitted = false := by rw [show high.tariff.pending = _ from pending]; rfl
    exact found (reqLoadTariffClass_notValid (s := high) rfl clear cleanly mode c free (fun h => bad (.inl h)) fun h => bad (.inr h))
  · exact found (reqLoadTariffClass_stored (s := high) rfl clear cleanly mode c validly target)

end Sys2Proof.Tariffs
end

section
/-! SUPPORT. The requests about the schedule and the office's cancelling of a delivery (R119, R143, R144). -/

namespace Sys2Proof.Schedules

open Sys2Proof Sys2Proof.Machine Sys2Proof.Stated Sys2Proof.ClearFlags Sys2Proof.Loads Sys2Proof.Reads

/-! ### The place of an entry (R143) -/

/-- An entry goes behind those whose time is at or before its own (R143). -/
theorem insertSchedule_place (e : ScheduleEntry) (xs : List ScheduleEntry) : ∃ front back, xs = front ++ back ∧
    (∀ x ∈ front, x.time ≤ e.time) ∧ (∀ x, back.head? = some x → e.time < x.time) ∧
    insertSchedule e xs = front ++ e :: back := by
  induction xs with
  | nil => exact ⟨[], [], rfl, by simp, by simp, rfl⟩
  | cons x xs ih =>
    by_cases h : x.time ≤ e.time
    · obtain ⟨front, back, rfl, before, after, placed⟩ := ih
      exact ⟨x :: front, back, rfl, List.forall_mem_cons.mpr ⟨h, before⟩, after, by simp [insertSchedule, h, placed]⟩
    · exact ⟨[], x :: xs, rfl, by simp, by simpa using h, by simp [insertSchedule, h]⟩

theorem entrySeconds_eq (e : ScheduleEntry) : entrySeconds e = e.time := rfl

section
variable {s : State} {day second point : Nat} {side : Option Side}

theorem reqLoadSchedule_noClock (h : s.billing.clock = none) :
    reqLoadSchedule day second point side s = (s, .refuse .state) := by
  simp [reqLoadSchedule, Billing.nowSeconds, h]

variable {now : Nat} (clock : s.billing.clock = some now)
include clock

theorem reqLoadSchedule_badIndex (h : point = 0 ∨ 12 < point) :
    reqLoadSchedule day second point side s = (s, .refuse .badIndex) := by
  simp [reqLoadSchedule, Billing.nowSeconds, clock, numbered_none h]

theorem reqLoadSchedule_badValue (p : PointNo) (h : side = none ∨ 86399 < second) :
    reqLoadSchedule day second (p.val + 1) side s = (s, .refuse .badValue) := by
  cases side with
  | none => simp [reqLoadSchedule, Billing.nowSeconds, clock]
  | some side => simp [reqLoadSchedule, Billing.nowSeconds, clock, h.resolve_left (by simp)]

variable (range : second ≤ 86399) (p : PointNo) (side : Side)
include range

theorem reqLoadSchedule_notValid (h : s.switched p = none) :
    reqLoadSchedule day second (p.val + 1) (some side) s = (s, .refuse .notValid) := by
  simp [reqLoadSchedule, Billing.nowSeconds, clock, Nat.not_lt.mpr range, h]

variable (switched : s.switched p ≠ none)
include switched

theorem reqLoadSchedule_duplicate (h : ∃ x ∈ s.schedule, x.point = p ∧ x.day = day ∧ x.second = second) :
    reqLoadSchedule day second (p.val + 1) (some side) s = (s, .refuse .duplicate) := by
  simp [reqLoadSchedule, Billing.nowSeconds, clock, Nat.not_lt.mpr range, switched, and_assoc, h]

variable (once : ¬ ∃ x ∈ s.schedule, x.point = p ∧ x.day = day ∧ x.second = second)
include once

theorem reqLoadSchedule_tooLate
    (h : entrySeconds ⟨day, second, p, side⟩ + s.site.values.lateLimit < now / 1000) :
    reqLoadSchedule day second (p.val + 1) (some side) s = (s, .refuse .tooLate) := by
  simp only [entrySeconds_eq] at h
  simp [reqLoadSchedule, Billing.nowSeconds, clock, Nat.not_lt.mpr range, switched, and_assoc, once, h]

theorem reqLoadSchedule_full (h : now / 1000 ≤ entrySeconds ⟨day, second, p, side⟩ + s.site.values.lateLimit)
    (full : 16 ≤ s.schedule.length) :
    reqLoadSchedule day second (p.val + 1) (some side) s = (s, .refuse .queueFull) := by
  simp only [entrySeconds_eq] at h
  simp [reqLoadSchedule, Billing.nowSeconds, clock, Nat.not_lt.mpr range, switched, and_assoc, once, Nat.not_lt.mpr h, full]

theorem reqLoadSchedule_placed (h : now / 1000 ≤ entrySeconds ⟨day, second, p, side⟩ + s.site.values.lateLimit)
    (room : s.schedule.length < 16) : reqLoadSchedule day second (p.val + 1) (some side) s =
      ({ s with schedule := insertSchedule ⟨day, second, p, side⟩ s.schedule }, ⟨.ok, .none⟩) := by
  simp only [entrySeconds_eq] at h
  simp [reqLoadSchedule, Billing.nowSeconds, clock, Nat.not_lt.mpr range, switched, and_assoc, once, Nat.not_lt.mpr h,
    Nat.not_le.mpr room, Reply.ok]

end

/-- Settles O51: each refusal by its check, in their order, and the place an accepted entry takes. -/
theorem scheduleRequests : Obligations.ScheduleRequests := by
  refine ⟨fun tag day second point side s calm => ⟨fun h => ?_, fun h range => ?_, fun h low high bad => ?_⟩,
    fun tag day second now p side s calm clock range => ⟨fun h => ?_, fun h twice => ?_, fun h once late => ?_,
      fun h once due full => ?_, fun h once due room => ?_⟩,
    fun tag point day second s calm => ⟨fun h => ?_, fun p hp h => ?_, fun p hp h => ?_⟩,
    fun tag s calm => exec_request_calm calm rfl rfl⟩
  · exact exec_request_calm calm rfl (reqLoadSchedule_noClock h)
  · obtain ⟨now, clock⟩ := Option.ne_none_iff_exists'.mp h
    exact exec_request_calm calm rfl (reqLoadSchedule_badIndex clock range)
  · obtain ⟨now, clock⟩ := Option.ne_none_iff_exists'.mp h
    obtain ⟨p, rfl⟩ : ∃ p : PointNo, point = p.val + 1 := ⟨⟨point - 1, by omega⟩, by simp; omega⟩
    exact exec_request_calm calm rfl (reqLoadSchedule_badValue clock p bad)
  · exact exec_request_calm calm rfl (reqLoadSchedule_notValid clock range p side h)
  · exact exec_request_calm calm rfl (reqLoadSchedule_duplicate clock range p side h twice)
  · exact exec_request_calm calm rfl (reqLoadSchedule_tooLate clock range p side h once late)
  · exact exec_request_calm calm rfl (reqLoadSchedule_full clock range p side h once due full)
  · obtain ⟨front, back, split, before, after, placed⟩ := insertSchedule_place ⟨day, second, p, side⟩ s.schedule
    refine ⟨front, back, split, before, after, ?_⟩
    rw [exec_request_calm calm rfl (reqLoadSchedule_placed clock range p side h once due room), placed]
  · exact exec_request_calm calm rfl (by simp [reqDeleteSchedule, numbered_none h, Reply.refuse])
  · subst hp
    have absent : ¬ ∃ x ∈ s.schedule, x.point = p ∧ x.day = day ∧ x.second = second := fun ⟨x, hx, hit⟩ => h x hx hit
    exact exec_request_calm calm rfl (by simp [reqDeleteSchedule, and_assoc, absent, Reply.refuse])
  · subst hp
    exact exec_request_calm calm rfl (by simp [reqDeleteSchedule, and_assoc, Bool.or_assoc, h, Reply.ok])

end Sys2Proof.Schedules
end

section
/-! SUPPORT. The end of a fuel delivery, the office's cancelling of one, and the end of a ticket wait (R108, R115, R117, R119). -/

namespace Sys2Proof.Sessions

open Sys2Proof Sys2Proof.Machine Sys2Proof.Stated Sys2Proof.ClearFlags Sys2Proof.StopAndClear Sys2Proof.TankSet
  Sys2Proof.LineEvents

/-! ### An event of its own (log entry 6) -/

/-- An event left over happens once it is left over no longer, and a free transmitter takes what it raised. -/
theorem exec_timed {x : TimedEvent} {s : State} (h : x ∈ s.due) :
    exec (rowOf x) s = .next (({ s with due := s.due.erase x } : State).happen x).startTx := by
  rw [exec_rowOf, takeEvent_of_mem h]

theorem startTx_notices (p : Port) : p.startTx.notices = p.notices := by
  unfold Port.startTx
  split <;> rfl

theorem told_startTx {s t : State} {body : NoticeBody} (h : Told s t body) : Told s t.startTx body := by
  intro room
  obtain ⟨x, hx, eq⟩ := h room
  exact ⟨x, (startTx_notices t.port).symm ▸ hx, eq⟩

/-- Where no more notices are queued than were, none is displaced. -/
theorem joined_of_notices {s t : State} (h : t.port.notices = s.port.notices) : Joined 0 s t :=
  fun _ => ⟨[], Nat.le_refl _, by rw [h, List.append_nil]⟩

/-- The one notice of an event is told. -/
theorem told_of_notices {s t : State} {body : NoticeBody}
    (h : t.port.notices = (s.port.raise false body).notices) : Told s t body :=
  told_of_raise (u := s) (k := 0) rfl (joined_of_notices h) (by omega)

/-! ### The end of a session (R117) -/

/-- The meter of a session that has ended. -/
def endedMeter (r : MeterRec) (lastChunk : Option Byte) : MeterRec :=
  { r with session := none, promoted := false, lastChunk, due := false, place := r.place.unqueue }

/-- The notice of the end of a session. -/
def endedBody (m : MeterNo) (x : Session) (d : SessionEnd) : NoticeBody :=
  .delivery ⟨m, x.set.val + 1, d.result, x.live, d.unitReason, none, d.revoke, d.ticket⟩

section
variable {s : State} {m : MeterNo} {x : Session} {d : SessionEnd}

/-- The end of a session that has delivered nothing, or has been credited with its ticket. -/
theorem endSession_plain (session : (s.meter m).session = some x)
    (h : x.phase = .granting ∨ d.result = .complete) : s.endSession m d =
      { s.withdraw (.fuel m) with
        meters := s.meters.set m (endedMeter (s.meter m) d.lastChunk)
        tanks := s.tanks.set x.set { s.tank x.set with discCount := 0 }
        port := s.port.raise false (endedBody m x d) } := by
  simp only [State.endSession, session, State.dropMeterCommand, h, Bool.or_eq_true, decide_eq_true_eq, if_true]
  simp [State.modMeter, State.putMeter, State.meter, State.withdraw, State.modTank, State.putTank, State.tank, State.raise,
    State.raiseMarked, endedMeter, endedBody]

/-- The end of a session that has delivered: its live total goes to the delivered totals. -/
theorem endSession_live (session : (s.meter m).session = some x) (delivering : x.phase ≠ .granting)
    (cut : d.result ≠ .complete) : s.endSession m d =
      { s.withdraw (.fuel m) with
        meters := s.meters.set m (endedMeter (s.meter m) d.lastChunk)
        tanks := s.tanks.set x.set
          { s.tank x.set with delivered := min (2 ^ 64 - 1) ((s.tank x.set).delivered + x.live), discCount := 0 }
        sets := s.sets.set x.set { s.setRec x.set with hire := { (s.setRec x.set).hire with
          delivered := min (2 ^ 64 - 1) ((s.setRec x.set).hire.delivered + x.live) } }
        port := s.port.raise false (endedBody m x d) } := by
  simp only [State.endSession, session, State.dropMeterCommand, delivering, cut, Bool.or_eq_true, decide_eq_true_eq, or_self,
    if_false]
  simp [State.modMeter, State.putMeter, State.meter, State.withdraw, State.modTank, State.putTank, State.tank, State.raise,
    State.raiseMarked, endedMeter, endedBody, State.addDelivered, State.modHire, State.modSet, State.putSet, State.setRec,
    satAdd, max64]

theorem mem_withdrawn {o : Origin} {c : Command} (h : c ∈ (s.withdraw o).engine.queue) :
    c ∈ s.engine.queue ∧ c.origin ≠ o := State.mem_withdraw.mp h

/-- A session that has delivered ends, in a state the session's record was put in place before (R117). -/
theorem sessionEnded_endSession (session : (s.meter m).session = some x) (delivering : x.phase ≠ .granting)
    {result : DeliveryResult} (cut : result ≠ .complete) : SessionEnded s (s.endSession m { result }) m x result := by
  rw [endSession_live session delivering cut]
  exact
    { meter := by simp [State.meter, endedMeter]
      others := fun k hk => by simp [State.meter, Fin.val_ne_of_ne hk.symm]
      withdrawn := fun c hc => mem_withdrawn hc
      tank := by simp [State.tank]
      tanks := fun n hn => by simp [State.tank, Fin.val_ne_of_ne hn.symm]
      hire := by simp [State.setRec]
      sets := fun n hn => by simp [State.setRec, Fin.val_ne_of_ne hn.symm]
      told := told_of_notices rfl
      rest := ⟨rfl, rfl, rfl, rfl, rfl, rfl, rfl, rfl⟩ }

end

/-- The transmitter's next frame changes nothing of the end of a session. -/
theorem sessionEnded_startTx {s t : State} {m : MeterNo} {x : Session} {result : DeliveryResult}
    (h : SessionEnded s t m x result) : SessionEnded s t.startTx m x result where
  meter := h.meter
  others := h.others
  withdrawn := h.withdrawn
  tank := h.tank
  tanks := h.tanks
  hire := h.hire
  sets := h.sets
  told := told_startTx h.told
  rest := h.rest

theorem sessionEnded_due {s t : State} {due : List TimedEvent} {m : MeterNo} {x : Session} {result : DeliveryResult}
    (h : SessionEnded { s with due } t m x result) : SessionEnded s t m x result :=
  ⟨h.meter, h.others, h.withdrawn, h.tank, h.tanks, h.hire, h.sets, h.told, h.rest⟩

/-- Settles O20: the event's counter stands at 0, and the session's end is what it does. -/
theorem ticketWaitExpires : Obligations.TicketWaitExpires := by
  intro m x b s due session phase
  let u : State := { s with due := s.due.erase (.ticketWait m) }
  have expires : u.happen (.ticketWait m) = u.endSession m { result := .noTicket } := by
    simp only [State.happen, State.expireTicketWait, show (u.meter m).session = _ from session, phase]
  have ended : SessionEnded u (u.endSession m { result := .noTicket }) m x .noTicket :=
    sessionEnded_endSession (s := u) session (by simp [phase]) (by simp)
  refine ⟨_, exec_timed (x := .ticketWait m) due, ?_, State.happen_due u _⟩
  show SessionEnded s (u.happen (.ticketWait m)).startTx m x .noTicket
  rw [expires]
  exact sessionEnded_startTx (sessionEnded_due ended)

/-! ### CANCEL DELIVERY (R119) -/

theorem reqCancelDelivery_badIndex {meter : Nat} (h : meter = 0 ∨ 2 < meter) (s : State) :
    reqCancelDelivery meter s = (s, .refuse .badIndex) := by
  simp [reqCancelDelivery, numbered_none h]

section
variable {s : State} {m : MeterNo} {x : Session}

theorem reqCancelDelivery_idle (h : (s.meter m).session = none) :
    reqCancelDelivery (m.val + 1) s = (s, .refuse .state) := by
  simp [reqCancelDelivery, h]

variable (session : (s.meter m).session = some x)
include session

theorem reqCancelDelivery_tooLate (h : ∃ wait buffer, x.phase = .ticketing wait buffer) :
    reqCancelDelivery (m.val + 1) s = (s, .refuse .tooLate) := by
  obtain ⟨wait, buffer, phase⟩ := h
  simp [reqCancelDelivery, session, phase]

theorem reqCancelDelivery_again (h : x.phase = .granting ∨ x.phase = .dispensing) (cancel : x.cancel = true) :
    reqCancelDelivery (m.val + 1) s = (s, ⟨.ok, .none⟩) := by
  rcases h with phase | phase <;> simp [reqCancelDelivery, session, phase, cancel, Reply.ok]

theorem reqCancelDelivery_queued (phase : x.phase = .granting) (fresh : x.cancel = false)
    (place : (s.meter m).place = .queued .permit) :
    reqCancelDelivery (m.val + 1) s = (s.endSession m { result := .cancelled }, ⟨.ok, .none⟩) := by
  simp [reqCancelDelivery, session, phase, fresh, place, Reply.ok]

/-- The cancel mark set, and a REVOKE due (R119). -/
def marked (s : State) (m : MeterNo) (x : Session) : State :=
  s.modMeter m fun r => { r with session := some { x with cancel := true }, due := true }

theorem reqCancelDelivery_marked (h : x.phase = .granting ∧ (s.meter m).place ≠ .queued .permit ∨ x.phase = .dispensing)
    (fresh : x.cancel = false) :
    reqCancelDelivery (m.val + 1) s = ((marked s m x).tryEnqueueMeter m, ⟨.ok, .none⟩) := by
  rcases h with ⟨phase, place⟩ | phase
  · simp [reqCancelDelivery, session, phase, fresh, place, Reply.ok, marked]
  · simp [reqCancelDelivery, session, phase, fresh, Reply.ok, marked]

end

/-- A REVOKE that is due waits while the meter's place is taken (R108). -/
theorem tryEnqueueMeter_waits {s : State} {m : MeterNo} (h : (s.meter m).place ≠ .free) : s.tryEnqueueMeter m = s := by
  unfold State.tryEnqueueMeter
  dsimp only
  split
  · rename_i place _
    exact absurd place h
  · rfl

/-- What becomes of a due REVOKE: it stays due, or it joins the queue for the meter's unit (R108). -/
theorem tryEnqueueMeter_spec (s : State) (m : MeterNo) : s.tryEnqueueMeter m = s ∨
    ∃ a, s.meterUnit m = some a ∧ s.tryEnqueueMeter m =
      { s with
        engine := { s.engine with queue := s.engine.queue ++ [⟨a, .revoke, [], .fuel m⟩] }
        meters := s.meters.set m { s.meter m with place := .queued .revoke, due := false } } := by
  unfold State.tryEnqueueMeter
  dsimp only
  split
  · rename_i unit _ _ found
    split
    · exact .inl rfl
    · rename_i u queued
      rw [State.enqueueFuel, Option.map_eq_some_iff] at queued
      obtain ⟨v, joined, rfl⟩ := queued
      obtain ⟨-, -, -, rfl⟩ := State.enqueue_eq_some.mp joined
      exact .inr ⟨unit, found, by simp [State.modMeter, State.putMeter, State.meter]⟩
  · exact .inl rfl

/-- Settles O53: each refusal by the session's state, the end of a queued PERMIT, and the REVOKE that a mark asks for. -/
theorem cancelDelivery : Obligations.CancelDelivery := by
  refine ⟨fun tag meter s calm h => exec_request_calm calm rfl (reqCancelDelivery_badIndex h s),
    fun tag m s calm => ⟨fun h => exec_request_calm calm rfl (reqCancelDelivery_idle h), fun x session => ⟨fun h => ?_,
      fun h cancel => ?_, fun phase fresh place => ?_, fun code phase fresh place => ?_, fun phase fresh place => ?_⟩⟩⟩
  · exact exec_request_calm calm rfl (reqCancelDelivery_tooLate session h)
  · exact exec_request_calm calm rfl (reqCancelDelivery_again session h cancel)
  · have request := reqCancelDelivery_queued session phase fresh place
    rw [endSession_plain session (.inl phase)] at request
    refine ⟨_, exec_request_calm calm rfl request, rfl, ?_, fun k hk => ?_, fun c hc => mem_withdrawn hc, ?_, fun k hk => ?_,
      rfl, told_of_notices rfl, rfl, rfl, rfl, rfl, rfl, rfl⟩
    · have queued : s.meters[m.val].place = .queued .permit := place
      simp [answered, State.meter, endedMeter, queued, Place.unqueue]
    · simp [answered, State.meter, Fin.val_ne_of_ne hk.symm]
    · simp [answered, State.tank]
    · simp [answered, State.tank, Fin.val_ne_of_ne hk.symm]
  · have marks : reqCancelDelivery (m.val + 1) s = (marked s m x, ⟨.ok, .none⟩) := by
      rw [reqCancelDelivery_marked session (phase.imp_left fun h => ⟨h, by rw [place]; nofun⟩) fresh,
        tryEnqueueMeter_waits (by simp [marked, place])]
    exact exec_request_calm calm rfl marks
  · have request := reqCancelDelivery_marked session (.inr phase) fresh
    have session' : ((marked s m x).meter m).session = some { x with cancel := true } := by simp [marked]
    have due' : ((marked s m x).meter m).due = true := by simp [marked]
    rcases tryEnqueueMeter_spec (marked s m x) m with waits | ⟨a, unit, joined⟩
    · rw [waits] at request
      exact ⟨_, exec_request_calm calm rfl request, rfl, session', .inl due', rfl⟩
    · rw [joined] at request
      refine ⟨_, exec_request_calm calm rfl request, rfl, ?_, .inr ⟨?_, a, unit, ?_⟩, rfl⟩
      · simpa [answered, State.meter] using session'
      · simp [answered, State.meter]
      · simp [answered]

end Sys2Proof.Sessions
end

section
/-! SUPPORT. Walks that update a store entry by entry, and the request that sets the clock (R162, R164). -/

namespace Sys2Proof.Walks

open Sys2Proof Sys2Proof.Machine Sys2Proof.Stated Sys2Proof.ClearFlags

/-! ### A walk over a store -/

/-- A walk whose every visit updates the entry of one store by its number, and nothing else: no entry is visited twice. -/
theorem forEach_put {α : Type} {n : Nat} (put : Vector α n → State) {g : Fin n → State → State}
    (f : Fin n → α → α) (step : ∀ k v, g k (put v) = put (v.set k (f k v[k]))) {xs : List (Fin n)} (nodup : xs.Nodup)
    (v : Vector α n) :
    forEach xs g (put v) = put (Vector.ofFn fun k => if k ∈ xs then f k v[k] else v[k]) := by
  induction xs generalizing v with
  | nil => simp [forEach]
  | cons x xs ih =>
    obtain ⟨fresh, nodup⟩ := List.nodup_cons.mp nodup
    show forEach xs g (g x (put v)) = _
    rw [step, ih nodup]
    congr 1
    ext i hi
    simp only [Vector.getElem_ofFn, Fin.getElem_fin, List.mem_cons]
    by_cases same : x = ⟨i, hi⟩
    · subst same
      simp [fresh]
    · have other : x.val ≠ i := fun h => same (Fin.ext h)
      simp [Vector.getElem_set_ne, other, Ne.symm same]

/-- A walk over every entry. -/
theorem forEach_put_all {α : Type} {n : Nat} (put : Vector α n → State) {g : Fin n → State → State}
    (f : Fin n → α → α) (step : ∀ k v, g k (put v) = put (v.set k (f k v[k]))) (v : Vector α n) :
    forEach (List.finRange n) g (put v) = put (Vector.ofFn fun k => f k v[k]) := by
  rw [forEach_put put f step (List.nodup_finRange n)]
  simp

/-! ### Walks over the accounts (R164) -/

/-- The state with the accounts given. -/
def withAccounts (s : State) (v : Vector AccountRec 48) : State := { s with billing := { s.billing with accounts := v } }

theorem withAccounts_account (s : State) (f : AccountNo → AccountRec) (k : AccountNo) :
    (withAccounts s (Vector.ofFn f)).account k = f k := Vector.getElem_ofFn _

/-- Every account with an open interval takes a mark. -/
theorem markAll_eq (s : State) (mark : Marks → Marks) : s.markAll mark = withAccounts s
    (Vector.ofFn fun k => if s.intervalOpen k then { s.account k with marks := mark (s.account k).marks }
      else s.account k) := by
  refine forEach_put_all (withAccounts s)
    (fun k r => if s.intervalOpen k then { r with marks := mark r.marks } else r) (fun k v => ?_) s.billing.accounts
  have opened : (withAccounts s v).intervalOpen k = s.intervalOpen k := rfl
  simp only [opened]
  split
  · rfl
  · simp

theorem activeAccounts_nodup (s : State) : s.activeAccounts.Nodup := (List.nodup_finRange 48).filter _

/-- A walk over the active accounts. -/
theorem forEach_active (f : AccountRec → AccountRec) (s : State) :
    forEach s.activeAccounts (fun k s => s.modAccount k f) s = withAccounts s
      (Vector.ofFn fun k => if k ∈ s.activeAccounts then f (s.account k) else s.account k) :=
  forEach_put (withAccounts s) (fun _ => f) (fun _ _ => rfl) (activeAccounts_nodup s) s.billing.accounts

/-! ### SET CLOCK (R162) -/

section
variable {s : State} {day second ms : Nat}

theorem reqSetClock_badValue (h : 86399 < second ∨ 999 < ms) : reqSetClock day second ms s = (s, .refuse .badValue) := by
  simp [reqSetClock, h]

variable (inDay : second ≤ 86399) (inSecond : ms ≤ 999)
include inDay inSecond

theorem reqSetClock_commission (h : s.site.live = false) : reqSetClock day second ms s =
    ({ s with billing := { s.billing with clock := some ((day * 86400 + second) * 1000 + ms) } },
      ⟨.ok, .clock ((day * 86400 + second) * 1000 + ms)⟩) := by
  simp [reqSetClock, Nat.not_lt.mpr inDay, Nat.not_lt.mpr inSecond, h, daySeconds, Reply.okWith]

/-- In LIVE the open intervals take their mark, and the offset and the next boundary follow the new time. -/
theorem reqSetClock_live (h : s.site.live = true) : reqSetClock day second ms s =
    ({ s with billing := { s.billing with
        clock := some ((day * 86400 + second) * 1000 + ms)
        accounts := Vector.ofFn fun k =>
          if s.intervalOpen k then { s.account k with marks := { (s.account k).marks with timeSet := true } }
          else s.account k
        interval := s.billing.interval.map fun i =>
          i.setClock s.intervalSeconds s.billing.clock ((day * 86400 + second) * 1000 + ms) } },
      ⟨.ok, .clock ((day * 86400 + second) * 1000 + ms)⟩) := by
  simp only [reqSetClock, Nat.not_lt.mpr inDay, Nat.not_lt.mpr inSecond, or_self, if_false, h, if_true, markAll_eq]
  rfl

end

/-- The open intervals at a SET CLOCK that finds a time (R162). -/
theorem setClock_eq (i : OpenInterval) (seconds old new : Nat) : i.setClock seconds (some old) new =
    if i.nextBoundary ≤ new / 1000 then { i with offset := i.offset + old - new, timeSetDue := true }
    else { i with
      offset := i.offset + old - new, timeSetDue := false
      nextBoundary := (new / 1000 / seconds + 1) * seconds } := by
  simp [OpenInterval.setClock, boundaryAfter, Int.add_sub_assoc]

/-- Settles O35: the clock alone in COMMISSION; the marks, the offset and the next boundary in LIVE. -/
theorem setClock : Obligations.SetClock := by
  intro tag day second ms s calm new
  refine ⟨fun h => exec_request_calm calm rfl (reqSetClock_badValue h), fun inDay inSecond live =>
    exec_request_calm calm rfl (reqSetClock_commission inDay inSecond live),
    fun i old inDay inSecond live interval clock => ⟨_, exec_request_calm calm rfl (reqSetClock_live inDay inSecond live),
      ?_⟩⟩
  dsimp only
  refine ⟨?_, ?_, fun due => ?_, fun later => ?_, fun k opened => ?_, fun k closed => ?_, ?_, ?_, ?_⟩
  · rfl
  · rfl
  · show s.billing.interval.map _ = _
    rw [interval, clock, Option.map_some, setClock_eq, if_pos due]
  · show s.billing.interval.map _ = _
    rw [interval, clock, Option.map_some, setClock_eq, if_neg (Nat.not_le.mpr later)]
    rfl
  · refine (Vector.getElem_ofFn _).trans ?_
    rw [if_pos (Reads.intervalOpen_iff.mpr opened)]
  · refine (Vector.getElem_ofFn _).trans ?_
    rw [if_neg (mt Reads.intervalOpen_iff.mp closed)]
  · rfl
  · rfl
  · rfl

end Sys2Proof.Walks
end

section
/-! SUPPORT. GO LIVE (R15, R46, R163): its checks in one order, the first that fails, and what the site does when none fails. -/

namespace Sys2Proof.GoingLive

open Sys2Proof Sys2Proof.Machine Sys2Proof.Stated Sys2Proof.ClearFlags Sys2Proof.Loads Sys2Proof.Reads Sys2Proof.Walks
  Sys2Proof.Tariffs

/-- Every item that GO LIVE can name, in the order of its checks (R15). -/
def items : List GoLiveItem :=
  [.clock, .cycles, .tariff, .slots] ++ (allUnits.map .unit ++ (allFeeders.map .feederBoard ++ (allFeeders.map .feederPoint ++
    (allFeeders.map .feederAccount ++ (allSets.map .setUnit ++ (allPoints.map .pointSource ++ (allPoints.map .pointUnit ++
      allAccounts.map .accountClass)))))))

/-- The check of an item fails, as the model tests it. -/
def failsAt (s : State) : GoLiveItem → Bool
  | .clock => s.billing.clock.isNone
  | .cycles => !s.engine.running
  | .tariff => s.tariff.active.isNone
  | .slots => !s.tables.slotsFit
  | .unit a => (s.unitEntry a).any fun e => e.enabled && !s.unitNamedBack a e
  | .feederBoard f => (s.feederEntry f).any fun e => !s.enabledKind e.board .board
  | .feederPoint f => (s.feederEntry f).any fun e => (s.pointEntry e.point).isNone
  | .feederAccount f => (s.feederEntry f).any fun e => !(s.accountEntry e.account).any AccountEntry.active
  | .setUnit n => (s.setEntry n).any fun e => e.enabled && !s.ownedUnit e.unit .set (n.val + 1)
  | .pointSource p => (s.pointEntry p).any fun e => !s.sourcesEnabled e
  | .pointUnit p => (s.pointEntry p).any fun e => e.changeUnit.any fun u => !s.ownedUnit u .change (p.val + 1)
  | .accountClass k => s.tariff.active.any fun table =>
    (s.accountEntry k).any fun e => e.active && (table.classes[e.tariffClass]).isNone

/-- The items stand in the order of their ranks. -/
theorem items_sorted : items.Pairwise fun a b => goLiveRank a < goLiveRank b := by
  have trans : IsTrans GoLiveItem fun a b => goLiveRank a < goLiveRank b := ⟨fun _ _ _ => Nat.lt_trans⟩
  exact List.isChain_iff_pairwise.mp (by decide +kernel)

theorem mem_items (item : GoLiveItem) : item ∈ items := by
  cases item <;> simp [items, mem_allUnits, mem_allFeeders, mem_allSets, mem_allPoints, mem_allAccounts]

theorem findSome_cons {α : Type} (x : Option α) (xs : List (Option α)) :
    (x :: xs).findSome? id = x.or (xs.findSome? id) := by
  cases x <;> rfl

/-- GO LIVE names the first item whose check fails. -/
theorem goLiveItem_eq (s : State) : s.goLiveItem = items.find? (failsAt s) := by
  unfold State.goLiveItem
  split
  · rename_i unset
    simp [items, failsAt, unset]
  · rename_i set
    split
    · rename_i halted
      simp [items, failsAt, set, halted]
    · rename_i running
      split
      · rename_i none
        simp [items, failsAt, set, running, none]
      · rename_i table active
        split
        · rename_i unfit
          simp [items, failsAt, set, running, active, unfit]
        · rename_i fit
          have last : (fun k => failsAt s (.accountClass k)) = fun k =>
              (s.accountEntry k).any fun e => e.active && (table.classes[e.tariffClass]).isNone := by
            funext k
            simp [failsAt, active]
          have clock : failsAt s .clock = false := by simpa only [failsAt, Bool.not_eq_true] using set
          have cycles : failsAt s .cycles = false := by simpa [failsAt] using running
          have tariff : failsAt s .tariff = false := by simp [failsAt, active]
          have slots : failsAt s .slots = false := by simpa [failsAt] using fit
          simp only [items, List.cons_append, List.nil_append, List.find?_cons, clock, cycles, tariff, slots,
            List.find?_append, List.find?_map, Function.comp_def, last, findSome_cons, List.findSome?_nil, Option.or_none,
            classAbsent_find]
          simp only [failsAt]

/-- The changeover unit of a point's entry is the unit of a SWITCHED point (R9). -/
theorem changeUnit_iff {s : State} {p : PointNo} {u : Addr} :
    (∃ e, s.pointEntry p = some e ∧ e.changeUnit = some u) ↔ ∃ a b, s.switched p = some (u, a, b) := by
  simp only [switched_eq_some]
  constructor
  · rintro ⟨e, entry, unit⟩
    unfold PointEntry.changeUnit at unit
    split at unit
    · rename_i a b source
      cases unit
      exact ⟨a, b, e, entry, source⟩
    · cases unit
  · rintro ⟨a, b, e, entry, source⟩
    exact ⟨e, entry, by simp [PointEntry.changeUnit, source]⟩

theorem changeUnit_any {s : State} {p : PointNo} {test : Addr → Bool} :
    ((s.pointEntry p).any fun e => e.changeUnit.any test) = true ↔
      ∃ u a b, s.switched p = some (u, a, b) ∧ test u = true := by
  simp only [Option.any_eq_true]
  constructor
  · rintro ⟨e, entry, u, unit, met⟩
    obtain ⟨a, b, switched⟩ := changeUnit_iff.mp ⟨e, entry, unit⟩
    exact ⟨u, a, b, switched, met⟩
  · rintro ⟨u, a, b, switched, met⟩
    obtain ⟨e, entry, unit⟩ := changeUnit_iff.mpr ⟨a, b, switched⟩
    exact ⟨e, entry, u, unit, met⟩

/-- Some source of a point is no enabled set (R15). -/
theorem sourcesEnabled_eq_false {s : State} {e : PointEntry} : s.sourcesEnabled e = false ↔
    ∃ n, (e.source = .fixed n ∨ ∃ u k, e.source = .switched u n k ∨ e.source = .switched u k n) ∧
      ∀ x, s.setEntry n = some x → x.enabled = false := by
  have disabled (n : SetNo) : s.setEnabled n = false ↔ ∀ x, s.setEntry n = some x → x.enabled = false := by
    simp [State.setEnabled, Option.any_eq_false]
  unfold State.sourcesEnabled
  cases h : e.source with
  | fixed n => simp [disabled]
  | switched u a b =>
    simp only [Bool.and_eq_false_iff, disabled, reduceCtorEq, false_or, PointSource.switched.injEq]
    constructor
    · rintro (off | off)
      · exact ⟨a, ⟨u, b, .inl ⟨rfl, rfl, rfl⟩⟩, off⟩
      · exact ⟨b, ⟨u, a, .inr ⟨rfl, rfl, rfl⟩⟩, off⟩
    · rintro ⟨n, ⟨_, _, ⟨-, rfl, -⟩ | ⟨-, -, rfl⟩⟩, off⟩
      · exact .inl off
      · exact .inr off

/-- A unit answers for the entry that names it, as the model tests it (R15, check 5). -/
theorem unitNamedBack_iff {s : State} {a : Addr} {e : UnitEntry} : s.unitNamedBack a e = true ↔ NamedBack s a e := by
  unfold State.unitNamedBack NamedBack
  cases e.kind with
  | fuel => simp
  | set => simp [Option.any_eq_true, numbered_eq_some]
  | board => simp [Tables.boardNamed, mem_allFeeders, Option.any_eq_true, State.feederEntry]
  | change =>
    simp only [Option.any_eq_true, numbered_eq_some, decide_eq_true_eq, changeUnit_iff, exists_and_left]

theorem failsAt_iff {s : State} {item : GoLiveItem} : failsAt s item = true ↔ GoLiveFails s item := by
  cases item with
  | clock => simp [failsAt, GoLiveFails]
  | cycles => simp [failsAt, GoLiveFails]
  | tariff => simp [failsAt, GoLiveFails]
  | slots => simp [failsAt, GoLiveFails]
  | unit a => simp [failsAt, GoLiveFails, Option.any_eq_true, ← unitNamedBack_iff]
  | feederBoard f => simp [failsAt, GoLiveFails, Option.any_eq_true, State.enabledKind, Option.any_eq_false, imp_iff_not_or]
  | feederPoint f => simp [failsAt, GoLiveFails, Option.any_eq_true]
  | feederAccount f => simp [failsAt, GoLiveFails, Option.any_eq_true, Option.any_eq_false]
  | setUnit n => 
    simp [failsAt, GoLiveFails, Option.any_eq_true, State.ownedUnit, Option.any_eq_false, imp_iff_not_or, or_assoc]
  | pointSource p =>
    simp only [failsAt, GoLiveFails, Option.any_eq_true, Bool.not_eq_true', sourcesEnabled_eq_false]
  | pointUnit p =>
    simp [failsAt, GoLiveFails, changeUnit_any, State.ownedUnit, Option.any_eq_false, imp_iff_not_or, or_assoc]
  | accountClass k =>
    simp only [failsAt, GoLiveFails, Option.any_eq_true, Bool.and_eq_true, Option.isNone_iff_eq_none]
    constructor
    · rintro ⟨table, active, e, entry, billed, absent⟩
      exact ⟨e, table, entry, billed, active, absent⟩
    · rintro ⟨e, table, entry, billed, active, absent⟩
      exact ⟨table, active, e, entry, billed, absent⟩

/-- The first failing item is the one that the statement's order puts first. -/
theorem goLiveItem_first {s : State} {item : GoLiveItem} (fails : GoLiveFails s item)
    (first : ∀ other, GoLiveFails s other → goLiveRank item ≤ goLiveRank other) : s.goLiveItem = some item := by
  rw [goLiveItem_eq]
  obtain ⟨front, back, split⟩ := List.append_of_mem (mem_items item)
  have sorted := items_sorted
  rw [split] at sorted ⊢
  rw [List.find?_append, List.find?_eq_none.mpr, Option.none_or, List.find?_cons_of_pos (failsAt_iff.mpr fails)]
  intro other member failing
  have := first other (failsAt_iff.mp failing)
  have := (List.pairwise_append.mp sorted).2.2 other member item List.mem_cons_self
  omega

theorem goLiveItem_none {s : State} (h : ∀ item, ¬ GoLiveFails s item) : s.goLiveItem = none := by
  rw [goLiveItem_eq]
  exact List.find?_eq_none.mpr fun item _ fails => h item (failsAt_iff.mp fails)

/-- Intervals open at a time: one interval for all, and the marks of every active account (R163). -/
theorem openIntervals_eq (s : State) (start : Nat) (onBoundary : Bool) : s.openIntervals start onBoundary =
    { s with billing := { s.billing with
        interval := some ⟨start, onBoundary, boundaryAfter s.intervalSeconds start, 0, false⟩
        accounts := Vector.ofFn fun k => if k ∈ s.activeAccounts
          then { s.account k with marks := { Marks.clear with short := !onBoundary } }
          else s.account k } } :=
  forEach_put
    (fun v => { s with billing := { s.billing with
      interval := some ⟨start, onBoundary, boundaryAfter s.intervalSeconds start, 0, false⟩, accounts := v } })
    (fun _ r => { r with marks := { Marks.clear with short := !onBoundary } }) (fun _ _ => rfl) (activeAccounts_nodup s)
    s.billing.accounts

/-- The accounts of a site that goes LIVE, their accumulators empty. -/
def emptied (s : State) : Vector AccountRec 48 :=
  Vector.ofFn fun k => if k ∈ s.activeAccounts then { s.account k with accumulator := 0 } else s.account k

/-- The accounts of a site that has gone LIVE. -/
def liveAccounts (s : State) : Vector AccountRec 48 :=
  Vector.ofFn fun k => if k ∈ s.activeAccounts
    then { (emptied s)[k] with marks := { Marks.clear with short := true } } else (emptied s)[k]

theorem liveAccounts_get (s : State) (k : AccountNo) : (liveAccounts s)[k] =
    if k ∈ s.activeAccounts then { s.account k with accumulator := 0, marks := { Marks.clear with short := true } }
    else s.account k := by
  by_cases active : k ∈ s.activeAccounts <;> simp [liveAccounts, emptied, active]

/-- What the site does when it goes LIVE: every active account opens a SHORT interval, and every feeder is NONE (R15, R46, R163). -/
theorem goLive_eq {s : State} {now : Nat} (clock : s.billing.clock = some now) : s.goLive =
    { s with
      site := { s.site with live := true }
      billing := { s.billing with
        interval := some ⟨now / 1000, false,
          (now / 1000 / (s.site.values.intervalMin * 60) + 1) * (s.site.values.intervalMin * 60), 0, false⟩
        accounts := liveAccounts s }
      feeders := Vector.replicate 32 .none } := by
  let put := fun v => { s with site := { s.site with live := true }, billing := { s.billing with accounts := v } }
  have walk : forEach s.activeAccounts (fun k s => s.modAccount k fun r => { r with accumulator := 0 })
      { s with site := { s.site with live := true } } = put (emptied s) :=
    forEach_put put (fun _ r => { r with accumulator := 0 }) (fun _ _ => rfl) (activeAccounts_nodup s) s.billing.accounts
  have start (v : Vector AccountRec 48) : (put v).billing.nowSeconds.getD 0 = now / 1000 := by
    simp [put, Billing.nowSeconds, clock]
  have opened (v : Vector AccountRec 48) := openIntervals_eq (put v) (now / 1000) false
  have steps : s.goLive = (fun u : State => (u.openIntervals (u.billing.nowSeconds.getD 0) false).clearFeeders)
      (forEach s.activeAccounts (fun k s => s.modAccount k fun r => { r with accumulator := 0 })
        { s with site := { s.site with live := true } }) := rfl
  rw [steps, walk]
  dsimp only
  rw [start, opened]
  rfl

/-- Settles O39: the first check that fails, and what the site does when none fails. -/
theorem goLive : Obligations.GoLive := by
  intro tag s calm
  refine ⟨fun live => exec_request_calm calm rfl (by simp [reqGoLive, live, Reply.refuse]), fun item live fails first => ?_,
    fun now live passes clock => ?_⟩
  · exact exec_request_calm calm rfl (by simp [reqGoLive, live, goLiveItem_first fails first])
  · have request : reqGoLive s = (s.goLive, ⟨.ok, .none⟩) := by simp [reqGoLive, live, goLiveItem_none passes, Reply.ok]
    rw [goLive_eq clock] at request
    exact ⟨_, exec_request_calm calm rfl request, rfl, rfl, rfl, liveAccounts_get s,
      fun f => Vector.getElem_replicate _, rfl, rfl, rfl, rfl⟩

end Sys2Proof.GoingLive
end

section
/-! SUPPORT. Walks that produce records, rounding, and the numbers that records take (R156, R158, R168, R172, R173, R176). -/

namespace Sys2Proof.Producing

open Sys2Proof Sys2Proof.Machine Sys2Proof.Stated Sys2Proof.Sessions

/-! ### The records of a walk (R173) -/

/-- The records that a walk produces from a record number on, one for each account. -/
def recordsFrom (mk : AccountNo → Nat → Record) : Nat → List AccountNo → List Record
  | _, [] => []
  | n, k :: ks => mk k n :: recordsFrom mk (recordNumberAfter n) ks

/-- The record number after as many records as a walk visits accounts. -/
def numberPast (n : Nat) : List AccountNo → Nat
  | [] => n
  | _ :: ks => numberPast (recordNumberAfter n) ks

theorem recordNumberAfter_eq (n : Nat) : recordNumberAfter n = numberAfter n := by
  unfold recordNumberAfter numberAfter
  split <;> split <;> omega

section
variable {mk : AccountNo → Nat → Record}

theorem length_recordsFrom (n : Nat) (ks : List AccountNo) : (recordsFrom mk n ks).length = ks.length := by
  induction ks generalizing n with
  | nil => rfl
  | cons k ks ih => simp [recordsFrom, ih]

theorem recordsFrom_congr {mk' : AccountNo → Nat → Record} {ks : List AccountNo} (same : ∀ k ∈ ks, mk k = mk' k)
    (n : Nat) : recordsFrom mk n ks = recordsFrom mk' n ks := by
  induction ks generalizing n with
  | nil => rfl
  | cons k ks ih =>
    rw [List.forall_mem_cons] at same
    rw [recordsFrom, recordsFrom, same.1, ih same.2]

theorem mem_recordsFrom {r : Record} {n : Nat} {ks : List AccountNo} (h : r ∈ recordsFrom mk n ks) :
    ∃ k ∈ ks, ∃ number, r = mk k number := by
  induction ks generalizing n with
  | nil => cases h
  | cons k ks ih =>
    rcases List.mem_cons.mp h with rfl | h
    · exact ⟨k, List.mem_cons_self, n, rfl⟩
    · obtain ⟨j, member, number, eq⟩ := ih h
      exact ⟨j, List.mem_cons_of_mem k member, number, eq⟩

theorem recordAccount_recordsFrom (account : ∀ k n, recordAccount (mk k n) = k) (n : Nat) (ks : List AccountNo) :
    (recordsFrom mk n ks).map recordAccount = ks := by
  induction ks generalizing n with
  | nil => rfl
  | cons k ks ih => simp [recordsFrom, account, ih]

/-- The records of a walk are numbered from its first number by one each. -/
theorem recordsFrom_numbers (number : ∀ k n, (mk k n).number = n) (n : Nat) (ks : List AccountNo) :
    (∀ r, (recordsFrom mk n ks).head? = some r → r.number = n) ∧
    (∀ (i : Nat) (r x : Record), (recordsFrom mk n ks)[i]? = some r → (recordsFrom mk n ks)[i + 1]? = some x →
      x.number = numberAfter r.number) ∧
    numberPast n ks = ((recordsFrom mk n ks).getLast?.map fun r => numberAfter r.number).getD n := by
  induction ks generalizing n with
  | nil => simp [recordsFrom, numberPast]
  | cons k ks ih =>
    obtain ⟨head, following, last⟩ := ih (recordNumberAfter n)
    refine ⟨fun r h => ?_, fun i r x hr hx => ?_, ?_⟩
    · simp only [recordsFrom, List.head?_cons, Option.some.injEq] at h
      rw [← h, number]
    · cases i with
      | zero =>
        simp only [recordsFrom, List.getElem?_cons_zero, Option.some.injEq] at hr
        simp only [recordsFrom, Nat.zero_add, List.getElem?_cons_succ, ← List.head?_eq_getElem?] at hx
        rw [← hr, number, head x hx, recordNumberAfter_eq]
      | succ i =>
        simp only [recordsFrom, List.getElem?_cons_succ] at hr hx
        exact following i r x hr hx
    · rw [numberPast, last, recordsFrom]
      cases h : recordsFrom mk (recordNumberAfter n) ks with
      | nil => simp [number, recordNumberAfter_eq]
      | cons r rs => simp [List.getLast?_cons]

end

/-- A walk that updates each account it visits and adds a record for it. -/
theorem forEach_produce (put : Vector AccountRec 48 → List Record → Nat → State) {g : AccountNo → State → State}
    (f : AccountNo → AccountRec → AccountRec) (mk : AccountNo → AccountRec → Nat → Record) {xs : List AccountNo}
    (step : ∀ k ∈ xs, ∀ v rs n, g k (put v rs n) = put (v.set k (f k v[k])) (rs ++ [mk k v[k] n]) (recordNumberAfter n))
    (nodup : xs.Nodup) (v : Vector AccountRec 48) (rs : List Record) (n : Nat) :
    forEach xs g (put v rs n) = put (Vector.ofFn fun k => if k ∈ xs then f k v[k] else v[k])
      (rs ++ recordsFrom (fun k => mk k v[k]) n xs) (numberPast n xs) := by
  induction xs generalizing v rs n with
  | nil => simp [forEach, recordsFrom, numberPast]
  | cons x xs ih =>
    obtain ⟨fresh, nodup⟩ := List.nodup_cons.mp nodup
    have apart (k : AccountNo) (h : k ∈ xs) : (v.set x (f x v[x]))[k] = v[k] := by
      have other : x.val ≠ k.val := fun same => fresh (Fin.ext same ▸ h)
      simp [Vector.getElem_set_ne, other]
    have accounts : (Vector.ofFn fun k => if k ∈ xs then f k (v.set x (f x v[x]))[k] else (v.set x (f x v[x]))[k]) =
        Vector.ofFn fun k => if k ∈ x :: xs then f k v[k] else v[k] := by
      congr 1
      funext k
      by_cases same : k = x
      · subst same
        simp [fresh]
      · have other : x.val ≠ k.val := fun h => same (Fin.ext h.symm)
        simp [Vector.getElem_set_ne, other, same]
    have produced := recordsFrom_congr (mk := fun k => mk k (v.set x (f x v[x]))[k]) (mk' := fun k => mk k v[k])
      (fun k h => congrArg (mk k) (apart k h)) (recordNumberAfter n)
    show forEach xs g (g x (put v rs n)) = _
    rw [step x List.mem_cons_self, ih (fun k h => step k (List.mem_cons_of_mem x h)) nodup, accounts, produced,
      List.append_assoc]
    rfl

/-- What an event that produces the records of a walk does with the record queue and the notices (R173, R176). -/
theorem recordsProduced {s t : State} {mk : AccountNo → Nat → Record} {ks : List AccountNo}
    (number : ∀ k n, (mk k n).number = n)
    (records : t.billing.records = s.billing.records ++ recordsFrom mk s.billing.nextRecord ks)
    (next : t.billing.nextRecord = numberPast s.billing.nextRecord ks)
    (high : s.billing.records.length ≤ 384 → 384 < t.billing.records.length →
      Told s t (.records .highWater t.billing.records.length (t.billing.records.head?.map Record.number)
        s.billing.clock s.engine.cycleNo))
    (uncrossed : 384 < s.billing.records.length ∨ t.billing.records.length ≤ 384 → ∀ x ∈ t.port.notices,
      x ∈ s.port.notices ∨ ∀ held oldest clock cycle, x.body ≠ .records .highWater held oldest clock cycle) :
    RecordsProduced s t (recordsFrom mk s.billing.nextRecord ks) := by
  obtain ⟨first, following, last⟩ := recordsFrom_numbers number s.billing.nextRecord ks
  exact ⟨records, first, following, next.trans last, high, uncrossed⟩

/-! ### Rounding (R158, R168, R172) -/

/-- A rounded quotient is the nearest integer, a tie by the mode. -/
theorem nearestTo_roundDiv (mode : RoundingMode) (q : Int) {d : Nat} (h : 0 < d) : NearestTo mode q d (roundDiv mode q d) := by
  obtain ⟨low, high⟩ := roundDiv_spec mode q h
  have e := Int.mul_ediv_add_emod q d
  have l := Int.emod_nonneg q (b := (d : Int)) (by omega)
  have u := Int.emod_lt_of_pos q (b := (d : Int)) (by omega)
  have whole : q - q / d * d = q % d := by rw [Int.mul_comm]; omega
  have above : q - (q / d + 1) * d = q % d - d := by rw [Int.add_mul, Int.mul_comm]; omega
  refine ⟨low, high, ?_⟩
  clear low high
  unfold roundDiv
  dsimp only
  by_cases less : 2 * (q % d) < d
  · rw [if_pos less, whole]
    exact ⟨fun tie => absurd tie (by omega), fun tie => absurd tie (by omega)⟩
  · rw [if_neg less]
    by_cases more : (d : Int) < 2 * (q % d)
    · rw [if_pos more, above]
      exact ⟨fun tie => absurd tie (by omega), fun tie => absurd tie (by omega)⟩
    · rw [if_neg more]
      cases mode
      · dsimp only
        by_cases even : q / d % 2 = 0
        · rw [if_pos even, whole]
          exact ⟨fun _ => ⟨rfl, even⟩, fun _ => .inr even⟩
        · rw [if_neg even, above]
          exact ⟨fun tie => absurd tie (by omega), fun _ => .inr (by omega)⟩
      · dsimp only
        rw [above]
        exact ⟨fun tie => absurd tie (by omega), fun _ => .inl rfl⟩

theorem mode_eq (s : State) : s.tariff.mode = modeInForce s := by
  unfold Tariff.mode modeInForce
  cases s.tariff.active <;> rfl

end Sys2Proof.Producing
end

section
/-! SUPPORT. Closes, extensions and bills: what an event that produces records does (R152, R165 to R172, R176). -/

namespace Sys2Proof.Closing

open Sys2Proof Sys2Proof.Machine Sys2Proof.Stated Sys2Proof.ClearFlags Sys2Proof.Sessions Sys2Proof.Walks
  Sys2Proof.Producing Sys2Proof.GoingLive Sys2Proof.LineEvents

/-! ### Ordinary notices raised one after another (R191) -/

/-- A port after ordinary notices are raised in order. -/
def raisedAll (p : Port) (bodies : List NoticeBody) : Port := bodies.foldl (Port.raise · false ·) p

theorem raise_mem {p : Port} {body : NoticeBody} {x : Notice} (h : x ∈ (p.raise false body).notices) :
    x ∈ p.notices ∨ x.body = body := by
  by_cases room : p.notices.length < 32
  · rw [Port.raise_room room, List.mem_append, List.mem_singleton] at h
    exact h.imp id fun eq => congrArg Notice.body eq
  · rw [((noticeRaised p false body).lost (Nat.le_of_not_lt room) rfl).1] at h
    exact .inl h

theorem raisedAll_mem {bodies : List NoticeBody} {p : Port} {x : Notice} (h : x ∈ (raisedAll p bodies).notices) :
    x ∈ p.notices ∨ x.body ∈ bodies := by
  induction bodies generalizing p with
  | nil => exact .inl h
  | cons body bodies ih =>
    rcases ih h with old | new
    · exact (raise_mem old).imp id fun eq => List.mem_cons.mpr (.inl eq)
    · exact .inr (List.mem_cons_of_mem body new)

/-- Notices that find room stay, and each of them is queued. -/
theorem raisedAll_queued {bodies : List NoticeBody} {p : Port} (room : p.notices.length + bodies.length ≤ 32) :
    (∀ x ∈ p.notices, x ∈ (raisedAll p bodies).notices) ∧
      ∀ body ∈ bodies, ∃ x ∈ (raisedAll p bodies).notices, x.body = body := by
  induction bodies generalizing p with
  | nil => exact ⟨fun x h => h, fun _ h => nomatch h⟩
  | cons body bodies ih =>
    rw [List.length_cons] at room
    have queued : (p.raise false body).notices = p.notices ++ [⟨p.nextNotice, false, body⟩] := by
      rw [Port.raise_room (by omega)]
    obtain ⟨kept, told⟩ := ih (p := p.raise false body) (by rw [queued, List.length_append, List.length_singleton]; omega)
    rw [queued] at kept
    refine ⟨fun x h => kept x (List.mem_append_left _ h), fun other h => ?_⟩
    rcases List.mem_cons.mp h with rfl | h
    · exact ⟨_, kept _ (List.mem_append_right _ List.mem_cons_self), rfl⟩
    · exact told other h

theorem told_of_raisedAll {s t : State} {bodies : List NoticeBody} {body : NoticeBody}
    (port : t.port.notices = (raisedAll s.port bodies).notices) (few : bodies.length ≤ 28) (h : body ∈ bodies) :
    Told s t body := fun short => by
  rw [port]
  exact (raisedAll_queued (by omega)).2 body h

/-! ### The HIGH_WATER notice (R176) -/

/-- The notices of a production that found `before` records held. -/
def highNews (before : Nat) (records : List Record) (clock : Option Nat) (cycle : CycleNo) : List NoticeBody :=
  if before ≤ 384 ∧ 384 < records.length
  then [.records .highWater records.length (records.head?.map Record.number) clock cycle] else []

theorem highWater_eq (s : State) (before : Nat) : s.highWater before = { s with
    port := raisedAll s.port (highNews before s.billing.records s.billing.clock s.engine.cycleNo) } := by
  unfold State.highWater highNews
  split <;> rfl

theorem highNews_length (before : Nat) (records : List Record) (clock : Option Nat) (cycle : CycleNo) :
    (highNews before records clock cycle).length ≤ 1 := by
  unfold highNews
  split <;> simp

/-- The records of a walk, with its notices: no other notice of the event is one of the high-water mark. -/
theorem produced_of_notices {s t : State} {mk : AccountNo → Nat → Record} {ks : List AccountNo} {news : List NoticeBody}
    (number : ∀ k n, (mk k n).number = n)
    (records : t.billing.records = s.billing.records ++ recordsFrom mk s.billing.nextRecord ks)
    (next : t.billing.nextRecord = numberPast s.billing.nextRecord ks)
    (port : t.port.notices = (raisedAll s.port
      (news ++ highNews s.billing.records.length t.billing.records s.billing.clock s.engine.cycleNo)).notices)
    (few : news.length ≤ 1)
    (others : ∀ body ∈ news, ∀ held oldest clock cycle, body ≠ .records .highWater held oldest clock cycle) :
    RecordsProduced s t (recordsFrom mk s.billing.nextRecord ks) := by
  refine recordsProduced number records next (fun below above => ?_) (fun uncrossed x hx => ?_)
  · refine told_of_raisedAll port ?_ (List.mem_append_right _ ?_)
    · have := highNews_length s.billing.records.length t.billing.records s.billing.clock s.engine.cycleNo
      rw [List.length_append]
      omega
    · rw [highNews, if_pos ⟨below, above⟩]
      exact List.mem_cons_self
  · rw [highNews, if_neg (by omega), List.append_nil] at port
    rw [port] at hx
    exact (raisedAll_mem hx).imp id (others x.body)

/-! ### A close told to the Tariff Store (R152) -/

/-- The store after an interval close. -/
def tariffAfter (t : Tariff) : Tariff :=
  match t.pending with
  | .commitPending table => ⟨some table, .empty, false, t.lockout⟩
  | .empty | .loaded _ => t

/-- The notice of a commit that an interval close puts into force. -/
def commitNews (s : State) : List NoticeBody :=
  match s.tariff.pending with
  | .commitPending table =>
    [.tariff true table.identifier s.engine.cycleNo s.billing.clock (s.tariff.active.map TariffTable.identifier)]
  | .empty | .loaded _ => []

theorem tellClose_eq (s : State) : s.tellClose =
    { s with tariff := tariffAfter s.tariff, port := raisedAll s.port (commitNews s) } := by
  unfold State.tellClose tariffAfter commitNews
  cases s.tariff.pending <;> rfl

theorem commitNews_length (s : State) : (commitNews s).length ≤ 1 := by
  unfold commitNews
  cases s.tariff.pending <;> simp

theorem commitNews_other {s : State} {body : NoticeBody} (h : body ∈ commitNews s) (held : Nat) (oldest clock : Option Nat)
    (cycle : CycleNo) : body ≠ .records .highWater held oldest clock cycle := by
  unfold commitNews at h
  cases pending : s.tariff.pending with
  | commitPending table =>
    rw [pending] at h
    rw [List.mem_singleton.mp h]
    nofun
  | empty => simp [pending] at h
  | loaded table => simp [pending] at h

theorem commitTakesForce {s t : State} {news : List NoticeBody} (tariff : t.tariff = tariffAfter s.tariff)
    (port : t.port.notices = (raisedAll s.port (commitNews s ++ news)).notices) (few : news.length ≤ 1) :
    CommitTakesForce s t where
  waiting table pending := by
    refine ⟨by rw [tariff, tariffAfter, pending], told_of_raisedAll port ?_ (List.mem_append_left _ ?_)⟩
    · have := commitNews_length s
      rw [List.length_append]
      omega
    · rw [commitNews, pending]
      exact List.mem_cons_self
  none uncommitted := by
    rw [tariff, tariffAfter]
    cases pending : s.tariff.pending with
    | commitPending table => simp [pending, PendingTariff.isCommitted] at uncommitted
    | empty => rfl
    | loaded table => rfl

/-! ### The band of a second of day (R156) -/

/-- The band of a class that the statements name is the one the model prices by. -/
theorem rate_of_bandOf {table : TariffTable} {cls : ClassNo} {second index : Nat} {b : Band}
    (h : BandOf table cls second index b) : table.rate cls second = some (index + 1, b.rate) := by
  obtain ⟨bands, present, at_, started, last⟩ := h
  obtain ⟨inside, eq⟩ := List.getElem?_eq_some_iff.mp at_
  have parts : bands = bands.take index ++ b :: bands.drop (index + 1) := by
    rw [← eq, List.getElem_cons_drop, List.take_append_drop]
  have later : ((bands.drop (index + 1)).zipIdx (index + 1)).filter (fun x => x.1.start ≤ second) = [] := by
    rw [List.filter_eq_nil_iff]
    rintro ⟨c, j⟩ member
    obtain ⟨le, found⟩ := List.mk_mem_zipIdx_iff_le_and_getElem?_sub.mp member
    rw [List.getElem?_drop] at found
    have := last _ c found (by omega)
    simpa using this
  have band : bandAt second bands = some (index + 1, b) := by
    have length : (bands.take index).length = index := List.length_take_of_le (Nat.le_of_lt inside)
    have front : (b :: bands.drop (index + 1)).zipIdx index = (b, index) :: (bands.drop (index + 1)).zipIdx (index + 1) := rfl
    rw [bandAt, parts, List.zipIdx_append, length, Nat.zero_add, front, List.filter_append,
      List.filter_cons_of_pos (by simpa using started), later]
    simp
  rw [TariffTable.rate, present]
  simp [band]

/-! ### The walk of a close (R168 to R170) -/

/-- The state with the accounts, the record queue and the next record number given. -/
def withRecords (s : State) (v : Vector AccountRec 48) (rs : List Record) (n : Nat) : State :=
  { s with billing := { s.billing with accounts := v, records := rs, nextRecord := n } }

/-- The units of an account at a close. -/
def unitsOf (s : State) (r : AccountRec) : Nat := (roundDiv s.tariff.mode (r.carry + r.accumulator) billedUnit).toNat

/-- The entry of an account, where it is not loaded an arbitrary one. -/
def entryOf (s : State) (k : AccountNo) : AccountEntry := (s.accountEntry k).getD ⟨false, 0, 0⟩

/-- The interval record of an account at a close, by its number. -/
def closeRecord (s : State) (start length : Nat) (short : Bool) (k : AccountNo) (r : AccountRec) (number : Nat) :
    IntervalRecord :=
  { s.intervalRecord k (entryOf s k) start length (unitsOf s r) (r.carry + r.accumulator - unitsOf s r * billedUnit)
      { r.marks with short := r.marks.short || short } with number }

/-- An account after a close. -/
def closedAccount (s : State) (start length : Nat) (short : Bool) (k : AccountNo) (r : AccountRec) : AccountRec :=
  { r with
    accumulator := 0, carry := (closeRecord s start length short k r 0).carry
    marks := (closeRecord s start length short k r 0).flags
    units := r.units + unitsOf s r, charge := r.charge + (closeRecord s start length short k r 0).charge }

theorem mem_activeAccounts {s : State} {k : AccountNo} :
    k ∈ s.activeAccounts ↔ ∃ e, s.accountEntry k = some e ∧ e.active = true := by
  simp [State.activeAccounts, Loads.mem_allAccounts, Option.any_eq_true]

theorem entryOf_of_active {s : State} {k : AccountNo} (h : k ∈ s.activeAccounts) : s.accountEntry k = some (entryOf s k) := by
  obtain ⟨e, entry, _⟩ := mem_activeAccounts.mp h
  rw [entryOf, entry]
  rfl

theorem closeAccount_put {s : State} {k : AccountNo} (h : k ∈ s.activeAccounts) (start length : Nat) (short : Bool)
    (v : Vector AccountRec 48) (rs : List Record) (n : Nat) :
    (withRecords s v rs n).closeAccount start length short k =
      withRecords s (v.set k (closedAccount s start length short k v[k]))
        (rs ++ [.interval (closeRecord s start length short k v[k] n)]) (recordNumberAfter n) := by
  have entry : (withRecords s v rs n).accountEntry k = some (entryOf s k) := entryOf_of_active h
  unfold State.closeAccount
  rw [entry]
  rfl

/-- Every active account closes, each with its record. -/
theorem closeAll_eq (s : State) (start length : Nat) (short : Bool) :
    forEach s.activeAccounts (fun k s => s.closeAccount start length short k) s =
      withRecords s
        (Vector.ofFn fun k => if k ∈ s.activeAccounts then closedAccount s start length short k (s.account k)
          else s.account k)
        (s.billing.records ++ recordsFrom (fun k n => .interval (closeRecord s start length short k (s.account k) n))
          s.billing.nextRecord s.activeAccounts)
        (numberPast s.billing.nextRecord s.activeAccounts) :=
  forEach_produce (withRecords s) (closedAccount s start length short)
    (fun k r n => .interval (closeRecord s start length short k r n))
    (fun _ h v rs n => closeAccount_put h start length short v rs n) (activeAccounts_nodup s) s.billing.accounts
    s.billing.records s.billing.nextRecord

/-- What a close leaves, whatever it does with the intervals: the accounts but for their marks, the records, the store and the notices. -/
structure Closed (s t : State) (start length : Nat) (short : Bool) : Prop where
  account : ∀ k ∈ s.activeAccounts, ∃ marks,
    t.account k = { closedAccount s start length short k (s.account k) with marks }
  others : ∀ k, k ∉ s.activeAccounts → t.account k = s.account k
  records : t.billing.records = s.billing.records ++
    recordsFrom (fun k n => .interval (closeRecord s start length short k (s.account k) n)) s.billing.nextRecord
      s.activeAccounts
  next : t.billing.nextRecord = numberPast s.billing.nextRecord s.activeAccounts
  tariff : t.tariff = tariffAfter s.tariff
  notices : t.port.notices = (raisedAll s.port (commitNews s ++
    highNews s.billing.records.length t.billing.records s.billing.clock s.engine.cycleNo)).notices

section
variable {s t : State} {i : OpenInterval} {finish : Nat} {short : Bool}

theorem unitsOf_nonneg {r : AccountRec} (h : -18000000 ≤ r.carry) :
    (unitsOf s r : Int) = roundDiv s.tariff.mode (r.carry + r.accumulator) 36000000 := by
  have := roundDiv_nonneg s.tariff.mode (q := r.carry + r.accumulator) (d := 36000000) (by omega) (by omega)
  rw [unitsOf, billedUnit]
  omega

/-- The record of an active account is priced as the rules give. -/
theorem priced_closeRecord (closed : Closed s t i.start (i.length finish) short) {k : AccountNo} (h : k ∈ s.activeAccounts)
    (carry : -18000000 ≤ (s.account k).carry) (n : Nat) :
    Priced s t i (ranFor i finish) short k (closeRecord s i.start (i.length finish) short k (s.account k) n) where
  account := rfl
  customer e entry := by
    rw [entryOf_of_active h, Option.some.injEq] at entry
    rw [← entry]
    rfl
  start := rfl
  length := by
    show ((i.length finish : Nat) : Int) = _
    rw [OpenInterval.length, ranFor, Int.toNat_eq_max, Int.max_comm]
  flags := rfl
  units := by
    have rounded := nearestTo_roundDiv s.tariff.mode ((s.account k).carry + (s.account k).accumulator)
      (d := 36000000) (by omega)
    rw [← unitsOf_nonneg carry, mode_eq] at rounded
    exact rounded
  carry := by
    show _ - (unitsOf s (s.account k) : Int) * (billedUnit : Nat) = _ - 36000000 * (unitsOf s (s.account k) : Int)
    rw [Int.mul_comm, billedUnit]
    rfl
  rate e table index b entry active band := by
    rw [entryOf_of_active h, Option.some.injEq] at entry
    subst entry
    simp [closeRecord, State.intervalRecord, active, rate_of_bandOf band]
  charge := rfl
  trialOff off := by
    show s.tariff.trialCharge _ _ _ = none
    unfold Tariff.trialCharge
    rcases off with off | empty
    · rw [off]
      rfl
    · rw [empty]
      exact ite_self _
  trialOn e table on entry held := by
    rw [entryOf_of_active h, Option.some.injEq] at entry
    subst entry
    have pending : s.tariff.pending.table = some table := by
      rcases held with held | held <;> rw [held] <;> rfl
    have trial : (closeRecord s i.start (i.length finish) short k (s.account k) n).trial =
        (table.rate (entryOf s k).tariffClass (i.start % 86400)).map fun x =>
          ⟨table.identifier, x.1, unitsOf s (s.account k) * x.2⟩ := by
      show s.tariff.trialCharge _ _ _ = _
      simp [Tariff.trialCharge, on, pending]
    refine ⟨fun absent => ?_, fun index b band => ?_⟩
    · rw [trial, TariffTable.rate, absent]
      rfl
    · rw [trial, rate_of_bandOf band]
      rfl
  added := by
    obtain ⟨marks, eq⟩ := closed.account k h
    rw [eq]
    exact ⟨rfl, rfl, rfl⟩

/-- The energy of an account is conserved to the millijoule (R168). -/
theorem rounded_of_closed (closed : Closed s t i.start (i.length finish) short) {k : AccountNo} (h : k ∈ s.activeAccounts)
    (carry : -18000000 ≤ (s.account k).carry) : Rounded s t k := by
  have priced := priced_closeRecord closed h carry 0
  obtain ⟨low, high, -⟩ := priced.units
  obtain ⟨units, -, carried⟩ := priced.added
  have carry_eq := priced.carry
  refine ⟨?_, ?_, ?_, ?_, ?_⟩
  · obtain ⟨marks, eq⟩ := closed.account k h
    rw [eq]
    rfl
  · rw [carried]; omega
  · rw [carried]; omega
  · omega
  · rw [carried, units]; omega

theorem produced_of_closed (closed : Closed s t i.start (i.length finish) short)
    (carry : ∀ k, -18000000 ≤ (s.account k).carry) :
    ∃ new, RecordsProduced s t new ∧ new.map recordAccount = s.activeAccounts ∧
      ∀ r ∈ new, ∃ x, r = .interval x ∧ x.flags.short = ((s.account x.account).marks.short || short) ∧ x.start = i.start ∧
        Priced s t i (ranFor i finish) short x.account x := by
  refine ⟨_, produced_of_notices (news := commitNews s) (fun _ _ => rfl) closed.records closed.next closed.notices
    (commitNews_length s) (fun _ h => commitNews_other h), recordAccount_recordsFrom (fun _ _ => rfl) _ _, fun r hr => ?_⟩
  obtain ⟨k, active, n, eq⟩ := mem_recordsFrom hr
  exact ⟨_, eq, rfl, rfl, priced_closeRecord closed active (carry k) n⟩

theorem commit_of_closed {start length : Nat} (closed : Closed s t start length short) : CommitTakesForce s t :=
  commitTakesForce closed.tariff closed.notices (highNews_length _ _ _ _)

end

/-! ### STAND DOWN (R16) -/

theorem raisedAll_append (p : Port) (front back : List NoticeBody) :
    raisedAll p (front ++ back) = raisedAll (raisedAll p front) back := List.foldl_append

/-- The accounts of a close, before any interval opens again. -/
def closedAccounts (s : State) (start length : Nat) (short : Bool) : Vector AccountRec 48 :=
  Vector.ofFn fun k => if k ∈ s.activeAccounts then closedAccount s start length short k (s.account k) else s.account k

/-- The record queue after a close. -/
def closedRecords (s : State) (start length : Nat) (short : Bool) : List Record :=
  s.billing.records ++ recordsFrom (fun k n => .interval (closeRecord s start length short k (s.account k) n))
    s.billing.nextRecord s.activeAccounts

/-- The notices of a close. -/
def closeNews (s : State) (records : List Record) : List NoticeBody :=
  commitNews s ++ highNews s.billing.records.length records s.billing.clock s.engine.cycleNo

/-- The end of a STAND DOWN, once every account has closed. -/
def standDownTail (u : State) (before : Nat) : State :=
  State.highWater { u.tellClose with
    billing := { u.tellClose.billing with interval := none }
    site := { u.tellClose.site with live := false } } before

theorem standDownTail_eq (u : State) (before : Nat) : standDownTail u before = { u with
    site := { u.site with live := false }, billing := { u.billing with interval := none }, tariff := tariffAfter u.tariff
    port := raisedAll u.port (commitNews u ++ highNews before u.billing.records u.billing.clock u.engine.cycleNo) } := by
  rw [standDownTail, highWater_eq, tellClose_eq, raisedAll_append]

theorem standDownTail_withRecords (s : State) (v : Vector AccountRec 48) (rs : List Record) (n before : Nat) :
    standDownTail (withRecords s v rs n) before = { s with
      site := { s.site with live := false }
      billing := { s.billing with accounts := v, records := rs, nextRecord := n, interval := none }
      tariff := tariffAfter s.tariff
      port := raisedAll s.port (commitNews s ++ highNews before rs s.billing.clock s.engine.cycleNo) } := by
  rw [standDownTail_eq]
  rfl

/-- The state after a STAND DOWN. -/
def stoodDown (s : State) (i : OpenInterval) (now : Nat) : State :=
  { s with
    site := { s.site with live := false }
    billing := { s.billing with
      accounts := closedAccounts s i.start (i.length now) true
      records := closedRecords s i.start (i.length now) true
      nextRecord := numberPast s.billing.nextRecord s.activeAccounts, interval := none }
    tariff := tariffAfter s.tariff
    port := raisedAll s.port (closeNews s (closedRecords s i.start (i.length now) true)) }

theorem standDown_eq {s : State} {i : OpenInterval} {now : Nat} (interval : s.billing.interval = some i)
    (clock : s.billing.clock = some now) : s.standDown = stoodDown s i now := by
  have steps : s.standDown = standDownTail
      (forEach s.activeAccounts (fun k s => s.closeAccount i.start (i.length now) true k) s) s.billing.records.length := by
    unfold State.standDown
    rw [interval, clock]
    rfl
  rw [steps, closeAll_eq]
  exact standDownTail_withRecords s _ _ _ _

theorem closed_standDown (s : State) (i : OpenInterval) (now : Nat) (tag : Byte) (kind : Nat) (reply : Reply) :
    Closed s (answered (stoodDown s i now) tag kind reply) i.start (i.length now) true where
  account _ h := ⟨_, (Vector.getElem_ofFn _).trans (if_pos h)⟩
  others _ h := (Vector.getElem_ofFn _).trans (if_neg h)
  records := rfl
  next := rfl
  tariff := rfl
  notices := rfl

/-- Settles O40: the walk of the active accounts, and what it leaves. -/
theorem standDown : Obligations.StandDown := by
  intro tag s calm
  refine ⟨fun off => exec_request_calm calm rfl (by simp [reqStandDown, off, Reply.refuse]), fun live full => ?_,
    fun i now live interval clock room carry => ?_⟩
  · exact exec_request_calm calm rfl (by simp [reqStandDown, live, Billing.freeRecords, full, Reply.refuse])
  · have request : reqStandDown s = (s.standDown, ⟨.ok, .none⟩) := by
      simp [reqStandDown, live, Billing.freeRecords, Nat.not_lt.mpr room, Reply.ok]
    rw [standDown_eq interval clock] at request
    have closed := closed_standDown s i now tag 7 ⟨.ok, .none⟩
    obtain ⟨new, produced, accounts, priced⟩ := produced_of_closed closed carry
    have commit := commit_of_closed closed
    refine ⟨_, exec_request_calm calm rfl request, rfl, rfl, rfl, clock, ⟨new, produced, accounts, fun r hr => ?_⟩, commit,
      fun k active => ⟨rounded_of_closed closed active (carry k), ?_⟩, closed.others, fun table pending => ?_, commit.none, rfl⟩
    · obtain ⟨x, eq, flags, start, price⟩ := priced r hr
      exact ⟨x, eq, flags.trans (Bool.or_true _), start, price⟩
    · obtain ⟨marks, eq⟩ := closed.account k active
      rw [eq]
      exact ⟨rfl, rfl⟩
    · rw [(commit.waiting table pending).1]
      exact ⟨rfl, rfl, rfl⟩

/-! ### A due close (R165 to R167) -/

/-- The accounts of a close whose intervals open again. -/
def reopenedAccounts (s : State) (start length : Nat) (short : Bool) : Vector AccountRec 48 :=
  Vector.ofFn fun k => if k ∈ s.activeAccounts
    then { (closedAccounts s start length short)[k] with marks := { Marks.clear with short := !!short } }
    else (closedAccounts s start length short)[k]

/-- The state after a close at a time in ms, with new intervals from that time on. -/
def reopened (s : State) (i : OpenInterval) (finish : Nat) (short : Bool) : State :=
  { s with
    billing := { s.billing with
      accounts := reopenedAccounts s i.start (i.length finish) short
      records := closedRecords s i.start (i.length finish) short
      nextRecord := numberPast s.billing.nextRecord s.activeAccounts
      interval := some ⟨finish / 1000, !short, boundaryAfter s.intervalSeconds (finish / 1000), 0, false⟩ }
    tariff := tariffAfter s.tariff
    port := raisedAll s.port (closeNews s (closedRecords s i.start (i.length finish) short)) }

/-- The end of a close whose intervals open again, once every account has closed. -/
def reopenTail (u : State) (start : Nat) (onBoundary : Bool) (before : Nat) : State :=
  (u.tellClose.openIntervals start onBoundary).highWater before

theorem reopenTail_eq (u : State) (start : Nat) (onBoundary : Bool) (before : Nat) : reopenTail u start onBoundary before =
    { u with
      billing := { u.billing with
        interval := some ⟨start, onBoundary, boundaryAfter u.intervalSeconds start, 0, false⟩
        accounts := Vector.ofFn fun k => if k ∈ u.activeAccounts
          then { u.account k with marks := { Marks.clear with short := !onBoundary } }
          else u.account k }
      tariff := tariffAfter u.tariff
      port := raisedAll u.port (commitNews u ++ highNews before u.billing.records u.billing.clock u.engine.cycleNo) } := by
  rw [reopenTail, highWater_eq, openIntervals_eq, tellClose_eq, raisedAll_append]
  rfl

theorem reopenTail_withRecords (s : State) (start : Nat) (onBoundary : Bool) (v : Vector AccountRec 48) (rs : List Record)
    (n before : Nat) : reopenTail (withRecords s v rs n) start onBoundary before = { s with
      billing := { s.billing with
        accounts := Vector.ofFn fun k => if k ∈ s.activeAccounts
          then { v[k] with marks := { Marks.clear with short := !onBoundary } } else v[k]
        records := rs, nextRecord := n
        interval := some ⟨start, onBoundary, boundaryAfter s.intervalSeconds start, 0, false⟩ }
      tariff := tariffAfter s.tariff
      port := raisedAll s.port (commitNews s ++ highNews before rs s.billing.clock s.engine.cycleNo) } := by
  rw [reopenTail_eq]
  rfl

/-- The end time of a close of open intervals that are due. -/
def dueFinish (s : State) (i : OpenInterval) (now : Nat) : Nat :=
  if i.timeSetDue then now else boundaryAt s.intervalSeconds (now / 1000) * 1000

theorem closeIntervals_due (s : State) (i : OpenInterval) (now : Nat) :
    s.closeIntervals i (if i.timeSetDue then .timeSet else .boundary) now =
      reopened s i (dueFinish s i now) i.timeSetDue := by
  have steps : s.closeIntervals i (if i.timeSetDue then .timeSet else .boundary) now = reopenTail
      (forEach s.activeAccounts (fun k u => u.closeAccount i.start (i.length (dueFinish s i now)) i.timeSetDue k) s)
      (dueFinish s i now / 1000) (!i.timeSetDue) s.billing.records.length := by
    unfold dueFinish
    cases i.timeSetDue
    · simp only [Bool.false_eq_true, if_false]
      rw [Nat.mul_div_cancel _ (by omega)]
      unfold State.closeIntervals closeEnd
      dsimp only
      rw [Nat.mul_div_cancel _ (by omega)]
      rfl
    · rfl
  rw [steps, closeAll_eq]
  exact reopenTail_withRecords s _ _ _ _ _ _

theorem closed_reopened (s : State) (i : OpenInterval) (finish : Nat) (short : Bool) :
    Closed s (reopened s i finish short) i.start (i.length finish) short where
  account k h := by
    refine ⟨{ Marks.clear with short := !!short }, (Vector.getElem_ofFn _).trans ((if_pos h).trans ?_)⟩
    rw [closedAccounts, Fin.getElem_fin, Vector.getElem_ofFn, if_pos h]
  others k h := by
    refine (Vector.getElem_ofFn _).trans ((if_neg h).trans ?_)
    exact (Vector.getElem_ofFn _).trans (if_neg h)
  records := rfl
  next := rfl
  tariff := rfl
  notices := rfl

/-! ### Intervals extended for want of room (R166) -/

/-- The state with the open intervals extended. -/
def extended (s : State) (i : OpenInterval) (now : Nat) : State :=
  { s with
    billing := { s.billing with
      accounts := Vector.ofFn fun k => if s.intervalOpen k
        then { s.account k with marks := { (s.account k).marks with extended := true } } else s.account k
      interval := some { i with nextBoundary := boundaryAfter s.intervalSeconds (now / 1000), timeSetDue := false } }
    port := raisedAll s.port [.records (.extended i.start (boundaryAfter s.intervalSeconds (now / 1000)))
      s.billing.records.length (s.billing.records.head?.map Record.number) s.billing.clock s.engine.cycleNo] }

/-- The end of an extension, once every open interval is marked. -/
def extendTail (u : State) (j : OpenInterval) (reason : RecordsReason) : State :=
  State.raiseRecords { u with billing := { u.billing with interval := some j } } reason

theorem extendTail_withAccounts (s : State) (v : Vector AccountRec 48) (j : OpenInterval) (reason : RecordsReason) :
    extendTail (withAccounts s v) j reason = { s with
      billing := { s.billing with accounts := v, interval := some j }
      port := raisedAll s.port [.records reason s.billing.records.length (s.billing.records.head?.map Record.number)
        s.billing.clock s.engine.cycleNo] } := rfl

theorem extendIntervals_eq (s : State) (i : OpenInterval) (now : Nat) : s.extendIntervals i now = extended s i now := by
  have steps : s.extendIntervals i now = extendTail (s.markAll fun m => { m with extended := true })
      { i with nextBoundary := boundaryAfter s.intervalSeconds (now / 1000), timeSetDue := false }
      (.extended i.start (boundaryAfter s.intervalSeconds (now / 1000))) := rfl
  rw [steps, markAll_eq, extendTail_withAccounts]
  rfl

theorem testClose_due {s : State} {i : OpenInterval} {now : Nat} (live : s.site.live = true)
    (interval : s.billing.interval = some i) (clock : s.billing.clock = some now)
    (due : i.timeSetDue = true ∨ i.nextBoundary ≤ now / 1000) : s.testClose =
      if s.activeAccounts.length ≤ 512 - s.billing.records.length
      then reopened s i (dueFinish s i now) i.timeSetDue else extended s i now := by
  unfold State.testClose
  rw [interval, clock]
  dsimp only
  rw [live, Bool.true_and, if_pos (by simpa [OpenInterval.closeDue] using due), closeIntervals_due, extendIntervals_eq]
  rfl

theorem produced_of_extended {s t : State} {news : List NoticeBody} (records : t.billing.records = s.billing.records)
    (next : t.billing.nextRecord = s.billing.nextRecord) (port : t.port.notices = (raisedAll s.port news).notices)
    (few : news.length ≤ 1)
    (others : ∀ body ∈ news, ∀ held oldest clock cycle, body ≠ .records .highWater held oldest clock cycle) :
    RecordsProduced s t [] := by
  have quiet : highNews s.billing.records.length t.billing.records s.billing.clock s.engine.cycleNo = [] := by
    rw [highNews, records, if_neg (by omega)]
  exact produced_of_notices (mk := fun k n => .interval (closeRecord s 0 0 false k (s.account k) n)) (ks := [])
    (news := news) (fun _ _ => rfl) (by rw [records]; exact (List.append_nil _).symm) next
    (by rw [quiet, List.append_nil, port]) few others

/-- Settles O22: the walk of the active accounts where the records find room, and the extension where they do not. -/
theorem intervalsCloseOrExtend : Obligations.IntervalsCloseOrExtend := by
  intro s i now left live interval clock due carry
  dsimp only
  let u : State := { s with due := s.due.erase .intervalClose }
  have run : exec .intervalCloseDue s = .next u.testClose.startTx := exec_timed left
  rw [testClose_due (s := u) live interval clock due] at run
  refine ⟨_, run, ?_, ?_, ?_, ?_, fun room => ?_, fun full held => ?_⟩
  · split <;> rfl
  · split <;> rfl
  · split <;> rfl
  · split <;> rfl
  · have fits : s.activeAccounts.length ≤ 512 - s.billing.records.length := by omega
    have taken : u.activeAccounts.length ≤ 512 - u.billing.records.length := fits
    rw [if_pos taken]
    have close := closed_reopened u i (dueFinish u i now) i.timeSetDue
    have closed : Closed s (reopened u i (dueFinish u i now) i.timeSetDue).startTx i.start
        (i.length (dueFinish s i now)) i.timeSetDue :=
      ⟨close.account, close.others, close.records, close.next, close.tariff, (startTx_notices _).trans close.notices⟩
    obtain ⟨new, produced, accounts, priced⟩ := produced_of_closed closed carry
    refine ⟨⟨new, produced, accounts, fun r hr => ?_⟩, commit_of_closed closed, fun k active => ?_, closed.others,
      fun kept => ?_, fun set => ?_⟩
    · obtain ⟨x, eq, -, -, price⟩ := priced r hr
      exact ⟨x, eq, price⟩
    · obtain ⟨emptied, low, high, more, conserved⟩ := rounded_of_closed closed active (carry k)
      refine ⟨emptied, low, high, more, conserved, ?_⟩
      have marks : (reopened u i (dueFinish u i now) i.timeSetDue).account k = _ :=
        (Vector.getElem_ofFn _).trans (if_pos active)
      show ((reopened u i (dueFinish u i now) i.timeSetDue).account k).marks = _
      rw [marks, Bool.not_not]
    · show some _ = _
      rw [dueFinish, kept]
      simp [boundaryAt, boundaryAfter, State.intervalSeconds, u]
    · show some _ = _
      rw [dueFinish, set]
      rfl
  · have crowded : ¬ s.activeAccounts.length ≤ 512 - s.billing.records.length := by omega
    have lost : ¬ u.activeAccounts.length ≤ 512 - u.billing.records.length := crowded
    rw [if_neg lost]
    have port : (extended u i now).startTx.port.notices = (extended u i now).port.notices := startTx_notices _
    refine ⟨produced_of_extended rfl rfl port Nat.le.refl fun body h held oldest clock cycle => ?_, rfl, rfl, fun k => ?_, ?_⟩
    · rw [List.mem_singleton.mp h]
      nofun
    · refine (Vector.getElem_ofFn _).trans ?_
      have opened : u.intervalOpen k = true ↔ k ∈ s.activeAccounts := by
        simp [State.intervalOpen, mem_activeAccounts, u, live, interval, Option.any_eq_true, State.accountEntry]
      simp only [opened]
      rfl
    · rw [← clock]
      exact told_of_raisedAll port (Nat.le_add_left _ _) List.mem_cons_self

/-! ### Bills (R171, R172) -/

/-- The cents of an account's bill. -/
def centsOf (s : State) (r : AccountRec) : Nat := (roundDiv s.tariff.mode (r.chargeCarry + r.charge) 10000).toNat

/-- The bill of an account, by its number. -/
def billRecord (s : State) (k : AccountNo) (r : AccountRec) (number : Nat) : BillRecord :=
  { number, account := k
    customer := (s.accountEntry k).elim (Config.unloadedCustomer number).toNat AccountEntry.customer
    billNumber := r.nextBill, periodStart := r.lastBill, periodEnd := s.billing.nowSeconds
    units := r.units, charge := r.charge, cents := centsOf s r
    carry := r.chargeCarry + r.charge - centsOf s r * 10000 }

/-- An account after its bill. -/
def billedAccount (s : State) (r : AccountRec) : AccountRec :=
  { r with
    units := 0, charge := 0, chargeCarry := r.chargeCarry + r.charge - centsOf s r * 10000, nextBill := r.nextBill + 1
    lastBill := s.billing.nowSeconds }

theorem billAccount_put (s : State) (k : AccountNo) (v : Vector AccountRec 48) (rs : List Record) (n : Nat) :
    (withRecords s v rs n).billAccount k = withRecords s (v.set k (billedAccount s v[k]))
      (rs ++ [.bill (billRecord s k v[k] n)]) (recordNumberAfter n) := rfl

/-- The records of bills for accounts in order. -/
def billsFor (s : State) (ks : List AccountNo) : List Record :=
  recordsFrom (fun k n => .bill (billRecord s k (s.account k) n)) s.billing.nextRecord ks

/-- The accounts after bills for accounts in order. -/
@[irreducible] def billedAccounts (s : State) (ks : List AccountNo) : Vector AccountRec 48 :=
  Vector.ofFn fun k => if k ∈ ks then billedAccount s (s.account k) else s.account k

/-- The state after bills for accounts in order. -/
def billed (s : State) (ks : List AccountNo) : State :=
  { s with
    billing := { s.billing with
      accounts := billedAccounts s ks
      records := s.billing.records ++ billsFor s ks, nextRecord := numberPast s.billing.nextRecord ks }
    port := raisedAll s.port (highNews s.billing.records.length (s.billing.records ++ billsFor s ks) s.billing.clock
      s.engine.cycleNo) }

/-- One account's bill, as the rules write it. -/
theorem billsFor_single (s : State) (k : AccountNo) : billsFor s [k] = [.bill
    { number := s.billing.nextRecord, account := k
      customer := ((s.accountEntry k).map AccountEntry.customer).getD (Config.unloadedCustomer s.billing.nextRecord).toNat
      billNumber := (s.account k).nextBill, periodStart := (s.account k).lastBill
      periodEnd := s.billing.clock.map (· / 1000), units := (s.account k).units, charge := (s.account k).charge
      cents := centsOf s (s.account k), carry := (billedAccount s (s.account k)).chargeCarry }] := by
  have customer : ((s.accountEntry k).map AccountEntry.customer).getD (Config.unloadedCustomer s.billing.nextRecord).toNat =
      (s.accountEntry k).elim (Config.unloadedCustomer s.billing.nextRecord).toNat AccountEntry.customer := by
    cases s.accountEntry k <;> rfl
  rw [customer]
  rfl

theorem billAccounts_full {s : State} {ks : List AccountNo} (h : 512 - s.billing.records.length < ks.length) :
    s.billAccounts ks = (s, .refuse .queueFull) := by
  simp [State.billAccounts, Billing.freeRecords, h]

theorem highWater_withRecords (s : State) (v : Vector AccountRec 48) (rs : List Record) (n before : Nat) :
    (withRecords s v rs n).highWater before = { s with
      billing := { s.billing with accounts := v, records := rs, nextRecord := n }
      port := raisedAll s.port (highNews before rs s.billing.clock s.engine.cycleNo) } := by
  rw [highWater_eq]
  rfl

theorem billAccounts_room {s : State} {ks : List AccountNo} (nodup : ks.Nodup)
    (h : ks.length ≤ 512 - s.billing.records.length) : s.billAccounts ks = (billed s ks, .okWith (.bills ks.length)) := by
  have walk : forEach ks (fun k u => u.billAccount k) s = withRecords s
      (billedAccounts s ks) (s.billing.records ++ billsFor s ks) (numberPast s.billing.nextRecord ks) := by
    rw [billedAccounts]
    exact forEach_produce (withRecords s) (fun _ => billedAccount s) (fun k r n => .bill (billRecord s k r n))
      (fun k _ v rs n => billAccount_put s k v rs n) nodup s.billing.accounts s.billing.records s.billing.nextRecord
  unfold State.billAccounts
  rw [if_neg (show ¬ s.billing.freeRecords < ks.length from Nat.not_lt.mpr h)]
  dsimp only
  rw [walk, highWater_withRecords]
  rfl

section
variable {s : State} {ks : List AccountNo}

theorem billed_account {k : AccountNo} (h : k ∈ ks) : (billed s ks).account k = billedAccount s (s.account k) := by
  show (billedAccounts s ks)[k] = _
  rw [billedAccounts]
  exact (Vector.getElem_ofFn _).trans (if_pos h)

theorem billed_other {k : AccountNo} (h : k ∉ ks) : (billed s ks).account k = s.account k := by
  show (billedAccounts s ks)[k] = _
  rw [billedAccounts]
  exact (Vector.getElem_ofFn _).trans (if_neg h)

theorem produced_of_billed {t : State} (billing : t.billing = (billed s ks).billing) (port : t.port.notices = (billed s ks).port.notices) :
    RecordsProduced s t (billsFor s ks) :=
  produced_of_notices (news := []) (fun _ _ => rfl) (by rw [billing]; rfl) (by rw [billing]; rfl)
    (by rw [port, billing]; rfl) (Nat.zero_le _) (fun _ h => nomatch h)

theorem mem_billsFor {r : Record} (h : r ∈ billsFor s ks) :
    ∃ k ∈ ks, ∃ n, r = .bill (billRecord s k (s.account k) n) := mem_recordsFrom h

theorem billed_kept (tag : Byte) (kind : Nat) (reply : Reply) :
    (answered (billed s ks) tag kind reply).billing.clock = s.billing.clock ∧
      (answered (billed s ks) tag kind reply).billing.interval = s.billing.interval ∧
      { answered (billed s ks) tag kind reply with billing := s.billing, port := s.port } = s :=
  ⟨rfl, rfl, rfl⟩

/-- The charge is billed in whole cents, and the rest carried (R172). -/
theorem centsOf_spec {r : AccountRec} (h : -5000 ≤ r.chargeCarry) :
    NearestTo (modeInForce s) (r.chargeCarry + r.charge) 10000 (centsOf s r) := by
  have cents : (centsOf s r : Int) = roundDiv s.tariff.mode (r.chargeCarry + r.charge) 10000 := by
    have := roundDiv_nonneg s.tariff.mode (q := r.chargeCarry + r.charge) (d := 10000) (by omega) (by omega)
    rw [centsOf]
    omega
  rw [cents, ← mode_eq]
  exact nearestTo_roundDiv _ _ (by omega)

end

/-- Settles O59: the refusals, one bill, and the walk of ALL. -/
theorem closeBill : Obligations.CloseBill := by
  refine ⟨fun tag account s calm beyond => ?_, fun tag s calm => ⟨fun k full => ?_, fun full => ?_, fun k room carry => ?_,
    fun room => ?_⟩⟩
  · exact exec_request_calm calm rfl (by
      simp [reqCloseBill, numbered_none (.inr beyond), show account ≠ 0 by omega, Reply.refuse])
  · exact exec_request_calm calm rfl (by
      simp [reqCloseBill, billAccounts_full (s := s) (ks := [k]) (by simp; omega), Reply.refuse])
  · exact exec_request_calm calm rfl (by simp [reqCloseBill, billAccounts_full full, Reply.refuse])
  · have request : reqCloseBill (k.val + 1) s = (billed s [k], ⟨.ok, .bills 1⟩) := by
      simp [reqCloseBill, billAccounts_room (s := s) (ks := [k]) (List.nodup_singleton k) (by simp; omega), Reply.okWith]
    have near := centsOf_spec (s := s) carry
    obtain ⟨low, high, -⟩ := centsOf_spec (s := s) carry
    refine ⟨_, centsOf s (s.account k), (billedAccount s (s.account k)).chargeCarry,
      exec_request_calm calm rfl request, rfl, ?_, ?_, ?_, near, ?_, ?_, ?_, billed_kept _ _ _⟩
    · show 10000 * (centsOf s (s.account k) : Int) + (_ - (centsOf s (s.account k) : Int) * 10000) = _
      omega
    · show _ ≤ _ - (centsOf s (s.account k) : Int) * 10000
      omega
    · show _ - (centsOf s (s.account k) : Int) * 10000 ≤ _
      omega
    · exact (billsFor_single s k) ▸ produced_of_billed (s := s) (ks := [k]) rfl rfl
    · exact billed_account List.mem_cons_self
    · exact fun j other => billed_other (by simpa using other)
  · have request : reqCloseBill 0 s = (billed s s.activeAccounts, ⟨.ok, .bills s.activeAccounts.length⟩) := by
      simp [reqCloseBill, billAccounts_room (activeAccounts_nodup s) room, Reply.okWith]
    refine ⟨_, billsFor s s.activeAccounts, exec_request_calm calm rfl request, rfl, produced_of_billed rfl rfl,
      recordAccount_recordsFrom (fun _ _ => rfl) _ _, fun r hr => ?_, fun k active => ?_, fun k => billed_other, billed_kept _ _ _⟩
    · obtain ⟨k, active, n, rfl⟩ := mem_billsFor hr
      have account : (billed s s.activeAccounts).account k = billedAccount s (s.account k) := billed_account active
      refine ⟨_, rfl, rfl, rfl, (congrArg AccountRec.chargeCarry account).symm, fun carry => ⟨centsOf_spec carry, ?_⟩⟩
      show _ - (centsOf s (s.account k) : Int) * 10000 = _ - 10000 * (centsOf s (s.account k) : Int)
      rw [Int.mul_comm]
      rfl
    · show ((billed s s.activeAccounts).account k).charge = 0 ∧ ((billed s s.activeAccounts).account k).units = 0 ∧
        ((billed s s.activeAccounts).account k).nextBill = _ ∧ ((billed s s.activeAccounts).account k).carry = _ ∧
        ((billed s s.activeAccounts).account k).accumulator = _
      rw [billed_account active]
      exact ⟨rfl, rfl, rfl, rfl, rfl⟩

end Sys2Proof.Closing
end

section
/-! SUPPORT. What a cycle start keeps from the state in which its new cycle is counted, and the start of a run (R18, R38, R46, R69). -/

namespace Sys2Proof.Running

open Sys2Proof Sys2Proof.Machine Sys2Proof.Stated Sys2Proof.ClearFlags Sys2Proof.Keeping

/-- Once the new cycle is counted, its work keeps every aspect but the engine's own. -/
theorem keeps_newCycle {x : Aspect} (hx : x ≠ .engine) {closing : Option Nat} (ht : x = .times → closing = none)
    {deferred : List TimedEvent} (hd : x = .due → deferred = []) (selectLast : Bool) (s : State) :
    Keeps x s.newCycle (s.cycleStart closing selectLast deferred) := by
  have closed : Keeps x s.newCycle (closing.elim s.newCycle fun len => s.newCycle.closeCycle len) := by
    cases closing with
    | none => exact .refl x _
    | some len =>
      rw [Option.elim_some]
      exact Keeps.closeCycle s.newCycle (fun h => Option.some_ne_none len (ht h)) len
  have counted : Keeps x s.newCycle (closing.elim s.newCycle fun len => s.newCycle.closeCycle len).tickCounters.endOrphan :=
    .after (.endOrphan _ hx) (.after (.tickCounters _) closed)
  unfold State.cycleStart
  dsimp only
  split
  · exact .after (.engineWork _ hx) (.after (.ownersWork _ hd _) counted)
  · exact .after (.ownersWork _ hd _) (.after (.engineWork _ hx) counted)

theorem openCycle_slotsEnded (s : State) (reply : Option Addr) (c : Option Command) :
    (s.openCycle reply c).engine.slotsEnded = 0 := by
  unfold State.openCycle
  dsimp only
  split
  · rfl
  · unfold Engine.sendHeader
    dsimp only
    split <;> rfl

theorem slotsEnded_of_keeps {s t : State} (h : Keeps .engine s t) : t.engine.slotsEnded = s.engine.slotsEnded := by
  have part (u : State) : (enginePart u).slotsEnded = u.engine.slotsEnded := rfl
  rw [← part t, ← part s, show enginePart t = enginePart s from h]

theorem engineWork_slotsEnded (s : State) : s.engineWork.engine.slotsEnded = 0 := by
  unfold State.engineWork
  split <;> exact openCycle_slotsEnded _ _ _

/-- No slot of a cycle that has just started has ended. -/
theorem cycleStart_slotsEnded (s : State) (closing : Option Nat) (selectLast : Bool) (deferred : List TimedEvent) :
    (s.cycleStart closing selectLast deferred).engine.slotsEnded = 0 := by
  unfold State.cycleStart
  dsimp only
  split
  · exact engineWork_slotsEnded _
  · exact (slotsEnded_of_keeps (Keeps.ownersWork (x := .engine) _ nofun _)).trans (engineWork_slotsEnded _)

/-! ### START CYCLES (R38) -/

/-- The state in which a run begins, before its first cycle start. -/
def begun (s : State) : State :=
  { s with
    feeders := Vector.replicate 32 .none
    sets := Vector.ofFn fun n => { s.setRec n with baseline := none }
    engine := { s.engine with running := true } }

theorem begun_setRec (s : State) (n : SetNo) : (begun s).setRec n = { s.setRec n with baseline := none } :=
  Vector.getElem_ofFn _

theorem begun_feederRec (s : State) (f : FeederNo) : (begun s).feederRec f = .none := Vector.getElem_replicate _

theorem startRun_eq (s : State) : s.startRun = (begun s).cycleStart none false [] := by
  have cleared := forEach_modSet (fun _ r => { r with baseline := none }) s.clearFeeders
  unfold State.startRun State.clearBaselines
  rw [cleared]
  rfl

theorem someEnabled_iff {s : State} : s.someEnabled = true ↔ ∃ a, s.enabledUnit a = true := by
  simp [State.someEnabled, allUnits, List.any_eq_true]

/-- Settles O36: the refusals, and the first cycle start of the run. -/
theorem startCycles : Obligations.StartCycles := by
  intro tag s calm
  refine ⟨fun running => exec_request_calm calm rfl (by simp [reqStartCycles, running, Reply.refuse]),
    fun halted unfit => exec_request_calm calm rfl ?_, fun halted enabled => ?_⟩
  · have idle : s.someEnabled = false := by
      rw [Bool.eq_false_iff, Ne, someEnabled_iff]
      exact fun ⟨a, on⟩ => Bool.false_ne_true ((unfit a).symm.trans on)
    simp [reqStartCycles, halted, idle, Reply.refuse]
  · have request : reqStartCycles s = (s.startRun, ⟨.ok, .none⟩) := by
      simp [reqStartCycles, halted, someEnabled_iff.mpr enabled, Reply.ok]
    rw [startRun_eq] at request
    have keeps {x : Aspect} (hx : x ≠ .engine) : Keeps x (begun s).newCycle ((begun s).cycleStart none false []) :=
      keeps_newCycle hx (fun _ => rfl) (fun _ => rfl) false (begun s)
    have fixed : fixedPart ((begun s).cycleStart none false []) = fixedPart (begun s).newCycle := keeps (x := .fixed) nofun
    have samples : SamplesKept (begun s).newCycle ((begun s).cycleStart none false []) := keeps (x := .limits) nofun
    have times : ∀ n, hireTimes (((begun s).cycleStart none false []).setRec n) = hireTimes ((begun s).newCycle.setRec n) :=
      keeps (x := .times) nofun
    have pending : ((begun s).cycleStart none false []).pending = s.pending := keeps (x := .pending) nofun
    have ended := cycleStart_slotsEnded (begun s) none false []
    have flags : ((begun s).cycleStart none false []).limitFlags = s.limitFlags := samples.flags
    generalize (begun s).cycleStart none false [] = t at *
    simp only [fixedPart, Prod.mk.injEq] at fixed
    obtain ⟨tables, site, ten, -, -, running, cycleNo, cycleLen, hold, age⟩ := fixed
    refine ⟨_, exec_request_calm calm rfl request, rfl, running, cycleNo, cycleLen, hold, age, ended,
      samples.unsampled (begun_feederRec s), fun n => ⟨?_, ?_⟩, tables, site, ten, flags, pending⟩
    · exact (samples.baseline n).trans (congrArg SetRec.baseline (begun_setRec s n))
    · exact (congrArg Prod.fst (times n)).trans (congrArg (fun r => r.hire.runMs) (begun_setRec s n))

end Sys2Proof.Running
end

section
/-! SUPPORT. What the encoders of the requests write, their decoders read (10.8, 10.9, R188, R196). -/

namespace Sys2Proof.Spelling

open Sys2Proof Sys2Proof.Machine Sys2Proof.Stated

/-! ### Fields of fixed widths -/

@[simp] theorem length_beBytes (w n : Nat) : (beBytes w n).length = w := by
  induction w with
  | zero => rfl
  | succ w ih => rw [beBytes, List.length_cons, ih]

theorem beBytes_one (n : Nat) : beBytes 1 n = [BitVec.ofNat 8 n] := by simp [beBytes]

theorem foldl_be (bs : List Byte) (acc : Nat) : bs.foldl (fun acc b => acc * 256 + b.toNat) acc =
    acc * 256 ^ bs.length + beNat bs := by
  induction bs generalizing acc with
  | nil => simp [beNat]
  | cons b bs ih =>
    rw [beNat, List.foldl_cons, List.foldl_cons, ih, ih (0 * 256 + b.toNat), List.length_cons, Nat.pow_succ]
    ring

/-- The bytes of a value are those of its low part. -/
theorem beBytes_mod (w n : Nat) : beBytes w n = beBytes w (n % 256 ^ w) := by
  induction w generalizing n with
  | zero => rfl
  | succ w ih =>
    have split : 256 ^ (w + 1) = 256 ^ w * 256 := pow_succ 256 w
    have head : BitVec.ofNat 8 (n / 256 ^ w) = BitVec.ofNat 8 (n % 256 ^ (w + 1) / 256 ^ w) := by
      apply BitVec.eq_of_toNat_eq
      rw [BitVec.toNat_ofNat, BitVec.toNat_ofNat, split, Nat.mod_mul_right_div_self]
      simp
    rw [beBytes, beBytes, head, ih n, ih (n % 256 ^ (w + 1)), Nat.mod_mod_of_dvd]
    exact Nat.pow_dvd_pow 256 (Nat.le_succ w)

/-- A value of so many bytes is read back from them. -/
theorem beNat_beBytes {w n : Nat} (h : n < 256 ^ w) : beNat (beBytes w n) = n := by
  induction w generalizing n with
  | zero =>
    rw [Nat.pow_zero, Nat.lt_one_iff] at h
    exact h.symm
  | succ w ih =>
    have digit : n / 256 ^ w < 256 := Nat.div_lt_of_lt_mul (by rw [Nat.pow_succ, Nat.mul_comm] at h; rwa [Nat.mul_comm])
    have rest := ih (Nat.mod_lt n (Nat.pow_pos (n := w) (by omega : 0 < 256)))
    rw [beBytes, beNat, List.foldl_cons, foldl_be, length_beBytes, beBytes_mod, rest, BitVec.toNat_ofNat,
      Nat.mod_eq_of_lt digit, Nat.zero_mul, Nat.zero_add, Nat.mul_comm]
    exact Nat.div_add_mod n (256 ^ w)

/-- Values sent in widths that hold them are read back. -/
theorem fieldsOf_packed {ws vs : List Nat} (h : List.Forall₂ (fun w v => v < 256 ^ w) ws vs) :
    fieldsOf ws (packed ws vs) = some vs := by
  induction h with
  | nil => rfl
  | cons fits _ ih =>
    rw [packed, fieldsOf, if_neg (by simp), List.drop_left' (length_beBytes _ _), List.take_left' (length_beBytes _ _), ih,
      beNat_beBytes fits]
    rfl

theorem length_packed {ws vs : List Nat} (h : ws.length = vs.length) : (packed ws vs).length = ws.sum := by
  induction ws generalizing vs with
  | nil => rfl
  | cons w ws ih =>
    cases vs with
    | nil => cases h
    | cons v vs => simp [packed, ih (Nat.succ_inj.mp h)]

/-! ### Enumerated values -/

section
variable {α : Type} {names : List α} {code : α → Nat}

/-- A value that a list of names holds at its code is read back, and so is the absence of one. -/
theorem nameAt_nameCode (listed : ∀ a, names[code a]? = some a) (short : names.length ≤ 255) (x : Option α) :
    nameAt names (nameCode code x) = x := by
  cases x with
  | none => exact List.getElem?_eq_none short
  | some a => exact listed a

theorem nameCode_lt (listed : ∀ a, names[code a]? = some a) (short : names.length ≤ 255) (x : Option α) :
    nameCode code x < 256 := by
  cases x with
  | none => exact Nat.lt_succ_self 255
  | some a =>
    have := (List.getElem?_eq_some_iff.mp (listed a)).1
    show code a < 256
    omega

end

theorem yesNo_listed (b : Bool) : ([true, false] : List Bool)[yesNoCode b]? = some b := by cases b <;> rfl
theorem unitKind_listed (k : UnitKind) : ([.set, .board, .change, .fuel] : List UnitKind)[unitKindCode k]? = some k := by
  cases k <;> rfl
theorem pollClass_listed (c : PollClass) : ([.every, .round] : List PollClass)[pollClassCode c]? = some c := by
  cases c <;> rfl
theorem windowMode_listed (m : WindowMode) :
    ([.off, .inside, .above, .below, .outside] : List WindowMode)[windowModeCode m]? = some m := by cases m <;> rfl
theorem side_listed (x : Side) : ([.a, .b] : List Side)[sideCode x]? = some x := by cases x <;> rfl
theorem permission_listed (p : Permission) :
    ([.pass, .refuse, .passIfIdle] : List Permission)[permissionCode p]? = some p := by cases p <;> rfl
theorem rounding_listed (m : RoundingMode) : ([.halfEven, .halfUp] : List RoundingMode)[roundingCode m]? = some m := by
  cases m <;> rfl
theorem tableName_listed (t : TableName) :
    ([.unit, .feeder, .set, .point, .account, .site, .gate] : List TableName)[tableNameCode t]? = some t := by
  cases t <;> rfl
theorem tariffName_listed (t : TariffName) : ([.active, .pending] : List TariffName)[tariffNameCode t]? = some t := by
  cases t <;> rfl
theorem code_listed (c : Code) : allCodes[codePosition c]? = some c := by cases c <;> decide

/-! ### The layouts of the requests (10.8, R196) -/

theorem requestOf_noFields (r : Request) : noFields r [] = some r := rfl

theorem oneByte_packed {r : Nat → Request} {n : Nat} (h : n < 256) : oneByte r (packed [1] [n]) = some (r n) := by
  simp [packed, beBytes_one, oneByte, Nat.mod_eq_of_lt h]

theorem fixedForm_packed {ws vs : List Nat} (r : List Nat → Option Request)
    (h : List.Forall₂ (fun w v => v < 256 ^ w) ws vs) : fixedForm ws r (packed ws vs) = r vs := by
  rw [fixedForm, fieldsOf_packed h, Option.bind_some]

/-- A load's index and fields are read back, where those of an entry are, and are not empty. -/
theorem loadForm_payload {α : Type} (r : Nat → LoadForm α → Request) {decode : List Byte → Option α}
    {encode : α → List Byte} {index : Nat} (small : index < 256) {form : LoadForm α}
    (h : ∀ u, form = .entry u → decode (encode u) = some u ∧ encode u ≠ []) :
    loadForm r decode (loadPayload index form encode) = some (r index form) := by
  cases form with
  | clear => simp [loadPayload, beBytes_one, loadForm, Nat.mod_eq_of_lt small]
  | entry u =>
    obtain ⟨read, filled⟩ := h u rfl
    simp [loadPayload, beBytes_one, loadForm, Nat.mod_eq_of_lt small, read, filled]

theorem unitFields_unitBytes {u : UnitFields} (h : u.fits = true) : unitFields (unitBytes u) = some u := by
  simp only [UnitFields.fits, byteFits, Bool.and_eq_true, decide_eq_true_eq] at h
  have kind := nameAt_nameCode unitKind_listed (by decide) u.kind
  have enabled := nameAt_nameCode yesNo_listed (by decide) u.enabled
  have pollClass := nameAt_nameCode pollClass_listed (by decide) u.pollClass
  rw [unitFields, unitBytes, fieldsOf_packed]
  · simp [unitKindOf, yesNo, pollClassOf, kind, enabled, pollClass]
  · simp [h, nameCode_lt unitKind_listed, nameCode_lt yesNo_listed, nameCode_lt pollClass_listed]

theorem feederFields_feederBytes {u : FeederFields} (h : u.fits = true) : feederFields (feederBytes u) = some u := by
  simp only [FeederFields.fits, byteFits, wordFits, List.all_cons, List.all_nil, Bool.and_eq_true, decide_eq_true_eq] at h
  have mode := nameAt_nameCode windowMode_listed (by decide) u.mode
  rw [feederFields, feederBytes, fieldsOf_packed]
  · simp [windowModeOf, mode]
  · simp [h, nameCode_lt windowMode_listed]

theorem setFields_setBytes {u : SetFields} (h : u.fits = true) : setFields (setBytes u) = some u := by
  simp only [SetFields.fits, byteFits, wordFits, List.all_cons, List.all_nil, Bool.and_eq_true, decide_eq_true_eq] at h
  have enabled := nameAt_nameCode yesNo_listed (by decide) u.enabled
  rw [setFields, setBytes, fieldsOf_packed]
  · simp [yesNo, enabled]
  · simp [h, nameCode_lt yesNo_listed]

theorem accountFields_accountBytes {u : AccountFields} (h : u.fits = true) : accountFields (accountBytes u) = some u := by
  simp only [AccountFields.fits, byteFits, wordFits, Bool.and_eq_true, decide_eq_true_eq] at h
  have active := nameAt_nameCode yesNo_listed (by decide) u.active
  rw [accountFields, accountBytes, fieldsOf_packed]
  · simp [yesNo, active]
  · simp [h, nameCode_lt yesNo_listed]

theorem siteRequest_siteBytes {u : SiteFields} (h : u.fits = true) : siteRequest (siteBytes u) = some (reqLoadSite u) := by
  simp only [SiteFields.fits, byteFits, wordFits, List.all_cons, List.all_nil, Bool.and_eq_true, decide_eq_true_eq,
    Bool.or_eq_true] at h
  obtain ⟨small, interval⟩ := h
  have code : intervalMinOf (intervalMinutes.findIdx (· = u.intervalMin)) = u.intervalMin ∧
      intervalMinutes.findIdx (· = u.intervalMin) < 256 := by
    have listed : u.intervalMin = 0 ∨ u.intervalMin ∈ intervalMinutes := interval.imp id (by simpa using ·)
    simp only [intervalMinutes, List.mem_cons, List.not_mem_nil, or_false] at listed
    rcases listed with eq | eq | eq | eq | eq | eq <;> rw [eq] <;> decide
  rw [siteRequest, siteBytes, fieldsOf_packed]
  · simp [code]
  · simp [small, code]

/-! ### LOAD POINT (R9; log entry 29) -/

/-- A timing sent where it is present is read where its bit is set. -/
theorem timing_toList (x : Option Nat) (rest : List Nat) : timing x.isSome (x.toList ++ rest) = (x, rest) := by
  cases x <;> rfl

/-- The mark byte of the timings shows which of them are present. -/
def timingMarks (d c p : Bool) : Nat := [d, c, p].foldr (fun b acc => b.toNat + 2 * acc) 0

theorem testBit_timingMarks (d c p : Bool) : (timingMarks d c p).testBit 0 = d ∧ (timingMarks d c p).testBit 1 = c ∧
    (timingMarks d c p).testBit 2 = p ∧ timingMarks d c p < 256 := by
  cases d <;> cases c <;> cases p <;> decide

/-- The fields that every point carries fit their widths. -/
theorem common_fit {d c p : Option Nat} {rest : List Nat} (hd : d.all byteFits = true) (hc : c.all byteFits = true)
    (hp : p.all wordFits = true) (hr : List.Forall₂ (fun w v => v < 256 ^ w) [2, 1, 1, 1] rest) :
    List.Forall₂ (fun w v => v < 256 ^ w) (commonWidths (timingMarks d.isSome c.isSome p.isSome))
      (d.toList ++ (c.toList ++ (p.toList ++ rest))) := by
  obtain ⟨bit0, bit1, bit2, -⟩ := testBit_timingMarks d.isSome c.isSome p.isSome
  have one {x : Option Nat} {w : Nat} (fits : ∀ n, x = some n → n < 256 ^ w) :
      List.Forall₂ (fun w v => v < 256 ^ w) (if x.isSome then [w] else []) x.toList := by
    cases x with
    | none => exact .nil
    | some n => exact .cons (fits n rfl) .nil
  rw [commonWidths, bit0, bit1, bit2, List.append_assoc, List.append_assoc]
  refine List.rel_append (one fun n eq => ?_) (List.rel_append (one fun n eq => ?_) (List.rel_append (one fun n eq => ?_) hr))
  · simpa [eq, byteFits] using hd
  · simpa [eq, byteFits] using hc
  · simpa [eq, wordFits] using hp

theorem pointSourceFields_sourceParts {u : SourceFields} (named : u ≠ .unnamed) (rest : List Nat) :
    pointSourceFields (sourceParts u).1 ((sourceParts u).2 ++ rest) = some (u, rest) ∧ (sourceParts u).1 < 2 := by
  cases u with
  | fixed n => exact ⟨rfl, by simp [sourceParts]⟩
  | switched u a b => exact ⟨rfl, by simp [sourceParts]⟩
  | unnamed => exact absurd rfl named

theorem source_fit {u : SourceFields} (named : u ≠ .unnamed) (h : u.fits = true) :
    List.Forall₂ (fun w v => v < 256 ^ w) (List.replicate (if (sourceParts u).1 = 0 then 1 else 3) 1) (sourceParts u).2 := by
  cases u with
  | fixed n =>
    have small : n < 256 := by simpa [SourceFields.fits, byteFits] using h
    simpa [sourceParts] using small
  | switched u a b =>
    simp only [SourceFields.fits, byteFits, Bool.and_eq_true, decide_eq_true_eq] at h
    simp [sourceParts, List.replicate, h]
  | unnamed => exact absurd rfl named

theorem pointFields_pointBytes {u : PointFields} (h : u.fits = true) : pointFields (pointBytes u) = some u := by
  by_cases unnamed : u.source = .unnamed
  · have empty : u = ⟨.unnamed, none, none, none, 0, none, none, none⟩ := by
      simp only [PointFields.fits, Bool.and_eq_true, Bool.or_eq_true, decide_eq_true_eq] at h
      exact h.2.resolve_left fun named => absurd unnamed (by simpa using named)
    rw [empty]
    decide
  · simp only [PointFields.fits, Bool.and_eq_true] at h
    obtain ⟨⟨⟨⟨⟨source, dead⟩, confirm⟩, prepare⟩, threshold⟩, -⟩ := h
    have fault := nameAt_nameCode yesNo_listed (by decide) u.autoFault
    have load := nameAt_nameCode yesNo_listed (by decide) u.autoLoad
    have fuel := nameAt_nameCode yesNo_listed (by decide) u.autoFuel
    have small (x : Option Bool) := nameCode_lt yesNo_listed (by decide) x
    let tail := [u.deadThreshold, nameCode yesNoCode u.autoFault, nameCode yesNoCode u.autoLoad, nameCode yesNoCode u.autoFuel]
    let mark := timingMarks u.deadTime.isSome u.confirmTimeout.isSome u.prepareLimit.isSome
    obtain ⟨bit0, bit1, bit2, byte⟩ := testBit_timingMarks u.deadTime.isSome u.confirmTimeout.isSome u.prepareLimit.isSome
    have tailFits : List.Forall₂ (fun w v => v < 256 ^ w) [2, 1, 1, 1] tail := by
      simpa [tail, small, wordFits] using threshold
    have fits := List.rel_append (source_fit unnamed source) (common_fit dead confirm prepare tailFits)
    obtain ⟨read, kind⟩ := pointSourceFields_sourceParts unnamed
      (u.deadTime.toList ++ (u.confirmTimeout.toList ++ (u.prepareLimit.toList ++ tail)))
    have bytes : pointBytes u = BitVec.ofNat 8 mark :: BitVec.ofNat 8 (sourceParts u.source).1 ::
        packed (pointWidths (sourceParts u.source).1 mark) ((sourceParts u.source).2 ++
          (u.deadTime.toList ++ (u.confirmTimeout.toList ++ (u.prepareLimit.toList ++ tail)))) := by
      simp [pointBytes, unnamed, beBytes_one, tail, mark, timingMarks]
    have markRead : (BitVec.ofNat 8 mark).toNat = mark := Nat.mod_eq_of_lt byte
    have kindRead : (BitVec.ofNat 8 (sourceParts u.source).1).toNat = (sourceParts u.source).1 :=
      Nat.mod_eq_of_lt (by omega)
    rw [bytes, pointFields, kindRead, markRead, if_neg (by omega), pointWidths, fieldsOf_packed fits]
    simp only [Option.bind_eq_bind, Option.bind_some, read, mark, bit0, bit1, bit2, timing_toList, tail, yesNo, fault, load, fuel]

/-! ### LOAD TARIFF CLASS, CLEAR FLAGS and TANK SET (R148, R187, R196) -/

theorem bandFields_flatten {bands : List Band} (h : (bands.all fun b => tripleFits b.start && tripleFits b.rate) = true) :
    bandFields bands.length (bands.map Band.bytes).flatten = some bands := by
  induction bands with
  | nil => rfl
  | cons b bands ih =>
    simp only [List.all_cons, Bool.and_eq_true, tripleFits, decide_eq_true_eq] at h
    obtain ⟨⟨start, rate⟩, rest⟩ := h
    have length : (Band.bytes b).length = 6 := by simp [Band.bytes]
    have first : (Band.bytes b ++ (bands.map Band.bytes).flatten).take 3 = beBytes 3 b.start := by
      rw [Band.bytes, List.append_assoc]
      exact List.take_left' (length_beBytes 3 _)
    have second : (Band.bytes b).drop 3 = beBytes 3 b.rate := List.drop_left' (length_beBytes 3 _)
    rw [List.map_cons, List.flatten_cons, List.length_cons, bandFields, if_neg (by simp [length]), List.drop_left' length,
      List.take_left' length, ih (by simpa [tripleFits] using rest), first, second, beNat_beBytes start, beNat_beBytes rate]
    rfl

theorem tariffRequest_bytes {identifier cls : Nat} {mode : Option RoundingMode} {bands : List Band}
    (h : (wordFits identifier && byteFits cls && bandsFit bands) = true) :
    tariffRequest (packed [2, 1, 1, 1] [identifier, nameCode roundingCode mode, cls, bands.length] ++
      (bands.map Band.bytes).flatten) = some (reqLoadTariffClass identifier mode cls bands) := by
  simp only [wordFits, byteFits, bandsFit, Bool.and_eq_true, decide_eq_true_eq] at h
  obtain ⟨⟨word, byte⟩, few, bandsFit⟩ := h
  have length : (packed [2, 1, 1, 1] [identifier, nameCode roundingCode mode, cls, bands.length]).length = 5 := length_packed rfl
  have name := nameAt_nameCode rounding_listed (by decide) mode
  rw [tariffRequest, List.take_left' length, List.drop_left' length, fieldsOf_packed]
  · simp [bandFields_flatten bandsFit, roundingOf, name]
  · simp only [List.forall₂_cons, List.Forall₂.nil, and_true]
    exact ⟨word, nameCode_lt rounding_listed (by decide) mode, byte, by omega⟩

theorem length_maskBytes (w mask : Nat) : (maskBytes w mask).length = w := by
  induction w generalizing mask with
  | zero => rfl
  | succ w ih => rw [maskBytes, List.length_cons, ih]

theorem maskNat_maskBytes {w mask : Nat} (h : mask < 256 ^ w) : maskNat (maskBytes w mask) = mask := by
  induction w generalizing mask with
  | zero =>
    rw [Nat.pow_zero, Nat.lt_one_iff] at h
    rw [h]
    rfl
  | succ w ih =>
    have high : mask / 256 < 256 ^ w := Nat.div_lt_of_lt_mul (by rwa [pow_succ, Nat.mul_comm] at h)
    rw [maskBytes, maskNat, ih high, BitVec.toNat_ofNat]
    omega

theorem tankLevelOf_tankNumber {level : TankLevel} (h : level.fits = true) :
    tankLevelOf (tankNumber level) = level ∧ tankNumber level < 65536 := by
  cases level with
  | level l =>
    have small : l < 65535 := by simpa [TankLevel.fits] using h
    exact ⟨if_neg (by rw [tankNumber]; omega), by rw [tankNumber]; omega⟩
  | sensor => exact ⟨rfl, by decide⟩

theorem tankFlagNames_markByte (names : TankFlagNames) :
    tankFlagNames (markByte [names.low, names.reserve, names.discrepancy]).toNat = names := by
  obtain ⟨low, reserve, discrepancy⟩ := names
  cases low <;> cases reserve <;> cases discrepancy <;> decide

theorem clearRequest_feeders {mask : Nat} (h : mask < 2 ^ 32) :
    clearRequest (beBytes 1 0 ++ maskBytes 4 mask) = some (reqClearFeederLimit mask) := by
  simp [beBytes_one, clearRequest, length_maskBytes, maskNat_maskBytes (w := 4) h]

theorem clearRequest_sets {mask : Nat} (h : mask < 256) :
    clearRequest (beBytes 1 1 ++ maskBytes 1 mask) = some (reqClearSetFlag mask) := by
  simp [beBytes_one, clearRequest, length_maskBytes, maskNat_maskBytes (w := 1) h]

theorem clearRequest_points {mask : Nat} (h : mask < 65536) :
    clearRequest (beBytes 1 3 ++ maskBytes 2 mask) = some (reqClearPointFlag mask) := by
  simp [beBytes_one, clearRequest, length_maskBytes, maskNat_maskBytes (w := 2) h]

theorem clearRequest_tank {mask : Nat} (h : mask < 256) (names : TankFlagNames) :
    clearRequest (beBytes 1 2 ++ maskBytes 1 mask ++ [markByte [names.low, names.reserve, names.discrepancy]]) =
      some (reqClearTankFlag mask names) := by
  simp [beBytes_one, clearRequest, maskBytes, tankFlagNames_markByte, Nat.mod_eq_of_lt h]

theorem clearRequest_unit {address : Nat} (h : address < 256) :
    clearRequest (packed [1, 1] [4, address]) = some (reqClearUnitCounts address) := by
  simp [packed, beBytes_one, clearRequest, oneByte, Nat.mod_eq_of_lt h]

/-! ### Frames (R182, R188; log entry 9) -/

/-- What the frame of a command does: its request is taken on the state that finds the frames before it sent. -/
def Spells (i : Instr) (f : OfficeFrame) : Prop :=
  ∀ s : State, exec i s = .next (State.respond f.destination f.tag f.kind
    (handleFrame f ((tenLevel i).elim s.quiet s.quiet.sampleTen))).startTx

/-- A management request is spelled by the frame whose payload is read as it. -/
theorem spells_manage {i : Instr} {tag : Byte} {kind : Nat} {payload : List Byte} {f : OfficeFrame} {r : Request}
    (frame : manageFrame tag kind payload = some f) (small : kind < 256) (read : requestOf kind payload = some r)
    (arm : ∀ s, exec i s = manage tag kind (fun u => r ((tenLevel i).elim u u.sampleTen)) s) : Spells i f := fun s => by
  have code : (BitVec.ofNat 8 kind).toNat = kind := Nat.mod_eq_of_lt small
  cases frame
  rw [arm, manage, State.serve]
  simp only [handleFrame, code, read, if_true]

theorem spells_pass {i : Instr} {tag : Byte} {a : Addr} {code : Code} {args : List Byte} {f : OfficeFrame}
    (frame : passFrame tag a code args = some f) (short : args.length ≤ 8) (level : tenLevel i = none)
    (arm : ∀ s, exec i s = passOn tag a code args s) : Spells i f := fun s => by
  have address : (BitVec.ofNat 8 (a.val + 1)).toNat = a.val + 1 := Nat.mod_eq_of_lt (by omega)
  have place : codePosition code < 14 := (List.getElem?_eq_some_iff.mp (code_listed code)).1
  have number : (BitVec.ofNat 8 (codeNumber code)).toNat = 64 + codePosition code :=
    Nat.mod_eq_of_lt (show 64 + codePosition code < 256 by omega)
  have known : codeOfKind (64 + codePosition code) = some code := by
    rw [codeOfKind, if_pos (by omega), Nat.add_sub_cancel_left]
    exact code_listed code
  have away : BitVec.ofNat 8 (a.val + 1) ≠ (0 : Byte) := fun zero => by
    have := congrArg BitVec.toNat zero
    rw [address] at this
    exact absurd this (Nat.succ_ne_zero _)
  have counted : passArgs (beBytes 1 args.length ++ args) = some args := by
    have count : args.length % 256 = args.length := Nat.mod_eq_of_lt (by omega)
    simp [beBytes_one, passArgs, count, short]
  cases frame
  rw [arm, passOn, State.serve, level, Option.elim_none]
  simp only [handleFrame, if_neg away, address, numbered_succ, counted, number, known]

/-- Every well-formed command that a frame carries is spelled by it. -/
theorem spells_of_frame {i : Instr} {f : OfficeFrame} (fits : i.wellFormed = true) (h : officeFrameOf i = some f) :
    Spells i f := by
  cases i with
  | startCycles => exact spells_manage h (by decide) rfl fun _ => rfl
  | stopCycles => exact spells_manage h (by decide) rfl fun _ => rfl
  | goLive => exact spells_manage h (by decide) rfl fun _ => rfl
  | standDown => exact spells_manage h (by decide) rfl fun _ => rfl
  | fieldRestart => exact spells_manage h (by decide) rfl fun _ => rfl
  | readSchedule => exact spells_manage h (by decide) rfl fun _ => rfl
  | readTickets => exact spells_manage h (by decide) rfl fun _ => rfl
  | readRecords => exact spells_manage h (by decide) rfl fun _ => rfl
  | readStatus => exact spells_manage h (by decide) rfl fun _ => rfl
  | commitTariff => exact spells_manage h (by decide) rfl fun _ => rfl
  | discardTariff => exact spells_manage h (by decide) rfl fun _ => rfl
  | readUnit => exact spells_manage h (by decide) (oneByte_packed (by simpa [Instr.wellFormed, byteFits] using fits)) fun _ => rfl
  | readFeeder => exact spells_manage h (by decide) (oneByte_packed (by simpa [Instr.wellFormed, byteFits] using fits)) fun _ => rfl
  | readSet => exact spells_manage h (by decide) (oneByte_packed (by simpa [Instr.wellFormed, byteFits] using fits)) fun _ => rfl
  | readPoint => exact spells_manage h (by decide) (oneByte_packed (by simpa [Instr.wellFormed, byteFits] using fits)) fun _ => rfl
  | readAccount => exact spells_manage h (by decide) (oneByte_packed (by simpa [Instr.wellFormed, byteFits] using fits)) fun _ => rfl
  | setStart => exact spells_manage h (by decide) (oneByte_packed (by simpa [Instr.wellFormed, byteFits] using fits)) fun _ => rfl
  | setStop => exact spells_manage h (by decide) (oneByte_packed (by simpa [Instr.wellFormed, byteFits] using fits)) fun _ => rfl
  | setClearFault => exact spells_manage h (by decide) (oneByte_packed (by simpa [Instr.wellFormed, byteFits] using fits)) fun _ => rfl
  | clearHire => exact spells_manage h (by decide) (oneByte_packed (by simpa [Instr.wellFormed, byteFits] using fits)) fun _ => rfl
  | cancelChangeover => exact spells_manage h (by decide) (oneByte_packed (by simpa [Instr.wellFormed, byteFits] using fits)) fun _ => rfl
  | cancelDelivery => exact spells_manage h (by decide) (oneByte_packed (by simpa [Instr.wellFormed, byteFits] using fits)) fun _ => rfl
  | releaseTickets => exact spells_manage h (by decide) (oneByte_packed (by simpa [Instr.wellFormed, byteFits] using fits)) fun _ => rfl
  | closeBill => exact spells_manage h (by decide) (oneByte_packed (by simpa [Instr.wellFormed, byteFits] using fits)) fun _ => rfl
  | loadUnit _ _ form =>
    obtain ⟨index, entry⟩ : byteFits _ = true ∧ LoadForm.fits _ form = true := by simpa [Instr.wellFormed] using fits
    refine spells_manage h (by decide) (loadForm_payload _ (by simpa [byteFits] using index) fun u eq => ⟨unitFields_unitBytes ?_, ?_⟩)
      fun _ => rfl
    · subst eq; exact entry
    · nofun
  | loadFeeder _ _ form =>
    obtain ⟨index, entry⟩ : byteFits _ = true ∧ LoadForm.fits _ form = true := by simpa [Instr.wellFormed] using fits
    refine spells_manage h (by decide) (loadForm_payload _ (by simpa [byteFits] using index) fun u eq => ⟨feederFields_feederBytes ?_, ?_⟩)
      fun _ => rfl
    · subst eq; exact entry
    · nofun
  | loadSet _ _ form =>
    obtain ⟨index, entry⟩ : byteFits _ = true ∧ LoadForm.fits _ form = true := by simpa [Instr.wellFormed] using fits
    refine spells_manage h (by decide) (loadForm_payload _ (by simpa [byteFits] using index) fun u eq => ⟨setFields_setBytes ?_, ?_⟩)
      fun _ => rfl
    · subst eq; exact entry
    · nofun
  | loadPoint _ _ form =>
    obtain ⟨index, entry⟩ : byteFits _ = true ∧ LoadForm.fits _ form = true := by simpa [Instr.wellFormed] using fits
    refine spells_manage h (by decide) (loadForm_payload _ (by simpa [byteFits] using index) fun u eq => ⟨pointFields_pointBytes ?_, ?_⟩)
      fun _ => rfl
    · subst eq; exact entry
    · nofun
  | loadAccount _ _ form =>
    obtain ⟨index, entry⟩ : byteFits _ = true ∧ LoadForm.fits _ form = true := by simpa [Instr.wellFormed] using fits
    refine spells_manage h (by decide) (loadForm_payload _ (by simpa [byteFits] using index) fun u eq => ⟨accountFields_accountBytes ?_, ?_⟩)
      fun _ => rfl
    · subst eq; exact entry
    · nofun
  | loadSite => exact spells_manage h (by decide) (siteRequest_siteBytes fits) fun _ => rfl
  | setClock =>
    simp only [Instr.wellFormed, wordFits, tripleFits, Bool.and_eq_true, decide_eq_true_eq] at fits
    exact spells_manage h (by decide) ((fixedForm_packed _ (by simp [fits])).trans (by simp)) fun _ => rfl
  | setCycle =>
    simp only [Instr.wellFormed, wordFits, decide_eq_true_eq] at fits
    exact spells_manage h (by decide) ((fixedForm_packed _ (by simp [fits])).trans (by simp)) fun _ => rfl
  | loadGate _ _ code =>
    have named := nameAt_nameCode code_listed (by decide) code
    have small := nameCode_lt code_listed (by decide) code
    exact spells_manage h (by decide) ((fixedForm_packed _ (by simp [nameCode_lt unitKind_listed, nameCode_lt permission_listed, small])).trans (by
      simp [unitKindOf, nameAt_nameCode unitKind_listed, permissionOf, nameAt_nameCode permission_listed, codeOf, named])) fun _ => rfl
  | readTable =>
    simp only [Instr.wellFormed, byteFits, decide_eq_true_eq] at fits
    exact spells_manage h (by decide) ((fixedForm_packed _ (by simp [fits, nameCode_lt tableName_listed])).trans (by simp [tableNameOf, nameAt_nameCode tableName_listed])) fun _ => rfl
  | changeover =>
    simp only [Instr.wellFormed, byteFits, decide_eq_true_eq] at fits
    exact spells_manage h (by decide) ((fixedForm_packed _ (by simp [fits, nameCode_lt side_listed])).trans (by simp [sideOf, nameAt_nameCode side_listed])) fun _ => rfl
  | loadSchedule =>
    simp only [Instr.wellFormed, wordFits, tripleFits, byteFits, Bool.and_eq_true, decide_eq_true_eq] at fits
    exact spells_manage h (by decide) ((fixedForm_packed _ (by simp [fits, nameCode_lt side_listed])).trans (by simp [sideOf, nameAt_nameCode side_listed])) fun _ => rfl
  | deleteSchedule =>
    simp only [Instr.wellFormed, wordFits, tripleFits, byteFits, Bool.and_eq_true, decide_eq_true_eq] at fits
    exact spells_manage h (by decide) ((fixedForm_packed _ (by simp [fits])).trans (by simp)) fun _ => rfl
  | readTariff =>
    simp only [Instr.wellFormed, byteFits, decide_eq_true_eq] at fits
    exact spells_manage h (by decide) ((fixedForm_packed _ (by simp [fits, nameCode_lt tariffName_listed])).trans (by simp [tariffNameOf, nameAt_nameCode tariffName_listed])) fun _ => rfl
  | releaseRecords =>
    simp only [Instr.wellFormed, wordFits, decide_eq_true_eq] at fits
    exact spells_manage h (by decide) ((fixedForm_packed _ (by simp [fits])).trans (by simp)) fun _ => rfl
  | tankSet _ _ level =>
    simp only [Instr.wellFormed, byteFits, Bool.and_eq_true, decide_eq_true_eq] at fits
    obtain ⟨read, word⟩ := tankLevelOf_tankNumber fits.2
    exact spells_manage h (by decide) ((fixedForm_packed _ (by simp [fits, word])).trans (by simp [read])) fun _ => rfl
  | trial _ on =>
    have read : oneByte (fun b => reqTrial (yesNo b)) (packed [1] [nameCode yesNoCode on]) = some (reqTrial on) := by
      rw [oneByte_packed (nameCode_lt yesNo_listed (by decide) on), yesNo, nameAt_nameCode yesNo_listed (by decide)]
    exact spells_manage h (by decide) read fun _ => rfl
  | loadTariffClass => exact spells_manage h (by decide) (tariffRequest_bytes fits) fun _ => rfl
  | clearFlagsFeederLimit =>
    exact spells_manage h (by decide) (clearRequest_feeders (by simpa [Instr.wellFormed] using fits)) fun _ => rfl
  | clearFlagsSetFlag =>
    exact spells_manage h (by decide) (clearRequest_sets (by simpa [Instr.wellFormed, byteFits] using fits)) fun _ => rfl
  | clearFlagsTankFlag =>
    exact spells_manage h (by decide) (clearRequest_tank (by simpa [Instr.wellFormed, byteFits] using fits) _) fun _ => rfl
  | clearFlagsPointFlag =>
    exact spells_manage h (by decide) (clearRequest_points (by simpa [Instr.wellFormed, wordFits] using fits)) fun _ => rfl
  | clearFlagsUnitCounts =>
    exact spells_manage h (by decide) (clearRequest_unit (by simpa [Instr.wellFormed, byteFits] using fits)) fun _ => rfl
  | alarmReset | lampTest | indicate | resetMax | identify | message =>
    exact spells_pass h (by simpa [Instr.wellFormed] using fits) rfl fun _ => rfl
  | unlistedOfficeFrame =>
    cases h
    exact fun _ => rfl
  | _ => cases h

/-- Settles O9: for each request its layout is read back, and for a pass-through its count and arguments. -/
theorem frameSpellsTheCommand : Obligations.FrameSpellsTheCommand := fun _ _ s fits frame => spells_of_frame fits frame s

end Sys2Proof.Spelling
end

section
/-! SUPPORT. The office receiver, byte by byte, and what it does with a whole frame (R179 to R181). -/

namespace Sys2Proof.Receiving

open Sys2Proof Sys2Proof.Machine Sys2Proof.Stated Sys2Proof.Spelling

/-- The bytes of a frame between the delimiter and its check. -/
def countedBytes (contents : List Byte) : List Byte := beBytes 2 contents.length ++ contents

/-- The contents of an office frame. -/
def contentsOf (f : OfficeFrame) : List Byte := f.destination :: f.tag :: f.kind :: f.payload

theorem officeFrameBytes_eq (f : OfficeFrame) : officeFrameBytes f =
    delimiter :: (countedBytes (contentsOf f) ++ beBytes 2 (frameCheck (countedBytes (contentsOf f)))) := rfl

theorem beBytes_two (n : Nat) : beBytes 2 n = [BitVec.ofNat 8 (n / 256), BitVec.ofNat 8 n] := by simp [beBytes]

section
variable {contents : List Byte} (low : 3 ≤ contents.length) (high : contents.length ≤ 1027)

theorem beNat_length (high : contents.length ≤ 1027) :
    beNat [BitVec.ofNat 8 (contents.length / 256), BitVec.ofNat 8 contents.length] = contents.length := by
  rw [← beBytes_two, beNat_beBytes (by omega)]

include low high

/-- Short of its last byte the receiver goes on with the frame (R180). -/
theorem receivePartial_short {bytes : List Byte} (some_ : bytes ≠ []) (tail : List Byte)
    (pre : bytes <+: countedBytes contents ++ tail) (short : bytes.length < contents.length + 4) :
    receivePartial bytes = .receiving (.partialFrame bytes) := by
  rw [countedBytes, beBytes_two] at pre
  match bytes, some_, pre, short with
  | [b], _, _, _ => rfl
  | hi :: lo :: rest, _, pre, short =>
    simp only [List.cons_append, List.nil_append, List.cons_prefix_cons] at pre
    obtain ⟨rfl, rfl, -⟩ := pre
    simp only [List.length_cons] at short
    rw [receivePartial, beNat_length high]
    rw [if_neg (by omega), if_pos (by omega)]

/-- With its last byte the frame is whole, or its check is bad (R179, R180). -/
theorem receivePartial_whole (a b : Byte) : receivePartial (countedBytes contents ++ [a, b]) =
    ((assembledFrame (countedBytes contents ++ [a, b])).elim .frameError .complete) := by
  have parts : countedBytes contents ++ [a, b] =
      BitVec.ofNat 8 (contents.length / 256) :: BitVec.ofNat 8 contents.length :: (contents ++ [a, b]) := by
    rw [countedBytes, beBytes_two]
    rfl
  rw [parts, receivePartial, beNat_length high]
  rw [if_neg (by omega), if_neg (by simp)]
  cases assembledFrame _ <;> rfl

end

/-- A frame with a good check is read as it was sent (R179). -/
theorem assembledFrame_good (f : OfficeFrame) : assembledFrame (countedBytes (contentsOf f) ++
    beBytes 2 (frameCheck (countedBytes (contentsOf f)))) = some f := by
  have length : (countedBytes (contentsOf f) ++ beBytes 2 (frameCheck (countedBytes (contentsOf f)))).length - 2 =
      (countedBytes (contentsOf f)).length := by simp
  rw [assembledFrame, length, List.take_left, List.drop_left, if_pos rfl, countedBytes, beBytes_two]
  rfl

/-- A frame with a bad check is none (R180). -/
theorem assembledFrame_bad {counted : List Byte} {a b : Byte} (h : beBytes 2 (frameCheck counted) ≠ [a, b]) :
    assembledFrame (counted ++ [a, b]) = none := by
  have length : (counted ++ [a, b]).length - 2 = counted.length := by simp
  rw [assembledFrame, length, List.take_left, List.drop_left, if_neg (Ne.symm h)]

/-! ### A run of bytes (R180) -/

/-- The state with part of a frame received. -/
def heard (s : State) (bytes : List Byte) : State := { s with port := { s.port with rx := .partialFrame bytes } }

theorem orxByte_delimiter {s : State} (h : s.port.rx = .hunting) : s.orxByte (.byte delimiter) = heard s [] := by
  simp [State.orxByte, receive, h, heard]

theorem orxByte_heard (s : State) (bytes : List Byte) (b : Byte)
    (h : receivePartial (bytes ++ [b]) = .receiving (.partialFrame (bytes ++ [b]))) :
    (heard s bytes).orxByte (.byte b) = heard s (bytes ++ [b]) := by
  simp [State.orxByte, receive, h, heard]

/-- Bytes short of a whole frame add up. -/
theorem forEach_heard (s : State) (bytes more : List Byte)
    (h : ∀ k, k < more.length → receivePartial (bytes ++ more.take (k + 1)) =
      .receiving (.partialFrame (bytes ++ more.take (k + 1)))) :
    forEach (more.map OrxByte.byte) (fun x s => s.orxByte x) (heard s bytes) = heard s (bytes ++ more) := by
  induction more generalizing bytes with
  | nil => rw [List.append_nil]; rfl
  | cons b more ih =>
    have first := orxByte_heard s bytes b (by simpa using h 0 (by simp))
    have rest := ih (bytes ++ [b]) fun k hk => by
      simpa [List.append_assoc] using h (k + 1) (by simpa using hk)
    rw [List.map_cons, forEach_cons, first, rest, List.append_assoc, List.singleton_append]

theorem sampleTen_same (s : State) : s.sampleTen s.ten = s := by
  unfold State.sampleTen
  cases level : s.ten
  · rfl
  · rw [if_pos rfl, ← level]

theorem startTx_startTx (s : State) : s.startTx.startTx = s.startTx := by
  have port : s.port.startTx.startTx = s.port.startTx := by
    cases tx : s.port.tx with
    | some x => simp [Port.startTx, tx]
    | none =>
      cases next : s.port.nextFrame with
      | some x => simp [Port.startTx, tx, next]
      | none =>
        have idle : s.port.startTx = s.port := by
          simp only [Port.startTx, tx, next]
          rw [← tx]
        rw [idle, idle]
  rw [State.startTx, State.startTx, port]

/-- A whole frame's bytes, received between frames, all but the last of which add up. -/
theorem officeBytes_frame {s : State} (h : s.port.rx = .hunting) {contents : List Byte} (low : 3 ≤ contents.length)
    (high : contents.length ≤ 1027) (a b : Byte) :
    s.officeBytes s.ten ((delimiter :: (countedBytes contents ++ [a, b])).map .byte) =
      ((heard s (countedBytes contents ++ [a])).orxByte (.byte b)).startTx := by
  have partly := forEach_heard s [] (countedBytes contents ++ [a]) fun k hk => by
    have length : (countedBytes contents).length = contents.length + 2 := by simp [countedBytes]; omega
    rw [List.nil_append]
    refine receivePartial_short low high ?_ [a] (List.take_prefix _ _) ?_
    · simp [countedBytes, beBytes_two]
    · rw [List.length_take]
      rw [List.length_append, List.length_singleton] at hk ⊢
      omega
  have split : countedBytes contents ++ [a, b] = (countedBytes contents ++ [a]) ++ [b] := by simp
  rw [State.officeBytes, sampleTen_same, List.map_cons, forEach_cons, orxByte_delimiter h, split, List.map_append,
    forEach_append, partly, List.nil_append]
  rfl

theorem orxByte_last {s : State} {contents : List Byte} (low : 3 ≤ contents.length) (high : contents.length ≤ 1027) (a b : Byte) :
    (heard s (countedBytes contents ++ [a])).orxByte (.byte b) =
      (assembledFrame (countedBytes contents ++ [a, b])).elim (heard s (countedBytes contents ++ [a])).frameError
        fun f => ((heard s (countedBytes contents ++ [a])).offerFrame f).startTx := by
  have whole := receivePartial_whole low high a b
  have split : countedBytes contents ++ [a, b] = (countedBytes contents ++ [a]) ++ [b] := by simp
  rw [split] at whole ⊢
  have step : receive (heard s (countedBytes contents ++ [a])).port.rx (.byte b) = _ := whole
  rw [State.orxByte, step]
  cases assembledFrame _ <;> rfl

/-! ### What the Port does with a frame (R181, R182) -/

section
variable {s : State} (hunting : s.port.rx = .hunting)
include hunting

theorem frameError_heard (bytes : List Byte) : (heard s bytes).frameError =
    { s with port := { s.port with frameErrors := min 65535 (s.port.frameErrors + 1) } } := by
  unfold State.frameError
  rw [← hunting]
  rfl

theorem between_frames (bytes : List Byte) :
    ({ heard s bytes with port := { (heard s bytes).port with rx := .hunting } } : State) = s := by
  rw [← hunting]
  rfl

/-- A frame that finds no room is discarded and counted (R181). -/
theorem offerFrame_full (full : 4 ≤ s.port.rxQueue.length) (bytes : List Byte) (f : OfficeFrame) :
    (heard s bytes).offerFrame f = { s with port := { s.port with rxOverflows := min 65535 (s.port.rxOverflows + 1) } } := by
  unfold State.offerFrame
  rw [between_frames hunting]
  dsimp only
  rw [if_neg (Nat.not_lt.mpr full)]
  rfl

theorem offerFrame_room (room : s.port.rxQueue.length < 4) (bytes : List Byte) (f : OfficeFrame) :
    (heard s bytes).offerFrame f = ({ s with port := { s.port with rxQueue := s.port.rxQueue ++ [f] } } : State).takeFrame := by
  unfold State.offerFrame
  rw [between_frames hunting]
  dsimp only
  rw [if_pos room]

end

/-- A frame that finds a response in its slot waits (R181). -/
theorem takeFrame_waits {s : State} (h : s.port.response ≠ none) : s.takeFrame = s := by
  unfold State.takeFrame
  cases response : s.port.response with
  | none => exact absurd response h
  | some x => rfl

/-- A frame that finds the Port calm is taken at once (R182). -/
theorem takeFrame_calm {s : State} (response : s.port.response = none) (queue : s.port.rxQueue = []) (f : OfficeFrame) :
    ({ s with port := { s.port with rxQueue := s.port.rxQueue ++ [f] } } : State).takeFrame =
      State.respond f.destination f.tag f.kind (handleFrame f s) := by
  have taken : ({ s with port := { s.port with rxQueue := [] } } : State) = s := by rw [← queue]
  have step : ({ s with port := { s.port with rxQueue := s.port.rxQueue ++ [f] } } : State).takeFrame =
      State.respond f.destination f.tag f.kind (handleFrame f { s with port := { s.port with rxQueue := [] } }) := by
    unfold State.takeFrame
    rw [queue]
    dsimp only
    rw [response]
    rfl
  rw [step, taken]

theorem contents_fit {f : OfficeFrame} (h : f.payload.length ≤ 1024) :
    3 ≤ (contentsOf f).length ∧ (contentsOf f).length ≤ 1027 := by
  simp [contentsOf]; omega

theorem exec_officeBytes {s : State} (settled : s.due = []) (ten : Bool) (orx : List OrxByte) :
    exec (.officeFrameReceived ten orx) s = .next (s.officeBytes ten orx) := by
  show Host.Outcome.next (s.settle.officeBytes ten orx) = _
  rw [State.settle_nil settled]

/-- The bytes of a frame, received between frames, offer it to the Port (R179, R180). -/
theorem exec_frame {f : OfficeFrame} {s : State} (fits : f.payload.length ≤ 1024) (settled : s.due = [])
    (hunting : s.port.rx = .hunting) : ∃ bytes, exec (.officeFrameReceived s.ten ((officeFrameBytes f).map .byte)) s =
      .next ((heard s bytes).offerFrame f).startTx := by
  obtain ⟨low, high⟩ := contents_fit fits
  rw [officeFrameBytes_eq, exec_officeBytes settled]
  have good := assembledFrame_good f
  rw [beBytes_two] at good ⊢
  rw [officeBytes_frame hunting low high, orxByte_last low high, good, Option.elim_some, startTx_startTx]
  exact ⟨_, rfl⟩

/-- Settles O10: the frame that is taken, that waits and that overflows, and the frame errors. -/
theorem frameBytesAreTaken : Obligations.FrameBytesAreTaken := by
  refine ⟨fun f s fits calm hunting => ?_, fun f s fits settled hunting => ⟨fun busy room => ?_, fun full => ?_,
    fun hi lo bad => ?_⟩, fun hi lo s settled hunting bad => ?_, fun bytes s settled partly => ?_,
    fun b s settled hunting other => ?_⟩
  · obtain ⟨response, queue, settled⟩ := calm
    obtain ⟨bytes, run⟩ := exec_frame fits settled hunting
    rw [run, offerFrame_room hunting (by simp [queue]), takeFrame_calm response queue]
  · obtain ⟨bytes, run⟩ := exec_frame fits settled hunting
    rw [run, offerFrame_room hunting room, takeFrame_waits]
    exact busy
  · obtain ⟨bytes, run⟩ := exec_frame fits settled hunting
    rw [run, offerFrame_full hunting full]
  · obtain ⟨low, high⟩ := contents_fit fits
    have length : (officeFrameBytes f).length - 2 = (delimiter :: countedBytes (contentsOf f)).length := by
      simp [officeFrameBytes_eq]
    have front : officeFrameBytes f = (delimiter :: countedBytes (contentsOf f)) ++
      beBytes 2 (frameCheck (countedBytes (contentsOf f))) := officeFrameBytes_eq f
    rw [length, front, List.drop_left] at bad
    rw [length, front, List.take_left, List.cons_append, exec_officeBytes settled, officeBytes_frame hunting low high,
      orxByte_last low high, assembledFrame_bad bad, Option.elim_none, frameError_heard hunting]
  · rw [exec_officeBytes settled]
    have wrong : receivePartial [hi, lo] = .frameError := by
      have length : beNat [hi, lo] = hi.toNat * 256 + lo.toNat := by simp [beNat]
      rw [receivePartial, length, if_pos bad]
    have last : (heard s [hi]).orxByte (.byte lo) = (heard s [hi]).frameError := by
      have step : receive (heard s [hi]).port.rx (.byte lo) = .frameError := wrong
      rw [State.orxByte, step]
    have first : (heard s []).orxByte (.byte hi) = heard s [hi] := orxByte_heard s [] hi rfl
    have run : s.officeBytes s.ten ([0xC3, hi, lo].map .byte) =
        (((s.orxByte (.byte delimiter)).orxByte (.byte hi)).orxByte (.byte lo)).startTx := by
      rw [State.officeBytes, sampleTen_same]
      rfl
    rw [run, orxByte_delimiter hunting, first, last, frameError_heard hunting]
  · rw [exec_officeBytes settled, State.officeBytes, sampleTen_same, forEach_cons, forEach_nil, State.orxByte, partly]
    rfl
  · have kept : s.orxByte (.byte b) = s := by
      have step : receive s.port.rx (.byte b) = .receiving .hunting := by
        rw [hunting]
        exact if_neg other
      rw [State.orxByte, step]
      dsimp only
      rw [← hunting]
    rw [exec_officeBytes settled, State.officeBytes, sampleTen_same, forEach_cons, forEach_nil, kept]

end Sys2Proof.Receiving
end

section
/-! SUPPORT. The command gate, and the frames that no layout fits (R182, R188, R189). -/

namespace Sys2Proof.Gate

open Sys2Proof Sys2Proof.Machine Sys2Proof.Stated Sys2Proof.Spelling

/-! ### Payloads whose length no layout has (10.8) -/

theorem noFields_none {r : Request} {payload : List Byte} (h : payload.length ∉ [0]) : noFields r payload = none := by
  cases payload with
  | nil => simp at h
  | cons b rest => rfl

theorem oneByte_none {r : Nat → Request} {payload : List Byte} (h : payload.length ∉ [1]) : oneByte r payload = none := by
  match payload, h with
  | [], _ => rfl
  | [_], h => simp at h
  | _ :: _ :: _, _ => rfl

theorem fieldsOf_length {ws : List Nat} {payload : List Byte} (h : payload.length ≠ ws.sum) : fieldsOf ws payload = none := by
  induction ws generalizing payload with
  | nil =>
    cases payload with
    | nil => simp at h
    | cons b rest => rfl
  | cons w ws ih =>
    rw [fieldsOf]
    split
    · rfl
    · rw [ih (by rw [List.length_drop]; rw [List.sum_cons] at h; omega)]
      rfl

theorem fixedForm_none {ws : List Nat} {r : List Nat → Option Request} {n : Nat} (sum : ws.sum = n) {payload : List Byte}
    (h : payload.length ∉ [n]) : fixedForm ws r payload = none := by
  rw [fixedForm, fieldsOf_length (by rw [sum]; simpa using h), Option.bind_none]

theorem loadForm_none {α : Type} {r : Nat → LoadForm α → Request} {fields : List Byte → Option α} {n : Nat}
    (read : ∀ rest : List Byte, rest.length ≠ n → fields rest = none) {payload : List Byte}
    (h : payload.length ∉ [1, n + 1]) : loadForm r fields payload = none := by
  cases payload with
  | nil => rfl
  | cons index rest =>
    simp only [List.length_cons, List.mem_cons, List.not_mem_nil, or_false, not_or] at h
    have filled : rest.isEmpty = false := by
      cases rest with
      | nil => simp at h
      | cons b rest => rfl
    rw [loadForm, filled, read rest (by omega)]
    rfl

theorem unitFields_none (rest : List Byte) (h : rest.length ≠ 5) : unitFields rest = none := by
  rw [unitFields, fieldsOf_length h]
  rfl

theorem feederFields_none (rest : List Byte) (h : rest.length ≠ 9) : feederFields rest = none := by
  rw [feederFields, fieldsOf_length h]
  rfl

theorem setFields_none (rest : List Byte) (h : rest.length ≠ 31) : setFields rest = none := by
  rw [setFields, fieldsOf_length h]
  rfl

theorem accountFields_none (rest : List Byte) (h : rest.length ≠ 4) : accountFields rest = none := by
  rw [accountFields, fieldsOf_length h]
  rfl

theorem siteRequest_none {payload : List Byte} (h : payload.length ∉ [8]) : siteRequest payload = none := by
  rw [siteRequest, fieldsOf_length (by simpa using h)]
  rfl

/-- A payload whose length its request's layout does not have is not read. -/
theorem requestOf_length : ∀ x ∈ layoutLengths, ∀ payload : List Byte, payload.length ∉ x.2 → requestOf x.1 payload = none := by
  simp only [layoutLengths, List.cons_append, List.nil_append, List.forall_mem_cons, List.not_mem_nil, false_imp_iff, implies_true,
    and_true]
  exact ⟨fun _ => noFields_none, fun _ => fixedForm_none (ws := [2, 3, 2]) rfl,
    fun _ => fixedForm_none (ws := [2]) rfl, fun _ => noFields_none, fun _ => noFields_none, fun _ => noFields_none,
    fun _ => noFields_none, fun _ => noFields_none, fun _ => loadForm_none unitFields_none,
    fun _ => loadForm_none feederFields_none, fun _ => loadForm_none setFields_none,
    fun _ => loadForm_none accountFields_none, fun _ => siteRequest_none,
    fun _ => fixedForm_none (ws := [1, 1, 1]) rfl, fun _ => fixedForm_none (ws := [1, 1]) rfl, fun _ => oneByte_none,
    fun _ => oneByte_none, fun _ => oneByte_none, fun _ => oneByte_none, fun _ => oneByte_none, fun _ => oneByte_none,
    fun _ => oneByte_none, fun _ => oneByte_none, fun _ => oneByte_none, fun _ => fixedForm_none (ws := [1, 1]) rfl,
    fun _ => oneByte_none, fun _ => fixedForm_none (ws := [2, 3, 1, 1]) rfl,
    fun _ => fixedForm_none (ws := [1, 2, 3]) rfl, fun _ => noFields_none, fun _ => fixedForm_none (ws := [1, 2]) rfl,
    fun _ => oneByte_none, fun _ => noFields_none, fun _ => oneByte_none, fun _ => noFields_none,
    fun _ => noFields_none, fun _ => oneByte_none (r := fun b => reqTrial (yesNo b)),
    fun _ => fixedForm_none (ws := [1, 1]) rfl, fun _ => noFields_none, fun _ => fixedForm_none (ws := [2]) rfl,
    fun _ => oneByte_none⟩

theorem requestOf_unlisted {kind : Byte} (h : kind = 0 ∨ 43 < kind.toNat) (payload : List Byte) :
    requestOf kind.toNat payload = none := by
  rcases h with rfl | h
  · rfl
  · obtain ⟨k, eq⟩ := Nat.exists_eq_add_of_lt h
    rw [eq, show 43 + k + 1 = k + 44 by omega]
    rfl

/-! ### The checks of the gate (R188, R189) -/

theorem ownerIdle_iff {s : State} {e : UnitEntry} : s.ownerIdle e = true ↔ OwnerIdle s e := by
  have idle (r : RunState) : r.idle = true ↔ r = .stopped ∨ r = .online ∨ r = .offline := by cases r <;> simp [RunState.idle]
  unfold State.ownerIdle OwnerIdle
  cases e.kind <;> simp [Option.all_eq_true, numbered_eq_some, idle]

/-- The gate table bars a code for a unit. -/
def Barred (s : State) (e : UnitEntry) (code : Code) : Prop :=
  s.port.gate.get code = some .refuse ∨ (s.port.gate.get code = some .passIfIdle ∧ ¬ OwnerIdle s e)

section
variable {s : State} {a : Addr} {e : UnitEntry} {code : Code}

theorem gateRefusal_absent (h : ∀ e, s.unitEntry a = some e → e.enabled = false) (code : Option Code) :
    s.gateRefusal a code = some .badIndex := by
  have absent : (s.unitEntry a).filter UnitEntry.enabled = none := by
    rw [Option.filter_eq_none_iff]
    exact fun e entry => by simp [h e entry]
  unfold State.gateRefusal
  rw [absent]

variable (entry : s.unitEntry a = some e) (enabled : e.enabled = true)
include entry enabled

theorem filter_enabled : (s.unitEntry a).filter UnitEntry.enabled = some e := by
  rw [entry]
  exact if_pos enabled

theorem gateRefusal_unnamed : s.gateRefusal a none = some .badValue := by
  unfold State.gateRefusal
  rw [filter_enabled entry enabled]

theorem gateRefusal_named (code : Code) : s.gateRefusal a (some code) =
    if codeOwned code then some .ownedCommand
    else if codeKind code ≠ e.kind then some .badValue
    else if s.permitted e code then none
    else some .interlock := by
  unfold State.gateRefusal
  rw [filter_enabled entry enabled]

/-- A plain code of the unit's kind is barred by the gate table, or passes. -/
theorem gateRefusal_plain (plain : codeOwned code = false) (kind : codeKind code = e.kind) :
    (Barred s e code → s.gateRefusal a (some code) = some .interlock) ∧
      (¬ Barred s e code → s.gateRefusal a (some code) = none) := by
  have listed : ∃ p, s.port.gate.get code = some p := by
    cases code <;> simp [codeOwned] at plain <;> exact ⟨_, rfl⟩
  have permitted : s.permitted e code = true ↔ ¬ Barred s e code := by
    obtain ⟨p, get⟩ := listed
    unfold State.permitted Barred
    rw [get]
    cases p <;> simp [ownerIdle_iff]
  have checked : s.gateRefusal a (some code) = if s.permitted e code then none else some .interlock := by
    rw [gateRefusal_named entry enabled, plain, if_neg Bool.false_ne_true, if_neg (not_not.mpr kind)]
  rw [checked]
  exact ⟨fun barred => if_neg fun passed => permitted.mp passed barred, fun open_ => if_pos (permitted.mpr open_)⟩

end

/-! ### What a pass-through command is answered (R188) -/

section
variable {s : State} {a : Addr} {tag : Byte} {args : List Byte} {code : Option Code} {refusal : ResultCode}

theorem reqPassThrough_refused (short : args.length ≤ 8) (h : s.gateRefusal a code = some refusal) :
    reqPassThrough a tag code args s = (s, .refuse refusal) := by
  unfold reqPassThrough
  rw [if_neg (Nat.not_lt.mpr short), h]

theorem enqueue_office {c : Command} {o : Byte} (office : c.origin = .office o) :
    (OfficeRoom s → s.enqueue c = some { s with engine := { s.engine with queue := s.engine.queue ++ [c] } }) ∧
      (¬ OfficeRoom s → s.enqueue c = none) := by
  have room : (decide (s.engine.queue.length < 24) && if c.isOffice then s.officeRoom else !s.engine.holdsFor c.origin) = true ↔
      OfficeRoom s := by
    have isOffice : c.isOffice = true := by rw [Command.isOffice, office]
    rw [isOffice, if_pos rfl, State.officeRoom, OfficeRoom, Bool.and_eq_true, Bool.and_eq_true, decide_eq_true_iff,
      decide_eq_true_iff, decide_eq_true_iff]
    exact Iff.rfl
  unfold State.enqueue
  dsimp only
  exact ⟨fun free => if_pos (room.mpr free), fun full => if_neg fun passed => full (room.mp passed)⟩

theorem reqPassThrough_passed {code : Code} (short : args.length ≤ 8) (h : s.gateRefusal a (some code) = none) :
    (OfficeRoom s → reqPassThrough a tag (some code) args s =
      ({ s with engine := { s.engine with queue := s.engine.queue ++ [⟨a, code, args, .office tag⟩] } }, ⟨.queued, .none⟩)) ∧
    (¬ OfficeRoom s → reqPassThrough a tag (some code) args s = (s, .refuse .queueFull)) := by
  obtain ⟨room, full⟩ := enqueue_office (s := s) (c := ⟨a, code, args, .office tag⟩) rfl
  unfold reqPassThrough
  rw [if_neg (Nat.not_lt.mpr short), h]
  dsimp only
  exact ⟨fun free => by rw [room free], fun none => by rw [full none]⟩

end

/-- A pass-through command taken while the Port is calm ends as its request answers. -/
theorem exec_pass_calm {make : Byte → Addr → List Byte → Instr} {code : Code} {number : Nat}
    (member : (make, code, number) ∈ plainCommands) {s t : State} (calm : Calm s) {tag : Byte} {a : Addr} {args : List Byte}
    {result : ResultCode} (request : reqPassThrough a tag (some code) args s = (t, ⟨result, .none⟩)) :
    exec (make tag a args) s = .next (passed t a tag number result) := by
  have arm : exec (make tag a args) s = passOn tag a code args s ∧ codeNumber code = number := by
    simp only [plainCommands, List.mem_cons, List.not_mem_nil, or_false, Prod.mk.injEq] at member
    rcases member with ⟨rfl, rfl, rfl⟩ | ⟨rfl, rfl, rfl⟩ | ⟨rfl, rfl, rfl⟩ | ⟨rfl, rfl, rfl⟩ | ⟨rfl, rfl, rfl⟩ | ⟨rfl, rfl, rfl⟩ <;>
    exact ⟨rfl, rfl⟩
  obtain ⟨response, queue, due⟩ := calm
  rw [arm.1, passOn, State.serve_calm response queue due, request, arm.2]
  rfl

theorem plain_of_mem {make : Byte → Addr → List Byte → Instr} {code : Code} {number : Nat}
    (member : (make, code, number) ∈ plainCommands) : codeOwned code = false := by
  simp only [plainCommands, List.mem_cons, List.not_mem_nil, or_false, Prod.mk.injEq] at member
  rcases member with ⟨-, rfl, -⟩ | ⟨-, rfl, -⟩ | ⟨-, rfl, -⟩ | ⟨-, rfl, -⟩ | ⟨-, rfl, -⟩ | ⟨-, rfl, -⟩ <;> rfl

/-- A frame of no row, taken while the Port is calm, ends as it is handled. -/
theorem exec_unlisted {s : State} (calm : Calm s) {destination tag kind : Byte} {payload : List Byte} {code : ResultCode}
    (handled : handleFrame ⟨destination, tag, kind, payload⟩ s = (s, .refuse code)) :
    exec (.unlistedOfficeFrame destination tag kind payload) s = .next
      { s with port := { s.port with
          response := some ⟨destination, tag, kind, ⟨code, .none⟩⟩
          tx := s.port.tx.or (some .response) } } := by
  obtain ⟨response, queue, due⟩ := calm
  show Host.Outcome.next (s.serve destination tag kind _) = _
  rw [State.serve_calm response queue due, handled]
  rfl

/-! ### Frames that the gate or a layout turns away (R182, R188) -/

theorem codeOfKind_none {kind : Nat} (h : kind < 64 ∨ 77 < kind) : codeOfKind kind = none := by
  rw [codeOfKind]
  split
  · have listed : allCodes.length = 14 := rfl
    exact List.getElem?_eq_none (by omega)
  · rfl

theorem codeOfKind_owned {kind : Nat} (h : kind ∈ [64, 65, 68, 69, 70, 74, 75, 76]) :
    ∃ code, codeOfKind kind = some code ∧ codeOwned code = true := by
  simp only [List.mem_cons, List.not_mem_nil, or_false] at h
  rcases h with rfl | rfl | rfl | rfl | rfl | rfl | rfl | rfl <;> exact ⟨_, rfl, rfl⟩

section
variable {s : State} {destination tag kind : Byte} {payload : List Byte}

theorem handleFrame_unread (h : requestOf kind.toNat payload = none) :
    handleFrame ⟨0, tag, kind, payload⟩ s = (s, .refuse .badRequest) := by
  simp [handleFrame, h]

variable (away : destination ≠ 0)
include away

theorem handleFrame_beyond (h : 63 < destination.toNat) :
    handleFrame ⟨destination, tag, kind, payload⟩ s = (s, .refuse .badIndex) := by
  unfold handleFrame
  dsimp only
  rw [if_neg away, numbered_none (.inr h)]

theorem handleFrame_uncounted (within : destination.toNat ≤ 63) (h : passArgs payload = none) :
    handleFrame ⟨destination, tag, kind, payload⟩ s = (s, .refuse .badRequest) := by
  have positive : destination.toNat ≠ 0 := fun zero => away (BitVec.eq_of_toNat_eq zero)
  obtain ⟨a, named⟩ : ∃ a, numbered 63 destination.toNat = some a :=
    ⟨⟨destination.toNat - 1, by omega⟩, numbered_eq_some.mpr (by simp; omega)⟩
  unfold handleFrame
  dsimp only
  rw [if_neg away, named]
  dsimp only
  rw [h]

theorem handleFrame_counted {a : Addr} {args : List Byte} (named : destination.toNat = a.val + 1) (h : passArgs payload = some args) :
    handleFrame ⟨destination, tag, kind, payload⟩ s = reqPassThrough a tag (codeOfKind kind.toNat) args s := by
  unfold handleFrame
  dsimp only
  rw [if_neg away, numbered_eq_some.mpr named]
  dsimp only
  rw [h]

end

theorem passArgs_counted {payload : List Byte} :
    (∃ n args, payload = n :: args ∧ n.toNat ≤ 8 ∧ args.length = n.toNat) ↔
      ∃ args, passArgs payload = some args ∧ args.length ≤ 8 := by
  cases payload with
  | nil => simp [passArgs]
  | cons n args =>
    simp only [passArgs, List.cons.injEq]
    constructor
    · rintro ⟨_, _, ⟨rfl, rfl⟩, few, length⟩
      exact ⟨args, if_pos ⟨few, length⟩, by omega⟩
    · rintro ⟨kept, read, -⟩
      split at read
      · next h => exact ⟨n, args, ⟨rfl, rfl⟩, h⟩
      · cases read

theorem passArgs_uncounted {payload : List Byte}
    (h : ¬ ∃ n args, payload = n :: args ∧ n.toNat ≤ 8 ∧ args.length = n.toNat) : passArgs payload = none := by
  cases payload with
  | nil => rfl
  | cons n args => exact if_neg fun fits => h ⟨n, args, rfl, fits⟩

/-- Settles O60: the checks of the gate in their order, and the frames that no row lists. -/
theorem passThroughAndUnlisted : Obligations.PassThroughAndUnlisted := by
  refine ⟨fun make code number member tag a args s calm short => ⟨fun absent => ?_, fun e entry enabled => ?_⟩,
    fun destination tag kind payload s calm => ?_⟩
  · exact exec_pass_calm member calm (reqPassThrough_refused short (gateRefusal_absent absent _))
  · have plain := plain_of_mem member
    refine ⟨fun kind => ?_, fun kind barred => ?_, fun kind free full => ?_, fun kind free room => ?_⟩
    · refine exec_pass_calm member calm (reqPassThrough_refused short ?_)
      rw [gateRefusal_named entry enabled, plain, if_neg Bool.false_ne_true, if_pos kind]
    · exact exec_pass_calm member calm (reqPassThrough_refused short ((gateRefusal_plain entry enabled plain kind).1 barred))
    · exact exec_pass_calm member calm
        ((reqPassThrough_passed short ((gateRefusal_plain entry enabled plain kind).2 free)).2 full)
    · exact exec_pass_calm member calm
        ((reqPassThrough_passed short ((gateRefusal_plain entry enabled plain kind).2 free)).1 room)
  · dsimp only
    refine ⟨fun zero unlisted => ?_, fun lengths zero member other => ?_, fun zero unread => ?_, fun beyond => ?_,
      fun away within uncounted => ?_, fun a named counted => ⟨fun absent => ?_, fun e entry enabled => ⟨fun unnamed => ?_,
        fun owned => ?_⟩⟩⟩
    · subst zero
      exact exec_unlisted calm (handleFrame_unread (requestOf_unlisted unlisted payload))
    · subst zero
      exact exec_unlisted calm (handleFrame_unread (requestOf_length _ member payload other))
    · subst zero
      exact exec_unlisted calm (handleFrame_unread unread)
    · exact exec_unlisted calm (handleFrame_beyond (by rintro rfl; simp at beyond) beyond)
    · exact exec_unlisted calm (handleFrame_uncounted away within (passArgs_uncounted uncounted))
    all_goals
      have away : destination ≠ 0 := by rintro rfl; simp at named
      obtain ⟨args, read, short⟩ := passArgs_counted.mp counted
      refine exec_unlisted calm ((handleFrame_counted away named read).trans (reqPassThrough_refused short ?_))
    · exact gateRefusal_absent absent _
    · rw [codeOfKind_none unnamed]
      exact gateRefusal_unnamed entry enabled
    · obtain ⟨code, known, reserved⟩ := codeOfKind_owned owned
      rw [known, gateRefusal_named entry enabled, if_pos reserved]

end Sys2Proof.Gate
end

section
/-! SUPPORT. LINE RESET, block by block (R17, R41, R58, R72, R98, R122, R146, R178, R195). -/

namespace Sys2Proof.LineResetting

open Sys2Proof Sys2Proof.Machine Sys2Proof.Stated Sys2Proof.Walks

/-! ### What each walk of the reset leaves -/

/-- The links after a line reset. -/
@[irreducible] def linksAfter (t : Tables) (v : Vector LinkRec 63) : Vector LinkRec 63 :=
  Vector.ofFn fun a => v[a].lineReset (t.units[a].any UnitEntry.enabled)

theorem resetLinks_eq (s : State) : s.resetLinks =
    { s with engine := { s.engine with links := linksAfter s.tables s.engine.links } } := by
  rw [linksAfter]
  exact forEach_put_all (fun v => { s with engine := { s.engine with links := v } })
    (fun a l => l.lineReset (s.enabledUnit a)) (fun _ _ => rfl) s.engine.links

/-- The sets after a line reset. -/
@[irreducible] def setsAfter (t : Tables) (v : Vector SetRec 8) : Vector SetRec 8 :=
  Vector.ofFn fun n => v[n].lineReset (t.sets[n].any SetEntry.enabled)

theorem resetSets_eq (s : State) : s.resetSets = { s with sets := setsAfter s.tables s.sets } := by
  rw [setsAfter]
  exact forEach_put_all (fun v => { s with sets := v }) (fun n r => r.lineReset (s.setEnabled n)) (fun _ _ => rfl) s.sets

/-- The points after a line reset. -/
@[irreducible] def pointsAfter (v : Vector PointRec 12) : Vector PointRec 12 :=
  Vector.ofFn fun p => { PointRec.reset with autoBlocked := v[p].autoBlocked }

theorem resetPoints_eq (s : State) : s.resetPoints = { s with points := pointsAfter s.points } := by
  rw [pointsAfter]
  exact forEach_put_all (fun v => { s with points := v }) (fun _ r => { PointRec.reset with autoBlocked := r.autoBlocked })
    (fun _ _ => rfl) s.points

/-- The accounts after a line reset: every open interval is marked GAP. -/
@[irreducible] def accountsAfter (opened : AccountNo → Bool) (v : Vector AccountRec 48) : Vector AccountRec 48 :=
  Vector.ofFn fun k => if opened k then { v[k] with marks := { v[k].marks with gap := true } } else v[k]

theorem markGap_eq (s : State) : s.markGap =
    { s with billing := { s.billing with accounts := accountsAfter s.intervalOpen s.billing.accounts } } := by
  rw [State.markGap, markAll_eq, accountsAfter]
  rfl

/-! ### What the sessions owe the delivered totals (R122) -/

/-- The live totals of the sessions on a set that are past GRANTING, of meters in order. -/
def owed (meters : Vector MeterRec 2) (ms : List MeterNo) (n : SetNo) : List Nat :=
  ms.filterMap fun m => meters[m].session.bind fun x => if x.phase ≠ .granting ∧ x.set = n then some x.live else none

/-- A delivered total with what is owed added. -/
def paid (total : Nat) (xs : List Nat) : Nat := xs.foldl (satAdd max64) total

/-- The tanks with what the sessions owe added. -/
@[irreducible] def tanksPaid (meters : Vector MeterRec 2) (ms : List MeterNo) (v : Vector Tank 8) : Vector Tank 8 :=
  Vector.ofFn fun n => { v[n] with delivered := paid v[n].delivered (owed meters ms n) }

/-- The sets with what the sessions owe added to their hire statements. -/
@[irreducible] def setsPaid (meters : Vector MeterRec 2) (ms : List MeterNo) (v : Vector SetRec 8) : Vector SetRec 8 :=
  Vector.ofFn fun n => { v[n] with hire := { v[n].hire with delivered := paid v[n].hire.delivered (owed meters ms n) } }

/-- The state with the tanks and the sets given. -/
def withTanks (s : State) (v : Vector Tank 8) (w : Vector SetRec 8) : State := { s with tanks := v, sets := w }

theorem tanksPaid_get (meters : Vector MeterRec 2) (ms : List MeterNo) (v : Vector Tank 8) (n : SetNo) :
    (tanksPaid meters ms v)[n] = { v[n] with delivered := paid v[n].delivered (owed meters ms n) } := by
  rw [tanksPaid]
  exact Vector.getElem_ofFn _

theorem setsPaid_get (meters : Vector MeterRec 2) (ms : List MeterNo) (v : Vector SetRec 8) (n : SetNo) :
    (setsPaid meters ms v)[n] =
      { v[n] with hire := { v[n].hire with delivered := paid v[n].hire.delivered (owed meters ms n) } } := by
  rw [setsPaid]
  exact Vector.getElem_ofFn _

theorem vector_ext {α : Type} {n : Nat} {v w : Vector α n} (h : ∀ i : Fin n, v[i] = w[i]) : v = w :=
  Vector.ext fun i hi => h ⟨i, hi⟩

theorem get_set {α : Type} {n : Nat} (v : Vector α n) (i j : Fin n) (x : α) :
    (v.set i x)[j] = if i = j then x else v[j] := by
  rw [Fin.getElem_fin, Vector.getElem_set]
  simp only [Fin.ext_iff, Fin.getElem_fin]

theorem settleSession_withTanks (s : State) (v : Vector Tank 8) (w : Vector SetRec 8) (m : MeterNo) :
    (withTanks s v w).settleSession m = withTanks s (tanksPaid s.meters [m] v) (setsPaid s.meters [m] w) := by
  have unowed (h : ∀ n, owed s.meters [m] n = []) :
      tanksPaid s.meters [m] v = v ∧ setsPaid s.meters [m] w = w :=
    ⟨vector_ext fun n => by rw [tanksPaid_get, h]; rfl, vector_ext fun n => by rw [setsPaid_get, h]; rfl⟩
  have meter : (withTanks s v w).meter m = s.meter m := rfl
  unfold State.settleSession
  rw [meter]
  cases session : (s.meter m).session with
  | none =>
    have read : s.meters[m.val].session = none := session
    obtain ⟨tanks, sets⟩ := unowed fun n => by simp [owed, read]
    rw [tanks, sets]
  | some x =>
    have read : s.meters[m.val].session = some x := session
    dsimp only
    split
    · rename_i granting
      obtain ⟨tanks, sets⟩ := unowed fun n => by simp [owed, read, granting]
      rw [tanks, sets]
    · rename_i past
      have owes (n : SetNo) : owed s.meters [m] n = if x.set = n then [x.live] else [] := by
        by_cases same : x.set = n <;> simp [owed, read, past, same]
      have tanks : tanksPaid s.meters [m] v =
          v.set x.set { v[x.set] with delivered := satAdd max64 v[x.set].delivered x.live } := vector_ext fun n => by
        rw [tanksPaid_get, get_set, owes]
        by_cases same : x.set = n
        · subst same
          rw [if_pos rfl, if_pos rfl]
          rfl
        · rw [if_neg same, if_neg same]
          rfl
      have sets : setsPaid s.meters [m] w = w.set x.set
          { w[x.set] with hire := { w[x.set].hire with delivered := satAdd max64 w[x.set].hire.delivered x.live } } :=
        vector_ext fun n => by
        rw [setsPaid_get, get_set, owes]
        by_cases same : x.set = n
        · subst same
          rw [if_pos rfl, if_pos rfl]
          rfl
        · rw [if_neg same, if_neg same]
          rfl
      rw [tanks, sets]
      rfl

theorem owed_cons (meters : Vector MeterRec 2) (m : MeterNo) (ms : List MeterNo) (n : SetNo) :
    owed meters (m :: ms) n = owed meters [m] n ++ owed meters ms n := by
  show owed meters ([m] ++ ms) n = _
  exact List.filterMap_append ..

theorem paid_cons (meters : Vector MeterRec 2) (m : MeterNo) (ms : List MeterNo) (n : SetNo) (total : Nat) :
    paid total (owed meters (m :: ms) n) = paid (paid total (owed meters [m] n)) (owed meters ms n) := by
  rw [owed_cons, paid, List.foldl_append]
  rfl

theorem settleSessions_withTanks (s : State) (ms : List MeterNo) (v : Vector Tank 8) (w : Vector SetRec 8) :
    forEach ms (fun m s => s.settleSession m) (withTanks s v w) =
      withTanks s (tanksPaid s.meters ms v) (setsPaid s.meters ms w) := by
  induction ms generalizing v w with
  | nil =>
    have tanks : tanksPaid s.meters [] v = v := vector_ext fun n => by rw [tanksPaid_get]; rfl
    have sets : setsPaid s.meters [] w = w := vector_ext fun n => by rw [setsPaid_get]; rfl
    rw [tanks, sets]
    rfl
  | cons m ms ih =>
    have tanks : tanksPaid s.meters ms (tanksPaid s.meters [m] v) = tanksPaid s.meters (m :: ms) v := vector_ext fun n => by
      rw [tanksPaid_get, tanksPaid_get, tanksPaid_get, paid_cons s.meters m ms n]
    have sets : setsPaid s.meters ms (setsPaid s.meters [m] w) = setsPaid s.meters (m :: ms) w := vector_ext fun n => by
      rw [setsPaid_get, setsPaid_get, setsPaid_get, paid_cons s.meters m ms n]
    rw [forEach_cons, settleSession_withTanks, ih, tanks, sets]

/-- The tanks after a line reset: what is owed added, and the discrepancy counts 0. -/
@[irreducible] def tanksAfter (meters : Vector MeterRec 2) (v : Vector Tank 8) : Vector Tank 8 :=
  Vector.ofFn fun n => { (tanksPaid meters allMeters v)[n] with discCount := 0 }

theorem resetFuel_eq (s : State) : s.resetFuel =
    { s with
      tanks := tanksAfter s.meters s.tanks
      sets := setsPaid s.meters allMeters s.sets
      meters := Vector.replicate 2 .reset } := by
  have settled : forEach allMeters (fun m s => s.settleSession m) s =
      withTanks s (tanksPaid s.meters allMeters s.tanks) (setsPaid s.meters allMeters s.sets) :=
    settleSessions_withTanks s allMeters s.tanks s.sets
  have counted := forEach_modTank (fun _ t => { t with discCount := 0 })
    (withTanks s (tanksPaid s.meters allMeters s.tanks) (setsPaid s.meters allMeters s.sets))
  unfold State.resetFuel
  rw [settled]
  dsimp only
  rw [counted, tanksAfter]
  rfl

/-! ### LINE RESET whole (R17) -/

/-- The engine after a line reset. -/
def engineAfter (s : State) : Engine :=
  { s.engine with
    running := false, pollPointer := 0, queue := [], outstanding := none, acks := Vector.replicate 2 none, lastAcked := none
    slots := [], slotsEnded := 0, header := none, fde := false, links := linksAfter s.tables s.engine.links }

/-- The state once the engine and the feeders are reset. -/
def lineReset1 (s : State) : State :=
  { s with ten := true, due := [], feeders := Vector.replicate 32 .none, engine := engineAfter s }

theorem lineReset1_eq (s : State) :
    ({ s with ten := true, due := [] } : State).resetEngine.resetLinks.clearFeeders = lineReset1 s := by
  rw [resetLinks_eq]
  rfl

/-- The state once the tank accounts and the sets are reset as well. -/
def lineReset2 (s : State) : State :=
  { s with
    ten := true, due := [], feeders := Vector.replicate 32 .none, engine := engineAfter s
    meters := Vector.replicate 2 .reset, tanks := tanksAfter s.meters s.tanks
    sets := setsAfter s.tables (setsPaid s.meters allMeters s.sets) }

theorem lineReset2_eq (s : State) : (lineReset1 s).resetFuel.resetSets = lineReset2 s := by
  rw [resetSets_eq, resetFuel_eq]
  rfl

/-- The state after a line reset. -/
def afterReset (s : State) : State :=
  { s with
    ten := true, due := [], feeders := Vector.replicate 32 .none, engine := engineAfter s
    meters := Vector.replicate 2 .reset, tanks := tanksAfter s.meters s.tanks
    sets := setsAfter s.tables (setsPaid s.meters allMeters s.sets)
    points := pointsAfter s.points
    billing := { s.billing with accounts := accountsAfter s.intervalOpen s.billing.accounts }
    port := s.port.lineReset }

theorem lineReset_eq (s : State) : s.lineReset = afterReset s := by
  unfold State.lineReset
  dsimp only
  rw [lineReset1_eq, lineReset2_eq, markGap_eq, resetPoints_eq]
  rfl

/-! ### Each part of the state after a line reset -/

section
variable (s : State)

theorem afterReset_link (a : Addr) : (afterReset s).link a = (s.link a).lineReset (s.enabledUnit a) := by
  show (linksAfter s.tables s.engine.links)[a] = _
  rw [linksAfter]
  exact Vector.getElem_ofFn _

theorem afterReset_setRec (n : SetNo) : (afterReset s).setRec n =
    ({ s.setRec n with hire := { (s.setRec n).hire with
        delivered := paid (s.setRec n).hire.delivered (owed s.meters allMeters n) } } : SetRec).lineReset (s.setEnabled n) := by
  show (setsAfter s.tables _)[n] = _
  rw [setsAfter]
  exact (Vector.getElem_ofFn _).trans (congrArg (SetRec.lineReset · (s.setEnabled n)) (setsPaid_get _ _ _ n))

theorem afterReset_tank (n : SetNo) : (afterReset s).tank n =
    { s.tank n with delivered := paid (s.tank n).delivered (owed s.meters allMeters n), discCount := 0 } := by
  show (tanksAfter s.meters s.tanks)[n] = _
  rw [tanksAfter]
  exact (Vector.getElem_ofFn _).trans (congrArg (fun t : Tank => { t with discCount := 0 }) (tanksPaid_get _ _ _ n))

theorem afterReset_point (p : PointNo) : (afterReset s).pointRec p =
    { PointRec.reset with autoBlocked := (s.pointRec p).autoBlocked } := by
  show (pointsAfter s.points)[p] = _
  rw [pointsAfter]
  exact Vector.getElem_ofFn _

theorem afterReset_account (k : AccountNo) : (afterReset s).account k =
    if s.intervalOpen k then { s.account k with marks := { (s.account k).marks with gap := true } } else s.account k := by
  show (accountsAfter s.intervalOpen s.billing.accounts)[k] = _
  rw [accountsAfter]
  exact Vector.getElem_ofFn _

end

section
variable {s : State}

theorem meter_cases (m : MeterNo) : m = 0 ∨ m = 1 := by
  revert m
  decide

theorem owed_two (n : SetNo) : owed s.meters allMeters n = owed s.meters [0] n ++ owed s.meters [1] n := owed_cons _ 0 [1] n

theorem owed_none {m : MeterNo} {n : SetNo} (h : ∀ x, (s.meter m).session = some x → x.set = n → x.phase = .granting) :
    owed s.meters [m] n = [] := by
  have read : ∀ x, s.meters[m.val].session = some x → x.set = n → x.phase = .granting := h
  simp only [owed, List.filterMap_cons, List.filterMap_nil, Fin.getElem_fin]
  cases session : s.meters[m.val].session with
  | none => rfl
  | some x =>
    have kept : ¬ (x.phase ≠ .granting ∧ x.set = n) := fun ⟨past, same⟩ => past (read x session same)
    rw [Option.bind_some, if_neg kept]

theorem owed_one {m : MeterNo} {x : Session} (h : (s.meter m).session = some x) (past : x.phase ≠ .granting) :
    owed s.meters [m] x.set = [x.live] := by
  have read : s.meters[m.val].session = some x := h
  simp [owed, read, past]

/-- A session alone on its set owes its live total. -/
theorem owed_alone {m : MeterNo} {x : Session} (h : (s.meter m).session = some x) (past : x.phase ≠ .granting)
    (alone : ∀ k y, k ≠ m → (s.meter k).session = some y → y.set ≠ x.set) : owed s.meters allMeters x.set = [x.live] := by
  have other (k : MeterNo) (hk : k ≠ m) : owed s.meters [k] x.set = [] :=
    owed_none fun y session same => absurd same (alone k y hk session)
  rw [owed_two]
  obtain rfl | rfl := meter_cases m
  · rw [owed_one h past, other 1 (by decide)]
    rfl
  · rw [owed_one h past, other 0 (by decide)]
    rfl

end

theorem exec_lineReset {s : State} (settled : s.due = []) : exec .lineReset s = .next (afterReset s) := by
  show Host.Outcome.next s.settle.lineReset = _
  rw [State.settle_nil settled, lineReset_eq]

/-- Settles O12: each block by what its walk leaves. -/
theorem lineReset : Obligations.LineReset := by
  intro s settled
  refine ⟨_, exec_lineReset settled, rfl, rfl, rfl, rfl, rfl, rfl, rfl, rfl, rfl, rfl, fun m => Vector.getElem_replicate _,
    fun a => ?_, fun f => Vector.getElem_replicate _, rfl, rfl, fun n => ?_, fun n => ?_, fun m x session past alone => ?_,
    fun n granting => ?_, fun m => Vector.getElem_replicate _, rfl, afterReset_point s, rfl, rfl, rfl, rfl, rfl, rfl,
    fun k opened => ?_, fun k closed => ?_, rfl⟩
  · rw [afterReset_link, LinkRec.lineReset]
    split
    · rename_i enabled
      exact ⟨rfl, rfl, rfl, fun _ => ⟨rfl, rfl⟩, fun off => absurd (enabled.symm.trans off) Bool.noConfusion⟩
    · rename_i off
      exact ⟨rfl, rfl, rfl, fun enabled => absurd enabled off, fun _ => rfl⟩
  · rw [afterReset_setRec]
    exact ⟨rfl, rfl, rfl, rfl, rfl, rfl, rfl, rfl, rfl, rfl, rfl, rfl⟩
  · rw [afterReset_tank]
  · rw [afterReset_tank, afterReset_setRec, owed_alone session past alone]
    exact ⟨rfl, rfl⟩
  · have nothing : owed s.meters allMeters n = [] := by
      rw [owed_two, owed_none fun x session same => granting 0 x session same,
        owed_none fun x session same => granting 1 x session same]
      rfl
    rw [afterReset_tank, afterReset_setRec, nothing]
    exact ⟨rfl, rfl⟩
  · rw [afterReset_account, if_pos (Reads.intervalOpen_iff.mpr opened)]
  · rw [afterReset_account, if_neg (mt Reads.intervalOpen_iff.mp closed)]

end Sys2Proof.LineResetting
end

section
/-! SUPPORT. LOAD POINT: its refusals in their order, and what a load that passes writes (R1, R2, R9, R10, R32). -/

namespace Sys2Proof.PointLoading

open Sys2Proof Sys2Proof.Machine Sys2Proof.Stated Sys2Proof.ClearFlags Sys2Proof.Loads Sys2Proof.LineEvents
open Sys2Proof.Producing Sys2Proof.Closing Sys2Proof.Reads

/-! ### The entry that a load reads (R9) -/

theorem pointSourceOf_eq_some {source : PointSource} {u : SourceFields} :
    pointSourceOf u = some source ↔ SourceNamed u source := by
  cases u with
  | fixed k => cases source <;> simp [pointSourceOf, SourceNamed, numbered_eq_some]
  | switched u a b =>
    cases source with
    | fixed n => simp [pointSourceOf, SourceNamed, Option.bind_eq_some_iff]
    | switched v x y =>
      simp only [pointSourceOf, SourceNamed, Option.bind_eq_bind, Option.bind_eq_some_iff, numbered_eq_some]
      constructor
      · rintro ⟨v', hv, x', hx, y', hy, eq⟩
        split at eq
        · cases eq
        · cases eq
          exact ⟨hv, hx, hy, ‹_›⟩
      · rintro ⟨hv, hx, hy, differ⟩
        exact ⟨v, hv, x, hx, y, hy, if_neg differ⟩
  | unnamed => simp [pointSourceOf, SourceNamed]

/-- Fields that name no source, or leave out a choice, make no point entry. -/
theorem pointEntryOf_none {u : PointFields} (h : (∀ source, ¬ SourceNamed u.source source) ∨ u.autoFault = none ∨
    u.autoLoad = none ∨ u.autoFuel = none) : pointEntryOf u = none := by
  refine Option.eq_none_iff_forall_ne_some.mpr fun e he => ?_
  simp only [pointEntryOf, Option.bind_eq_bind, Option.bind_eq_some_iff, pointSourceOf_eq_some] at he
  obtain ⟨source, named, f, hf, l, hl, g, hg, -⟩ := he
  rcases h with h | h | h | h
  · exact h source named
  · simp [h] at hf
  · simp [h] at hl
  · simp [h] at hg

theorem pointEntryOf_fields {u : PointFields} {source : PointSource} {f l g : Bool} (named : SourceNamed u.source source)
    (hf : u.autoFault = some f) (hl : u.autoLoad = some l) (hg : u.autoFuel = some g) :
    pointEntryOf u = some (storedPoint source f l g u) := by
  simp [pointEntryOf, pointSourceOf_eq_some.mpr named, hf, hl, hg, storedPoint, clampTo, within]

section
variable {s : State} {p : PointNo} {form : LoadForm PointFields} {new : Option PointEntry}

theorem reqLoadPoint_badIndex {point : Nat} (h : point = 0 ∨ 12 < point) :
    reqLoadPoint point form s = (s, .refuse .badIndex) := by
  simp [reqLoadPoint, numbered_none h]

theorem reqLoadPoint_badValue {u : PointFields} (h : pointEntryOf u = none) :
    reqLoadPoint (p.val + 1) (.entry u) s = (s, .refuse .badValue) := by
  simp [reqLoadPoint, h]

theorem reqLoadPoint_repeat (reads : Reads pointEntryOf form new) (h : new = s.pointEntry p) :
    reqLoadPoint (p.val + 1) form s = (s, ⟨.ok, .pointEntry new⟩) := by
  cases reads with
  | clear => simp [reqLoadPoint, h, Reply.okWith]
  | entry reads => simp [reqLoadPoint, reads, ← h, Reply.okWith]

theorem reqLoadPoint_refused (reads : Reads pointEntryOf form new) (h : new ≠ s.pointEntry p) {code : ResultCode}
    (refusal : s.pointRefusal p new = some code) : reqLoadPoint (p.val + 1) form s = (s, .refuse code) := by
  cases reads with
  | clear => simp [reqLoadPoint, h, refusal]
  | entry reads => simp [reqLoadPoint, reads, h, refusal]

theorem reqLoadPoint_stored (reads : Reads pointEntryOf form new) (h : new ≠ s.pointEntry p)
    (refusal : s.pointRefusal p new = none) :
    reqLoadPoint (p.val + 1) form s = (s.storePoint p new, ⟨.ok, .pointEntry new⟩) := by
  cases reads with
  | clear => simp [reqLoadPoint, h, refusal, Reply.okWith]
  | entry reads => simp [reqLoadPoint, reads, h, refusal, Reply.okWith]

/-! ### The checks (R1, R9, R32) -/

theorem isSwitched_iff {e : PointEntry} : e.isSwitched = true ↔ Switched e := by
  cases h : e.source <;> simp [PointEntry.isSwitched, Switched, h]

theorem any_isSwitched {o : Option PointEntry} : o.any PointEntry.isSwitched = true ↔ ∃ e, o = some e ∧ Switched e := by
  simp [Option.any_eq_true, isSwitched_iff]

theorem any_isSwitched_eq_false {o : Option PointEntry} :
    o.any PointEntry.isSwitched = false ↔ ∀ e, o = some e → ¬ Switched e := by
  rw [← Bool.not_eq_true, any_isSwitched]
  simp

theorem changeUnit_eq_some {e : PointEntry} {u : Addr} :
    e.changeUnit = some u ↔ ∃ a b, e.source = .switched u a b := by
  cases h : e.source <;> simp [PointEntry.changeUnit, h]

/-- The point needs places that the queued office entries hold (R1, R32). -/
theorem officeHolds_iff : s.officeHolds p new = true ↔
    (∀ o, s.pointEntry p = some o → ¬ Switched o) ∧ (∃ e, new = some e ∧ Switched e) ∧
      24 - (10 + (s.putPointEntry p new).tables.switchedCount) ≤ (s.engine.queue.filter Command.isOffice).length := by
  simp only [State.officeHolds, Bool.and_eq_true, Bool.not_eq_true', any_isSwitched_eq_false, any_isSwitched,
    Engine.officeQueued, and_assoc]
  exact and_congr_right fun _ => and_congr_right fun _ => decide_eq_true_iff

/-- No other point is fed through the changeover unit (R9). -/
theorem unit_free_iff {u : Addr} :
    (allPoints.all fun k => k = p || (s.pointEntry k).bind PointEntry.changeUnit ≠ some u) = true ↔
      ∀ k x y, k ≠ p → s.switched k ≠ some (u, x, y) := by
  simp only [List.all_eq_true, mem_allPoints, true_implies, Bool.or_eq_true, decide_eq_true_eq]
  refine forall_congr' fun k => ?_
  have named : (s.pointEntry k).bind PointEntry.changeUnit = some u ↔ ∃ x y, s.switched k = some (u, x, y) := by
    simp only [Option.bind_eq_some_iff, changeUnit_eq_some, switched_eq_some]
    exact ⟨fun ⟨e, loaded, x, y, source⟩ => ⟨x, y, e, loaded, source⟩, fun ⟨x, y, e, loaded, source⟩ => ⟨e, loaded, x, y, source⟩⟩
  rw [ne_eq, named]
  by_cases same : k = p <;> simp [same]

/-- The cross-reference checks of a point entry (R9). -/
theorem pointFits_iff : s.pointFits p new = true ↔ ∀ e u a b, new = some e → e.source = .switched u a b →
    (∀ x, s.unitEntry u = some x → x.kind = .change) ∧ (∀ k x y, k ≠ p → s.switched k ≠ some (u, x, y)) ∧
      (s.putPointEntry p new).tables.switchedCount ≤ 8 := by
  unfold State.pointFits
  split
  next none =>
    refine ⟨fun _ e u a b loaded source => ?_, fun _ => rfl⟩
    rw [loaded, Option.bind_some, PointEntry.changeUnit, source] at none
    cases none
  next u found =>
    obtain ⟨e, loaded, change⟩ := Option.bind_eq_some_iff.mp found
    obtain ⟨a, b, source⟩ := changeUnit_eq_some.mp change
    subst loaded
    rw [Bool.and_eq_true, Bool.and_eq_true, unit_free_iff, decide_eq_true_eq, Option.all_eq_true, and_assoc]
    constructor
    · rintro ⟨kind, free, count⟩ e' u' a' b' same source'
      cases same
      cases source.symm.trans source'
      exact ⟨fun x hx => of_decide_eq_true (kind x hx), free, count⟩
    · intro h
      obtain ⟨kind, free, count⟩ := h e u a b rfl source
      exact ⟨fun x hx => decide_eq_true (kind x hx), free, count⟩

/-! ### What a load writes (R10) -/

/-- The notices of the entries that leave the schedule with a point (R10). -/
def dropNews (dropped : List ScheduleEntry) : List NoticeBody :=
  dropped.map fun e => .schedule e.point e.day e.second e.side (.refused .notValid)

theorem forEach_removeScheduled (dropped : List ScheduleEntry) (s : State) :
    forEach dropped (fun e s => s.removeScheduled e (.refused .notValid)) s =
      { s with schedule := s.schedule.filter (· ∉ dropped), port := raisedAll s.port (dropNews dropped) } := by
  induction dropped generalizing s with
  | nil =>
    rw [forEach_nil]
    simp [raisedAll, dropNews]
  | cons e dropped ih =>
    rw [forEach_cons, ih]
    have left : (s.schedule.filter (· ≠ e)).filter (· ∉ dropped) = s.schedule.filter (· ∉ e :: dropped) := by
      rw [List.filter_filter]
      refine List.filter_congr fun x _ => ?_
      by_cases same : x = e <;> simp [same]
    rw [← left]
    rfl

/-- The schedule without the entries of a point (R10). -/
theorem filter_others (xs : List ScheduleEntry) (p : PointNo) :
    xs.filter (· ∉ xs.filter fun e => decide (e.point = p)) = xs.filter (fun e => e.point ≠ p) := by
  refine List.filter_congr fun x hx => ?_
  by_cases of : x.point = p <;> simp [hx, of]

theorem dropSchedule_eq (s : State) (p : PointNo) : s.dropSchedule p =
    { s with
      schedule := s.schedule.filter (fun e => e.point ≠ p)
      port := raisedAll s.port (dropNews (s.schedule.filter fun e => e.point = p)) } := by
  rw [State.dropSchedule, forEach_removeScheduled, filter_others]

/-- The points with the position of one set afresh (R10, R123). -/
@[irreducible] def pointsUnlearnt (s : State) (p : PointNo) : Vector PointRec 12 :=
  s.points.set p { s.pointRec p with position := .unknown, selector := none }

theorem pointsUnlearnt_get (s : State) (p k : PointNo) : (pointsUnlearnt s p)[k.val] =
    if k = p then { s.pointRec p with position := .unknown, selector := none } else s.pointRec k := by
  rw [pointsUnlearnt, Vector.getElem_set]
  by_cases same : k = p
  · simp [same]
  · simp [same, Fin.val_ne_of_ne (Ne.symm same), State.pointRec]

/-- The schedule entries that a load drops (R10). -/
def droppedEntries (s : State) (p : PointNo) (new : Option PointEntry) : List ScheduleEntry :=
  if (s.pointEntry p).any PointEntry.isSwitched && !new.any PointEntry.isSwitched then s.schedule.filter fun e => e.point = p
  else []

theorem storePoint_sameSource (h : (s.pointEntry p).map PointEntry.source = new.map PointEntry.source) :
    s.storePoint p new = { s with tables := { s.tables with points := s.tables.points.set p new } } := by
  have sameKind : (s.pointEntry p).any PointEntry.isSwitched = new.any PointEntry.isSwitched := by
    cases old : s.pointEntry p with
    | none => cases new <;> simp_all
    | some o => cases new <;> simp_all [PointEntry.isSwitched]
  unfold State.storePoint
  simp [h, sameKind, State.putPointEntry]

theorem storePoint_newSource (h : (s.pointEntry p).map PointEntry.source ≠ new.map PointEntry.source) :
    s.storePoint p new =
      { s with
        tables := { s.tables with points := s.tables.points.set p new }
        points := pointsUnlearnt s p
        schedule := s.schedule.filter (· ∉ droppedEntries s p new)
        port := raisedAll s.port (dropNews (droppedEntries s p new)) } := by
  have entry : s.storePoint p new =
      let t := (s.putPointEntry p new).modPoint p fun r => { r with position := .unknown, selector := none }
      if (s.pointEntry p).any PointEntry.isSwitched && !new.any PointEntry.isSwitched then t.dropSchedule p else t := by
    unfold State.storePoint
    dsimp only
    rw [if_neg h]
  have written : (s.putPointEntry p new).modPoint p (fun r => { r with position := .unknown, selector := none }) =
      { s with
        tables := { s.tables with points := s.tables.points.set p new }
        points := pointsUnlearnt s p } := by
    rw [pointsUnlearnt]
    rfl
  rw [entry, written]
  dsimp only
  rw [droppedEntries]
  split
  · rw [dropSchedule_eq, filter_others]
  · simp [raisedAll, dropNews]

end

section
variable {s t : State} {p : PointNo} {new : Option PointEntry}

/-- A point that ceases to be SWITCHED loses its schedule entries, each with its notice (R10). -/
theorem schedule_of_fixed (was : ∃ o, s.pointEntry p = some o ∧ Switched o) (goes : ∀ e, new = some e → ¬ Switched e)
    (schedule : t.schedule = s.schedule.filter (· ∉ droppedEntries s p new))
    (port : t.port.notices = (raisedAll s.port (dropNews (droppedEntries s p new))).notices) :
    t.schedule = s.schedule.filter (fun e => e.point ≠ p) ∧
      (s.schedule.length ≤ 16 → ∀ e ∈ s.schedule, e.point = p →
        Told s t (.schedule p e.day e.second e.side (.refused .notValid))) := by
  have dropped : droppedEntries s p new = s.schedule.filter fun e => e.point = p := by
    rw [droppedEntries, any_isSwitched.mpr was, any_isSwitched_eq_false.mpr goes]
    rfl
  rw [dropped] at schedule port
  refine ⟨schedule.trans (filter_others _ p), fun short e he of => ?_⟩
  refine told_of_raisedAll port ?_ (List.mem_map.mpr ⟨e, List.mem_filter.mpr ⟨he, decide_eq_true of⟩, by rw [of]⟩)
  have few := List.length_filter_le (fun e : ScheduleEntry => decide (e.point = p)) s.schedule
  rw [dropNews, List.length_map]
  omega

theorem schedule_of_switched (stays : (∀ o, s.pointEntry p = some o → ¬ Switched o) ∨ ∃ e, new = some e ∧ Switched e)
    (schedule : t.schedule = s.schedule.filter (· ∉ droppedEntries s p new)) : t.schedule = s.schedule := by
  have dropped : droppedEntries s p new = [] := by
    rcases stays with was | goes
    · rw [droppedEntries, any_isSwitched_eq_false.mpr was]
      rfl
    · rw [droppedEntries, any_isSwitched.mpr goes, Bool.not_true, Bool.and_false]
      rfl
  rw [schedule, dropped]
  simp

end

/-- Settles O44: each refusal by its check, and what a load that passes writes, by whether it names the source again. -/
theorem loadPoint : Obligations.LoadPoint := by
  intro tag s calm
  refine ⟨fun point form h => exec_request_calm calm rfl (reqLoadPoint_badIndex h),
    fun p u h => exec_request_calm calm rfl (reqLoadPoint_badValue (pointEntryOf_none h)), fun p form new h => ?_⟩
  intro old after sameSource held fits
  have reads : Reads pointEntryOf form new := by
    rcases h with ⟨rfl, rfl⟩ | ⟨source, f, l, g, u, rfl, named, hf, hl, hg, rfl⟩
    · exact .clear
    · exact .entry (pointEntryOf_fields named hf hl hg)
  have held_iff : s.officeHolds p new = true ↔ held := officeHolds_iff
  have fits_iff : s.pointFits p new = true ↔ fits := pointFits_iff
  have thaws (frozen : s.site.live = false ∨ sameSource) :
      (s.site.live && decide ((s.pointEntry p).map PointEntry.source ≠ new.map PointEntry.source)) = false := by
    rcases frozen with live | same
    · rw [live, Bool.false_and]
    · rw [show (s.pointEntry p).map PointEntry.source = new.map PointEntry.source from same]
      simp
  have free (idle : ¬ held) : s.officeHolds p new = false := Bool.eq_false_iff.mpr fun h => idle (held_iff.mp h)
  have passes (frozen : s.site.live = false ∨ sameSource) (idle : (s.pointRec p).seq = none) (room : ¬ held) (fit : fits) :
      s.pointRefusal p new = none := by
    rw [State.pointRefusal, thaws frozen, free room, fits_iff.mpr fit, idle]
    rfl
  refine ⟨fun same => ?_, fun differs live frozen => ?_, fun differs frozen busy => ?_,
    fun differs frozen idle room unfit => ?_, fun differs frozen idle room fit same => ?_,
    fun live idle room fit changes => ?_⟩
  · exact exec_request_calm calm rfl (reqLoadPoint_repeat reads same)
  · refine exec_request_calm calm rfl (reqLoadPoint_refused reads differs ?_)
    unfold State.pointRefusal
    rw [live, decide_eq_true (show (s.pointEntry p).map PointEntry.source ≠ new.map PointEntry.source from frozen)]
    rfl
  · refine exec_request_calm calm rfl (reqLoadPoint_refused reads differs ?_)
    rw [State.pointRefusal, thaws frozen]
    rcases busy with busy | held
    · simp [Option.isSome_iff_ne_none.mpr busy]
    · simp [held_iff.mpr held]
  · refine exec_request_calm calm rfl (reqLoadPoint_refused reads differs ?_)
    have misfit : s.pointFits p new = false := Bool.eq_false_iff.mpr fun h => unfit (fits_iff.mp h)
    rw [State.pointRefusal, thaws frozen, free room, misfit, idle]
    rfl
  · rw [exec_request_calm calm rfl (reqLoadPoint_stored reads differs (passes frozen idle room fit)),
      storePoint_sameSource same]
  · have differs : new ≠ old := fun same => changes (congrArg (Option.map PointEntry.source) same.symm)
    refine ⟨_, exec_request_calm calm rfl (reqLoadPoint_stored reads differs (passes (.inl live) idle room fit)), rfl, ?_⟩
    rw [storePoint_newSource changes]
    exact ⟨rfl, (pointsUnlearnt_get s p p).trans (if_pos rfl), fun k other => (pointsUnlearnt_get s p k).trans (if_neg other),
      fun was goes => schedule_of_fixed was goes rfl rfl, fun stays => schedule_of_switched stays rfl, rfl⟩

end Sys2Proof.PointLoading
end

section
/-! SUPPORT. What an operation of one sequencer leaves alone, and the notices it raises: one at most, and then its sequence has
ended (R130, R191). So the notices of an event are bounded by the sequences in flight. -/

namespace Sys2Proof.Sequencing

open Sys2Proof Sys2Proof.Machine Sys2Proof.Stated Sys2Proof.StopAndClear

/-! ### The steps of one sequencer -/

/-- A queued command of point `p` belongs to a sequence in flight. -/
def Owned (p : PointNo) (s : State) : Prop :=
  ∀ c ∈ s.engine.queue, c.origin = .changeover p → (s.pointRec p).seq.isSome = true

/-- What a step of the sequencer of point `p` leaves alone: the other points, the commands of other origins and the reservations of
other points; and a notice goes with the end of its sequence, as does its queued command. -/
structure PointStep (p : PointNo) (s t : State) : Prop where
  others : ∀ k, k ≠ p → t.pointRec k = s.pointRec k
  queue : (t.engine.queue.filter fun c => c.origin ≠ .changeover p) =
    s.engine.queue.filter fun c => c.origin ≠ .changeover p
  reservations : ∀ n, ((t.setRec n).reservations.filter fun x => x.point ≠ p) =
    (s.setRec n).reservations.filter fun x => x.point ≠ p
  owned : Owned p s → Owned p t
  ends : (t.port = s.port ∧ (t.pointRec p).seq.isSome = (s.pointRec p).seq.isSome) ∨
    ((∃ urgent told, t.port = s.port.raise urgent (.changeover told)) ∧ (s.pointRec p).seq.isSome = true ∧ (t.pointRec p).seq = none)

section
variable {p : PointNo} {s t u : State}

theorem PointStep.refl (p : PointNo) (s : State) : PointStep p s s := ⟨fun _ _ => rfl, rfl, fun _ => rfl, id, .inl ⟨rfl, rfl⟩⟩

theorem PointStep.trans (h : PointStep p s t) (k : PointStep p t u) : PointStep p s u where
  others i hi := (k.others i hi).trans (h.others i hi)
  queue := k.queue.trans h.queue
  reservations n := (k.reservations n).trans (h.reservations n)
  owned := k.owned ∘ h.owned
  ends := by
    rcases h.ends with ⟨port, same⟩ | ⟨raised, live, gone⟩
    · rcases k.ends with ⟨port', same'⟩ | ⟨⟨urgent, body, raised⟩, live, gone⟩
      · exact .inl ⟨port'.trans port, same'.trans same⟩
      · exact .inr ⟨⟨urgent, body, by rw [raised, port]⟩, same ▸ live, gone⟩
    · rcases k.ends with ⟨port', same'⟩ | ⟨-, live', -⟩
      · refine .inr ⟨port' ▸ raised, live, ?_⟩
        rw [gone, Option.isSome_none, Option.isSome_eq_false_iff, Option.isNone_iff_eq_none] at same'
        exact same'
      · rw [gone] at live'
        cases live'

theorem PointStep.modPoint (p : PointNo) (s : State) {f : PointRec → PointRec}
    (h : (f (s.pointRec p)).seq.isSome = (s.pointRec p).seq.isSome) : PointStep p s (s.modPoint p f) where
  others k hk := State.modPoint_other s p f hk
  queue := rfl
  reservations _ := rfl
  owned own c hc origin := by rw [State.modPoint_read, h]; exact own c hc origin
  ends := .inl ⟨rfl, by rw [State.modPoint_read, h]⟩

theorem PointStep.withdraw (p : PointNo) (s : State) : PointStep p s (s.withdraw (.changeover p)) where
  others _ _ := rfl
  queue := by simp [State.withdraw, List.filter_filter]
  reservations _ := rfl
  owned _ c hc origin := by simp [State.withdraw, origin] at hc
  ends := .inl ⟨rfl, rfl⟩

theorem PointStep.enqueue {c : Command} (h : s.enqueue c = some t) (origin : c.origin = .changeover p)
    (live : (s.pointRec p).seq.isSome = true) : PointStep p s t := by
  obtain ⟨-, -, -, rfl⟩ := State.enqueue_eq_some.mp h
  exact ⟨fun _ _ => rfl, by simp [origin], fun _ => rfl, fun _ _ _ _ => live, .inl ⟨rfl, rfl⟩⟩

/-- A list of reservations whose change concerns point `p` alone. -/
theorem PointStep.reserved (p : PointNo) (s : State) (n : SetNo) {f : List Reservation → List Reservation}
    (h : ∀ xs, ((f xs).filter fun x => x.point ≠ p) = xs.filter fun x => x.point ≠ p) :
    PointStep p s (s.modSet n fun r => { r with reservations := f r.reservations }) where
  others _ _ := rfl
  queue := rfl
  reservations k := by
    by_cases hk : k = n
    · subst hk
      rw [State.modSet_read]
      exact h _
    · rw [State.modSet_other s n _ hk]
  owned := id
  ends := .inl ⟨rfl, rfl⟩

theorem PointStep.release (p : PointNo) (s : State) (n : SetNo) : PointStep p s (s.release n p) :=
  .reserved p s n fun xs => by simp [List.filter_filter]

theorem PointStep.reserve (p : PointNo) (s : State) (n : SetNo) (load : Nat) : PointStep p s (s.reserve n p load) :=
  .reserved p s n (f := fun xs => xs.filter (fun x => x.point ≠ p) ++ [Reservation.mk p load]) fun xs => by
    simp [List.filter_filter]

theorem PointStep.dropPointCommand (p : PointNo) (s : State) : PointStep p s (s.dropPointCommand p) :=
  (PointStep.withdraw p s).trans (.modPoint p _ rfl)

/-- A sequence in flight takes a new value. -/
theorem PointStep.putSeq (p : PointNo) {s : State} (h : (s.pointRec p).seq.isSome = true) (y : Sequence) :
    PointStep p s (s.putSeq p y) := .modPoint p s h.symm

/-- The sequence of a sequencer after its end, before the notice (R130). -/
def endedPoint (r : PointRec) (q : Sequence) (o : SeqOutcome) (cycle : CycleNo) : PointRec :=
  { r with
    seq := none, place := r.place.unqueue, due := none, lastOutcome := some ⟨o, q.cause, cycle⟩
    autoBlocked := r.autoBlocked || blocksPoint o q.cause }

/-- The position in the notice of an end (R130; log entry 43). -/
theorem endPosition_eq (s : State) (o : SeqOutcome) :
    s.endPosition p o = if o = .restart then .unknown else (s.pointRec p).position := rfl

/-- The state at the end of a sequence, before its notice (R130, R131). -/
def sequenceGone (s : State) (p : PointNo) (q : Sequence) (o : SeqOutcome) : State :=
  ((s.dropPointCommand p).release q.targetSet p).modPoint p fun r =>
    { r with
      seq := none, lastOutcome := some ⟨o, q.cause, s.engine.cycleNo⟩
      autoBlocked := r.autoBlocked || blocksPoint o q.cause }

theorem sequenceGone_point (s : State) (p : PointNo) (q : Sequence) (o : SeqOutcome) :
    (sequenceGone s p q o).pointRec p = endedPoint (s.pointRec p) q o s.engine.cycleNo := by
  have dropped : (s.dropPointCommand p).pointRec p =
      { s.pointRec p with place := (s.pointRec p).place.unqueue, due := none } :=
    State.modPoint_read (s.withdraw (.changeover p)) p _
  have released : ((s.dropPointCommand p).release q.targetSet p).pointRec p = (s.dropPointCommand p).pointRec p := rfl
  rw [sequenceGone, State.modPoint_read, released, dropped]
  rfl

theorem sequenceGone_other (s : State) (q : Sequence) (o : SeqOutcome) {k : PointNo} (hk : k ≠ p) :
    (sequenceGone s p q o).pointRec k = s.pointRec k := by
  have released := (PointStep.dropPointCommand p s).trans (.release p _ q.targetSet)
  rw [sequenceGone, State.modPoint_other _ p _ hk, released.others k hk]

theorem endSequence_eq {q : Sequence} (h : (s.pointRec p).seq = some q) (o : SeqOutcome) (manual : Option ManualPart) :
    s.endSequence p o manual = (sequenceGone s p q o).raiseMarked (o = .dark)
      (endNotice s p q o manual (if o = .restart then .unknown else (s.pointRec p).position)) := by
  have position : (sequenceGone s p q o).endPosition p o = if o = .restart then .unknown else (s.pointRec p).position := by
    rw [endPosition_eq, sequenceGone_point]
    rfl
  have ended : s.endSequence p o manual = (sequenceGone s p q o).raiseMarked (o = .dark)
      (endNotice s p q o manual ((sequenceGone s p q o).endPosition p o)) := by
    unfold State.endSequence
    rw [h]
    rfl
  rw [ended, position]

theorem endSequence_idle (h : (s.pointRec p).seq = none) (o : SeqOutcome) (manual : Option ManualPart) :
    s.endSequence p o manual = s := by
  unfold State.endSequence
  rw [h]

theorem PointStep.endSequence (p : PointNo) (s : State) (o : SeqOutcome) (manual : Option ManualPart) :
    PointStep p s (s.endSequence p o manual) := by
  cases h : (s.pointRec p).seq with
  | none =>
    rw [endSequence_idle h]
    exact .refl p s
  | some q =>
    have dropped := (PointStep.dropPointCommand p s).trans (.release p _ q.targetSet)
    have point := sequenceGone_point s p q o
    rw [endSequence_eq h]
    have withdrawn (c : Command) (hc : c ∈ (sequenceGone s p q o).engine.queue) : c.origin ≠ .changeover p := by
      have mem : c ∈ s.engine.queue.filter fun c => c.origin ≠ .changeover p := hc
      exact of_decide_eq_true (List.mem_filter.mp mem).2
    refine ⟨fun k hk => ?_, dropped.queue, dropped.reservations, fun _ c hc origin => absurd origin (withdrawn c hc), .inr ⟨⟨_, _, rfl⟩, by rw [h]; rfl, ?_⟩⟩
    · exact sequenceGone_other s q o hk
    · exact congrArg PointRec.seq point

theorem PointStep.enqueuePoint (p : PointNo) {s : State} (live : (s.pointRec p).seq.isSome = true) (code : Code) :
    PointStep p s (s.enqueuePoint p code) := by
  unfold State.enqueuePoint
  split
  · exact .refl p s
  · split
    · exact .refl p s
    next h => exact (PointStep.enqueue h rfl live).trans (.modPoint p _ rfl)

theorem PointStep.enqueueRecovery (p : PointNo) {s : State} (live : (s.pointRec p).seq.isSome = true) (q : Sequence)
    (code : Code) : PointStep p s (s.enqueueRecovery p q code) := by
  unfold State.enqueueRecovery
  split
  · exact .enqueuePoint p live code
  · exact .endSequence p s _ _

theorem PointStep.enterRecovering (p : PointNo) {s : State} (h : (s.pointRec p).seq.isSome = true) (q : Sequence)
    (why : RecoveryReason) : PointStep p s (s.enterRecovering p q why) := by
  have entered (y : Sequence) : PointStep p s ((s.dropPointCommand p).putSeq p y) :=
    (PointStep.dropPointCommand p s).trans (.putSeq p (by rw [State.dropPointCommand, State.modPoint_read]; exact h) y)
  unfold State.enterRecovering
  dsimp only
  split
  · split
    · have due (y : Sequence) (c : Code) := (entered y).trans (.modPoint p _ (f := fun r => { r with due := some c }) rfl)
      split
      · exact (due _ _).trans (.enqueueRecovery p (by rw [State.modPoint_read, State.putSeq, State.modPoint_read]; rfl) _ _)
      · exact due _ _
    · exact (entered _).trans (.endSequence p _ _ _)
  · exact (entered _).trans (.endSequence p _ _ _)

theorem PointStep.tryEnqueuePoint (p : PointNo) (s : State) : PointStep p s (s.tryEnqueuePoint p) := by
  unfold State.tryEnqueuePoint
  dsimp only
  split
  next live _ _ =>
    have live : (s.pointRec p).seq.isSome = true := by rw [live]; rfl
    split
    · split
      · exact .enqueuePoint p live _
      · exact .enterRecovering p live _ _
    · exact .enqueueRecovery p live _ _
    all_goals exact .enqueuePoint p live _
  · exact .refl p s

/-- A sequence in flight takes a new value with a command due, which is enqueued where it can be (R134, R137). -/
theorem PointStep.asked {s : State} (h : (s.pointRec p).seq.isSome = true) (y : Sequence) (code : Code) :
    PointStep p s ((s.modPoint p fun r => { r with seq := some y, due := some code }).tryEnqueuePoint p) :=
  (PointStep.modPoint p s (f := fun r => { r with seq := some y, due := some code }) h.symm).trans (.tryEnqueuePoint p _)

theorem PointStep.enterOpening {s : State} (h : (s.pointRec p).seq.isSome = true) (q : Sequence) :
    PointStep p s (s.enterOpening p q) := .asked h _ _

theorem PointStep.enterClosing {s : State} (h : (s.pointRec p).seq.isSome = true) (q : Sequence) (v : Verification) :
    PointStep p s (s.enterClosing p q v) := .asked h _ _

theorem PointStep.enterDead {s : State} (h : (s.pointRec p).seq.isSome = true) (q : Sequence) (c : CycleNo) :
    PointStep p s (s.enterDead p q c) := .putSeq p h _

theorem PointStep.proceed {s : State} (h : (s.pointRec p).seq.isSome = true) (q : Sequence) :
    PointStep p s (s.proceed p q) := by
  unfold State.proceed
  split
  · exact .enterDead h q _
  · exact .enterOpening h q

/-- News of a set, told to one sequencer (R76, R133, R137 to R139). -/
theorem PointStep.seqNews (s : State) (n : SetNo) (p : PointNo) : PointStep p s (s.seqNews n p) := by
  unfold State.seqNews
  split
  · exact .refl p s
  next q live =>
    have live : (s.pointRec p).seq.isSome = true := by rw [live]; rfl
    have same := PointStep.refl p s
    have gone := PointStep.endSequence p s .targetFault none
    have back := PointStep.enterRecovering p live q .targetFault
    dsimp only
    split
    · split
      · split
        · exact .proceed live q
        · split
          · exact same
          · exact same
          · exact gone
      · split
        · exact same
        · split
          · exact gone
          · exact .putSeq p live _
      · split
        · exact same
        · exact back
      · split
        · exact same
        · exact back
      · exact same
    · split
      · split
        · exact same
        · exact .endSequence p s _ _
      · exact same

end

/-! ### The notices of an event, bounded by the sequences in flight -/

/-- How many sequences are in flight. -/
def flying (s : State) : Nat := (allPoints.filter fun p => (s.pointRec p).seq.isSome).length

/-- The notices queued, and those that the sequences in flight can still raise. -/
def weight (s : State) : Nat := s.port.notices.length + flying s

/-- Beside the ends of sequences, at most `k` notices are raised: while there is room for so many, none is displaced. -/
def Spends (k : Nat) (s t : State) : Prop :=
  weight s + k ≤ 32 → s.port.notices <+: t.port.notices ∧ weight t ≤ weight s + k

theorem flying_le (s : State) : flying s ≤ 12 := List.length_filter_le _ allPoints

theorem flying_congr {s t : State} (h : ∀ p, (t.pointRec p).seq.isSome = (s.pointRec p).seq.isSome) :
    flying t = flying s := by
  rw [flying, flying]
  exact congrArg List.length (List.filter_congr fun p _ => h p)

section
variable {j k : Nat} {s t u : State}

theorem Spends.of_notices (notices : t.port.notices = s.port.notices)
    (seqs : ∀ p, (t.pointRec p).seq.isSome = (s.pointRec p).seq.isSome) : Spends 0 s t := fun _ => by
  rw [weight, weight, notices, flying_congr seqs]
  exact ⟨List.prefix_rfl, Nat.le_refl _⟩

theorem Spends.refl (s : State) : Spends 0 s s := .of_notices rfl fun _ => rfl

theorem Spends.mono (h : Spends j s t) (le : j ≤ k) : Spends k s t := fun room => by
  obtain ⟨front, fewer⟩ := h (by omega)
  exact ⟨front, by omega⟩

theorem Spends.trans (h : Spends j s t) (h' : Spends k t u) : Spends (j + k) s u := fun room => by
  obtain ⟨front, fewer⟩ := h (by omega)
  obtain ⟨front', fewer'⟩ := h' (by omega)
  exact ⟨front.trans front', by omega⟩

theorem Spends.of_joined (joined : Joined k s t) (seqs : ∀ p, (t.pointRec p).seq.isSome = (s.pointRec p).seq.isSome) :
    Spends k s t := fun room => by
  obtain ⟨added, few, notices⟩ := joined (by rw [weight] at room; omega)
  rw [weight, weight, notices, flying_congr seqs, List.length_append]
  exact ⟨List.prefix_append _ _, by omega⟩

theorem Spends.raiseMarked (s : State) (urgent : Bool) (body : NoticeBody) : Spends 1 s (s.raiseMarked urgent body) :=
  .of_joined (.raiseMarked s urgent body) fun _ => rfl

theorem Spends.raise (s : State) (body : NoticeBody) : Spends 1 s (s.raise body) := .raiseMarked s false body

/-- A sequence that ends is in flight no longer. -/
theorem flying_ended {p : PointNo} (others : ∀ k, k ≠ p → t.pointRec k = s.pointRec k) (live : (s.pointRec p).seq.isSome = true)
    (gone : (t.pointRec p).seq = none) : flying t + 1 = flying s := by
  have mem : p ∈ allPoints.filter fun k => (s.pointRec k).seq.isSome := List.mem_filter.mpr ⟨List.mem_finRange p, live⟩
  have nodup : (allPoints.filter fun k => (s.pointRec k).seq.isSome).Nodup := (List.nodup_finRange 12).filter _
  have erased : (allPoints.filter fun k => (t.pointRec k).seq.isSome) =
      (allPoints.filter fun k => (s.pointRec k).seq.isSome).erase p := by
    rw [nodup.erase_eq_filter, List.filter_filter]
    refine List.filter_congr fun k _ => ?_
    by_cases hk : k = p
    · subst hk; simp [gone]
    · simp [hk, others k hk]
  rw [flying, flying, erased, List.length_erase_of_mem mem]
  have some := List.length_pos_of_mem mem
  omega

/-- The end of a sequence pays for its notice. -/
theorem PointStep.spends {p : PointNo} (h : PointStep p s t) : Spends 0 s t := by
  rcases h.ends with ⟨port, same⟩ | ⟨⟨urgent, body, port⟩, live, gone⟩
  · refine .of_notices (congrArg Port.notices port) fun k => ?_
    by_cases hk : k = p
    · subst hk; exact same
    · rw [h.others k hk]
  · intro room
    have fewer := flying_ended h.others live gone
    have notices : t.port.notices = s.port.notices ++ [⟨s.port.nextNotice, urgent, .changeover body⟩] := by
      rw [port, Port.raise_room (by rw [weight] at room; omega)]
    rw [weight, weight, notices, List.length_append, List.length_singleton]
    exact ⟨List.prefix_append _ _, by omega⟩

theorem Spends.forEach {α : Type} {f : α → State → State} (h : ∀ x s, Spends k s (f x s)) (xs : List α) (s : State) :
    Spends (xs.length * k) s (forEach xs f s) := by
  induction xs generalizing s with
  | nil => exact (Spends.refl s).mono (Nat.zero_le _)
  | cons x xs ih =>
    rw [forEach_cons]
    exact ((h x s).trans (ih _)).mono (by rw [List.length_cons, Nat.succ_mul]; omega)

theorem Spends.tellSequencers (s : State) (n : SetNo) : Spends 0 s (s.tellSequencers n) :=
  .forEach (k := 0) (fun p s => (PointStep.seqNews s n p).spends) allPoints s

theorem runSet_points (s : State) (n : SetNo) (run : RunState) : (runSet s n run).points = s.points := by
  unfold runSet State.dropUncalled
  dsimp only
  split
  · split <;> rfl
  all_goals rfl

theorem Spends.runSet (s : State) (n : SetNo) (run : RunState) : Spends 0 s (runSet s n run) :=
  .of_notices (congrArg Port.notices (runSet_port s n run)) fun p => by
    rw [State.pointRec, runSet_points]
    rfl

theorem Spends.changeRun (s : State) (n : SetNo) (run : RunState) (why : StateReason) (attempts : Option Nat) :
    Spends 1 s (s.changeRun n run why attempts) := by
  rw [changeRun_eq]
  exact ((Spends.runSet s n run).trans (.raise _ _)).trans (.tellSequencers _ n)

/-- A notice queued stays queued while there is room. -/
theorem Spends.mem (h : Spends k s t) (room : weight s + k ≤ 32) {x : Notice} (mem : x ∈ s.port.notices) :
    x ∈ t.port.notices := (h room).1.subset mem

/-- A notice raised between others of its event is told, where the event raises at most 16 beside the ends of sequences. -/
theorem told_of_spends {body : NoticeBody} (earlier : Spends j s u) (later : Spends k (u.raise body) t)
    (few : j + k ≤ 15) : Told s t body := fun short => by
  have most := flying_le s
  have start : weight s ≤ 16 := by rw [weight]; omega
  obtain ⟨-, before⟩ := earlier (by omega)
  have raised : (u.raise body).port.notices = u.port.notices ++ [⟨u.port.nextNotice, false, body⟩] := by
    rw [State.raise, State.raiseMarked, Port.raise_room (by rw [weight] at before; omega)]
  obtain ⟨-, after⟩ := Spends.raise u body (by omega)
  exact ⟨_, later.mem (by omega) (raised ▸ List.mem_append_right _ (List.mem_singleton_self _)), rfl⟩

/-- The SET STATE notice of a run state change is told (R76, R191). -/
theorem told_of_changeRun {n : SetNo} {run : RunState} {why : StateReason} {attempts : Option Nat} (earlier : Spends j s u)
    (later : Spends k (u.changeRun n run why attempts) t) (few : j + k ≤ 15) :
    Told s t (.setState n (u.setRec n).run.name run.name why attempts u.engine.cycleNo) := by
  rw [changeRun_eq] at later
  exact told_of_spends (earlier.trans (Spends.runSet u n run)) ((Spends.tellSequencers _ n).trans later) (by omega)

end

end Sys2Proof.Sequencing
end

section
/-! SUPPORT. A change of the book through the clamp: what it writes, and the notices it raises (R100, R104). -/

namespace Sys2Proof.Booking

open Sys2Proof Sys2Proof.Machine Sys2Proof.Stated Sys2Proof.StopAndClear Sys2Proof.TankSet Sys2Proof.Sequencing
open Sys2Proof.Keeping

/-- What an operation on the tank of set `n` leaves alone: the other tanks and sets, and of set `n` all but its hire adjustments; and
at most `k` notices are raised. -/
structure TankStep (k : Nat) (n : SetNo) (s t : State) : Prop where
  tanks : ∀ i, i ≠ n → t.tank i = s.tank i
  sets : ∀ i, i ≠ n → t.setRec i = s.setRec i
  set : ∃ x, t.setRec n = { s.setRec n with hire := { (s.setRec n).hire with adjustments := x } }
  frame : { t with tanks := s.tanks, sets := s.sets, port := s.port } = s
  port : { t.port with notices := s.port.notices, nextNotice := s.port.nextNotice, overflow := s.port.overflow } = s.port
  joined : Joined k s t

section
variable {j k : Nat} {n : SetNo} {s t u : State}

theorem TankStep.refl (n : SetNo) (s : State) : TankStep 0 n s s :=
  ⟨fun _ _ => rfl, fun _ _ => rfl, ⟨_, rfl⟩, rfl, rfl, .of_port rfl⟩

theorem TankStep.mono (h : TankStep j n s t) (le : j ≤ k) : TankStep k n s t :=
  ⟨h.tanks, h.sets, h.set, h.frame, h.port, h.joined.mono le⟩

theorem TankStep.trans (h : TankStep j n s t) (h' : TankStep k n t u) : TankStep (j + k) n s u where
  tanks i hi := (h'.tanks i hi).trans (h.tanks i hi)
  sets i hi := (h'.sets i hi).trans (h.sets i hi)
  set := by
    obtain ⟨x, hx⟩ := h.set
    obtain ⟨y, hy⟩ := h'.set
    exact ⟨y, by rw [hy, hx]⟩
  frame := by
    have e := congrArg (fun t : State => { t with tanks := s.tanks, sets := s.sets, port := s.port }) h'.frame
    exact e.trans h.frame
  port := by
    have e := congrArg (fun x : Port =>
      { x with notices := s.port.notices, nextNotice := s.port.nextNotice, overflow := s.port.overflow }) h'.port
    exact e.trans h.port
  joined := h.joined.trans h'.joined

theorem TankStep.modTank (n : SetNo) (s : State) (f : Tank → Tank) : TankStep 0 n s (s.modTank n f) :=
  ⟨fun _ hi => State.modTank_other s n f hi, fun _ _ => rfl, ⟨_, rfl⟩, rfl, rfl, .of_port rfl⟩

theorem TankStep.adjusted (n : SetNo) (s : State) (x : Int) :
    TankStep 0 n s (s.modHire n fun h => { h with adjustments := hold64 (h.adjustments + x) }) :=
  ⟨fun _ _ => rfl, fun _ hi => State.modSet_other s n _ hi, ⟨_, State.modSet_read s n _⟩, rfl, rfl, .of_port rfl⟩

theorem TankStep.raise (n : SetNo) (s : State) (body : NoticeBody) : TankStep 1 n s (s.raise body) :=
  ⟨fun _ _ => rfl, fun _ _ => rfl, ⟨_, rfl⟩, rfl, (Port.raise_frame _ _ _).1, .raiseMarked s false body⟩

theorem TankStep.flagTest (n : SetNo) (s : State) (fires : Bool) (mark : Tank → Tank) (flag : SetFlag) :
    TankStep 1 n s (flagTest s n fires mark flag) := by
  cases fires
  · exact (TankStep.refl n s).mono (Nat.zero_le _)
  · exact (TankStep.modTank n s mark).trans (.raise n _ _)

theorem TankStep.testThresholds (n : SetNo) (s : State) : TankStep 2 n s (s.testThresholds n) := by
  unfold State.testThresholds
  split
  · exact (TankStep.refl n s).mono (Nat.zero_le _)
  · exact (TankStep.flagTest n s _ _ _).trans (.flagTest n _ _ _ _)

/-- Where DISCREPANCY is set on a condition (R100). -/
def discrepancyIf (s : State) (n : SetNo) (met : Prop) [Decidable met] (adjustment : Int) : State :=
  if met then s.setDiscrepancy n (some adjustment) none else s

/-- Where an adjustment is recorded on a condition (R100). -/
def adjustmentUnless (s : State) (n : SetNo) (exact : Prop) [Decidable exact] (adjustment : Int) : State :=
  if exact then s else s.recordAdjustment n adjustment

/-- The level that a change of the book asks for, and what the clamp makes of it (R100). -/
def askedLevel (s : State) (n : SetNo) (d : Int) : Int := (s.tank n).book + d

def storedLevel (s : State) (n : SetNo) (d : Int) : Int := max 0 (min ((s.tank n).capacity : Int) (askedLevel s n d))

/-- The state of a change of the book in which its thresholds are tested (R100, R104). -/
def levelTaken (s : State) (n : SetNo) (d : Int) : State :=
  discrepancyIf
    (adjustmentUnless (s.modTank n fun t => { t with book := (storedLevel s n d).toNat }) n
      (storedLevel s n d = askedLevel s n d) (storedLevel s n d - askedLevel s n d))
    n (((s.tank n).capacity : Int) < askedLevel s n d) (storedLevel s n d - askedLevel s n d)

theorem changeBook_eq (s : State) (n : SetNo) (d : Int) : s.changeBook n d = (levelTaken s n d).testThresholds n := rfl

theorem TankStep.discrepancyIf (n : SetNo) (s : State) (met : Prop) [Decidable met] (x : Int) :
    TankStep 1 n s (discrepancyIf s n met x) := by
  unfold Booking.discrepancyIf State.setDiscrepancy
  dsimp only
  split
  · split
    · exact (TankStep.refl n s).mono (Nat.zero_le _)
    · exact (TankStep.modTank n s _).trans (.raise n _ _)
  · exact (TankStep.refl n s).mono (Nat.zero_le _)

theorem TankStep.adjustmentUnless (n : SetNo) (s : State) (exact : Prop) [Decidable exact] (x : Int) :
    TankStep 0 n s (adjustmentUnless s n exact x) := by
  unfold Booking.adjustmentUnless State.recordAdjustment
  split
  · exact .refl n s
  · exact (TankStep.modTank n s _).trans (.adjusted n _ x)

/-- A change of the book touches its set's tank and hire adjustments alone, and raises three notices at most. -/
theorem TankStep.changeBook (n : SetNo) (s : State) (d : Int) : TankStep 3 n s (s.changeBook n d) :=
  (((TankStep.modTank n s _).trans (.adjustmentUnless n _ _ _)).trans (.discrepancyIf n _ _ _)).trans (.testThresholds n _)

/-! ### The tank (R99, R100) -/

theorem testThresholds_tank (s : State) (n : SetNo) : ∃ low reserve,
    (s.testThresholds n).tank n = { s.tank n with low, reserve } := by
  cases entry : s.setEntry n with
  | none => exact ⟨_, _, by rw [State.testThresholds, entry]⟩
  | some e => exact ⟨_, _, (testThresholds_spec entry).tank⟩

theorem adjustmentUnless_tank (s : State) (n : SetNo) (exact : Prop) [Decidable exact] (x : Int) :
    (adjustmentUnless s n exact x).tank n =
      { s.tank n with
        adjustments := if exact then (s.tank n).adjustments else hold64 ((s.tank n).adjustments + x) } := by
  unfold adjustmentUnless
  split
  · rfl
  · simp [State.recordAdjustment]

theorem discrepancyIf_tank (s : State) (n : SetNo) (met : Prop) [Decidable met] (x : Int) :
    (discrepancyIf s n met x).tank n =
      { s.tank n with discrepancy := (s.tank n).discrepancy || decide met } := by
  unfold discrepancyIf
  split
  next met' =>
    unfold State.setDiscrepancy
    dsimp only
    split
    next marked =>
      have same : { s.tank n with discrepancy := true } = s.tank n := by rw [← marked]
      rw [marked, Bool.true_or]
      exact same.symm
    · simp [met']
  next unmet => simp [unmet]

theorem levelTaken_tank (s : State) (n : SetNo) (d : Int) : (levelTaken s n d).tank n =
    { s.tank n with
      book := (storedLevel s n d).toNat
      adjustments := if storedLevel s n d = askedLevel s n d then (s.tank n).adjustments
        else hold64 ((s.tank n).adjustments + (storedLevel s n d - askedLevel s n d))
      discrepancy := (s.tank n).discrepancy || decide (((s.tank n).capacity : Int) < askedLevel s n d) } := by
  rw [levelTaken, discrepancyIf_tank, adjustmentUnless_tank, State.modTank_read]

theorem changeBook_tank (s : State) (n : SetNo) (d : Int) : ∃ low reserve, (s.changeBook n d).tank n =
    { s.tank n with
      low, reserve
      book := (storedLevel s n d).toNat
      adjustments := if storedLevel s n d = askedLevel s n d then (s.tank n).adjustments
        else hold64 ((s.tank n).adjustments + (storedLevel s n d - askedLevel s n d))
      discrepancy := (s.tank n).discrepancy || decide (((s.tank n).capacity : Int) < askedLevel s n d) } := by
  obtain ⟨low, reserve, tank⟩ := testThresholds_tank (levelTaken s n d) n
  exact ⟨low, reserve, by rw [changeBook_eq, tank, levelTaken_tank]⟩

end

end Sys2Proof.Booking
end

section
/-! SUPPORT. LOAD SET: its refusals in their order, and what a load that passes writes (R1, R2, R7, R8, R69, R76, R77, R89, R99). -/

namespace Sys2Proof.SetLoading

open Sys2Proof Sys2Proof.Machine Sys2Proof.Stated Sys2Proof.ClearFlags Sys2Proof.Loads Sys2Proof.StopAndClear
open Sys2Proof.Sequencing Sys2Proof.Booking

/-! ### What the effects of a load leave alone -/

/-- What the effects of loading a set entry leave alone, but for the tanks (R8). -/
structure SetWork (n : SetNo) (s t : State) : Prop where
  frame : LoadFrame s t
  tables : t.tables = s.tables
  feeders : t.feeders = s.feeders
  schedule : t.schedule = s.schedule
  links : t.engine.links = s.engine.links
  others : ∀ k, k ≠ n → { t.setRec k with reservations := [] } = { s.setRec k with reservations := [] }
  counters : (t.setRec n).hire.runMs = (s.setRec n).hire.runMs ∧ (t.setRec n).hire.starts = (s.setRec n).hire.starts ∧
    (t.setRec n).hire.outputMj = (s.setRec n).hire.outputMj ∧ (t.setRec n).hire.meteredMj = (s.setRec n).hire.meteredMj

section
variable {n : SetNo} {s t u : State}

theorem loadFrame_refl (s : State) : LoadFrame s s := ⟨rfl, rfl, rfl, rfl, rfl, rfl, rfl, ⟨rfl, rfl, rfl, rfl⟩, rfl⟩

theorem loadFrame_trans (h : LoadFrame s t) (k : LoadFrame t u) : LoadFrame s u where
  site := k.site.trans h.site
  ten := k.ten.trans h.ten
  tariff := k.tariff.trans h.tariff
  billing := k.billing.trans h.billing
  tickets := k.tickets.trans h.tickets
  limitFlags := k.limitFlags.trans h.limitFlags
  unattributed := k.unattributed.trans h.unattributed
  cycle := by
    obtain ⟨running, cycleNo, pointer, slots⟩ := h.cycle
    obtain ⟨running', cycleNo', pointer', slots'⟩ := k.cycle
    exact ⟨running'.trans running, cycleNo'.trans cycleNo, pointer'.trans pointer, slots'.trans slots⟩
  pending := k.pending.trans h.pending

theorem SetWork.trans (h : SetWork n s t) (k : SetWork n t u) : SetWork n s u where
  frame := loadFrame_trans h.frame k.frame
  tables := k.tables.trans h.tables
  feeders := k.feeders.trans h.feeders
  schedule := k.schedule.trans h.schedule
  links := k.links.trans h.links
  others i hi := (k.others i hi).trans (h.others i hi)
  counters := by
    obtain ⟨runMs, starts, output, metered⟩ := h.counters
    obtain ⟨runMs', starts', output', metered'⟩ := k.counters
    exact ⟨runMs'.trans runMs, starts'.trans starts, output'.trans output, metered'.trans metered⟩

theorem SetWork.refl (n : SetNo) (s : State) : SetWork n s s :=
  ⟨loadFrame_refl s, rfl, rfl, rfl, rfl, fun _ _ => rfl, ⟨rfl, rfl, rfl, rfl⟩⟩

/-- What keeps to the frame of a run state change, and adds no start. -/
theorem SetWork.of_runFrame (h : RunFrame n s t) (hire : (t.setRec n).hire = (s.setRec n).hire) : SetWork n s t where
  frame := ⟨h.site, h.ten, h.tariff, h.billing, h.tickets, h.limitFlags, h.unattributed,
    ⟨(congrArg Engine.running h.engine :), (congrArg Engine.cycleNo h.engine :),
      (congrArg Engine.pollPointer h.engine :), (congrArg Engine.slots h.engine :)⟩, h.pending⟩
  tables := h.tables
  feeders := h.feeders
  schedule := h.schedule
  links := (congrArg Engine.links h.engine :)
  others := h.others
  counters := by rw [hire]; exact ⟨rfl, rfl, rfl, rfl⟩

theorem SetWork.modSet (n : SetNo) (s : State) {f : SetRec → SetRec}
    (h : (f (s.setRec n)).hire = (s.setRec n).hire) : SetWork n s (s.modSet n f) where
  frame := ⟨rfl, rfl, rfl, rfl, rfl, rfl, rfl, ⟨rfl, rfl, rfl, rfl⟩, rfl⟩
  tables := rfl
  feeders := rfl
  schedule := rfl
  links := rfl
  others k hk := by rw [State.modSet_other s n f hk]
  counters := by rw [State.modSet_read, h]; exact ⟨rfl, rfl, rfl, rfl⟩

theorem SetWork.of_tankStep {k : Nat} (h : TankStep k n s t) : SetWork n s t := by
  obtain ⟨x, set⟩ := h.set
  have engine : t.engine = s.engine := (congrArg State.engine h.frame :)
  exact
    { frame := ⟨(congrArg State.site h.frame :), (congrArg State.ten h.frame :), (congrArg State.tariff h.frame :),
        (congrArg State.billing h.frame :), (congrArg State.tickets h.frame :), (congrArg State.limitFlags h.frame :),
        (congrArg State.unattributed h.frame :), by rw [engine]; exact ⟨rfl, rfl, rfl, rfl⟩,
        (congrArg State.pending h.frame :)⟩
      tables := (congrArg State.tables h.frame :)
      feeders := (congrArg State.feeders h.frame :)
      schedule := (congrArg State.schedule h.frame :)
      links := congrArg Engine.links engine
      others := fun k hk => by rw [h.sets k hk]
      counters := by rw [set]; exact ⟨rfl, rfl, rfl, rfl⟩ }

theorem spends_of_tankStep {k : Nat} (h : TankStep k n s t) : Spends k s t :=
  .of_joined h.joined fun p => by
    have points : t.points = s.points := (congrArg State.points h.frame :)
    rw [State.pointRec, points]
    rfl

/-- What the sequencers do with news of a set. -/
theorem SetWork.tellSequencers (n : SetNo) (s : State) : SetWork n s (s.tellSequencers n) :=
  .of_runFrame (SeqFrame.tellSequencers s n).runFrame (seqFrame_hire (.tellSequencers s n) n)

/-! ### The unreachable mark (R89) -/

/-- What the mark of a set leaves alone in its record. -/
structure MarkKept (r x : SetRec) : Prop where
  run : x.run = r.run
  due : x.due = r.due
  latest : x.latest = r.latest
  baseline : x.baseline = r.baseline
  stopCycle : x.stopCycle = r.stopCycle
  place : x.place = r.place
  hire : x.hire = r.hire

theorem markKept_of_seqFrame (h : SeqFrame s t) (n : SetNo) : MarkKept (s.setRec n) (t.setRec n) where
  run := (congrArg SetRec.run (h.sets n) :)
  due := (congrArg SetRec.due (h.sets n) :)
  latest := (congrArg SetRec.latest (h.sets n) :)
  baseline := (congrArg SetRec.baseline (h.sets n) :)
  stopCycle := (congrArg SetRec.stopCycle (h.sets n) :)
  place := (congrArg SetRec.place (h.sets n) :)
  hire := (congrArg SetRec.hire (h.sets n) :)

theorem unreachable_of_seqFrame (h : SeqFrame s t) (n : SetNo) : (t.setRec n).unreachable = (s.setRec n).unreachable :=
  (congrArg SetRec.unreachable (h.sets n) :)

/-- Two records equal but for their reservations have one hire statement. -/
theorem hire_of_reserved {x y : SetRec} (h : { x with reservations := [] } = { y with reservations := [] }) :
    x.hire = y.hire := (congrArg SetRec.hire h :)

theorem run_of_reserved {x y : SetRec} (h : { x with reservations := [] } = { y with reservations := [] }) :
    x.run = y.run := (congrArg SetRec.run h :)

theorem setMark_same {mark : Bool} (h : (s.setRec n).unreachable = mark) : s.setMark n mark = s := by
  rw [State.setMark, if_pos h]

/-- The state of a change of the mark before it is told (R76, R89, R90). -/
def marked (s : State) (n : SetNo) (mark : Bool) : State :=
  s.modSet n fun r => { r with unreachable := mark, overloadRun := if mark then 0 else r.overloadRun }

theorem marked_read (s : State) (n : SetNo) (mark : Bool) : (marked s n mark).setRec n =
    { s.setRec n with unreachable := mark, overloadRun := if mark then 0 else (s.setRec n).overloadRun } :=
  State.modSet_read s n _

theorem setMark_changed {mark : Bool} (h : (s.setRec n).unreachable ≠ mark) :
    s.setMark n mark = (marked s n mark).tellSequencers n := by
  rw [State.setMark, if_neg h]
  rfl

theorem setMark_mark (s : State) (n : SetNo) (mark : Bool) : ((s.setMark n mark).setRec n).unreachable = mark := by
  by_cases h : (s.setRec n).unreachable = mark
  · rw [setMark_same h, h]
  · rw [setMark_changed h]
    rw [unreachable_of_seqFrame (.tellSequencers (marked s n mark) n), marked_read]

theorem setMark_kept (s : State) (n : SetNo) (mark : Bool) : MarkKept (s.setRec n) ((s.setMark n mark).setRec n) := by
  by_cases h : (s.setRec n).unreachable = mark
  · rw [setMark_same h]
    exact ⟨rfl, rfl, rfl, rfl, rfl, rfl, rfl⟩
  · rw [setMark_changed h]
    have kept := markKept_of_seqFrame (.tellSequencers (marked s n mark) n) n
    rw [marked_read] at kept
    exact ⟨kept.run, kept.due, kept.latest, kept.baseline, kept.stopCycle, kept.place, kept.hire⟩

theorem SetWork.setMark (n : SetNo) (s : State) (mark : Bool) : SetWork n s (s.setMark n mark) := by
  by_cases h : (s.setRec n).unreachable = mark
  · rw [setMark_same h]
    exact .refl n s
  · rw [setMark_changed h]
    exact (SetWork.modSet n s rfl).trans (.tellSequencers n _)

theorem setMark_tanks (s : State) (n : SetNo) (mark : Bool) : (s.setMark n mark).tanks = s.tanks := by
  by_cases h : (s.setRec n).unreachable = mark
  · rw [setMark_same h]
  · rw [setMark_changed h]
    exact (SeqFrame.tellSequencers _ n).tanks

theorem spends_modSet (n : SetNo) (s : State) (f : SetRec → SetRec) : Spends 0 s (s.modSet n f) :=
  .of_notices rfl fun _ => rfl

theorem spends_setMark (n : SetNo) (s : State) (mark : Bool) : Spends 0 s (s.setMark n mark) := by
  by_cases h : (s.setRec n).unreachable = mark
  · rw [setMark_same h]
    exact .refl s
  · rw [setMark_changed h]
    exact (spends_modSet n s _).trans (.tellSequencers _ n)

theorem tryEnqueueSet_idle (h : (s.setRec n).due = none) : s.tryEnqueueSet n = s := by
  unfold State.tryEnqueueSet
  dsimp only
  rw [h]

theorem clearMark_idle (h : (s.setRec n).due = none) : s.clearMark n = s.setMark n false := by
  unfold State.clearMark
  split
  · exact tryEnqueueSet_idle ((setMark_kept s n false).due.trans h)
  next reachable => rw [setMark_same (Bool.eq_false_iff.mpr reachable)]

/-- The link state of a set's unit is LOST (R89). -/
def unitLost (s : State) (n : SetNo) : Bool := (s.setEntry n).any fun e => (s.link e.unit).state = some .lost

/-- A set with nothing due has its mark refreshed, and no more (R89). -/
theorem refreshMark_idle (h : (s.setRec n).due = none) : s.refreshMark n = s.setMark n (unitLost s n) := by
  unfold State.refreshMark
  rw [clearMark_idle h]
  cases lost : unitLost s n <;> (rw [unitLost] at lost; simp [lost])

theorem tryEnqueueSet_hire (s : State) (n k : SetNo) : ((s.tryEnqueueSet n).setRec k).hire = (s.setRec k).hire := by
  unfold State.tryEnqueueSet
  dsimp only
  have written (f : SetRec → SetRec) (h : ∀ r, (f r).hire = r.hire) (u : State) :
      ((u.modSet n f).setRec k).hire = (u.setRec k).hire := by
    by_cases hk : k = n
    · subst hk; rw [State.modSet_read, h]
    · rw [State.modSet_other u n f hk]
  split
  · split
    · by_cases hk : k = n
      · subst hk
        rw [changeRun_hire]
        exact written (fun r => { r with due := none }) (fun _ => rfl) s
      · have others := (RunFrame.changeRun n (s.modSet n fun r => { r with due := none }) .online .inService none).others k hk
        exact (hire_of_reserved others).trans (written (fun r => { r with due := none }) (fun _ => rfl) s)
    · split
      · rfl
      · split
        · rfl
        next enqueued =>
          obtain ⟨-, -, -, rfl⟩ := State.enqueue_eq_some.mp enqueued
          exact written (fun r => { r with place := _, due := none }) (fun _ => rfl) _
  · rfl

theorem SetWork.tryEnqueueSet (n : SetNo) (s : State) : SetWork n s (s.tryEnqueueSet n) :=
  .of_runFrame (.tryEnqueueSet n s) (tryEnqueueSet_hire s n n)

theorem SetWork.refreshMark (n : SetNo) (s : State) : SetWork n s (s.refreshMark n) := by
  unfold State.refreshMark State.clearMark
  dsimp only
  split
  · exact .setMark n s true
  · split
    · exact (SetWork.setMark n s false).trans (.tryEnqueueSet n _)
    · exact .refl n s

theorem refreshMark_tanks (s : State) (n : SetNo) : (s.refreshMark n).tanks = s.tanks := by
  unfold State.refreshMark State.clearMark
  dsimp only
  split
  · exact setMark_tanks s n true
  · split
    · exact (RunFrame.tryEnqueueSet n _).tanks.trans (setMark_tanks s n false)
    · rfl

/-! ### A set is enabled or disabled (R8, R77) -/

/-- What entry into UNSEEN or OFFLINE leaves of a set's record. -/
structure Forgotten (r : SetRec) : Prop where
  latest : r.latest = none
  baseline : r.baseline = none
  due : r.due = none
  stopCycle : r.stopCycle = none

theorem Forgotten.of_kept {r x : SetRec} (h : Forgotten r) (k : MarkKept r x) : Forgotten x :=
  ⟨k.latest.trans h.latest, k.baseline.trans h.baseline, k.due.trans h.due, k.stopCycle.trans h.stopCycle⟩

theorem forgetSet_read (s : State) (n : SetNo) : (s.forgetSet n).setRec n =
    { s.setRec n with
      latest := none, loadFraction := none, stopCycle := none, due := none
      place := (s.setRec n).place.unqueue, overloadRun := 0, baseline := none } :=
  State.modSet_read (s.withdraw (.sets n)) n _

theorem SetWork.forgetSet (n : SetNo) (s : State) : SetWork n s (s.forgetSet n) :=
  SetWork.trans (t := s.withdraw (.sets n))
    ⟨⟨rfl, rfl, rfl, rfl, rfl, rfl, rfl, ⟨rfl, rfl, rfl, rfl⟩, rfl⟩, rfl, rfl, rfl, rfl, fun _ _ => rfl, ⟨rfl, rfl, rfl, rfl⟩⟩
    (.modSet (f := fun r => { r with
      latest := none, loadFraction := none, stopCycle := none, due := none
      place := r.place.unqueue, overloadRun := 0, baseline := none }) n (s.withdraw (.sets n)) rfl)

theorem SetWork.changeRun (n : SetNo) (s : State) (run : RunState) (why : StateReason) :
    SetWork n s (s.changeRun n run why) := .of_runFrame (.changeRun n s run why none) (changeRun_hire s n run why none)

theorem changeRun_due (s : State) (n : SetNo) (run : RunState) (why : StateReason) (attempts : Option Nat)
    (h : (s.setRec n).due = none) : ((s.changeRun n run why attempts).setRec n).due = none := by
  have set : ((runSet s n run).setRec n).due = none := by
    unfold runSet State.dropUncalled
    dsimp only
    have read : (s.modSet n fun r => { r with run, overloadRun := 0 }).setRec n =
        { s.setRec n with run, overloadRun := 0 } := State.modSet_read s n _
    split
    · split
      · rw [State.modSet_read, read, h]; rfl
      · rw [State.modSet_read, read, h]; rfl
    all_goals rw [State.modSet_read, read, h]; rfl
  rw [changeRun_eq]
  exact (markKept_of_seqFrame (.tellSequencers _ n) n).due.trans set

/-- The set's entry was enabled or disabled: its record forgotten, in a new run state (R77). -/
def entered (s : State) (n : SetNo) (run : RunState) (why : StateReason) : State := (s.forgetSet n).changeRun n run why

theorem entered_forgotten (s : State) (n : SetNo) (run : RunState) (why : StateReason) :
    Forgotten ((entered s n run why).setRec n) ∧ ((entered s n run why).setRec n).run = run := by
  obtain ⟨stopCycle, -, latest, -, baseline, -⟩ := (RunFrame.changeRun n (s.forgetSet n) run why none).figures
  rw [forgetSet_read] at stopCycle latest baseline
  refine ⟨⟨latest, baseline, changeRun_due _ n run why none (by rw [forgetSet_read]), stopCycle⟩,
    (State.changeRun_run n _ run why none).1⟩

theorem SetWork.entered (n : SetNo) (s : State) (run : RunState) (why : StateReason) :
    SetWork n s (entered s n run why) := (SetWork.forgetSet n s).trans (.changeRun n _ run why)

theorem entered_tanks (s : State) (n : SetNo) (run : RunState) (why : StateReason) : (entered s n run why).tanks = s.tanks :=
  (RunFrame.changeRun n (s.forgetSet n) run why none).tanks

theorem entered_told {j k : Nat} {run : RunState} {why : StateReason} (earlier : Spends j s u)
    (later : Spends k (entered u n run why) t) (few : j + k ≤ 15) (cycle : u.engine.cycleNo = s.engine.cycleNo)
    (name : (u.setRec n).run = (s.setRec n).run) :
    Told s t (.setState n (s.setRec n).run.name run.name why none s.engine.cycleNo) := by
  have forgotten : Spends 0 u (u.forgetSet n) := .of_notices rfl fun _ => rfl
  have told := told_of_changeRun (earlier.trans forgotten) later (by omega)
  rw [forgetSet_read] at told
  rw [← cycle, ← name]
  exact told

end

/-! ### The entry that a load reads (R7) -/

theorem setEntryOf_none {u : SetFields} (h : u.unit = 0 ∨ 63 < u.unit ∨ u.enabled = none) : setEntryOf u = none := by
  rcases h with h | h | h
  · simp [setEntryOf, numbered_none (.inl h)]
  · simp [setEntryOf, numbered_none (.inr h)]
  · simp [setEntryOf, h]

theorem setEntryOf_fields {u : SetFields} {a : Addr} {b : Bool} (unit : u.unit = a.val + 1) (enabled : u.enabled = some b) :
    setEntryOf u = some (storedSet a b u) := by
  simp [setEntryOf, unit, enabled, storedSet, clampTo, within]

section
variable {s : State} {n : SetNo} {form : LoadForm SetFields} {new : Option SetEntry}

theorem reqLoadSet_badIndex {set : Nat} (h : set = 0 ∨ 8 < set) : reqLoadSet set form s = (s, .refuse .badIndex) := by
  simp [reqLoadSet, numbered_none h]

theorem reqLoadSet_badValue {u : SetFields} (h : setEntryOf u = none) :
    reqLoadSet (n.val + 1) (.entry u) s = (s, .refuse .badValue) := by
  simp [reqLoadSet, h]

theorem reqLoadSet_repeat (reads : Reads setEntryOf form new) (h : new = s.setEntry n) :
    reqLoadSet (n.val + 1) form s = (s, ⟨.ok, .setEntry new⟩) := by
  cases reads with
  | clear => simp [reqLoadSet, h, Reply.okWith]
  | entry reads => simp [reqLoadSet, reads, ← h, Reply.okWith]

theorem reqLoadSet_refused (reads : Reads setEntryOf form new) (h : new ≠ s.setEntry n) {code : ResultCode}
    (refusal : s.setRefusal n new = some code) : reqLoadSet (n.val + 1) form s = (s, .refuse code) := by
  cases reads with
  | clear => simp [reqLoadSet, h, refusal]
  | entry reads => simp [reqLoadSet, reads, h, refusal]

theorem reqLoadSet_stored (reads : Reads setEntryOf form new) (h : new ≠ s.setEntry n) (refusal : s.setRefusal n new = none) :
    reqLoadSet (n.val + 1) form s = (s.storeSet n new, ⟨.ok, .setEntry new⟩) := by
  cases reads with
  | clear => simp [reqLoadSet, h, refusal, Reply.okWith]
  | entry reads => simp [reqLoadSet, reads, h, refusal, Reply.okWith]

/-! ### The checks (R1, R7) -/

theorem inFlight_iff {run : RunState} : run.inFlight = true ↔ InFlight run := by
  cases run <;> simp [RunState.inFlight, InFlight]

theorem inService_iff : s.inService n = true ↔ (∃ p, s.connectedSet p = some n) ∨ (s.setRec n).reservations ≠ [] := by
  rw [← Bool.not_eq_false, inService_eq_false, not_and_or, not_forall]
  simp

theorem enabled_iff {o : Option SetEntry} : o.any SetEntry.enabled = true ↔ ∃ e, o = some e ∧ e.enabled = true := by
  simp [Option.any_eq_true]

theorem enabled_eq_false {o : Option SetEntry} : o.any SetEntry.enabled = false ↔ ∀ e, o = some e → e.enabled = false := by
  rw [← Bool.not_eq_true, enabled_iff]
  simp

/-- The load disables the set, or clears its entry (R1, R8). -/
theorem disablesSet_iff {old : Option SetEntry} : disablesSet old new = true ↔
    ((∃ o, old = some o ∧ o.enabled = true) ∧ ∀ e, new = some e → e.enabled = false) ∨ (old ≠ none ∧ new = none) := by
  rw [disablesSet, Bool.or_eq_true, Bool.and_eq_true, Bool.and_eq_true, Bool.not_eq_true', enabled_iff, enabled_eq_false,
    Option.isSome_iff_ne_none, Option.isNone_iff_eq_none]
  exact or_comm

/-- The cross-reference checks of a set entry (R7). -/
theorem setFits_iff : s.setFits n new = true ↔ ∀ e, new = some e → (∀ u, s.unitEntry e.unit = some u → u.kind = .set) ∧
    ∀ k x, k ≠ n → s.setEntry k = some x → x.unit ≠ e.unit := by
  cases new with
  | none => simp [State.setFits]
  | some e =>
    simp only [State.setFits, Option.all_some, Bool.and_eq_true, Option.all_eq_true, List.all_eq_true, mem_allSets,
      Bool.or_eq_true, decide_eq_true_eq, Option.some.injEq, forall_eq', true_implies, ne_eq]
    refine and_congr Iff.rfl (forall_congr' fun g => ?_)
    by_cases hg : g = n <;> simp [hg]

/-! ### The capacity in force, and the unit (R8, R69, R89, R99) -/

/-- The capacity in force is taken where an entry is stored (R8). -/
def capacityTaken (s : State) (n : SetNo) (new : Option SetEntry) : State := new.elim s fun e => s.storeCapacity n e.capacity

/-- The tank takes a capacity (R99). -/
def capacityPut (s : State) (n : SetNo) (capacity : Nat) : State := s.modTank n fun t => { t with capacity }

theorem capacityPut_tank (s : State) (n : SetNo) (capacity : Nat) :
    (capacityPut s n capacity).tank n = { s.tank n with capacity } := State.modTank_read s n _

theorem capacityTaken_below {e : SetEntry} (h : (s.tank n).book ≤ e.capacity) :
    capacityTaken s n (some e) = capacityPut s n e.capacity := by
  have book : ((capacityPut s n e.capacity).tank n).book = (s.tank n).book := by rw [capacityPut_tank]
  exact if_neg (by rw [← book] at h; exact Nat.not_lt.mpr h)

theorem capacityTaken_above {e : SetEntry} (h : e.capacity < (s.tank n).book) :
    capacityTaken s n (some e) = (capacityPut s n e.capacity).changeBook n 0 := by
  have book : ((capacityPut s n e.capacity).tank n).book = (s.tank n).book := by rw [capacityPut_tank]
  exact if_pos (by rw [← book] at h; exact h)

theorem capacityTaken_step (s : State) (n : SetNo) (new : Option SetEntry) : TankStep 3 n s (capacityTaken s n new) := by
  cases new with
  | none => exact (TankStep.refl n s).mono (Nat.zero_le _)
  | some e =>
    have put : TankStep 0 n s (capacityPut s n e.capacity) := .modTank n s _
    by_cases h : e.capacity < (s.tank n).book
    · rw [capacityTaken_above h]
      exact put.trans (.changeBook n _ 0)
    · rw [capacityTaken_below (Nat.not_lt.mp h)]
      exact put.mono (Nat.zero_le _)

/-- A book above the capacity stored is clamped to it, the excess going into the adjustments with DISCREPANCY set (R99). -/
theorem capacityTaken_tank (s : State) (n : SetNo) (e : SetEntry) :
    let t := capacityTaken s n (some e)
    (t.tank n).capacity = e.capacity ∧ (t.tank n).book = min (s.tank n).book e.capacity ∧
      (e.capacity < (s.tank n).book → (t.tank n).discrepancy = true ∧ (t.tank n).adjustments =
        max (-(2 ^ 63)) (min (2 ^ 63 - 1) ((s.tank n).adjustments + e.capacity - (s.tank n).book))) := by
  have put := capacityPut_tank s n e.capacity
  by_cases above : e.capacity < (s.tank n).book
  · rw [capacityTaken_above above]
    generalize capacityPut s n e.capacity = u at put
    obtain ⟨low, reserve, tank⟩ := changeBook_tank (s := u) (n := n) 0
    have level : askedLevel u n 0 = (s.tank n).book := by rw [askedLevel, put]; exact Int.add_zero _
    have stored : storedLevel u n 0 = (e.capacity : Int) := by
      rw [storedLevel, level, put]
      change max 0 (min (e.capacity : Int) ((s.tank n).book : Int)) = e.capacity
      omega
    dsimp only
    rw [tank, level, stored, put]
    refine ⟨rfl, by simp; omega, fun _ => ⟨by simp [above], ?_⟩⟩
    dsimp only
    rw [if_neg (by omega), hold64]
    congr 2
    omega
  · rw [capacityTaken_below (Nat.not_lt.mp above)]
    dsimp only
    rw [put]
    exact ⟨rfl, (Nat.min_eq_left (Nat.not_lt.mp above)).symm, fun h => absurd h above⟩

theorem capacityTaken_same {e : SetEntry} (capacity : e.capacity = (s.tank n).capacity)
    (below : (s.tank n).book ≤ e.capacity) : capacityTaken s n (some e) = s := by
  have same : { s.tank n with capacity := e.capacity } = s.tank n := by rw [capacity]
  have tanks : s.tanks.set n (s.tank n) = s.tanks := Vector.set_getElem_self ..
  rw [capacityTaken_below below, capacityPut, State.modTank, State.putTank, same, tanks]

theorem SetWork.moveUnit (s : State) (n : SetNo) (old new : Option SetEntry) : SetWork n s (s.moveUnit n old new) := by
  unfold State.moveUnit
  split
  · split
    · exact .refl n s
    · exact (SetWork.modSet n s rfl).trans (.refreshMark n _)
  · exact .refl n s

theorem moveUnit_tanks (s : State) (n : SetNo) (old new : Option SetEntry) : (s.moveUnit n old new).tanks = s.tanks := by
  unfold State.moveUnit
  split
  · split
    · rfl
    · exact refreshMark_tanks _ n
  · rfl

/-- A set with nothing due that names another unit keeps its run state, and tells its sequencers at most (R69, R89). -/
theorem moveUnit_idle (h : (s.setRec n).due = none) (old new : Option SetEntry) :
    ((s.moveUnit n old new).setRec n).run = (s.setRec n).run ∧ Spends 0 s (s.moveUnit n old new) := by
  unfold State.moveUnit
  split
  · split
    · exact ⟨rfl, .refl s⟩
    · have read : (s.modSet n fun r => { r with baseline := none }).setRec n = { s.setRec n with baseline := none } :=
        State.modSet_read s n _
      have gone := spends_modSet n s fun r => { r with baseline := none }
      generalize (s.modSet n fun r => { r with baseline := none }) = u at read gone ⊢
      rw [refreshMark_idle (by rw [read]; exact h), (setMark_kept u n _).run, read]
      exact ⟨rfl, gone.trans (spends_setMark n u _)⟩
  · exact ⟨rfl, .refl s⟩

/-! ### What a load writes (R8) -/

/-- The state of a load before the set is enabled or disabled. -/
def entryStored (s : State) (n : SetNo) (new : Option SetEntry) : State :=
  (capacityTaken (s.putSetEntry n new) n new).moveUnit n (s.setEntry n) new

theorem storeSet_enabled (was : (s.setEntry n).any SetEntry.enabled = false) (now : new.any SetEntry.enabled = true) :
    s.storeSet n new = (entered (entryStored s n new) n .unseen .enabled).refreshMark n := by
  unfold State.storeSet
  dsimp only
  rw [was, now]
  rfl

theorem storeSet_disabled (was : (s.setEntry n).any SetEntry.enabled = true) (now : new.any SetEntry.enabled = false) :
    s.storeSet n new = (entered (entryStored s n new) n .offline .disabled).setMark n false := by
  unfold State.storeSet
  dsimp only
  rw [was, now]
  rfl

theorem storeSet_kept (same : (s.setEntry n).any SetEntry.enabled = new.any SetEntry.enabled) :
    s.storeSet n new = entryStored s n new := by
  unfold State.storeSet
  dsimp only
  rw [same]
  cases new.any SetEntry.enabled <;> rfl

/-- A load leaves alone what its frame says, and after the capacity no tank. -/
theorem storeSet_work (s : State) (n : SetNo) (new : Option SetEntry) :
    SetWork n (s.putSetEntry n new) (s.storeSet n new) ∧
      (s.storeSet n new).tanks = (capacityTaken (s.putSetEntry n new) n new).tanks := by
  have stored : SetWork n (s.putSetEntry n new) (entryStored s n new) :=
    (SetWork.of_tankStep (capacityTaken_step (s.putSetEntry n new) n new)).trans (.moveUnit _ n _ _)
  have tanks : (entryStored s n new).tanks = (capacityTaken (s.putSetEntry n new) n new).tanks := moveUnit_tanks _ n _ _
  cases was : (s.setEntry n).any SetEntry.enabled with
  | false =>
    cases now : new.any SetEntry.enabled with
    | false =>
      rw [storeSet_kept (was.trans now.symm)]
      exact ⟨stored, tanks⟩
    | true =>
      rw [storeSet_enabled was now]
      exact ⟨(stored.trans (.entered n _ _ _)).trans (.refreshMark n _),
        ((refreshMark_tanks _ n).trans (entered_tanks _ n _ _)).trans tanks⟩
  | true =>
    cases now : new.any SetEntry.enabled with
    | true =>
      rw [storeSet_kept (was.trans now.symm)]
      exact ⟨stored, tanks⟩
    | false =>
      rw [storeSet_disabled was now]
      exact ⟨(stored.trans (.entered n _ _ _)).trans (.setMark n _ false),
        ((setMark_tanks _ n false).trans (entered_tanks _ n _ _)).trans tanks⟩

/-- A set with nothing due comes to its new state as it was: its run state, and few notices. -/
theorem entryStored_idle (s : State) (n : SetNo) (new : Option SetEntry) (h : (s.setRec n).due = none) :
    ((entryStored s n new).setRec n).run = (s.setRec n).run ∧ Spends 3 s (entryStored s n new) := by
  have step := capacityTaken_step (s.putSetEntry n new) n new
  obtain ⟨x, set⟩ := step.set
  have put : Spends 0 s (s.putSetEntry n new) := .of_notices rfl fun _ => rfl
  have due : ((capacityTaken (s.putSetEntry n new) n new).setRec n).due = none := by rw [set]; exact h
  obtain ⟨run, spends⟩ := moveUnit_idle due (s.setEntry n) new
  refine ⟨run.trans (by rw [set]; rfl), (put.trans (spends_of_tankStep step)).trans spends⟩

theorem entryStored_cycleNo (s : State) (n : SetNo) (new : Option SetEntry) :
    (entryStored s n new).engine.cycleNo = s.engine.cycleNo := by
  have stored : SetWork n (s.putSetEntry n new) (entryStored s n new) :=
    (SetWork.of_tankStep (capacityTaken_step (s.putSetEntry n new) n new)).trans (.moveUnit _ n _ _)
  obtain ⟨-, cycleNo, -⟩ := stored.frame.cycle
  exact cycleNo

/-- A set enabled by its load is UNSEEN, and told so (R8, R77, R89). -/
theorem storeSet_unseen (was : ∀ o, s.setEntry n = some o → o.enabled = false) (now : ∃ e, new = some e ∧ e.enabled = true) :
    let t := s.storeSet n new
    (t.setRec n).run = .unseen ∧ Forgotten (t.setRec n) ∧
      ((s.setRec n).due = none →
        Told s t (.setState n (s.setRec n).run.name .unseen .enabled none s.engine.cycleNo)) := by
  rw [storeSet_enabled (enabled_eq_false.mpr was) (enabled_iff.mpr now)]
  obtain ⟨forgotten, run⟩ := entered_forgotten (entryStored s n new) n .unseen .enabled
  rw [refreshMark_idle forgotten.due]
  have kept := setMark_kept (entered (entryStored s n new) n .unseen .enabled) n
    (unitLost (entered (entryStored s n new) n .unseen .enabled) n)
  refine ⟨kept.run.trans run, forgotten.of_kept kept, fun idle => ?_⟩
  obtain ⟨name, earlier⟩ := entryStored_idle s n new idle
  exact entered_told earlier (spends_setMark n _ _) (by omega) (entryStored_cycleNo s n new) name

/-- A set disabled by its load is OFFLINE with its mark clear, and told so (R8, R77, R89). -/
theorem storeSet_offline (was : ∃ o, s.setEntry n = some o ∧ o.enabled = true) (now : ∀ e, new = some e → e.enabled = false) :
    let t := s.storeSet n new
    (t.setRec n).run = .offline ∧ Forgotten (t.setRec n) ∧ (t.setRec n).unreachable = false ∧
      ((s.setRec n).due = none →
        Told s t (.setState n (s.setRec n).run.name .offline .disabled none s.engine.cycleNo)) := by
  rw [storeSet_disabled (enabled_iff.mpr was) (enabled_eq_false.mpr now)]
  obtain ⟨forgotten, run⟩ := entered_forgotten (entryStored s n new) n .offline .disabled
  have kept := setMark_kept (entered (entryStored s n new) n .offline .disabled) n false
  refine ⟨kept.run.trans run, forgotten.of_kept kept, setMark_mark _ n false, fun idle => ?_⟩
  obtain ⟨name, earlier⟩ := entryStored_idle s n new idle
  exact entered_told earlier (spends_setMark n _ _) (by omega) (entryStored_cycleNo s n new) name

/-- A tuning edit stores the entry, and does nothing else. -/
theorem storeSet_tuned {o e : SetEntry} (old : s.setEntry n = some o) (enabled : o.enabled = e.enabled) (unit : o.unit = e.unit)
    (capacity : e.capacity = (s.tank n).capacity) (below : (s.tank n).book ≤ e.capacity) :
    s.storeSet n (some e) = s.putSetEntry n (some e) := by
  rw [storeSet_kept (by rw [old]; exact enabled), entryStored,
    capacityTaken_same (s := s.putSetEntry n (some e)) capacity below, old, State.moveUnit,
    if_pos unit]

end

/-- Settles O43: each refusal by its check, and what a load that passes writes, by whether it enables or disables the set. -/
theorem loadSet : Obligations.LoadSet := by
  intro tag s calm
  refine ⟨fun set form h => exec_request_calm calm rfl (reqLoadSet_badIndex h),
    fun n u h => exec_request_calm calm rfl (reqLoadSet_badValue (setEntryOf_none h)), fun n form new h => ?_⟩
  intro old frozen busy leaves served fits
  have reads : Reads setEntryOf form new := by
    rcases h with ⟨rfl, rfl⟩ | ⟨a, b, u, rfl, unit, enabled, rfl⟩
    · exact .clear
    · exact .entry (setEntryOf_fields unit enabled)
  have thaws (thawed : s.site.live = false ∨ frozen) :
      (s.site.live && decide ((s.setEntry n).map SetEntry.frozen ≠ new.map SetEntry.frozen)) = false := by
    rcases thawed with live | same
    · rw [live, Bool.false_and]
    · rw [show (s.setEntry n).map SetEntry.frozen = new.map SetEntry.frozen from same]
      simp
  have busy_iff : ((s.setRec n).run.inFlight && decide ((s.setEntry n).map SetEntry.inUse ≠ new.map SetEntry.inUse)) = true ↔
      busy := by
    rw [Bool.and_eq_true, inFlight_iff, decide_eq_true_iff]
    rfl
  have leaves_iff : (disablesSet (s.setEntry n) new && s.inService n) = true ↔ leaves ∧ served := by
    rw [Bool.and_eq_true, disablesSet_iff, inService_iff]
  have fits_iff : s.setFits n new = true ↔ fits := setFits_iff
  have clear {b : Bool} {q : Prop} (iff : b = true ↔ q) (h : ¬ q) : b = false := Bool.eq_false_iff.mpr fun e => h (iff.mp e)
  refine ⟨fun same => ?_, fun differs live changed => ?_, fun differs thawed inUse => ?_,
    fun differs thawed idle goes serves => ?_, fun differs thawed idle stays unfit => ?_,
    fun differs thawed idle stays fit => ?_⟩
  · exact exec_request_calm calm rfl (reqLoadSet_repeat reads same)
  · refine exec_request_calm calm rfl (reqLoadSet_refused reads differs ?_)
    unfold State.setRefusal
    dsimp only
    rw [live, decide_eq_true (show (s.setEntry n).map SetEntry.frozen ≠ new.map SetEntry.frozen from changed)]
    rfl
  · refine exec_request_calm calm rfl (reqLoadSet_refused reads differs ?_)
    unfold State.setRefusal
    dsimp only
    rw [thaws thawed, busy_iff.mpr inUse]
    rfl
  · refine exec_request_calm calm rfl (reqLoadSet_refused reads differs ?_)
    unfold State.setRefusal
    dsimp only
    rw [thaws thawed, clear busy_iff idle, leaves_iff.mpr ⟨goes, serves⟩]
    rfl
  · refine exec_request_calm calm rfl (reqLoadSet_refused reads differs ?_)
    unfold State.setRefusal
    dsimp only
    rw [thaws thawed, clear busy_iff idle, clear leaves_iff stays, clear fits_iff unfit]
    rfl
  · have passes : s.setRefusal n new = none := by
      unfold State.setRefusal
      dsimp only
      rw [thaws thawed, clear busy_iff idle, clear leaves_iff stays, fits_iff.mpr fit]
      rfl
    obtain ⟨work, tanks⟩ := storeSet_work s n new
    have step := capacityTaken_step (s.putSetEntry n new) n new
    have tank (k : SetNo) : (s.storeSet n new).tank k = (capacityTaken (s.putSetEntry n new) n new).tank k :=
      congrArg (fun v : Vector Tank 8 => v[k]) tanks
    obtain ⟨runMs, starts, output, metered⟩ := work.counters
    refine ⟨_, exec_request_calm calm rfl (reqLoadSet_stored reads differs passes), rfl, work.tables, ?_, work.feeders,
      work.schedule, work.links, fun k hk => ⟨run_of_reserved (work.others k hk), (tank k).trans (step.tanks k hk)⟩,
      fun k => ?_, fun cleared => ?_, fun e loaded => ?_, fun was now => ?_, fun was now => ?_, ?_⟩
    · exact ⟨work.frame.site, work.frame.ten, work.frame.tariff, work.frame.billing, work.frame.tickets,
        work.frame.limitFlags, work.frame.unattributed, work.frame.cycle, work.frame.pending⟩
    · by_cases hk : k = n
      · subst hk
        exact ⟨runMs, starts, output, metered⟩
      · have hire : ((s.storeSet n new).setRec k).hire = (s.setRec k).hire := hire_of_reserved (work.others k hk)
        exact ⟨congrArg Hire.runMs hire, congrArg Hire.starts hire, congrArg Hire.outputMj hire,
          congrArg Hire.meteredMj hire⟩
    · subst cleared
      exact tank n
    · subst loaded
      obtain ⟨capacity, book, clamped⟩ := capacityTaken_tank (s := s.putSetEntry n (some e)) (n := n) e
      rw [← tank n] at capacity book clamped
      exact ⟨capacity, book, clamped⟩
    · obtain ⟨run, forgotten, told⟩ := storeSet_unseen was now
      exact ⟨run, forgotten.latest, forgotten.baseline, forgotten.due, forgotten.stopCycle, told⟩
    · obtain ⟨run, forgotten, mark, told⟩ := storeSet_offline was now
      exact ⟨run, forgotten.latest, forgotten.baseline, mark, told⟩
    · rintro ⟨o, e, was, rfl, enabled, unit, capacity, below⟩
      rw [storeSet_tuned was enabled unit capacity below]
      rfl

end Sys2Proof.SetLoading
end

section
/-! SUPPORT. What the outcomes of commands and the marks of units leave alone, whatever their origin (R35, R78, R89, R108, R132), and
the commands that come to the queue by them: none of the office. -/

namespace Sys2Proof.OwnerSteps

open Sys2Proof Sys2Proof.Machine Sys2Proof.Stated Sys2Proof.StopAndClear Sys2Proof.Sequencing Sys2Proof.Sessions

/-- A notice of something other than a limit window. -/
def Unlimited (body : NoticeBody) : Prop :=
  ∀ f a position mode low high current cycle, body ≠ .feederLimit f a position mode low high current cycle

/-- What the owners leave alone when an outcome, a mark or news of a set reaches them. -/
structure OwnerStep (s t : State) : Prop where
  tables : t.tables = s.tables
  site : t.site = s.site
  ten : t.ten = s.ten
  engine : { t.engine with queue := s.engine.queue } = s.engine
  feeders : t.feeders = s.feeders
  limitFlags : t.limitFlags = s.limitFlags
  unattributed : t.unattributed = s.unattributed
  tickets : t.tickets = s.tickets
  schedule : t.schedule = s.schedule
  tariff : t.tariff = s.tariff
  billing : t.billing = s.billing
  port : { t.port with notices := s.port.notices, nextNotice := s.port.nextNotice, overflow := s.port.overflow } = s.port
  due : t.due = s.due
  pending : t.pending = s.pending
  queue : ∀ c ∈ t.engine.queue, c ∈ s.engine.queue ∨ ∀ tag, c.origin ≠ .office tag
  unlimited : ∀ x ∈ t.port.notices, x ∈ s.port.notices ∨ Unlimited x.body

section
variable {s t u : State} {n : SetNo} {p : PointNo} {m : MeterNo}

theorem OwnerStep.refl (s : State) : OwnerStep s s :=
  ⟨rfl, rfl, rfl, rfl, rfl, rfl, rfl, rfl, rfl, rfl, rfl, rfl, rfl, rfl, fun _ h => .inl h, fun _ h => .inl h⟩

theorem OwnerStep.trans (h : OwnerStep s t) (k : OwnerStep t u) : OwnerStep s u where
  tables := k.tables.trans h.tables
  site := k.site.trans h.site
  ten := k.ten.trans h.ten
  engine := by
    have e := congrArg (fun x : Engine => { x with queue := s.engine.queue }) k.engine
    exact e.trans h.engine
  feeders := k.feeders.trans h.feeders
  limitFlags := k.limitFlags.trans h.limitFlags
  unattributed := k.unattributed.trans h.unattributed
  tickets := k.tickets.trans h.tickets
  schedule := k.schedule.trans h.schedule
  tariff := k.tariff.trans h.tariff
  billing := k.billing.trans h.billing
  port := by
    have e := congrArg (fun x : Port =>
      { x with notices := s.port.notices, nextNotice := s.port.nextNotice, overflow := s.port.overflow }) k.port
    exact e.trans h.port
  due := k.due.trans h.due
  pending := k.pending.trans h.pending
  queue c hc := (k.queue c hc).elim (h.queue c) .inr
  unlimited x hx := (k.unlimited x hx).elim (h.unlimited x) .inr

theorem mem_dropNewestOrdinary {xs kept : List Notice} (h : dropNewestOrdinary xs = some kept) {x : Notice} (hx : x ∈ kept) :
    x ∈ xs := by
  induction xs generalizing kept with
  | nil => exact absurd h nofun
  | cons y ys ih =>
    unfold dropNewestOrdinary at h
    split at h
    next rest found =>
      obtain rfl := Option.some.inj h
      rcases List.mem_cons.mp hx with rfl | mem
      · exact List.mem_cons_self
      · exact List.mem_cons_of_mem y (ih found mem)
    next none =>
      split at h
      · exact absurd h nofun
      · obtain rfl := Option.some.inj h
        exact List.mem_cons_of_mem y hx

theorem mem_displaceFor {sending : Bool} {xs kept : List Notice} (h : displaceFor sending xs = some kept) {x : Notice} (hx : x ∈ kept) :
    x ∈ xs := by
  unfold displaceFor at h
  split at h
  · split at h
    · exact absurd h nofun
    next head rest =>
      obtain ⟨ys, dropped, rfl⟩ := Option.map_eq_some_iff.mp h
      rcases List.mem_cons.mp hx with rfl | mem
      · exact List.mem_cons_self
      · exact List.mem_cons_of_mem head (mem_dropNewestOrdinary dropped mem)
  · exact mem_dropNewestOrdinary h hx

/-- A raise adds no notice but its own. -/
theorem mem_raise {p : Port} {urgent : Bool} {body : NoticeBody} {x : Notice} (h : x ∈ (p.raise urgent body).notices) :
    x ∈ p.notices ∨ x.body = body := by
  have joined {xs : List Notice} (old : ∀ y ∈ xs, y ∈ p.notices) (mem : x ∈ xs ++ [⟨p.nextNotice, urgent, body⟩]) :
      x ∈ p.notices ∨ x.body = body := by
    rcases List.mem_append.mp mem with mem | new
    · exact .inl (old x mem)
    · exact .inr (congrArg Notice.body (List.mem_singleton.mp new))
  unfold Port.raise at h
  dsimp only at h
  split at h
  · exact joined (fun _ hy => hy) h
  · split at h
    · split at h
      next kept displaced => exact joined (fun _ hy => mem_displaceFor displaced hy) h
      · exact .inl h
    · exact .inl h

theorem unlimited_raise {p : Port} {urgent : Bool} {body : NoticeBody} {x : Notice} (unlimited : Unlimited body)
    (h : x ∈ (p.raise urgent body).notices) : x ∈ p.notices ∨ Unlimited x.body :=
  (mem_raise h).imp_right fun own : x.body = body => own ▸ unlimited

theorem OwnerStep.of_runFrame (h : RunFrame n s t)
    (queue : ∀ c ∈ t.engine.queue, c ∈ s.engine.queue ∨ ∀ tag, c.origin ≠ .office tag)
    (unlimited : ∀ x ∈ t.port.notices, x ∈ s.port.notices ∨ Unlimited x.body) : OwnerStep s t :=
  ⟨h.tables, h.site, h.ten, h.engine, h.feeders, h.limitFlags, h.unattributed, h.tickets, h.schedule, h.tariff, h.billing, h.port,
    h.due, h.pending, queue, unlimited⟩

theorem OwnerStep.of_pointStep (frame : SeqFrame s t) (step : PointStep p s t) : OwnerStep s t :=
  .of_runFrame (n := 0) frame.runFrame
    (fun c hc => by
      by_cases origin : c.origin = .changeover p
      · exact .inr fun tag => by rw [origin]; nofun
      · have mem : c ∈ t.engine.queue.filter fun c => c.origin ≠ .changeover p :=
          List.mem_filter.mpr ⟨hc, decide_eq_true origin⟩
        rw [step.queue] at mem
        exact .inl (List.mem_filter.mp mem).1)
    (fun x hx => by
      rcases step.ends with ⟨port, -⟩ | ⟨⟨urgent, told, port⟩, -, -⟩
      · exact .inl (port ▸ hx)
      · exact unlimited_raise (body := .changeover told) (by intros _ _ _ _ _ _ _ _; nofun) (port ▸ hx))

theorem OwnerStep.raise (s : State) (body : NoticeBody) (unlimited : Unlimited body := by intros _ _ _ _ _ _ _ _; nofun) :
    OwnerStep s (s.raise body) :=
  .of_runFrame (n := 0) (SeqFrame.raiseMarked s false body).runFrame (fun _ h => .inl h) fun _ h => unlimited_raise unlimited h

theorem OwnerStep.modSet (n : SetNo) (s : State) (f : SetRec → SetRec) : OwnerStep s (s.modSet n f) :=
  ⟨rfl, rfl, rfl, rfl, rfl, rfl, rfl, rfl, rfl, rfl, rfl, rfl, rfl, rfl, fun _ h => .inl h, fun _ h => .inl h⟩

theorem OwnerStep.modPoint (p : PointNo) (s : State) (f : PointRec → PointRec) : OwnerStep s (s.modPoint p f) :=
  ⟨rfl, rfl, rfl, rfl, rfl, rfl, rfl, rfl, rfl, rfl, rfl, rfl, rfl, rfl, fun _ h => .inl h, fun _ h => .inl h⟩

theorem OwnerStep.modMeter (m : MeterNo) (s : State) (f : MeterRec → MeterRec) : OwnerStep s (s.modMeter m f) :=
  ⟨rfl, rfl, rfl, rfl, rfl, rfl, rfl, rfl, rfl, rfl, rfl, rfl, rfl, rfl, fun _ h => .inl h, fun _ h => .inl h⟩

theorem OwnerStep.withdraw (s : State) (o : Origin) : OwnerStep s (s.withdraw o) :=
  ⟨rfl, rfl, rfl, rfl, rfl, rfl, rfl, rfl, rfl, rfl, rfl, rfl, rfl, rfl, fun _ h => .inl (mem_withdrawn h).1, fun _ h => .inl h⟩

theorem OwnerStep.enqueue {c : Command} (h : s.enqueue c = some t) (internal : ∀ tag, c.origin ≠ .office tag) :
    OwnerStep s t := by
  obtain ⟨-, -, -, rfl⟩ := State.enqueue_eq_some.mp h
  refine ⟨rfl, rfl, rfl, rfl, rfl, rfl, rfl, rfl, rfl, rfl, rfl, rfl, rfl, rfl, fun x hx => ?_, fun _ h => .inl h⟩
  rcases List.mem_append.mp hx with old | new
  · exact .inl old
  · exact .inr (List.mem_singleton.mp new ▸ internal)

/-- A walk each of whose visits is such a step is one. -/
theorem OwnerStep.forEach {α : Type} {f : α → State → State} (xs : List α) (h : ∀ x ∈ xs, ∀ s, OwnerStep s (f x s)) (s : State) :
    OwnerStep s (forEach xs f s) := forEach_rel OwnerStep.refl OwnerStep.trans h s

/-! ### Sequences -/

theorem OwnerStep.endSequence (s : State) (p : PointNo) (o : SeqOutcome) (manual : Option ManualPart) :
    OwnerStep s (s.endSequence p o manual) := .of_pointStep (.endSequence s p o manual) (.endSequence p s o manual)

theorem OwnerStep.tryEnqueuePoint (s : State) (p : PointNo) : OwnerStep s (s.tryEnqueuePoint p) :=
  .of_pointStep (.tryEnqueuePoint s p) (.tryEnqueuePoint p s)

theorem OwnerStep.tellSequencers (s : State) (n : SetNo) : OwnerStep s (s.tellSequencers n) :=
  .forEach allPoints (fun p _ s => .of_pointStep (.seqNews s n p) (.seqNews s n p)) s

theorem PointStep.pointOutcome (p : PointNo) (s : State) (code : Code) (o : CommandOutcome) :
    PointStep p s (s.pointOutcome p code o) := by
  unfold State.pointOutcome
  dsimp only
  have free : PointStep p s (s.modPoint p fun r => { r with place := .free }) := .modPoint p s rfl
  generalize (s.modPoint p fun r => { r with place := .free }) = t at free ⊢
  refine free.trans ?_
  split
  next q live =>
    have live : (t.pointRec p).seq.isSome = true := by rw [live]; rfl
    split
    · unfold State.applySeqOutcome
      split
      · exact .endSequence p t _ _
      · exact .putSeq p live _
      all_goals
        split
        · exact .endSequence p t _ _
        · exact .enterRecovering p live _ _
        · exact .endSequence p t _ _
        all_goals exact .refl p t
    · exact .refl p t
  · exact .refl p t

theorem OwnerStep.pointOutcome (s : State) (p : PointNo) (code : Code) (o : CommandOutcome) :
    OwnerStep s (s.pointOutcome p code o) := .of_pointStep (.pointOutcome s p code o) (PointStep.pointOutcome p s code o)

/-! ### Sets -/

theorem OwnerStep.dropUncalled (s : State) (n : SetNo) : OwnerStep s (s.dropUncalled n) := by
  unfold State.dropUncalled
  dsimp only
  split
  · split
    · exact .modSet n s _
    · exact (OwnerStep.withdraw s _).trans (.modSet n _ _)
  all_goals exact .modSet n s _

theorem OwnerStep.changeRun (s : State) (n : SetNo) (run : RunState) (why : StateReason) (attempts : Option Nat) :
    OwnerStep s (s.changeRun n run why attempts) := by
  rw [changeRun_eq]
  have set : OwnerStep s (runSet s n run) := (OwnerStep.modSet n s _).trans (.dropUncalled _ n)
  exact (set.trans (.raise _ _)).trans (.tellSequencers _ n)

theorem OwnerStep.tryEnqueueSet (s : State) (n : SetNo) : OwnerStep s (s.tryEnqueueSet n) := by
  unfold State.tryEnqueueSet
  dsimp only
  split
  · split
    · exact (OwnerStep.modSet n s _).trans (.changeRun _ n _ _ _)
    · split
      · exact .refl s
      · split
        · exact .refl s
        next h => exact (OwnerStep.enqueue h (by nofun)).trans (.modSet n _ _)
  · exact .refl s

theorem OwnerStep.makeDue (s : State) (n : SetNo) (code : Code) : OwnerStep s (s.makeDue n code) :=
  (OwnerStep.modSet n s _).trans (.tryEnqueueSet _ n)

theorem OwnerStep.endAttempt (s : State) (n : SetNo) : OwnerStep s (s.endAttempt n) := by
  unfold State.endAttempt
  split
  · split
    · exact .changeRun s n _ _ _
    · split
      · exact (OwnerStep.modSet n s _).trans (.makeDue _ n _)
      · exact .changeRun s n _ _ _
  · exact .refl s

theorem OwnerStep.setOutcome (s : State) (n : SetNo) (code : Code) (o : CommandOutcome) :
    OwnerStep s (s.setOutcome n code o) := by
  unfold State.setOutcome
  dsimp only
  have free : OwnerStep s (s.modSet n fun r => { r with place := .free }) := .modSet n s _
  generalize (s.modSet n fun r => { r with place := .free }) = t at free ⊢
  refine free.trans ?_
  split
  · exact .refl t
  · split
    · unfold State.startOutcome
      split
      · exact .modSet n t _
      · exact .endAttempt t n
      · exact .endAttempt t n
      · exact .endAttempt t n
      · exact .modSet n t _
    · unfold State.stopOutcome
      split
      · exact .refl t
      · exact .changeRun t n _ _ _
      · exact .changeRun t n _ _ _
      · exact .changeRun t n _ _ _
      · exact .modSet n t _

theorem OwnerStep.setMark (s : State) (n : SetNo) (mark : Bool) : OwnerStep s (s.setMark n mark) := by
  unfold State.setMark
  split
  · exact .refl s
  · exact (OwnerStep.modSet n s _).trans (.tellSequencers _ n)

theorem OwnerStep.clearMark (s : State) (n : SetNo) : OwnerStep s (s.clearMark n) := by
  unfold State.clearMark
  split
  · exact (OwnerStep.setMark s n false).trans (.tryEnqueueSet _ n)
  · exact .refl s

theorem OwnerStep.refreshMark (s : State) (n : SetNo) : OwnerStep s (s.refreshMark n) := by
  unfold State.refreshMark
  dsimp only
  split
  · exact .setMark s n true
  · exact .clearMark s n

/-! ### Meters -/

theorem OwnerStep.endSession (s : State) (m : MeterNo) (d : SessionEnd) : OwnerStep s (s.endSession m d) := by
  have gone (tanks : Vector Tank 8) (sets : Vector SetRec 8) (meters : Vector MeterRec 2) (x : Session) :
      OwnerStep s { s.withdraw (.fuel m) with meters, tanks, sets, port := s.port.raise false (endedBody m x d) } :=
    ⟨rfl, rfl, rfl, rfl, rfl, rfl, rfl, rfl, rfl, rfl, rfl, (OwnerStep.raise s (endedBody m x d)).port, rfl, rfl,
      fun _ h => .inl (mem_withdrawn h).1, (OwnerStep.raise s (endedBody m x d)).unlimited⟩
  cases session : (s.meter m).session with
  | none =>
    unfold State.endSession
    rw [session]
    exact .refl s
  | some x =>
    by_cases plain : x.phase = .granting ∨ d.result = .complete
    · rw [endSession_plain session plain]
      exact gone _ s.sets _ _
    · rw [not_or] at plain
      rw [endSession_live session plain.1 plain.2]
      exact gone _ _ _ _

theorem OwnerStep.tryEnqueueMeter (s : State) (m : MeterNo) : OwnerStep s (s.tryEnqueueMeter m) := by
  rcases tryEnqueueMeter_spec s m with same | ⟨a, -, queued⟩
  · rw [same]
    exact .refl s
  · rw [queued]
    refine ⟨rfl, rfl, rfl, rfl, rfl, rfl, rfl, rfl, rfl, rfl, rfl, rfl, rfl, rfl, fun c hc => ?_, fun _ h => .inl h⟩
    rcases List.mem_append.mp hc with old | new
    · exact .inl old
    · rw [List.mem_singleton.mp new]
      exact .inr (by nofun)

theorem OwnerStep.meterOutcome (s : State) (m : MeterNo) (code : Code) (o : CommandOutcome) :
    OwnerStep s (s.meterOutcome m code o) := by
  unfold State.meterOutcome
  dsimp only
  have free : OwnerStep s (s.modMeter m fun r => { r with place := .free }) := .modMeter m s _
  generalize (s.modMeter m fun r => { r with place := .free }) = t at free ⊢
  refine free.trans ?_
  split
  · exact .refl t
  · split
    · split
      · unfold State.permitOutcome
        split
        · exact .modMeter m t _
        · exact .endSession t m _
        · split
          · exact .endSession t m _
          · exact .endSession t m _
        · exact .endSession t m _
        · exact .endSession t m _
      · exact .refl t
    · split
      · unfold State.revokeOutcome
        split
        · exact .endSession t m _
        all_goals exact .endSession t m _
      · exact .refl t
    · exact .refl t

/-! ### Outcomes of any origin -/

theorem OwnerStep.giveOutcome (s : State) (c : Command) (o : CommandOutcome) : OwnerStep s (s.giveOutcome c o) := by
  unfold State.giveOutcome
  split
  · exact .raise s _
  · exact .setOutcome s _ _ _
  · exact .pointOutcome s _ _ _
  · exact .meterOutcome s _ _ _

theorem OwnerStep.resume (s : State) (o : Origin) : OwnerStep s (s.resume o) := by
  cases o with
  | office tag => exact .refl s
  | sets n => exact .tryEnqueueSet s n
  | changeover p => exact .tryEnqueuePoint s p
  | fuel m => exact .tryEnqueueMeter s m

theorem OwnerStep.returnOutcome (s : State) (c : Command) (o : CommandOutcome) : OwnerStep s (s.returnOutcome c o) :=
  (OwnerStep.giveOutcome s c o).trans (.resume _ _)

theorem returnOutcome_office {c : Command} {tag : Byte} (origin : c.origin = .office tag) (s : State) (o : CommandOutcome) :
    s.returnOutcome c o = s.raise (.commandResult tag c.target c.code o s.engine.cycleNo) := by
  unfold State.returnOutcome State.giveOutcome
  rw [origin]
  rfl

end

end Sys2Proof.OwnerSteps
end

section
/-! SUPPORT. LOAD UNIT: its refusals in their order, and what a load that passes writes (R1 to R4, R28, R31, R36, R89). -/

namespace Sys2Proof.UnitLoading

open Sys2Proof Sys2Proof.Machine Sys2Proof.Stated Sys2Proof.ClearFlags Sys2Proof.Loads Sys2Proof.StopAndClear
open Sys2Proof.SetLoading Sys2Proof.OwnerSteps Sys2Proof.PointLoading Sys2Proof.Closing Sys2Proof.Reads

/-! ### The entry that a load reads (R3) -/

theorem unitEntryOf_eq {u : UnitFields} {kind : UnitKind} {enabled : Bool} {poll : PollClass} (hkind : u.kind = some kind)
    (henabled : u.enabled = some enabled) (hpoll : u.pollClass = some poll) : unitEntryOf u =
      if u.forwardDivisor ≤ 255 ∧ 1 ≤ u.owner ∧ u.owner ≤ owners kind then
        some ⟨kind, enabled, poll, u.forwardDivisor, u.owner⟩
      else none := by
  unfold unitEntryOf
  rw [hkind, henabled, hpoll]
  cases kind <;> rfl

theorem unitEntryOf_none {u : UnitFields} (h : u.kind = none ∨ u.enabled = none ∨ u.pollClass = none ∨ u.owner = 0 ∨
    ∃ k, u.kind = some k ∧ owners k < u.owner) : unitEntryOf u = none := by
  cases hkind : u.kind with
  | none => simp [unitEntryOf, hkind]
  | some kind =>
    cases henabled : u.enabled with
    | none => simp [unitEntryOf, henabled]
    | some enabled =>
      cases hpoll : u.pollClass with
      | none => simp [unitEntryOf, hpoll]
      | some poll =>
        rw [hkind, henabled, hpoll] at h
        simp only [reduceCtorEq, Option.some.injEq, exists_eq_left', false_or] at h
        rw [unitEntryOf_eq hkind henabled hpoll]
        exact if_neg (by omega)

theorem unitEntryOf_fields {e : UnitEntry} (divisor : e.forwardDivisor ≤ 255) (low : 1 ≤ e.owner) (high : e.owner ≤ owners e.kind) :
    unitEntryOf ⟨some e.kind, some e.enabled, some e.pollClass, e.forwardDivisor, e.owner⟩ = some e :=
  (unitEntryOf_eq rfl rfl rfl).trans (if_pos ⟨divisor, low, high⟩)

section
variable {s : State} {a : Addr} {form : LoadForm UnitFields} {new : Option UnitEntry}

theorem reqLoadUnit_badIndex {address : Nat} (h : address = 0 ∨ 63 < address) :
    reqLoadUnit address form s = (s, .refuse .badIndex) := by
  simp [reqLoadUnit, numbered_none h]

theorem reqLoadUnit_badValue {u : UnitFields} (h : unitEntryOf u = none) :
    reqLoadUnit (a.val + 1) (.entry u) s = (s, .refuse .badValue) := by
  simp [reqLoadUnit, h]

theorem reqLoadUnit_repeat (reads : Reads unitEntryOf form new) (h : new = s.unitEntry a) :
    reqLoadUnit (a.val + 1) form s = (s, ⟨.ok, .unitEntry new⟩) := by
  cases reads with
  | clear => simp [reqLoadUnit, h, Reply.okWith]
  | entry reads => simp [reqLoadUnit, reads, ← h, Reply.okWith]

theorem reqLoadUnit_refused (reads : Reads unitEntryOf form new) (h : new ≠ s.unitEntry a) {code : ResultCode}
    (refusal : s.unitRefusal a new = some code) : reqLoadUnit (a.val + 1) form s = (s, .refuse code) := by
  cases reads with
  | clear => simp [reqLoadUnit, h, refusal]
  | entry reads => simp [reqLoadUnit, reads, h, refusal]

theorem reqLoadUnit_stored (reads : Reads unitEntryOf form new) (h : new ≠ s.unitEntry a) (refusal : s.unitRefusal a new = none) :
    reqLoadUnit (a.val + 1) form s = (s.storeUnit a new, ⟨.ok, .unitEntry new⟩) := by
  cases reads with
  | clear => simp [reqLoadUnit, h, refusal, Reply.okWith]
  | entry reads => simp [reqLoadUnit, reads, h, refusal, Reply.okWith]

/-! ### The checks (R1, R3, R4) -/

theorem unitBusy_iff {e : UnitEntry} : s.unitBusy e = true ↔ OwnerBusy s e := by
  unfold State.unitBusy OwnerBusy
  cases kind : e.kind with
  | set => simp [Option.any_eq_true, numbered_eq_some, inFlight_iff]
  | board => simp
  | change => simp [Option.any_eq_true, numbered_eq_some, Option.isSome_iff_ne_none]
  | fuel => simp [Option.any_eq_true, numbered_eq_some, Option.isSome_iff_ne_none]

theorem boardNamed_iff : s.tables.boardNamed a = true ↔ ∃ f x, s.feederEntry f = some x ∧ x.board = a := by
  simp [Tables.boardNamed, Option.any_eq_true, mem_allFeeders, State.feederEntry]

theorem changeNamed_iff : s.tables.changeNamed a = true ↔ ∃ p x y, s.switched p = some (a, x, y) := by
  simp only [Tables.changeNamed, List.any_eq_true, mem_allPoints, true_and, Option.any_eq_true, switched_eq_some]
  refine exists_congr fun p => ⟨fun ⟨e, loaded, named⟩ => ?_, fun ⟨x, y, e, loaded, source⟩ => ⟨e, loaded, ?_⟩⟩
  · split at named
    next u x y source =>
      obtain rfl := of_decide_eq_true named
      exact ⟨x, y, e, loaded, source⟩
    · cases named
  · simp [source]

theorem setNamed_iff (test : SetEntry → Bool) : (allSets.any fun n => s.tables.sets[n].any test) = true ↔
    ∃ n x, s.setEntry n = some x ∧ test x = true := by
  simp [Option.any_eq_true, mem_allSets, State.setEntry]

theorem kindNeeded_iff (kind : UnitKind) : s.tables.kindNeeded a kind = true ↔ KindNamed s a kind := by
  unfold Tables.kindNeeded KindNamed
  cases kind with
  | set => simpa using setNamed_iff fun e => decide (e.unit = a)
  | board => simpa using boardNamed_iff
  | change => simpa using changeNamed_iff
  | fuel => simp

theorem unitNeeded_iff (kind : UnitKind) : s.tables.unitNeeded a kind = true ↔ KindNamed s a kind ∧
    (kind = .set → ∃ n x, s.setEntry n = some x ∧ x.enabled = true ∧ x.unit = a) := by
  unfold Tables.unitNeeded
  cases kind with
  | set =>
    refine (setNamed_iff fun e => e.enabled && decide (e.unit = a)).trans ?_
    simp only [Bool.and_eq_true, decide_eq_true_eq, KindNamed, true_and, true_implies, reduceCtorEq, false_and, or_false,
      false_or]
    exact ⟨fun ⟨n, x, loaded, h⟩ => ⟨⟨n, x, loaded, h.2⟩, n, x, loaded, h⟩, fun h => h.2⟩
  | board => simpa [KindNamed] using boardNamed_iff
  | change => simpa [KindNamed] using changeNamed_iff
  | fuel => simp [KindNamed]

theorem enabledUnit_iff {o : Option UnitEntry} : o.any UnitEntry.enabled = true ↔ ∃ e, o = some e ∧ e.enabled = true := by
  simp [Option.any_eq_true]

theorem enabledUnit_eq_false {o : Option UnitEntry} :
    o.any UnitEntry.enabled = false ↔ ∀ e, o = some e → e.enabled = false := by
  rw [← Bool.not_eq_true, enabledUnit_iff]
  simp

/-- The live site needs the unit as it was (R4). -/
theorem needed_iff : (s.site.live && !new.any UnitEntry.enabled &&
      (s.unitEntry a).any fun e => e.enabled && s.tables.unitNeeded a e.kind) = true ↔
    s.site.live = true ∧ (∀ e, new = some e → e.enabled = false) ∧
      ∃ o, s.unitEntry a = some o ∧ o.enabled = true ∧ ∃ k, o.kind = k ∧
        (KindNamed s a k ∧ (k = .set → ∃ n x, s.setEntry n = some x ∧ x.enabled = true ∧ x.unit = a)) := by
  rw [Bool.and_eq_true, Bool.and_eq_true, Bool.not_eq_true', enabledUnit_eq_false, Option.any_eq_true, and_assoc]
  refine and_congr_right fun _ => and_congr_right fun _ => exists_congr fun o => and_congr_right fun _ => ?_
  rw [Bool.and_eq_true, unitNeeded_iff]
  simp

theorem kindClash_iff : s.kindClash a new = true ↔
    ∃ o e, s.unitEntry a = some o ∧ new = some e ∧ o.kind ≠ e.kind ∧ KindNamed s a o.kind := by
  unfold State.kindClash
  split
  next o e old =>
    rw [Bool.and_eq_true, decide_eq_true_iff, kindNeeded_iff, old]
    simp
  next none =>
    refine ⟨nofun, fun ⟨o, e, old, loaded, _⟩ => absurd loaded (none o e old)⟩

theorem clash_iff : (!(s.putUnitEntry a new).tables.slotsFit || s.kindClash a new) = true ↔
    (s.putUnitEntry a new).tables.slotsFit = false ∨
      ∃ o e, s.unitEntry a = some o ∧ new = some e ∧ o.kind ≠ e.kind ∧ KindNamed s a o.kind := by
  rw [Bool.or_eq_true, Bool.not_eq_true', kindClash_iff]

end

/-! ### A unit heard of afresh (R4, R28, R89) -/

section
variable {s t : State} {a : Addr} {n k : SetNo}

theorem clearMark_mark (s : State) (n : SetNo) : ((s.clearMark n).setRec n).unreachable = false := by
  unfold State.clearMark
  split
  · obtain ⟨-, mark, -⟩ := (RunFrame.tryEnqueueSet n (s.setMark n false)).figures
    exact mark.trans (setMark_mark s n false)
  next clear => exact Bool.eq_false_iff.mpr clear

theorem mark_of_reserved {x y : SetRec} (h : { x with reservations := [] } = { y with reservations := [] }) :
    x.unreachable = y.unreachable := (congrArg SetRec.unreachable h :)

theorem refreshMark_other (s : State) (h : k ≠ n) :
    ((s.refreshMark n).setRec k).unreachable = (s.setRec k).unreachable :=
  mark_of_reserved ((SetWork.refreshMark n s).others k h)

/-- The mark of a set whose unit is not LOST goes (R89). -/
theorem refreshMark_reachable (h : unitLost s n = false) : s.refreshMark n = s.clearMark n := by
  rw [unitLost] at h
  unfold State.refreshMark
  rw [h]
  rfl

/-- The marks of sets whose units are not LOST go, in a walk over them; no mark is set. -/
theorem marksRefreshed (xs : List SetNo) (s : State) (heard : ∀ n ∈ xs, unitLost s n = false)
    (k : SetNo) (h : k ∈ xs ∨ (s.setRec k).unreachable = false) :
    ((forEach xs (fun n s => s.refreshMark n) s).setRec k).unreachable = false := by
  induction xs generalizing s with
  | nil => exact h.resolve_left List.not_mem_nil
  | cons n xs ih =>
    rw [forEach_cons]
    have step := OwnerStep.refreshMark s n
    have links : (s.refreshMark n).engine.links = s.engine.links := (congrArg Engine.links step.engine :)
    have lost (i : SetNo) : unitLost (s.refreshMark n) i = unitLost s i := by
      rw [unitLost, unitLost, State.setEntry, step.tables]
      exact congrArg (fun links => (s.setEntry i).any fun e => (links[e.unit] : LinkRec).state = some .lost) links
    refine ih _ (fun i hi => (lost i).trans (heard i (List.mem_cons_of_mem n hi))) ?_
    by_cases same : k = n
    · subst same
      refine .inr ?_
      rw [refreshMark_reachable (heard k List.mem_cons_self)]
      exact clearMark_mark s k
    · rcases h with mem | clear
      · exact .inl ((List.mem_cons.mp mem).resolve_left same)
      · exact .inr ((refreshMark_other s same).trans clear)

theorem mem_setsNaming : n ∈ s.setsNaming a ↔ ∃ x, s.setEntry n = some x ∧ x.unit = a := by
  simp [State.setsNaming, mem_allSets, Option.any_eq_true]

/-- The state in which a unit's link has taken a value. -/
theorem modLink_link (s : State) (a : Addr) (f : LinkRec → LinkRec) : (s.modLink a f).link a = f (s.link a) :=
  State.modLink_read s a f

theorem link_of_ownerStep (h : OwnerStep s t) (k : Addr) : t.link k = s.link k := by
  have links : t.engine.links = s.engine.links := (congrArg Engine.links h.engine :)
  rw [State.link, links]
  rfl

/-- The unit is ABSENT with no misses, and what follows of it is the owners' work (R28, R89). -/
theorem unitAbsent_step (s : State) (a : Addr) :
    OwnerStep (s.modLink a fun l => { l with state := some .absent, misses := 0 }) (s.unitAbsent a) :=
  .forEach _ (fun n _ u => .refreshMark u n) _

theorem unitAbsent_marks (s : State) (a : Addr) {x : SetEntry} (entry : s.setEntry n = some x) (unit : x.unit = a) :
    ((s.unitAbsent a).setRec n).unreachable = false := by
  refine marksRefreshed _ _ (fun k hk => ?_) n (.inl (mem_setsNaming.mpr ⟨x, entry, unit⟩))
  obtain ⟨y, loaded, rfl⟩ := mem_setsNaming.mp hk
  rw [unitLost, loaded, Option.any_some, modLink_link]
  rfl

end

/-! ### A unit that goes (R4, R36) -/

section
variable {s t : State} {a : Addr}

/-- The command outstanding at a unit that goes can no longer be answered (R36). -/
def orphaned (a : Addr) (q : Outstanding) : Outstanding := { q with orphan := q.orphan || q.command.target = a }

/-- The state of a unit that goes before the outcomes of its queued commands (R4, R36). -/
def unitDropped (s : State) (a : Addr) : State :=
  ((s.modLink a fun l => { l with state := none }).putQueue (s.engine.queue.filter fun c => c.target ≠ a)).putOutstanding
    (s.engine.outstanding.map (orphaned a))

/-- The queued commands of a unit. -/
def queuedFor (s : State) (a : Addr) : List Command := s.engine.queue.filter fun c => c.target = a

theorem unitGone_eq (s : State) (a : Addr) :
    s.unitGone a = forEach (queuedFor s a) (fun c s => s.returnOutcome c .unitLost) (unitDropped s a) := rfl

theorem unitGone_step (s : State) (a : Addr) : OwnerStep (unitDropped s a) (s.unitGone a) :=
  .forEach _ (fun c _ u => .returnOutcome u c .unitLost) _

/-- Outcomes that return to the office are its COMMAND RESULT notices, one for each command (R190). -/
theorem officeOutcomes (o : CommandOutcome) (xs : List Command) (s : State) (office : ∀ c ∈ xs, c.isOffice = true) :
    ∃ bodies : List NoticeBody, bodies.length = xs.length ∧
      (forEach xs (fun c s => s.returnOutcome c o) s).port = raisedAll s.port bodies ∧
      ∀ c ∈ xs, ∀ tag, c.origin = .office tag → .commandResult tag c.target c.code o s.engine.cycleNo ∈ bodies := by
  induction xs generalizing s with
  | nil => exact ⟨[], rfl, rfl, nofun⟩
  | cons c xs ih =>
    obtain ⟨tag, origin⟩ : ∃ tag, c.origin = .office tag := by
      have h := office c List.mem_cons_self
      unfold Command.isOffice at h
      split at h
      next tag origin => exact ⟨tag, origin⟩
      all_goals cases h
    rw [forEach_cons, returnOutcome_office origin]
    obtain ⟨bodies, length, port, mem⟩ := ih (s.raise _) fun c hc => office c (List.mem_cons_of_mem _ hc)
    refine ⟨.commandResult tag c.target c.code o s.engine.cycleNo :: bodies, by simp [length], port, ?_⟩
    rintro d hd other sent
    rcases List.mem_cons.mp hd with rfl | hd
    · obtain rfl : tag = other := Origin.office.inj (origin.symm.trans sent)
      exact List.mem_cons_self
    · exact List.mem_cons_of_mem _ (mem d hd other sent)

/-- A unit that goes leaves no command of the office to it in the queue (R4). -/
theorem unitGone_queue {c : Command} (h : c ∈ (s.unitGone a).engine.queue) (target : c.target = a) (tag : Byte) :
    c.origin ≠ .office tag := by
  rcases (unitGone_step s a).queue c h with kept | internal
  · have mem : c ∈ s.engine.queue.filter fun c => c.target ≠ a := kept
    exact absurd target (of_decide_eq_true (List.mem_filter.mp mem).2)
  · exact internal tag

theorem unitGone_told (few : s.engine.queue.length ≤ 24)
    (office : ∀ c ∈ s.engine.queue, c.target = a → c.isOffice = true) {c : Command} (mem : c ∈ s.engine.queue)
    (target : c.target = a) {tag : Byte} (origin : c.origin = .office tag) :
    Told s (s.unitGone a) (.commandResult tag a c.code .unitLost s.engine.cycleNo) := by
  have own (c : Command) (hc : c ∈ queuedFor s a) : c ∈ s.engine.queue ∧ c.target = a := by
    obtain ⟨queued, at_⟩ := List.mem_filter.mp hc
    exact ⟨queued, of_decide_eq_true at_⟩
  obtain ⟨bodies, length, port, told⟩ := officeOutcomes .unitLost (queuedFor s a) (unitDropped s a)
    fun c hc => office c (own c hc).1 (own c hc).2
  have length_le : (queuedFor s a).length ≤ s.engine.queue.length := List.length_filter_le _ _
  refine told_of_raisedAll (congrArg Port.notices port) (by omega) ?_
  rw [← target]
  exact told c (List.mem_filter.mpr ⟨mem, decide_eq_true target⟩) tag origin

/-! ### What a load writes (R4) -/

/-- What the owners' work after a change of the unit's link leaves alone, in the words of a load. -/
theorem loadFrame_of_ownerStep {u : State} (entered : LoadFrame s u) (h : OwnerStep u t) : LoadFrame s t :=
  loadFrame_trans entered
    ⟨h.site, h.ten, h.tariff, h.billing, h.tickets, h.limitFlags, h.unattributed,
      ⟨(congrArg Engine.running h.engine :), (congrArg Engine.cycleNo h.engine :), (congrArg Engine.pollPointer h.engine :),
        (congrArg Engine.slots h.engine :)⟩, h.pending⟩

/-- The state in which the work of a load starts: the entry stored, and the link and the command queue as the load makes them. -/
structure Begun (s : State) (a : Addr) (new : Option UnitEntry) (u : State) : Prop where
  tables : u.tables = { s.tables with units := s.tables.units.set a new }
  frame : LoadFrame s u
  feeders : u.feeders = s.feeders
  schedule : u.schedule = s.schedule
  links : ∀ k, k ≠ a → u.link k = s.link k

theorem begun_stored (s : State) (a : Addr) (new : Option UnitEntry) : Begun s a new (s.putUnitEntry a new) :=
  ⟨rfl, ⟨rfl, rfl, rfl, rfl, rfl, rfl, rfl, ⟨rfl, rfl, rfl, rfl⟩, rfl⟩, rfl, rfl, fun _ _ => rfl⟩

theorem Begun.modLink {u : State} {new : Option UnitEntry} (h : Begun s a new u) (f : LinkRec → LinkRec) :
    Begun s a new (u.modLink a f) :=
  ⟨h.tables, loadFrame_trans h.frame ⟨rfl, rfl, rfl, rfl, rfl, rfl, rfl, ⟨rfl, rfl, rfl, rfl⟩, rfl⟩, h.feeders, h.schedule,
    fun k hk => (State.modLink_other u a f hk).trans (h.links k hk)⟩

theorem Begun.unitDropped {u : State} {new : Option UnitEntry} (h : Begun s a new u) : Begun s a new (unitDropped u a) :=
  have linked := h.modLink fun l => { l with state := none }
  ⟨linked.tables, loadFrame_trans linked.frame ⟨rfl, rfl, rfl, rfl, rfl, rfl, rfl, ⟨rfl, rfl, rfl, rfl⟩, rfl⟩, linked.feeders,
    linked.schedule, linked.links⟩

theorem Begun.ownerStep {u : State} {new : Option UnitEntry} (h : Begun s a new u) (step : OwnerStep u t) : Begun s a new t :=
  ⟨step.tables.trans h.tables, loadFrame_of_ownerStep h.frame step, step.feeders.trans h.feeders,
    step.schedule.trans h.schedule, fun k hk => (link_of_ownerStep step k).trans (h.links k hk)⟩

variable {new : Option UnitEntry}

theorem storeUnit_enabled (was : (s.unitEntry a).any UnitEntry.enabled = false) (now : new.any UnitEntry.enabled = true) :
    s.storeUnit a new = ((s.putUnitEntry a new).modLink a fun l => { l with forward := 0 }).unitAbsent a := by
  unfold State.storeUnit
  dsimp only
  rw [was, now]

theorem storeUnit_gone (was : ∃ o, s.unitEntry a = some o ∧ (o.enabled = true ∨ new = none))
    (now : ∀ e, new = some e → e.enabled = false) : s.storeUnit a new = (s.putUnitEntry a new).unitGone a := by
  obtain ⟨o, old, goes⟩ := was
  have off := enabledUnit_eq_false.mpr now
  unfold State.storeUnit
  dsimp only
  cases on : o.enabled with
  | true => rw [old, off, Option.any_some, on]
  | false =>
    obtain rfl := goes.resolve_left (by rw [on]; nofun)
    rw [old, off, Option.any_some, on]
    rfl

theorem storeUnit_otherKind {o e : UnitEntry} (old : s.unitEntry a = some o) (was : o.enabled = true) (now : e.enabled = true)
    (kind : o.kind ≠ e.kind) : s.storeUnit a (some e) = (s.putUnitEntry a (some e)).unitAbsent a := by
  unfold State.storeUnit
  dsimp only
  rw [old, Option.any_some, Option.any_some, was, now]
  exact if_neg fun same => kind (Option.some.inj same)

theorem storeUnit_kept {o e : UnitEntry} (old : s.unitEntry a = some o) (enabled : o.enabled = e.enabled)
    (kind : o.kind = e.kind) : s.storeUnit a (some e) = s.putUnitEntry a (some e) := by
  unfold State.storeUnit
  dsimp only
  rw [old, Option.any_some, Option.any_some, enabled]
  cases e.enabled with
  | true => exact if_pos (congrArg some kind)
  | false => rfl

theorem begun_storeUnit (s : State) (a : Addr) (new : Option UnitEntry) : Begun s a new (s.storeUnit a new) := by
  have stored := begun_stored s a new
  unfold State.storeUnit
  dsimp only
  split
  · exact ((stored.modLink _).modLink _).ownerStep (unitAbsent_step _ a)
  · exact stored.unitDropped.ownerStep (unitGone_step _ a)
  · split
    · exact stored
    · exact (stored.modLink _).ownerStep (unitAbsent_step _ a)
  · split
    · exact stored.unitDropped.ownerStep (unitGone_step _ a)
    · exact stored

theorem unitAbsent_link (s : State) (a : Addr) :
    (s.unitAbsent a).link a = { s.link a with state := some .absent, misses := 0 } :=
  (link_of_ownerStep (unitAbsent_step s a) a).trans (modLink_link s a _)

theorem unitGone_link (s : State) (a : Addr) : (s.unitGone a).link a = { s.link a with state := none } :=
  (link_of_ownerStep (unitGone_step s a) a).trans (modLink_link s a fun l => { l with state := none })

theorem unitGone_outstanding (s : State) (a : Addr) :
    (s.unitGone a).engine.outstanding = s.engine.outstanding.map (orphaned a) :=
  (congrArg Engine.outstanding (unitGone_step s a).engine :)

end

/-- Settles O41: each refusal by its check, and what a load that passes writes, by what it makes of the unit. -/
theorem loadUnit : Obligations.LoadUnit := by
  intro tag s calm
  refine ⟨fun address form h => exec_request_calm calm rfl (reqLoadUnit_badIndex h),
    fun a u h => exec_request_calm calm rfl (reqLoadUnit_badValue (unitEntryOf_none h)), fun a form new h => ?_⟩
  intro old frozen busy needed clash
  have reads : Reads unitEntryOf form new := by
    rcases h with ⟨rfl, rfl⟩ | ⟨e, rfl, divisor, low, high, rfl⟩
    · exact .clear
    · exact .entry (unitEntryOf_fields divisor low high)
  have thaws (thawed : s.site.live = false ∨ frozen) : (s.site.live &&
      decide (((s.unitEntry a).map fun e => (e.kind, e.owner)) ≠ new.map fun e => (e.kind, e.owner))) = false := by
    rcases thawed with live | same
    · rw [live, Bool.false_and]
    · rw [show ((s.unitEntry a).map fun e => (e.kind, e.owner)) = new.map fun e => (e.kind, e.owner) from same]
      simp
  have busy_iff : (s.unitEntry a).any s.unitBusy = true ↔ busy := by
    rw [Option.any_eq_true]
    exact exists_congr fun o => and_congr_right fun _ => unitBusy_iff
  have clear {b : Bool} {q : Prop} (iff : b = true ↔ q) (h : ¬ q) : b = false := Bool.eq_false_iff.mpr fun e => h (iff.mp e)
  refine ⟨fun same => ?_, fun differs live changed => ?_, fun differs thawed inUse => ?_,
    fun differs thawed idle wanted => ?_, fun differs thawed idle free clashes => ?_,
    fun differs thawed idle free fits => ?_⟩
  · exact exec_request_calm calm rfl (reqLoadUnit_repeat reads same)
  · refine exec_request_calm calm rfl (reqLoadUnit_refused reads differs ?_)
    unfold State.unitRefusal
    dsimp only
    rw [live, decide_eq_true (show ((s.unitEntry a).map fun e => (e.kind, e.owner)) ≠
      new.map fun e => (e.kind, e.owner) from changed)]
    rfl
  · refine exec_request_calm calm rfl (reqLoadUnit_refused reads differs ?_)
    unfold State.unitRefusal
    dsimp only
    rw [thaws thawed, busy_iff.mpr inUse]
    rfl
  · refine exec_request_calm calm rfl (reqLoadUnit_refused reads differs ?_)
    unfold State.unitRefusal
    dsimp only
    rw [thaws thawed, clear busy_iff idle, needed_iff.mpr wanted]
    rfl
  · refine exec_request_calm calm rfl (reqLoadUnit_refused reads differs ?_)
    unfold State.unitRefusal
    dsimp only
    rw [thaws thawed, clear busy_iff idle, clear needed_iff free, clash_iff.mpr clashes]
    rfl
  · have passes : s.unitRefusal a new = none := by
      unfold State.unitRefusal
      dsimp only
      rw [thaws thawed, clear busy_iff idle, clear needed_iff free, clear clash_iff fits]
      rfl
    have begun := begun_storeUnit s a new
    refine ⟨_, exec_request_calm calm rfl (reqLoadUnit_stored reads differs passes), rfl, begun.tables, ?_, begun.feeders,
      begun.schedule, begun.links, fun was now => ?_, fun was now => ?_, ?_, ?_⟩
    · exact ⟨begun.frame.site, begun.frame.ten, begun.frame.tariff, begun.frame.billing, begun.frame.tickets,
        begun.frame.limitFlags, begun.frame.unattributed, begun.frame.cycle, begun.frame.pending⟩
    · rw [storeUnit_enabled (enabledUnit_eq_false.mpr was) (enabledUnit_iff.mpr now)]
      refine ⟨(unitAbsent_link _ a).trans (by rw [modLink_link]; rfl), fun n x entry _ unit => ?_⟩
      exact unitAbsent_marks ((s.putUnitEntry a new).modLink a fun l => { l with forward := 0 }) a entry unit
    · rw [storeUnit_gone was now]
      refine ⟨unitGone_link _ a, fun c hc target => unitGone_queue hc target, fun few office c mem target tag origin => ?_,
        fun q sent target => ?_⟩
      · exact unitGone_told (s := s.putUnitEntry a new) few office mem target origin
      · refine (unitGone_outstanding (s.putUnitEntry a new) a).trans ?_
        rw [show (s.putUnitEntry a new).engine.outstanding = some q from sent, Option.map_some, orphaned, decide_eq_true target,
          Bool.or_true]
    · rintro ⟨o, e, was, rfl, on, on', kind⟩
      rw [storeUnit_otherKind was on on' kind]
      exact unitAbsent_link _ a
    · rintro ⟨o, e, was, rfl, enabled, kind⟩
      rw [storeUnit_kept was enabled kind]
      rfl

end Sys2Proof.UnitLoading
end

section
/-! SUPPORT. START made due, and the entry into STARTING (R78, R80, R81); SET START, by the state of the set (R80). -/

namespace Sys2Proof.Starting

open Sys2Proof Sys2Proof.Machine Sys2Proof.Stated Sys2Proof.ClearFlags Sys2Proof.StopAndClear Sys2Proof.Sequencing
open Sys2Proof.SetLoading

/-! ### A due command goes to the queue where it can (R78) -/

/-- The state with a due command of a set queued to its unit (R32, R78). -/
def commandQueued (s : State) (n : SetNo) (unit : Addr) (code : Code) : State :=
  { s with engine := { s.engine with queue := s.engine.queue ++ [(⟨unit, code, [], .sets n⟩ : Command)] } }.modSet n fun r =>
    { r with place := .queued code, due := none }

theorem commandQueued_read (s : State) (n : SetNo) (unit : Addr) (code : Code) :
    (commandQueued s n unit code).setRec n = { s.setRec n with place := .queued code, due := none } :=
  State.modSet_read _ n _

section
variable {s t : State} {n : SetNo} {code : Code}

/-- A due command that does not find its set in service stays due, or joins the queue. -/
theorem tryEnqueueSet_due (due : (s.setRec n).due = some code) (h : code = .stop → s.inService n = false) :
    s.tryEnqueueSet n = s ∨ ∃ e, s.setEntry n = some e ∧ (s.setRec n).place = .free ∧
      s.tryEnqueueSet n = commandQueued s n e.unit code := by
  unfold State.tryEnqueueSet
  dsimp only
  split
  next other hdue place _ =>
    obtain rfl : other = code := Option.some.inj (hdue.symm.trans due)
    have serves : (decide (other = .stop) && s.inService n) = false := by
      by_cases stop : other = .stop
      · rw [h stop, Bool.and_false]
      · rw [decide_eq_false stop, Bool.false_and]
    rw [serves, if_neg Bool.false_ne_true]
    split
    · exact .inl rfl
    next e entry =>
      split
      · exact .inl rfl
      next enqueued =>
        obtain ⟨-, -, -, rfl⟩ := State.enqueue_eq_some.mp enqueued
        exact .inr ⟨e, entry, place, rfl⟩
  · exact .inl rfl

/-- START is due, or queued to the set's unit (R78). -/
def StartAsked (s : State) (n : SetNo) : Prop :=
  (s.setRec n).due = some .start ∨ ((s.setRec n).place = .queued .start ∧
    ∀ e, s.setEntry n = some e → ⟨e.unit, .start, [], .sets n⟩ ∈ s.engine.queue)

/-- What making START due leaves of its set, and that it tells nothing. -/
structure StartDue (s t : State) (n : SetNo) : Prop where
  run : (t.setRec n).run = (s.setRec n).run
  hire : (t.setRec n).hire = (s.setRec n).hire
  reservations : (t.setRec n).reservations = (s.setRec n).reservations
  port : t.port = s.port
  points : t.points = s.points
  asked : StartAsked t n

theorem makeDue_start (s : State) (n : SetNo) : StartDue s (s.makeDue n .start) n := by
  have read : (s.modSet n fun r => { r with due := some .start }).setRec n = { s.setRec n with due := some .start } :=
    State.modSet_read s n _
  have made : s.makeDue n .start = (s.modSet n fun r => { r with due := some .start }).tryEnqueueSet n := rfl
  rw [made]
  have same : StartDue s (s.modSet n fun r => { r with due := some .start }) n :=
    ⟨by rw [read], by rw [read], by rw [read], rfl, rfl, .inl (by rw [read])⟩
  rcases tryEnqueueSet_due (s := s.modSet n fun r => { r with due := some .start }) (n := n) (code := .start)
    (by rw [read]) nofun with stays | ⟨e, entry, -, queued⟩
  · rw [stays]
    exact same
  · have record := commandQueued_read (s.modSet n fun r => { r with due := some .start }) n e.unit .start
    rw [read] at record
    rw [queued]
    refine ⟨by rw [record], by rw [record], by rw [record], rfl, rfl, .inr ⟨by rw [record], fun x loaded => ?_⟩⟩
    obtain rfl : e = x := Option.some.inj (entry.symm.trans loaded)
    exact List.mem_append_right _ (List.mem_singleton_self _)

/-- A set enters STARTING with attempt 1 and START asked for, and is told so (R76, R80, R81). -/
theorem enterStarting_spec (s : State) (n : SetNo) (why : StateReason) :
    ((s.enterStarting n why).setRec n).run =
        .starting 1 (((s.setEntry n).map SetEntry.crankAttempts).getD 0) none false ∧
      ((s.enterStarting n why).setRec n).hire = (s.setRec n).hire ∧ StartAsked (s.enterStarting n why) n ∧
      Told s (s.enterStarting n why) (.setState n (s.setRec n).run.name .starting why none s.engine.cycleNo) := by
  have entered : s.enterStarting n why =
      (s.changeRun n (.starting 1 (((s.setEntry n).map SetEntry.crankAttempts).getD 0) none false) why).makeDue n .start := rfl
  rw [entered]
  have run := (State.changeRun_run n s (.starting 1 (((s.setEntry n).map SetEntry.crankAttempts).getD 0) none false) why none).1
  have hire := changeRun_hire s n (.starting 1 (((s.setEntry n).map SetEntry.crankAttempts).getD 0) none false) why none
  have due := makeDue_start
    (s.changeRun n (.starting 1 (((s.setEntry n).map SetEntry.crankAttempts).getD 0) none false) why) n
  refine ⟨due.run.trans run, due.hire.trans hire, due.asked, ?_⟩
  exact told_changeRun (.of_port due.port) (by omega)

/-! ### What SET START answers (R80) -/

theorem reqSetStart_badIndex {set : Nat} (h : set = 0 ∨ 8 < set) (s : State) :
    reqSetStart set s = (s, .refuse .badIndex) := by
  rw [reqSetStart, numbered_none h]

theorem reqSetStart_state (h : (s.setRec n).run = .offline ∨ (s.setRec n).run = .unseen ∨ ∃ why, (s.setRec n).run = .fault why) :
    reqSetStart (n.val + 1) s = (s, .refuse .state) := by
  rcases h with run | run | ⟨why, run⟩ <;> simp [reqSetStart, run]

theorem reqSetStart_unreachable (run : (s.setRec n).run = .stopped) (h : (s.setRec n).unreachable = true) :
    reqSetStart (n.val + 1) s = (s, .refuse .unreachable) := by
  simp [reqSetStart, run, h]

theorem reqSetStart_stopped (run : (s.setRec n).run = .stopped) (h : (s.setRec n).unreachable = false) :
    reqSetStart (n.val + 1) s = (s.enterStarting n .office, .ok) := by
  simp [reqSetStart, run, h]

theorem reqSetStart_starting {attempt allowed : Nat} {crank : Option Nat} {mark : Bool}
    (run : (s.setRec n).run = .starting attempt allowed crank mark) : reqSetStart (n.val + 1) s =
      ({ s with sets := s.sets.set n { s.setRec n with run := .starting attempt allowed crank false } }, .ok) := by
  simp [reqSetStart, run, State.modSet, State.putSet, SetRec.clearStopPending]

theorem reqSetStart_running (h : (s.setRec n).run = .online ∨ ∃ c, (s.setRec n).run = .warming c) :
    reqSetStart (n.val + 1) s = (s, .ok) := by
  rcases h with run | ⟨c, run⟩ <;> simp [reqSetStart, run]

theorem reqSetStart_cooling {c : Nat} (run : (s.setRec n).run = .cooling c) :
    reqSetStart (n.val + 1) s = (s.changeRun n .online .office, .ok) := by
  simp [reqSetStart, run]

/-- A STOP is due, queued or sent (R80). -/
theorem stopInHand_iff {r : SetRec} :
    r.stopInHand = true ↔ r.due = some .stop ∨ r.place = .queued .stop ∨ r.place = .sent .stop := by
  simp [SetRec.stopInHand, or_assoc]

theorem reqSetStart_stopping (run : (s.setRec n).run = .stopping) : reqSetStart (n.val + 1) s =
    if (s.setRec n).stopInHand then (s, .refuse .busy) else (s.changeRun n .online .office, .ok) := by
  simp [reqSetStart, run]

/-- SET START of a set that returns to ONLINE (R80). -/
theorem setStart_online (tag : Byte) (calm : Calm s)
    (request : reqSetStart (n.val + 1) s = (s.changeRun n .online .office, .ok)) :
    ∃ t, exec (.setStart tag (n.val + 1)) s = .next t ∧ Answers t tag 23 ⟨.ok, .none⟩ ∧
      (t.setRec n).run = .online ∧ (t.setRec n).hire = (s.setRec n).hire ∧
      Told s t (.setState n (s.setRec n).run.name .online .office none s.engine.cycleNo) ∧ SetFrame s t n := by
  have run := (State.changeRun_run n s .online .office none).1
  have hire := changeRun_hire s n .online .office none
  have told := told_changeRun (s := s) (n := n) (run := .online) (why := .office) (attempts := none)
    (.of_port (t := s.changeRun n .online .office) rfl) (Nat.zero_le _)
  have frame := RunFrame.changeRun n s .online .office none
  generalize s.changeRun n .online .office = t at request run hire told frame
  exact ⟨_, exec_request_calm calm rfl request, rfl, run, hire, told, setFrame_answered frame tag 23 _⟩

end

/-- Settles O47: each command is its request taken at once, and each request answers as said above. -/
theorem setStart : Obligations.SetStart := by
  refine ⟨fun tag set s calm h => exec_request_calm calm rfl (reqSetStart_badIndex h s), fun tag n s calm =>
    ⟨fun h => exec_request_calm calm rfl (reqSetStart_state h),
      fun run h => exec_request_calm calm rfl (reqSetStart_unreachable run h), fun e entry run reach => ?_,
      fun attempt allowed crank mark run => exec_request_calm calm rfl (reqSetStart_starting run),
      fun h => exec_request_calm calm rfl (reqSetStart_running h), fun c run => ?_, fun run asked => ?_, fun run unasked => ?_⟩⟩
  · obtain ⟨starts, hire, asked, told⟩ := enterStarting_spec s n .office
    have request := reqSetStart_stopped run reach
    have frame := RunFrame.enterStarting n s .office
    rw [run] at told
    rw [entry] at starts
    generalize s.enterStarting n .office = t at request starts hire asked told frame
    have loaded : t.setEntry n = some e := by rw [State.setEntry, frame.tables]; exact entry
    refine ⟨_, exec_request_calm calm rfl request, rfl, starts, ?_, hire, told, setFrame_answered frame tag 23 _⟩
    exact asked.imp_right fun ⟨place, queued⟩ => ⟨place, queued e loaded⟩
  · have online := setStart_online tag calm (reqSetStart_cooling run)
    rwa [run] at online
  · refine exec_request_calm calm rfl ((reqSetStart_stopping run).trans (if_pos (stopInHand_iff.mpr asked)))
  · have online := setStart_online tag calm ((reqSetStart_stopping run).trans (if_neg (mt stopInHand_iff.mp unasked)))
    rwa [run] at online

end Sys2Proof.Starting
end

section
/-! SUPPORT. How a sequence ends and how it tries to restore its source (R130, R131, R138), in the words of the statements; and
CANCEL CHANGEOVER, by the state of the sequencer (R140). -/

namespace Sys2Proof.Ending

open Sys2Proof Sys2Proof.Machine Sys2Proof.Stated Sys2Proof.ClearFlags Sys2Proof.StopAndClear Sys2Proof.Sequencing
open Sys2Proof.Sessions Sys2Proof.Reads

section
variable {s t u : State} {p : PointNo} {q y : Sequence} {o : SeqOutcome} {manual : Option ManualPart}

/-! ### What sequencers leave alone -/

theorem sameOutside_of_seqFrame (h : SeqFrame s t) : SameOutside s t :=
  ⟨h.tables, h.site, h.engine, h.feeders, h.limitFlags, h.unattributed, h.tanks, h.meters, h.tickets, h.schedule, h.tariff, h.ten,
    h.billing, h.pending⟩

theorem sameOutside_of_runFrame {n : SetNo} (h : RunFrame n s t) : SameOutside s t :=
  ⟨h.tables, h.site, h.engine, h.feeders, h.limitFlags, h.unattributed, h.tanks, h.meters, h.tickets, h.schedule, h.tariff, h.ten,
    h.billing, h.pending⟩

theorem sameOutside_startTx (h : SameOutside s t) : SameOutside s t.startTx :=
  ⟨h.tables, h.site, h.engine, h.feeders, h.limitFlags, h.unattributed, h.tanks, h.meters, h.tickets, h.schedule, h.tariff, h.ten,
    h.billing, h.pending⟩

theorem sameOutside_answered (h : SameOutside s t) (tag : Byte) (kind : Nat) (reply : Reply) :
    SameOutside s (answered t tag kind reply) :=
  ⟨h.tables, h.site, h.engine, h.feeders, h.limitFlags, h.unattributed, h.tanks, h.meters, h.tickets, h.schedule, h.tariff, h.ten,
    h.billing, h.pending⟩

theorem sameOutside_taken {due : List TimedEvent} (h : SameOutside { s with due } t) : SameOutside s t :=
  ⟨h.tables, h.site, h.engine, h.feeders, h.limitFlags, h.unattributed, h.tanks, h.meters, h.tickets, h.schedule, h.tariff, h.ten,
    h.billing, h.pending⟩

/-! ### The end of a sequence (R130, R131) -/

theorem ended_startTx (h : EndedBy s t p q o manual) : EndedBy s t.startTx p q o manual where
  idle := h.idle
  due := h.due
  place := h.place
  withdrawn := h.withdrawn
  released := h.released
  last := h.last
  blocked := h.blocked
  position := h.position
  others := h.others
  sets := h.sets
  told short := by
    rw [show t.startTx.port.notices = t.port.notices from startTx_notices t.port]
    exact h.told short

theorem ended_answered (h : EndedBy s t p q o manual) (tag : Byte) (kind : Nat) (reply : Reply) :
    EndedBy s (answered t tag kind reply) p q o manual :=
  ⟨h.idle, h.due, h.place, h.withdrawn, h.released, h.last, h.blocked, h.position, h.others, h.sets, h.told⟩

theorem ended_taken {due : List TimedEvent} (h : EndedBy { s with due } t p q o manual) : EndedBy s t p q o manual :=
  ⟨h.idle, h.due, h.place, h.withdrawn, h.released, h.last, h.blocked, h.position, h.others, h.sets, h.told⟩

theorem blocksPoint_iff {c : Cause} : blocksPoint o c = true ↔
    o = .dark ∨ (autoCause c ∧ o ≠ .done ∧ o ≠ .doneUnverified ∧ o ≠ .cancelled) := by
  have automatic : c.automatic = true ↔ autoCause c := by
    cases c <;> simp [Cause.automatic, autoCause]
  cases o <;> simp [blocksPoint, automatic]

theorem unqueue_unqueue (x : Place) : x.unqueue.unqueue = x.unqueue := by
  cases x <;> rfl

theorem sequenceGone_set (s : State) (p : PointNo) (q : Sequence) (o : SeqOutcome) (n : SetNo) :
    (sequenceGone s p q o).setRec n = if n = q.targetSet then
        { s.setRec n with reservations := (s.setRec n).reservations.filter fun x => x.point ≠ p }
      else s.setRec n := by
  have released : (sequenceGone s p q o).setRec n = ((s.dropPointCommand p).release q.targetSet p).setRec n := rfl
  have dropped : (s.dropPointCommand p).setRec n = s.setRec n := rfl
  rw [released, State.release]
  by_cases hn : n = q.targetSet
  · subst hn
    rw [if_pos rfl, State.modSet_read, dropped]
  · rw [if_neg hn, State.modSet_other _ _ _ hn, dropped]

/-- The end of a sequence in flight, in the words of the statements. -/
theorem endSequence_ended (h : (s.pointRec p).seq = some q) (o : SeqOutcome) (manual : Option ManualPart)
    (known : o ≠ .restart) : EndedBy s (s.endSequence p o manual) p q o manual := by
  have point := sequenceGone_point s p q o
  rw [endSequence_eq h, if_neg known]
  refine
    { idle := (congrArg PointRec.seq point :)
      due := (congrArg PointRec.due point :)
      place := (congrArg PointRec.place point :)
      withdrawn := fun c hc => mem_withdrawn hc
      released := ?_
      last := (congrArg PointRec.lastOutcome point :)
      blocked := ?_
      position := (congrArg PointRec.position point :)
      others := fun k hk => sequenceGone_other s q o hk
      sets := fun n => ?_
      told := fun short => ?_ }
  · have set := sequenceGone_set s p q o q.targetSet
    rw [if_pos rfl] at set
    exact (congrArg SetRec.reservations set :)
  · have blocked : ((sequenceGone s p q o).pointRec p).autoBlocked =
        ((s.pointRec p).autoBlocked || blocksPoint o q.cause) := (congrArg PointRec.autoBlocked point :)
    change ((sequenceGone s p q o).pointRec p).autoBlocked = true ↔ _
    rw [blocked, Bool.or_eq_true, blocksPoint_iff]
  · change { (sequenceGone s p q o).setRec n with reservations := [] } = { s.setRec n with reservations := [] }
    rw [sequenceGone_set]
    split <;> rfl
  · refine ⟨⟨s.port.nextNotice, decide (o = .dark), endNotice s p q o manual (s.pointRec p).position⟩, ?_, rfl, rfl⟩
    have raised : (s.port.raise (o = .dark) (endNotice s p q o manual (s.pointRec p).position)).notices = s.port.notices ++
        [⟨s.port.nextNotice, decide (o = .dark), endNotice s p q o manual (s.pointRec p).position⟩] := by
      rw [Port.raise_room (by omega)]
    change _ ∈ (s.port.raise (o = .dark) (endNotice s p q o manual (s.pointRec p).position)).notices
    rw [raised]
    exact List.mem_append_right _ (List.mem_singleton_self _)

theorem endSequence_port (h : (s.pointRec p).seq = some q) (o : SeqOutcome) (manual : Option ManualPart)
    (known : o ≠ .restart) : (s.endSequence p o manual).port =
      s.port.raise (o = .dark) (endNotice s p q o manual (s.pointRec p).position) := by
  rw [endSequence_eq h, if_neg known]
  rfl

/-! ### The source restored (R138) -/

/-- The sequence in RECOVERING for a reason (R138). -/
def recoveringFor (q : Sequence) (why : RecoveryReason) : Sequence :=
  { q with phase := .recovering, recovery := some why, counter := .none }

/-- The state in which RECOVERING starts: the point's command dropped, the sequence in its phase (R138). -/
def recoveryStarted (s : State) (p : PointNo) (q : Sequence) (why : RecoveryReason) : State :=
  (s.dropPointCommand p).putSeq p (recoveringFor q why)

theorem recoveryStarted_point (s : State) (p : PointNo) (q : Sequence) (why : RecoveryReason) :
    (recoveryStarted s p q why).pointRec p =
      { s.pointRec p with
        seq := some (recoveringFor q why), place := (s.pointRec p).place.unqueue, due := none } := by
  have dropped : (s.dropPointCommand p).pointRec p =
      { s.pointRec p with place := (s.pointRec p).place.unqueue, due := none } :=
    State.modPoint_read (s.withdraw (.changeover p)) p _
  rw [recoveryStarted, State.putSeq, State.modPoint_read, dropped]

theorem onlineReachable_iff {n : SetNo} : s.onlineReachable n = true ↔ Online s n := by
  simp [State.onlineReachable, Online]

theorem close_eq_some {x : SwPos} : (∃ code, x.close = some code) ↔ x = .a ∨ x = .b := by
  cases x <;> simp [SwPos.close]

theorem restorable_iff : Restorable s q ↔
    ∃ code, q.originalPos.close = some code ∧ q.originalSet.any s.onlineReachable = true := by
  rw [Restorable, ← close_eq_some, Option.any_eq_true]
  simp only [onlineReachable_iff, exists_and_right]

/-- A source that cannot be restored: the sequence ends DARK at once (R138). -/
theorem enterRecovering_dark (h : ¬ Restorable s q) (why : RecoveryReason) :
    s.enterRecovering p q why = (recoveryStarted s p q why).endSequence p .dark none := by
  unfold State.enterRecovering
  dsimp only
  split
  next code close =>
    have lost : ¬ q.originalSet.any s.onlineReachable = true := fun online => h (restorable_iff.mpr ⟨code, close, online⟩)
    exact if_neg lost
  · rfl

/-- The state of a sequence whose source can be restored, its close due (R138). -/
def closeDue (s : State) (p : PointNo) (q : Sequence) (why : RecoveryReason) (code : Code) : State :=
  (recoveryStarted s p q why).modPoint p fun r => { r with due := some code }

theorem enterRecovering_close {code : Code} (close : q.originalPos.close = some code)
    (online : q.originalSet.any s.onlineReachable = true) (why : RecoveryReason) :
    s.enterRecovering p q why = if ((closeDue s p q why code).pointRec p).place = .free then
      (closeDue s p q why code).enqueuePoint p code else closeDue s p q why code := by
  have online' : q.originalSet.any (closeDue s p q why code).onlineReachable = true := online
  have close' : (recoveringFor q why).originalPos.close = some code := close
  have entered : s.enterRecovering p q why = if q.originalSet.any s.onlineReachable = true then
      (if ((closeDue s p q why code).pointRec p).place = .free then
        (closeDue s p q why code).enqueueRecovery p (recoveringFor q why) code
      else closeDue s p q why code)
      else (recoveryStarted s p q why).endSequence p .dark none := by
    unfold State.enterRecovering
    dsimp only
    split
    next other found =>
      obtain rfl : other = code := Option.some.inj (found.symm.trans close')
      rfl
    next none => exact absurd (none.symm.trans close') nofun
  rw [entered, if_pos online]
  split
  · exact if_pos online'
  · rfl

theorem enqueuePoint_seq (s : State) (p : PointNo) (code : Code) :
    ((s.enqueuePoint p code).pointRec p).seq = (s.pointRec p).seq := by
  unfold State.enqueuePoint
  split
  · rfl
  · split
    · rfl
    next enqueued =>
      obtain ⟨-, -, -, rfl⟩ := State.enqueue_eq_some.mp enqueued
      rw [State.modPoint_read]
      rfl

/-- A source that can be restored: the sequence goes on in RECOVERING (R138). -/
theorem enterRecovering_seq (h : Restorable s q) (why : RecoveryReason) :
    ((s.enterRecovering p q why).pointRec p).seq = some (recoveringFor q why) := by
  obtain ⟨code, close, online⟩ := restorable_iff.mp h
  have due : ((closeDue s p q why code).pointRec p).seq = some (recoveringFor q why) := by
    rw [closeDue, State.modPoint_read, recoveryStarted_point]
  rw [enterRecovering_close close online]
  split
  · rw [enqueuePoint_seq, due]
  · exact due

/-- The end of a sequence whose command has been dropped on the way is an end all the same. -/
theorem ended_of_recoveryStarted {why : RecoveryReason}
    (h : EndedBy (recoveryStarted s p q why) t p y o manual) : EndedBy s t p y o manual := by
  have point := recoveryStarted_point s p q why
  have step : PointStep p s (s.dropPointCommand p) := .dropPointCommand p s
  have other (k : PointNo) (hk : k ≠ p) : (recoveryStarted s p q why).pointRec k = s.pointRec k :=
    (State.modPoint_other (s.dropPointCommand p) p _ hk).trans (step.others k hk)
  have position : ((recoveryStarted s p q why).pointRec p).position = (s.pointRec p).position := by rw [point]
  refine
    { idle := h.idle
      due := h.due
      place := ?_
      withdrawn := fun c hc => ?_
      released := h.released
      last := h.last
      blocked := ?_
      position := h.position.trans position
      others := fun k hk => (h.others k hk).trans (other k hk)
      sets := h.sets
      told := fun short => ?_ }
  · rw [h.place, point, unqueue_unqueue]
  · obtain ⟨queued, other⟩ := h.withdrawn c hc
    exact ⟨(mem_withdrawn (o := .changeover p) queued).1, other⟩
  · rw [h.blocked, point]
  · obtain ⟨x, mem, urgent, body⟩ := h.told short
    rw [position] at body
    exact ⟨x, mem, urgent, body⟩

theorem enterRecovering_ended (h : ¬ Restorable s q) (why : RecoveryReason) :
    Ended s (s.enterRecovering p q why) p (recoveringFor q why) .dark := by
  rw [enterRecovering_dark h]
  refine ended_of_recoveryStarted (endSequence_ended ?_ .dark none nofun)
  rw [recoveryStarted_point]

/-! ### CANCEL CHANGEOVER (R140) -/

theorem reqCancelChangeover_badIndex {point : Nat} (h : point = 0 ∨ 12 < point) (s : State) :
    reqCancelChangeover point s = (s, .refuse .badIndex) := by
  rw [reqCancelChangeover, numbered_none h]

theorem commandWaiting_iff {r : PointRec} : r.commandWaiting = true ↔ r.due ≠ none ∨ ∃ c, r.place = .queued c := by
  unfold PointRec.commandWaiting
  rw [Bool.or_eq_true, Option.isSome_iff_ne_none]
  refine or_congr_right ?_
  cases r.place <;> simp

theorem reqCancelChangeover_notValid (h : s.switched p = none) :
    reqCancelChangeover (p.val + 1) s = (s, .refuse .notValid) := by
  simp [reqCancelChangeover, h]

section
variable (loaded : s.switched p ≠ none)
include loaded

theorem reqCancelChangeover_idle (h : (s.pointRec p).seq = none) :
    reqCancelChangeover (p.val + 1) s = (s, .refuse .state) := by
  simp [reqCancelChangeover, loaded, h]

/-- The sequence is cancelled while nothing of it has been sent, or with no source to go back to (R140). -/
theorem reqCancelChangeover_ended (h : (s.pointRec p).seq = some q)
    (cancels : q.phase = .preparing ∨ (q.phase = .opening ∧ (s.pointRec p).commandWaiting = true) ∨
      (q.phase = .dead ∧ q.originalSet = none)) :
    reqCancelChangeover (p.val + 1) s = (s.endSequence p .cancelled none, .ok) := by
  rcases cancels with phase | ⟨phase, waiting⟩ | ⟨phase, none⟩
  · simp [reqCancelChangeover, loaded, h, phase]
  · simp [reqCancelChangeover, loaded, h, phase, waiting]
  · simp [reqCancelChangeover, loaded, h, phase, none]

theorem reqCancelChangeover_marked (h : (s.pointRec p).seq = some q) (phase : q.phase = .opening)
    (sent : (s.pointRec p).commandWaiting = false) : reqCancelChangeover (p.val + 1) s =
      ({ s with points := s.points.set p { s.pointRec p with seq := some { q with abort := some (q.abort.getD .cancelled) } } },
        .ok) := by
  simp [reqCancelChangeover, loaded, h, phase, sent, State.putSeq, State.modPoint, State.putPoint]

theorem reqCancelChangeover_dead (h : (s.pointRec p).seq = some q) (phase : q.phase = .dead) (original : q.originalSet ≠ none) :
    reqCancelChangeover (p.val + 1) s = (s.enterRecovering p q .cancelled, .ok) := by
  simp [reqCancelChangeover, loaded, h, phase, Option.isSome_iff_ne_none.mpr original]

theorem reqCancelChangeover_tooLate (h : (s.pointRec p).seq = some q) (phase : q.phase = .closing ∨ q.phase = .recovering) :
    reqCancelChangeover (p.val + 1) s = (s, .refuse .tooLate) := by
  rcases phase with phase | phase <;> simp [reqCancelChangeover, loaded, h, phase]

end

end

/-- Settles O50: each state of the sequencer by its case of R140. -/
theorem cancelChangeover : Obligations.CancelChangeover := by
  refine ⟨fun tag point s calm h => exec_request_calm calm rfl (reqCancelChangeover_badIndex h s), fun tag p s calm =>
    ⟨fun h => exec_request_calm calm rfl (reqCancelChangeover_notValid h),
      fun loaded idle => exec_request_calm calm rfl (reqCancelChangeover_idle loaded idle), fun q loaded live => ?_⟩⟩
  intro waiting
  have waiting_iff : (s.pointRec p).commandWaiting = true ↔ waiting := commandWaiting_iff
  have live' : (s.pointRec p).seq.isSome = true := by rw [live]; rfl
  refine ⟨fun cancels => ?_, fun phase sent fresh => ?_, fun phase sent marked => ?_, fun phase original => ?_,
    fun phase => exec_request_calm calm rfl (reqCancelChangeover_tooLate loaded live phase)⟩
  · have ended := endSequence_ended live .cancelled none nofun
    have outside := sameOutside_of_seqFrame (.endSequence s p .cancelled none)
    rw [← waiting_iff] at cancels
    exact ⟨_, exec_request_calm calm rfl (reqCancelChangeover_ended loaded live cancels), rfl, ended_answered ended tag 28 _,
      sameOutside_answered outside tag 28 _⟩
  · have request := reqCancelChangeover_marked loaded live phase (Bool.eq_false_iff.mpr (mt waiting_iff.mp sent))
    rw [fresh] at request
    exact exec_request_calm calm rfl request
  · have request := reqCancelChangeover_marked loaded live phase (Bool.eq_false_iff.mpr (mt waiting_iff.mp sent))
    have kept : { q with abort := some (q.abort.getD .cancelled) } = q := by
      obtain ⟨mark, eq⟩ := Option.ne_none_iff_exists'.mp marked
      rw [eq, Option.getD_some, ← eq]
    have same : { s.pointRec p with seq := some q } = s.pointRec p := by rw [← live]
    have points : s.points.set p (s.pointRec p) = s.points := Vector.set_getElem_self ..
    rw [kept, same, points] at request
    exact exec_request_calm calm rfl request
  · have outside := sameOutside_of_seqFrame (.enterRecovering s p q .cancelled)
    have step := PointStep.enterRecovering p live' q .cancelled
    refine ⟨_, exec_request_calm calm rfl (reqCancelChangeover_dead loaded live phase original), rfl,
      sameOutside_answered outside tag 28 _, step.others, fun back => enterRecovering_seq back .cancelled, fun stuck => ?_⟩
    exact ended_answered (enterRecovering_ended stuck .cancelled) tag 28 _

end Sys2Proof.Ending
end

section
/-! SUPPORT. The dead check of a point and what acts on it (R56, R135, R136), and the ends of the counters of a sequence (R133 to
R138). -/

namespace Sys2Proof.PhaseCounters

open Sys2Proof Sys2Proof.Machine Sys2Proof.Stated Sys2Proof.StopAndClear Sys2Proof.Sequencing
open Sys2Proof.Sessions Sys2Proof.Ending Sys2Proof.LineEvents Sys2Proof.Loads

section
variable {s t : State} {p : PointNo} {q : Sequence} {e : PointEntry}

/-! ### The readings of a dead check (R56, R136) -/

theorem mem_feedersOf {f : FeederNo} : f ∈ s.feedersOf p ↔ ∃ e, s.feederEntry f = some e ∧ e.point = p := by
  simp [State.feedersOf, mem_allFeeders, Option.any_eq_true]

theorem closingOff_eq_false {f : FeederNo} : s.closingOff f = false ↔ .holdLimit f ∉ s.due := by
  rw [State.closingOff, ← Bool.not_eq_true, List.contains_iff_mem]

/-- A reading is offered by each feeder of the point in LIVE (R56). -/
theorem mem_deadReadings {x : DeadReading} :
    x ∈ s.deadReadings p ↔ LiveFeeder s p x.feeder ∧ x.sample = (s.feederRec x.feeder).latest := by
  simp only [State.deadReadings, List.mem_map, List.mem_filter, Bool.and_eq_true, decide_eq_true_eq, Bool.not_eq_true',
    closingOff_eq_false, mem_feedersOf, LiveFeeder]
  constructor
  · rintro ⟨f, ⟨loaded, live, held⟩, rfl⟩
    exact ⟨⟨loaded, live, held⟩, rfl⟩
  · rintro ⟨⟨loaded, live, held⟩, sample⟩
    exact ⟨x.feeder, ⟨loaded, live, held⟩, by rw [← sample]⟩

theorem countsAfter_iff {c : Option CycleNo} {x : DeadReading} {y : Sample} : countsAfter c x = some y ↔
    x.sample = some y ∧ ∃ k, c = some k ∧ cycleAfter y.cycle k = true := by
  simp [countsAfter, Option.filter_eq_some_iff, Option.any_eq_true]

/-- A sample that counts for the check of a point (R136). -/
theorem mem_counts {y : Sample} : (∃ x ∈ s.deadReadings p, countsAfter q.openCycle x = some y) ↔
    ∃ f, LiveFeeder s p f ∧ Counting s q f y := by
  simp only [mem_deadReadings, countsAfter_iff, Counting]
  constructor
  · rintro ⟨x, ⟨live, sample⟩, latest, counts⟩
    exact ⟨x.feeder, live, sample ▸ latest, counts⟩
  · rintro ⟨f, live, latest, counts⟩
    exact ⟨⟨f, (s.feederRec f).latest⟩, ⟨live, rfl⟩, latest, counts⟩

theorem deadReadings_none : (s.deadReadings p).isEmpty = true ↔ ∀ f, ¬ LiveFeeder s p f := by
  rw [List.isEmpty_iff, List.eq_nil_iff_forall_not_mem]
  exact ⟨fun h f live => h ⟨f, (s.feederRec f).latest⟩ (mem_deadReadings.mpr ⟨live, rfl⟩),
    fun h x mem => h x.feeder (mem_deadReadings.mp mem).1⟩

/-- The dead check, as a choice of its cases in their order (R136). -/
theorem deadCheck_eq (entry : s.pointEntry p = some e) : s.deadCheck p q.openCycle =
    if (s.deadReadings p).isEmpty then .unverified
    else if (s.deadReadings p).any fun x => (countsAfter q.openCycle x).any fun y => e.deadThreshold < y.current then .notDead
    else if (s.deadReadings p).all fun x => (countsAfter q.openCycle x).isSome then .verified
    else .undecided := by
  unfold State.deadCheck
  dsimp only
  rw [entry, List.isEmpty_map, List.any_map, List.all_map]
  rfl

/-- A reading above the threshold (R136). -/
theorem above_iff {threshold : Nat} :
    ((s.deadReadings p).any fun x => (countsAfter q.openCycle x).any fun y => threshold < y.current) = true ↔
      ∃ f x, LiveFeeder s p f ∧ Counting s q f x ∧ threshold < x.current := by
  rw [List.any_eq_true]
  constructor
  · rintro ⟨x, mem, h⟩
    obtain ⟨y, counts, above⟩ := (Option.any_eq_true _ _).mp h
    obtain ⟨f, live, counting⟩ := mem_counts.mp ⟨x, mem, counts⟩
    exact ⟨f, y, live, counting, of_decide_eq_true above⟩
  · rintro ⟨f, y, live, counting, above⟩
    obtain ⟨x, mem, counts⟩ := mem_counts.mpr ⟨f, live, counting⟩
    exact ⟨x, mem, by rw [counts]; exact decide_eq_true above⟩

/-- Every reading counts (R136). -/
theorem all_iff : ((s.deadReadings p).all fun x => (countsAfter q.openCycle x).isSome) = true ↔
    ∀ f, LiveFeeder s p f → ∃ y, Counting s q f y := by
  rw [List.all_eq_true]
  constructor
  · intro h f live
    obtain ⟨y, counts⟩ := Option.isSome_iff_exists.mp (h ⟨f, (s.feederRec f).latest⟩ (mem_deadReadings.mpr ⟨live, rfl⟩))
    exact ⟨y, countsAfter_iff.mp counts⟩
  · intro h x mem
    obtain ⟨live, sample⟩ := mem_deadReadings.mp mem
    obtain ⟨y, latest, after⟩ := h x.feeder live
    exact Option.isSome_iff_exists.mpr ⟨y, countsAfter_iff.mpr ⟨sample.trans latest, after⟩⟩

section
variable (entry : s.pointEntry p = some e)
include entry

theorem deadCheck_unverified (h : ∀ f, ¬ LiveFeeder s p f) : s.deadCheck p q.openCycle = .unverified := by
  rw [deadCheck_eq entry, if_pos (deadReadings_none.mpr h)]

theorem deadCheck_notDead (h : ∃ f x, LiveFeeder s p f ∧ Counting s q f x ∧ e.deadThreshold < x.current) :
    s.deadCheck p q.openCycle = .notDead := by
  have some : ¬ (s.deadReadings p).isEmpty = true := fun none => h.elim fun f ⟨_, live, _⟩ => deadReadings_none.mp none f live
  rw [deadCheck_eq entry, if_neg some, if_pos (above_iff.mpr h)]

theorem deadCheck_verified (some : ∃ f, LiveFeeder s p f)
    (h : ∀ f, LiveFeeder s p f → ∃ x, Counting s q f x ∧ x.current ≤ e.deadThreshold) :
    s.deadCheck p q.openCycle = .verified := by
  obtain ⟨f, live⟩ := some
  have below : ¬ ∃ f x, LiveFeeder s p f ∧ Counting s q f x ∧ e.deadThreshold < x.current := by
    rintro ⟨f, x, live, ⟨latest, after⟩, above⟩
    obtain ⟨y, ⟨latest', -⟩, low⟩ := h f live
    obtain rfl := Option.some.inj (latest.symm.trans latest')
    omega
  rw [deadCheck_eq entry, if_neg (fun none => deadReadings_none.mp none f live), if_neg (mt above_iff.mp below),
    if_pos (all_iff.mpr fun f live => (h f live).imp fun _ => And.left)]

theorem deadCheck_undecided (low : ∀ f x, LiveFeeder s p f → Counting s q f x → x.current ≤ e.deadThreshold)
    (h : ∃ f, LiveFeeder s p f ∧ ∀ x, ¬ Counting s q f x) : s.deadCheck p q.openCycle = .undecided := by
  obtain ⟨f, live, stale⟩ := h
  have below : ¬ ∃ f x, LiveFeeder s p f ∧ Counting s q f x ∧ e.deadThreshold < x.current :=
    fun ⟨f, x, live, counting, above⟩ => Nat.not_lt.mpr (low f x live counting) above
  have missing : ¬ ∀ f, LiveFeeder s p f → ∃ y, Counting s q f y := fun all => (all f live).elim stale
  rw [deadCheck_eq entry, if_neg (fun none => deadReadings_none.mp none f live), if_neg (mt above_iff.mp below),
    if_neg (mt all_iff.mp missing)]

end

/-! ### What acts on a dead check (R136, R137) -/

/-- The sequence in CLOSING with its verification (R137). -/
def closingWith (q : Sequence) (v : Verification) : Sequence :=
  { q with phase := .closing, counter := .none, verification := some v }

/-- The close to a target that is ONLINE waits, or joins the queue (R132, R137). -/
theorem tryEnqueuePoint_closing (live : (s.pointRec p).seq = some q) (phase : q.phase = .closing)
    (online : s.onlineReachable q.targetSet = true) :
    s.tryEnqueuePoint p = s ∨ ∃ code, s.tryEnqueuePoint p = s.enqueuePoint p code := by
  unfold State.tryEnqueuePoint
  dsimp only
  split
  next y code found due place =>
    obtain rfl : q = y := Option.some.inj (live.symm.trans found)
    rw [phase]
    exact .inr ⟨code, if_pos online⟩
  · exact .inl rfl

/-- The close of a target that is ONLINE becomes due, and the sequence is in CLOSING (R137). -/
theorem enterClosing_seq (online : Online s q.targetSet) (v : Verification) :
    ((s.enterClosing p q v).pointRec p).seq = some (closingWith q v) := by
  have due : ((s.modPoint p fun r => { r with seq := some (closingWith q v), due := some (sideClose q.targetSide) }).pointRec
      p) = { s.pointRec p with seq := some (closingWith q v), due := some (sideClose q.targetSide) } := State.modPoint_read s p _
  have ready : (s.modPoint p fun r =>
      { r with seq := some (closingWith q v), due := some (sideClose q.targetSide) }).onlineReachable q.targetSet = true :=
    onlineReachable_iff.mpr online
  have entered : s.enterClosing p q v = (s.modPoint p fun r =>
      { r with seq := some (closingWith q v), due := some (sideClose q.targetSide) }).tryEnqueuePoint p := rfl
  rw [entered]
  generalize (s.modPoint p fun r => { r with seq := some (closingWith q v), due := some (sideClose q.targetSide) }) = u
    at due ready
  have seq : (u.pointRec p).seq = some (closingWith q v) := by rw [due]
  rcases tryEnqueuePoint_closing seq rfl ready with same | ⟨code, queued⟩
  · rw [same, seq]
  · rw [queued, enqueuePoint_seq, seq]

/-- What an event does to the sequence of a point, in the cases of the dead check. -/
theorem applyDeadCheck_checked {undecided : State} {y : Sequence} (entry : s.pointEntry p = some e)
    (h : Online s q.targetSet → (undecided.pointRec p).seq = some y) :
    DeadChecked s (s.applyDeadCheck p q undecided) p e q y := by
  unfold State.applyDeadCheck
  refine ⟨fun none online => ?_, fun live back => ?_, fun live stuck => ?_, fun some dead online => ?_,
    fun low missing online => ?_⟩
  · rw [deadCheck_unverified entry none]
    exact enterClosing_seq online .unverified
  · rw [deadCheck_notDead entry live]
    exact enterRecovering_seq back .notDead
  · rw [deadCheck_notDead entry live]
    exact enterRecovering_ended stuck .notDead
  · rw [deadCheck_verified entry some dead]
    exact enterClosing_seq online .verified
  · rw [deadCheck_undecided entry low missing]
    exact h online

theorem PointStep.applyDeadCheck {u : State} (live : (s.pointRec p).seq.isSome = true) (h : PointStep p s u) :
    PointStep p s (s.applyDeadCheck p q u) := by
  unfold State.applyDeadCheck
  split
  · exact .enterClosing live q _
  · exact .enterClosing live q _
  · exact .enterRecovering p live q _
  · exact h

/-- What is left over by other events does not bear on the check. -/
theorem deadChecked_taken {x : TimedEvent} {y : Sequence} (h : DeadChecked { s with due := s.due.erase x } t p e q y)
    (other : ∀ f, x ≠ .holdLimit f) : DeadChecked s t p e q y := by
  have same (f : FeederNo) : LiveFeeder { s with due := s.due.erase x } p f ↔ LiveFeeder s p f := by
    have left : TimedEvent.holdLimit f ∈ s.due.erase x ↔ .holdLimit f ∈ s.due :=
      List.mem_erase_of_ne (other f).symm
    exact and_congr_right fun _ => and_congr_right fun _ => not_congr left
  refine ⟨fun none => h.none fun f => mt (same f).mp (none f), fun ⟨f, x, live, counts⟩ => h.live ⟨f, x, (same f).mpr live, counts⟩,
    fun ⟨f, x, live, counts⟩ stuck => ended_taken (h.dark ⟨f, x, (same f).mpr live, counts⟩ stuck),
    fun ⟨f, live⟩ dead => h.dead ⟨f, (same f).mpr live⟩ fun f live => dead f ((same f).mp live),
    fun low ⟨f, live, stale⟩ => h.open_ (fun f x live => low f x ((same f).mp live)) ⟨f, (same f).mpr live, stale⟩⟩

theorem deadChecked_startTx {y : Sequence} (h : DeadChecked s t p e q y) : DeadChecked s t.startTx p e q y :=
  ⟨h.none, h.live, fun live stuck => ended_startTx (h.dark live stuck), h.dead, h.open_⟩

end

/-- Settles O19: each expiry by the cases of its dead check. -/
theorem deadTimeAndWindowExpire : Obligations.DeadTimeAndWindowExpire := by
  refine ⟨fun p e q s left entry live phase counter => ?_, fun p e q s left entry live phase counter => ?_⟩
  · have run : exec (.deadTimeExpiry p) s =
        .next ((({ s with due := s.due.erase (.deadTime p) } : State)).happen (.deadTime p)).startTx := exec_timed left
    let u : State := { s with due := s.due.erase (.deadTime p) }
    have live' : (u.pointRec p).seq = some q := live
    have some : (u.pointRec p).seq.isSome = true := by rw [live']; rfl
    have happens : u.happen (.deadTime p) = u.applyDeadCheck p q (u.putSeq p { q with counter := .window e.confirmTimeout }) := by
      have entry' : u.pointEntry p = Option.some e := entry
      simp only [State.happen, State.whenCounter, live', counter, if_true, State.expireDead, entry', Option.map_some,
        Option.getD_some]
    rw [happens] at run
    have step := PointStep.applyDeadCheck (q := q) some (.putSeq p some { q with counter := .window e.confirmTimeout })
    have frame := SeqFrame.applyDeadCheck p q (.putSeq u p { q with counter := .window e.confirmTimeout })
    have checked := applyDeadCheck_checked (s := u) (q := q) (y := { q with counter := .window e.confirmTimeout }) entry
      (undecided := u.putSeq p { q with counter := .window e.confirmTimeout })
      fun _ => by rw [State.putSeq, State.modPoint_read]
    exact ⟨_, run, sameOutside_startTx (sameOutside_taken (sameOutside_of_seqFrame frame)), step.others,
      deadChecked_startTx (deadChecked_taken checked nofun)⟩
  · have run : exec (.windowExpiry p) s =
        .next ((({ s with due := s.due.erase (.window p) } : State)).happen (.window p)).startTx := exec_timed left
    let u : State := { s with due := s.due.erase (.window p) }
    have live' : (u.pointRec p).seq = some q := live
    have some : (u.pointRec p).seq.isSome = true := by rw [live']; rfl
    have happens : u.happen (.window p) = u.applyDeadCheck p q (u.enterClosing p q .unverified) := by
      simp only [State.happen, State.whenCounter, live', counter, if_true, State.windowCheck]
    rw [happens] at run
    have step := PointStep.applyDeadCheck (q := q) some (.enterClosing some q .unverified)
    have frame := SeqFrame.applyDeadCheck p q (.enterClosing u p q .unverified)
    have checked := applyDeadCheck_checked (s := u) (q := q) entry (undecided := u.enterClosing p q .unverified)
      fun online => enterClosing_seq online .unverified
    exact ⟨_, run, sameOutside_startTx (sameOutside_taken (sameOutside_of_seqFrame frame)), step.others,
      deadChecked_startTx (deadChecked_taken checked nofun)⟩

/-! ### The prepare and confirm counters at 0 (R133, R134, R137, R138) -/

/-- A free transmitter takes no notice away (R184). -/
theorem noticeRaised_startTx {p q : Port} {urgent : Bool} {body : NoticeBody} (h : NoticeRaised p q urgent body) :
    NoticeRaised p q.startTx urgent body := by
  have kept : q.startTx.nextNotice = q.nextNotice ∧ q.startTx.overflow = q.overflow := by
    unfold Port.startTx
    split <;> exact ⟨rfl, rfl⟩
  obtain ⟨number, overflow⟩ := kept
  have notices := startTx_notices q
  exact ⟨number.trans h.number, by rw [notices, overflow]; exact h.room, by rw [notices, overflow]; exact h.lost,
    by rw [notices, overflow]; exact h.displacing, by rw [notices, overflow]; exact h.noPlace⟩

section
variable {s : State} {p : PointNo} {q : Sequence}

theorem expireConfirm_opening (phase : q.phase = .opening) :
    s.expireConfirm p q = s.endSequence p (q.abort.elim .openFailed AbortMark.outcome) none := by
  unfold State.expireConfirm
  rw [phase]
  rfl

theorem expireConfirm_closing (phase : q.phase = .closing) : s.expireConfirm p q = s.enterRecovering p q .closeFailed := by
  unfold State.expireConfirm
  rw [phase]

theorem expireConfirm_recovering (phase : q.phase = .recovering) : s.expireConfirm p q = s.endSequence p .dark none := by
  unfold State.expireConfirm
  rw [phase]

/-- A failure in OPENING ends the sequence by its abort mark (R134). -/
theorem expireConfirm_ended (live : (s.pointRec p).seq = some q) (phase : q.phase = .opening) {o : SeqOutcome}
    (outcome : q.abort.elim .openFailed AbortMark.outcome = o) (known : o ≠ .restart) :
    Ended s (s.expireConfirm p q) p q o := by
  rw [expireConfirm_opening phase, outcome]
  exact endSequence_ended live o none known

end

/-- Settles O18: the prepare counter ends the sequence; the confirm counter acts by the phase. -/
theorem prepareAndConfirmExpire : Obligations.PrepareAndConfirmExpire := by
  refine ⟨fun p q s left live counter => ?_, fun p q s left live counter => ?_⟩
  · have run : exec (.prepareTimeout p) s =
        .next ((({ s with due := s.due.erase (.prepare p) } : State)).happen (.prepare p)).startTx := exec_timed left
    let u : State := { s with due := s.due.erase (.prepare p) }
    have live' : (u.pointRec p).seq = some q := live
    have happens : u.happen (.prepare p) = u.endSequence p .prepareTimeout none := by
      simp only [State.happen, State.whenCounter, live', counter, if_true]
    rw [happens] at run
    exact ⟨_, run, ended_startTx (ended_taken (endSequence_ended live' .prepareTimeout none nofun)),
      sameOutside_startTx (sameOutside_taken (sameOutside_of_seqFrame (.endSequence u p _ _)))⟩
  · have run : exec (.confirmTimeout p) s =
        .next ((({ s with due := s.due.erase (.confirm p) } : State)).happen (.confirm p)).startTx := exec_timed left
    let u : State := { s with due := s.due.erase (.confirm p) }
    have live' : (u.pointRec p).seq = some q := live
    have happens : u.happen (.confirm p) = u.expireConfirm p q := by
      simp only [State.happen, State.whenCounter, live', counter, if_true]
    rw [happens] at run
    refine ⟨_, run, sameOutside_startTx (sameOutside_taken (sameOutside_of_seqFrame (.expireConfirm u p q))),
      fun phase fresh => ?_, fun phase mark => ?_, fun phase mark => ?_, fun phase => ?_, fun phase stuck => ?_,
      fun phase back => ?_⟩
    · exact ended_startTx (ended_taken (expireConfirm_ended live' phase (by rw [fresh]; rfl) nofun))
    · exact ended_startTx (ended_taken (expireConfirm_ended live' phase (by rw [mark]; rfl) nofun))
    · exact ended_startTx (ended_taken (expireConfirm_ended live' phase (by rw [mark]; rfl) nofun))
    · rw [expireConfirm_recovering phase]
      refine ⟨ended_startTx (ended_taken (endSequence_ended live' .dark none nofun)), noticeRaised_startTx ?_⟩
      rw [endSequence_port live' .dark none nofun]
      exact noticeRaised s.port true _
    · rw [expireConfirm_closing phase]
      exact ended_startTx (ended_taken (enterRecovering_ended (s := u) stuck .closeFailed))
    · have step := PointStep.enterRecovering p (s := u) (by rw [live']; rfl) q .closeFailed
      rw [expireConfirm_closing phase]
      exact ⟨enterRecovering_seq (s := u) back .closeFailed, step.others⟩

end Sys2Proof.PhaseCounters
end

section
/-! SUPPORT. The counters of a set at 0: warm-up, cool-down and crank (R79, R81 to R83, R85), and how an attempt to start ends. -/

namespace Sys2Proof.RunCounters

open Sys2Proof Sys2Proof.Machine Sys2Proof.Stated Sys2Proof.StopAndClear Sys2Proof.Sequencing
open Sys2Proof.Sessions Sys2Proof.Ending Sys2Proof.SetLoading Sys2Proof.Starting

section
variable {s t : State} {n : SetNo}

/-! ### What a run state change of one set leaves of the others -/

theorem run_of_runFrame (h : RunFrame n s t) (k : SetNo) (hk : k ≠ n) : (t.setRec k).run = (s.setRec k).run :=
  run_of_reserved (h.others k hk)

theorem hire_of_runFrame (h : RunFrame n s t) (own : (t.setRec n).hire = (s.setRec n).hire) (k : SetNo) :
    (t.setRec k).hire = (s.setRec k).hire := by
  by_cases hk : k = n
  · subst hk
    exact own
  · exact hire_of_reserved (h.others k hk)

theorem cycleNo_of_runFrame (h : RunFrame n s t) : t.engine.cycleNo = s.engine.cycleNo :=
  (congrArg Engine.cycleNo h.engine :)

/-- A run state change is told (R76). -/
theorem changeRun_told (s : State) (n : SetNo) (run : RunState) (why : StateReason) (attempts : Option Nat) :
    Told s (s.changeRun n run why attempts) (.setState n (s.setRec n).run.name run.name why attempts s.engine.cycleNo) :=
  told_changeRun (.of_port rfl) (Nat.zero_le _)

/-! ### The end of an attempt (R81, R82) -/

variable {attempt allowed : Nat} {crank : Option Nat} {mark : Bool}

theorem endAttempt_marked (run : (s.setRec n).run = .starting attempt allowed crank true) :
    s.endAttempt n = s.changeRun n .stopped .startEnded := by
  unfold State.endAttempt
  rw [run]
  rfl

/-- The state in which the next attempt asks for its START (R81). -/
def nextAttempt (s : State) (n : SetNo) (attempt : Nat) : State :=
  s.modSet n fun r =>
    { r with run := .starting (attempt + 1) (((s.setEntry n).map SetEntry.crankAttempts).getD 0) none false }

theorem nextAttempt_read (s : State) (n : SetNo) (attempt : Nat) : (nextAttempt s n attempt).setRec n =
    { s.setRec n with run := .starting (attempt + 1) (((s.setEntry n).map SetEntry.crankAttempts).getD 0) none false } :=
  State.modSet_read s n _

theorem endAttempt_again (run : (s.setRec n).run = .starting attempt allowed crank false) (left : attempt < allowed) :
    s.endAttempt n = (nextAttempt s n attempt).makeDue n .start := by
  unfold State.endAttempt
  rw [run]
  exact if_pos left

theorem endAttempt_failed (run : (s.setRec n).run = .starting attempt allowed crank false) (spent : allowed ≤ attempt) :
    s.endAttempt n = s.changeRun n (.fault .failedStart) .failedStart (some attempt) := by
  unfold State.endAttempt
  rw [run]
  exact if_neg (Nat.not_lt.mpr spent)

/-- What the end of an attempt makes of its set (R81, R82). -/
structure AttemptEnded (s t : State) (n : SetNo) (attempt allowed : Nat) (mark : Bool) : Prop where
  marked : mark = true → (t.setRec n).run = .stopped ∧ (t.setRec n).stopCycle = (s.setRec n).stopCycle ∧
    Told s t (.setState n .starting .stopped .startEnded none s.engine.cycleNo)
  again : mark = false → attempt < allowed →
    (t.setRec n).run = .starting (attempt + 1) (((s.setEntry n).map SetEntry.crankAttempts).getD 0) none false ∧
      StartAsked t n ∧ t.port = s.port
  failed : mark = false → allowed ≤ attempt → (t.setRec n).run = .fault .failedStart ∧
    Told s t (.setState n .starting .fault .failedStart (some attempt) s.engine.cycleNo)
  hire : (t.setRec n).hire = (s.setRec n).hire

theorem endAttempt_spec (run : (s.setRec n).run = .starting attempt allowed crank mark) :
    AttemptEnded s (s.endAttempt n) n attempt allowed mark := by
  cases mark with
  | true =>
    obtain ⟨stopCycle, -⟩ := (RunFrame.changeRun n s .stopped .startEnded none).figures
    have told := changeRun_told s n .stopped .startEnded none
    rw [run] at told
    rw [endAttempt_marked run]
    exact ⟨fun _ => ⟨(State.changeRun_run n s _ _ _).1, stopCycle, told⟩, nofun, nofun, changeRun_hire s n _ _ _⟩
  | false =>
    by_cases left : attempt < allowed
    · have due := makeDue_start (nextAttempt s n attempt) n
      have starts := due.run
      have hire := due.hire
      rw [nextAttempt_read] at starts hire
      rw [endAttempt_again run left]
      exact ⟨nofun, fun _ _ => ⟨starts, due.asked, due.port⟩, fun _ spent => absurd left (Nat.not_lt.mpr spent), hire⟩
    · have told := changeRun_told s n (.fault .failedStart) .failedStart (some attempt)
      rw [run] at told
      rw [endAttempt_failed run (Nat.not_lt.mp left)]
      exact ⟨nofun, fun _ h => absurd h left, fun _ _ => ⟨(State.changeRun_run n s _ _ _).1, told⟩, changeRun_hire s n _ _ _⟩

/-! ### STOPPING of a set at a point (R79, R85) -/

theorem connectedSet_inService {p : PointNo} (h : s.connectedSet p = some n) : s.inService n = true :=
  inService_iff.mpr (.inl ⟨p, h⟩)

theorem changeRun_place_free (h : (s.setRec n).place = .free) (run : RunState) (why : StateReason) (attempts : Option Nat) :
    ((s.changeRun n run why attempts).setRec n).place = .free := by
  have set : ((runSet s n run).setRec n).place = .free := by
    have read : (s.modSet n fun r => { r with run, overloadRun := 0 }).setRec n =
        { s.setRec n with run, overloadRun := 0 } := State.modSet_read s n _
    unfold runSet State.dropUncalled
    dsimp only
    split
    next c queued =>
      rw [read] at queued
      exact absurd (queued.symm.trans h) nofun
    all_goals
      rw [State.modSet_read, read]
      exact h
  rw [changeRun_eq]
  exact (markKept_of_seqFrame (.tellSequencers _ n) n).place.trans set

/-- A STOP that finds its set in service returns it to ONLINE (R79). -/
theorem tryEnqueueSet_inService (due : (s.setRec n).due = some .stop) (place : (s.setRec n).place = .free)
    (reach : (s.setRec n).unreachable = false) (serves : s.inService n = true) :
    s.tryEnqueueSet n = (s.modSet n fun r => { r with due := none }).changeRun n .online .inService := by
  unfold State.tryEnqueueSet
  dsimp only
  rw [due, place, reach]
  exact if_pos (by rw [serves]; rfl)

/-- A set at a point that is to stop comes back ONLINE in the same event (R79, R85). -/
theorem enterStopping_connected {p : PointNo} (connected : s.connectedSet p = some n) (place : (s.setRec n).place = .free)
    (reach : (s.setRec n).unreachable = false) (why : StateReason) :
    ((s.enterStopping n why).setRec n).run = .online ∧ ((s.enterStopping n why).setRec n).due = none ∧
      ((s.enterStopping n why).setRec n).hire = (s.setRec n).hire ∧
      Told s (s.enterStopping n why) (.setState n .stopping .online .inService none s.engine.cycleNo) := by
  have frame := RunFrame.changeRun n s .stopping why none
  have news := NewsKeeps.changeRun s n .stopping why none
  obtain ⟨-, mark, -⟩ := frame.figures
  have free := changeRun_place_free place .stopping why none
  have hire := changeRun_hire s n .stopping why none
  have run := (State.changeRun_run n s .stopping why none).1
  have serves : (s.changeRun n .stopping why).inService n = true := by
    refine connectedSet_inService (p := p) ?_
    rw [connectedSet_congr frame.tables (news.positions p)]
    exact connected
  have cycle : (s.changeRun n .stopping why).engine.cycleNo = s.engine.cycleNo :=
    cycleNo_of_runFrame frame
  have spends := Spends.changeRun s n .stopping why none
  have entered : s.enterStopping n why =
      ((s.changeRun n .stopping why).modSet n fun r => { r with due := some .stop }).tryEnqueueSet n := rfl
  rw [entered]
  generalize s.changeRun n .stopping why = u at mark free hire run serves cycle spends
  have read : (u.modSet n fun r => { r with due := some .stop }).setRec n = { u.setRec n with due := some .stop } :=
    State.modSet_read u n _
  have asked : Spends 0 u (u.modSet n fun r => { r with due := some .stop }) := spends_modSet n u _
  have serves' : (u.modSet n fun r => { r with due := some .stop }).inService n = true := by
    have reserved : ((u.modSet n fun r => { r with due := some .stop }).setRec n).reservations =
        (u.setRec n).reservations := by rw [read]
    rw [inService_iff] at serves ⊢
    rw [reserved]
    exact serves
  have cycle' : (u.modSet n fun r => { r with due := some .stop }).engine.cycleNo = s.engine.cycleNo := cycle
  generalize (u.modSet n fun r => { r with due := some .stop }) = v at read asked serves' cycle' ⊢
  rw [tryEnqueueSet_inService (by rw [read]) (by rw [read]; exact free) (by rw [read]; exact mark.trans reach) serves']
  have read' : (v.modSet n fun r => { r with due := none }).setRec n = { v.setRec n with due := none } :=
    State.modSet_read v n _
  have dropped : Spends 0 v (v.modSet n fun r => { r with due := none }) := spends_modSet n v _
  refine ⟨(State.changeRun_run n _ .online .inService none).1, changeRun_due _ n .online .inService none (by rw [read']), ?_, ?_⟩
  · rw [changeRun_hire, read', read]
    exact hire
  · have told := told_of_changeRun (n := n) (run := .online) (why := .inService) (attempts := none)
      ((spends.trans asked).trans dropped) (Spends.refl _) (by omega)
    rw [read', read, run] at told
    rw [← cycle']
    exact told

end

/-- Settles O16: each expiry is the run state change of its rule. -/
theorem warmUpAndCoolDownExpire : Obligations.WarmUpAndCoolDownExpire := by
  refine ⟨fun n s left run => ?_, fun n s left run idle => ?_, fun n p s left run connected place reach => ?_⟩
  · have taken : exec (.warmUpExpiry n) s =
        .next ((({ s with due := s.due.erase (.warmUp n) } : State)).happen (.warmUp n)).startTx := exec_timed left
    let u : State := { s with due := s.due.erase (.warmUp n) }
    have happens : u.happen (.warmUp n) = u.changeRun n .online .timer := if_pos run
    rw [happens] at taken
    have frame := RunFrame.changeRun n u .online .timer none
    have told := changeRun_told u n .online .timer none
    rw [show (u.setRec n).run = .warming 0 from run] at told
    obtain ⟨online, overload⟩ := State.changeRun_run n u .online .timer none
    have others := run_of_runFrame frame
    have hires := hire_of_runFrame frame (changeRun_hire u n .online .timer none)
    generalize u.changeRun n .online .timer = t at taken frame told online overload others hires
    exact ⟨_, taken, online, overload, told_startTx told, others, hires, frame.due,
      sameOutside_startTx (sameOutside_taken (sameOutside_of_runFrame frame))⟩
  · have taken : exec (.coolDownExpiry n) s =
        .next ((({ s with due := s.due.erase (.coolDown n) } : State)).happen (.coolDown n)).startTx := exec_timed left
    let u : State := { s with due := s.due.erase (.coolDown n) }
    have happens : u.happen (.coolDown n) = u.enterStopping n .timer := if_pos run
    rw [happens] at taken
    have frame := RunFrame.enterStopping n u .timer
    obtain ⟨stopping, asked, hire, -, told⟩ := enterStopping_idle (s := u) idle .timer
    rw [show (u.setRec n).run = .cooling 0 from run] at told
    have others := run_of_runFrame frame
    have hires := hire_of_runFrame frame hire
    generalize u.enterStopping n .timer = t at taken frame told stopping asked hire others hires
    exact ⟨_, taken, stopping, asked, told_startTx told, others, hires, frame.due,
      sameOutside_startTx (sameOutside_taken (sameOutside_of_runFrame frame))⟩
  · have taken : exec (.coolDownExpiry n) s =
        .next ((({ s with due := s.due.erase (.coolDown n) } : State)).happen (.coolDown n)).startTx := exec_timed left
    let u : State := { s with due := s.due.erase (.coolDown n) }
    have happens : u.happen (.coolDown n) = u.enterStopping n .timer := if_pos run
    rw [happens] at taken
    have frame := RunFrame.enterStopping n u .timer
    obtain ⟨online, due, hire, told⟩ := enterStopping_connected (s := u) connected place reach .timer
    have others := run_of_runFrame frame
    have hires := hire_of_runFrame frame hire
    generalize u.enterStopping n .timer = t at taken frame told online due hire others hires
    exact ⟨_, taken, online, due, told_startTx told, others, hires, frame.due,
      sameOutside_startTx (sameOutside_taken (sameOutside_of_runFrame frame))⟩

/-- Settles O17: the crank counter at 0 ends the attempt. -/
theorem crankWindowExpires : Obligations.CrankWindowExpires := by
  intro n attempt allowed mark s left run
  have taken : exec (.crankWindowExpiry n) s =
      .next ((({ s with due := s.due.erase (.crankWindow n) } : State)).happen (.crankWindow n)).startTx := exec_timed left
  let u : State := { s with due := s.due.erase (.crankWindow n) }
  have run' : (u.setRec n).run = .starting attempt allowed (some 0) mark := run
  have happens : u.happen (.crankWindow n) = u.endAttempt n := by
    simp only [State.happen, State.expireCrank, run']
  rw [happens] at taken
  have frame := RunFrame.endAttempt n u
  have ended := endAttempt_spec run'
  have others := run_of_runFrame frame
  have hires := hire_of_runFrame frame ended.hire
  generalize u.endAttempt n = t at taken frame ended others hires
  refine ⟨_, taken, fun marked => ?_, fun unmarked again => ?_, fun unmarked spent => ?_, others, hires, frame.due,
    sameOutside_startTx (sameOutside_taken (sameOutside_of_runFrame frame))⟩
  · obtain ⟨stopped, cycle, told⟩ := ended.marked marked
    exact ⟨stopped, cycle, told_startTx told⟩
  · obtain ⟨starting, asked, port⟩ := ended.again unmarked again
    refine ⟨starting, asked.imp_right And.left, ?_⟩
    exact (startTx_notices t.port).trans (congrArg Port.notices port)
  · obtain ⟨fault, told⟩ := ended.failed unmarked spent
    exact ⟨fault, told_startTx told⟩

end Sys2Proof.RunCounters
end

section
/-! SUPPORT. The acceptance checks (R128), and what an accepted request leaves (R129): the context, the reservation, and the first
phase by the state of the target; CHANGEOVER (R80, R95, R127 to R129). -/

namespace Sys2Proof.Accepting

open Sys2Proof Sys2Proof.Machine Sys2Proof.Stated Sys2Proof.ClearFlags Sys2Proof.StopAndClear Sys2Proof.Sequencing
open Sys2Proof.SetLoading Sys2Proof.Starting Sys2Proof.Ending Sys2Proof.RunCounters

/-! ### What the work of other blocks leaves of a point (R76) -/

/-- The record of point `p` and its reservations stand. -/
structure PointKept (p : PointNo) (s t : State) : Prop where
  point : t.pointRec p = s.pointRec p
  reservations : ∀ n, ((t.setRec n).reservations.filter fun x => x.point = p) =
    (s.setRec n).reservations.filter fun x => x.point = p

section
variable {p : PointNo} {s t u : State} {n : SetNo}

theorem PointKept.refl (p : PointNo) (s : State) : PointKept p s s := ⟨rfl, fun _ => rfl⟩

theorem PointKept.trans (h : PointKept p s t) (k : PointKept p t u) : PointKept p s u :=
  ⟨k.point.trans h.point, fun n => (k.reservations n).trans (h.reservations n)⟩

/-- The sequencer of another point leaves it alone. -/
theorem PointKept.of_step {k : PointNo} (h : PointStep k s t) (other : p ≠ k) : PointKept p s t where
  point := h.others p other
  reservations n := by
    have own (xs : List Reservation) :
        ((xs.filter fun x => x.point ≠ k).filter fun x => x.point = p) = xs.filter fun x => x.point = p := by
      rw [List.filter_filter]
      refine List.filter_congr fun x _ => ?_
      by_cases hx : x.point = p
      · simp [hx, other]
      · simp [hx]
    rw [← own, h.reservations n, own]

/-- A change of a set's record that leaves its reservations. -/
theorem PointKept.modSet (p : PointNo) (s : State) (n : SetNo) {f : SetRec → SetRec}
    (h : (f (s.setRec n)).reservations = (s.setRec n).reservations) : PointKept p s (s.modSet n f) where
  point := rfl
  reservations k := by
    by_cases hk : k = n
    · subst hk
      rw [State.modSet_read, h]
    · rw [State.modSet_other s n f hk]

theorem PointKept.raise (p : PointNo) (s : State) (body : NoticeBody) : PointKept p s (s.raise body) := ⟨rfl, fun _ => rfl⟩

/-- A command of the set leaves the queue or joins it: no point minds. -/
theorem PointKept.engine (p : PointNo) (s : State) (engine : Engine) : PointKept p s { s with engine } := ⟨rfl, fun _ => rfl⟩

theorem runSet_read (s : State) (n : SetNo) (run : RunState) : ∃ due place,
    (runSet s n run).setRec n = { s.setRec n with run, overloadRun := 0, due, place } := by
  have read : (s.modSet n fun r => { r with run, overloadRun := 0 }).setRec n = { s.setRec n with run, overloadRun := 0 } :=
    State.modSet_read s n _
  unfold StopAndClear.runSet State.dropUncalled
  dsimp only
  split
  · split
    · rw [State.modSet_read, read]; exact ⟨_, _, rfl⟩
    · rw [State.modSet_read, State.withdraw_setRec, read]; exact ⟨_, _, rfl⟩
  all_goals rw [State.modSet_read, read]; exact ⟨_, _, rfl⟩

theorem PointKept.runSet (p : PointNo) (s : State) (n : SetNo) (run : RunState) :
    PointKept p s (StopAndClear.runSet s n run) := by
  have ran := PointKept.modSet p s n (f := fun r => { r with run, overloadRun := 0 }) rfl
  unfold StopAndClear.runSet State.dropUncalled
  dsimp only
  generalize (s.modSet n fun r => { r with run, overloadRun := 0 }) = v at ran ⊢
  split
  · split
    · exact ran.trans (.modSet p v n rfl)
    · exact ran.trans ((PointKept.engine p v _).trans (.modSet p (v.withdraw (.sets n)) n rfl))
  all_goals exact ran.trans (.modSet p v n rfl)

/-- Sequencers told of a set that the point's own has nothing to do for (R76). -/
theorem PointKept.tellSequencers
    (h : ∀ t, SeqFrame s t → t.pointRec p = s.pointRec p → t.seqNews n p = t) : PointKept p s (s.tellSequencers n) := by
  have walk (xs : List PointNo) : ∀ t, SeqFrame s t → PointKept p s t →
      PointKept p s (forEach xs (fun k t => t.seqNews n k) t) := by
    induction xs with
    | nil => exact fun t _ kept => kept
    | cons k xs ih =>
      intro t frame kept
      rw [forEach_cons]
      by_cases hk : k = p
      · subst hk
        rw [h t frame kept.point]
        exact ih t frame kept
      · exact ih _ (frame.trans (.seqNews t n k)) (kept.trans (.of_step (.seqNews t n k) (Ne.symm hk)))
  exact walk allPoints s (.refl s) (.refl p s)

/-- A sequence that prepares has nothing to do while its target is on the way (R133). -/
theorem seqNews_starting {q : Sequence} {attempt allowed : Nat} {crank : Option Nat} {mark : Bool}
    (live : (s.pointRec p).seq = some q) (phase : q.phase = .preparing)
    (run : (s.setRec q.targetSet).run = .starting attempt allowed crank mark)
    (reach : (s.setRec q.targetSet).unreachable = false) : s.seqNews q.targetSet p = s := by
  simp [State.seqNews, live, phase, State.onlineReachable, run, reach]

theorem PointKept.makeDue (p : PointNo) (s : State) (n : SetNo) : PointKept p s (s.makeDue n .start) := by
  have due := PointKept.modSet p s n (f := fun r => { r with due := some .start }) rfl
  have read : ((s.modSet n fun r => { r with due := some .start }).setRec n).due = some .start := by rw [State.modSet_read]
  have made : s.makeDue n .start = (s.modSet n fun r => { r with due := some .start }).tryEnqueueSet n := rfl
  rw [made]
  generalize (s.modSet n fun r => { r with due := some .start }) = v at due read
  rcases tryEnqueueSet_due (s := v) read nofun with stays | ⟨e, -, -, queued⟩
  · rw [stays]
    exact due
  · rw [queued]
    exact due.trans ((PointKept.engine p v _).trans (.modSet p _ n rfl))

/-- The target of a sequence that prepares starts: the sequence waits (R129, R133). -/
theorem PointKept.enterStarting {q : Sequence} (live : (s.pointRec p).seq = some q) (phase : q.phase = .preparing)
    (reach : (s.setRec q.targetSet).unreachable = false) (why : StateReason) :
    PointKept p s (s.enterStarting q.targetSet why) := by
  have entered : s.enterStarting q.targetSet why = (s.changeRun q.targetSet
      (.starting 1 (((s.setEntry q.targetSet).map SetEntry.crankAttempts).getD 0) none false) why).makeDue q.targetSet .start := rfl
  rw [entered, changeRun_eq]
  have ran := PointKept.runSet p s q.targetSet
    (.starting 1 (((s.setEntry q.targetSet).map SetEntry.crankAttempts).getD 0) none false)
  obtain ⟨due, place, read⟩ := runSet_read s q.targetSet
    (.starting 1 (((s.setEntry q.targetSet).map SetEntry.crankAttempts).getD 0) none false)
  generalize StopAndClear.runSet s q.targetSet _ = v at ran read
  have live' : (v.pointRec p).seq = some q := (congrArg PointRec.seq ran.point).trans live
  refine (ran.trans (PointKept.raise p v _)).trans ((PointKept.tellSequencers fun t frame point => ?_).trans (.makeDue p _ _))
  have same := frame.sets q.targetSet
  refine seqNews_starting (attempt := 1) (allowed := ((s.setEntry q.targetSet).map SetEntry.crankAttempts).getD 0)
    (crank := none) (mark := false) ?_ phase ?_ ?_
  · rw [point]; exact live'
  · refine (run_of_reserved same).trans ?_
    exact congrArg SetRec.run read
  · refine (congrArg SetRec.unreachable same :).trans ?_
    exact (congrArg SetRec.unreachable read).trans reach

end

/-! ### An accepted request, by the run state of its target (R129) -/

section
variable {p : PointNo} {s t : State} {side : Side} {cause : Cause} {u : Addr} {a b : SetNo} {q : Sequence}

/-- The context filled, and the point load reserved on the target (R95, R129). -/
def contextFilled (s : State) (p : PointNo) (q : Sequence) : State := (s.reserve q.targetSet p q.reservedLoad).putSeq p q

theorem contextFilled_point (s : State) (p : PointNo) (q : Sequence) :
    (contextFilled s p q).pointRec p = { s.pointRec p with seq := some q } :=
  State.modPoint_read (s.reserve q.targetSet p q.reservedLoad) p _

theorem contextFilled_frame (s : State) (p : PointNo) (q : Sequence) : SeqFrame s (contextFilled s p q) :=
  (SeqFrame.reserve s q.targetSet p q.reservedLoad).trans (.putSeq _ p q)

theorem contextFilled_reserved (s : State) (p : PointNo) (q : Sequence) :
    ⟨p, q.reservedLoad⟩ ∈ ((contextFilled s p q).setRec q.targetSet).reservations := by
  have target : (contextFilled s p q).setRec q.targetSet = (s.reserve q.targetSet p q.reservedLoad).setRec q.targetSet := rfl
  rw [target, State.reserve, State.modSet_read]
  exact List.mem_append_right _ (List.mem_singleton_self _)

theorem spends_contextFilled (s : State) (p : PointNo) (q : Sequence) : Spends 1 s (contextFilled s p q) := by
  have flight : flying (contextFilled s p q) ≤ flying s + 1 := by
    have nodup : (allPoints.filter fun k => ((contextFilled s p q).pointRec k).seq.isSome).Nodup :=
      (List.nodup_finRange 12).filter _
    have within : (allPoints.filter fun k => ((contextFilled s p q).pointRec k).seq.isSome) ⊆
        p :: allPoints.filter fun k => (s.pointRec k).seq.isSome := by
      intro k hk
      by_cases same : k = p
      · exact same ▸ List.mem_cons_self
      · have other : (contextFilled s p q).pointRec k = s.pointRec k :=
          State.modPoint_other (s.reserve q.targetSet p q.reservedLoad) p _ same
        rw [List.mem_filter, other] at hk
        exact List.mem_cons_of_mem _ (List.mem_filter.mpr hk)
    exact (nodup.subperm within).length_le
  intro room
  exact ⟨List.prefix_rfl, by rw [weight, weight]; exact (Nat.add_le_add_left flight _)⟩

/-- A set that may become a target: its run state, and its mark clear (R94). -/
theorem eligible_iff {n : SetNo} (h : s.eligible n = true) :
    (s.setRec n).unreachable = false ∧ ((s.setRec n).run = .stopped ∨
      (∃ attempt allowed crank mark, (s.setRec n).run = .starting attempt allowed crank mark) ∨
      (∃ c, (s.setRec n).run = .warming c) ∨ (s.setRec n).run = .online) := by
  unfold State.eligible at h
  split at h
  · cases h
  · simp only [Bool.and_eq_true, Bool.not_eq_true'] at h
    obtain ⟨⟨⟨may, reach⟩, -⟩, -⟩ := h
    refine ⟨reach, ?_⟩
    cases run : (s.setRec n).run <;> simp [run, RunState.mayTakeLoad] at may ⊢

section
variable (switched : s.switched p = some (u, a, b))
include switched

theorem acceptChangeover_online (run : (s.setRec (sideSource side a b)).run = .online) :
    s.acceptChangeover p side cause =
      (contextFilled s p (s.newSequence p side cause a b)).proceed p (s.newSequence p side cause a b) := by
  have same := run_of_reserved ((contextFilled_frame s p (s.newSequence p side cause a b)).sets (sideSource side a b))
  unfold State.acceptChangeover
  rw [switched]
  exact if_pos (same.trans run)

theorem acceptChangeover_asked {result : StartResult} (run : (s.setRec (sideSource side a b)).run ≠ .online)
    (asked : (contextFilled s p (s.newSequence p side cause a b)).startRequest (sideSource side a b) = (t, result))
    (waits : result = .started ∨ result = .waiting) : s.acceptChangeover p side cause = t := by
  have same := run_of_reserved ((contextFilled_frame s p (s.newSequence p side cause a b)).sets (sideSource side a b))
  have offline : ((contextFilled s p (s.newSequence p side cause a b)).setRec (sideSource side a b)).run ≠ .online := by
    rw [same]; exact run
  have accepted : s.acceptChangeover p side cause =
      match (contextFilled s p (s.newSequence p side cause a b)).startRequest (sideSource side a b) with
      | (t, .started) => t
      | (t, .waiting) => t
      | (t, .alreadyOnline) => t.proceed p (s.newSequence p side cause a b)
      | (t, .refused) => t.endSequence p .targetFault none := by
    unfold State.acceptChangeover
    rw [switched]
    exact if_neg offline
  rw [accepted, asked]
  rcases waits with rfl | rfl <;> rfl

end

/-- What an accepted request leaves, its sequence being `q` in the phase of the start (R95, R129). -/
structure Started (s t : State) (p : PointNo) (side : Side) (cause : Cause) (u : Addr) (q : Sequence) : Prop where
  seq : (t.pointRec p).seq = some q
  context : Accepted s p side cause q
  outside : SameOutside s t
  due : t.due = s.due
  position : (t.pointRec p).position = (s.pointRec p).position
  reserved : ⟨p, s.pointLoad p⟩ ∈ (t.setRec q.targetSet).reservations
  runs : ∀ k, k ≠ q.targetSet → (t.setRec k).run = (s.setRec k).run
  hires : ∀ k, (t.setRec k).hire = (s.setRec k).hire
  dead : (s.setRec q.targetSet).run = .online → (s.pointRec p).position = .opened → q.phase = .dead ∧
    q.counter = .dead (((s.pointEntry p).map PointEntry.deadTime).getD 0) ∧ q.openCycle = some s.engine.cycleNo
  opening : (s.setRec q.targetSet).run = .online → (s.pointRec p).position ≠ .opened → q.phase = .opening ∧
    ((t.pointRec p).due = some .openSwitch ∨ ((t.pointRec p).place = .queued .openSwitch ∧
      ⟨u, .openSwitch, [], .changeover p⟩ ∈ t.engine.queue))
  preparing : (s.setRec q.targetSet).run ≠ .online → q.phase = .preparing ∧
    q.counter = .prepare (((s.pointEntry p).map PointEntry.prepareLimit).getD 0)
  starts : (s.setRec q.targetSet).run = .stopped → (∃ allowed, (t.setRec q.targetSet).run = .starting 1 allowed none false) ∧
    Told s t (.setState q.targetSet .stopped .starting .sequencer none s.engine.cycleNo)
  unmarked : ∀ attempt allowed crank mark, (s.setRec q.targetSet).run = .starting attempt allowed crank mark →
    (t.setRec q.targetSet).run = .starting attempt allowed crank false

/-- The context as it is filled (R129). -/
theorem newSequence_accepted (switched : s.switched p = some (u, a, b)) (side : Side) (cause : Cause) :
    Accepted s p side cause (s.newSequence p side cause a b) :=
  ⟨rfl, ⟨u, a, b, switched, rfl, rfl⟩, rfl, rfl, rfl, rfl, rfl, rfl⟩

/-- The state with OPEN due (R134). -/
def openDue (s : State) (p : PointNo) (q : Sequence) : State :=
  s.modPoint p fun r => { r with seq := some { q with phase := .opening, counter := .none }, due := some .openSwitch }

/-- OPEN due: it stays due, or is queued to the changeover unit (R134). -/
theorem enterOpening_asked (switched : s.switched p = some (u, a, b)) (q : Sequence) :
    ((s.enterOpening p q).pointRec p).seq = some { q with phase := .opening, counter := .none } ∧
      ((s.enterOpening p q).pointRec p).position = (s.pointRec p).position ∧
      (∀ n, ((s.enterOpening p q).setRec n) = s.setRec n) ∧
      (((s.enterOpening p q).pointRec p).due = some .openSwitch ∨ (((s.enterOpening p q).pointRec p).place = .queued .openSwitch ∧
        ⟨u, .openSwitch, [], .changeover p⟩ ∈ (s.enterOpening p q).engine.queue)) := by
  have read : (openDue s p q).pointRec p =
      { s.pointRec p with seq := some { q with phase := .opening, counter := .none }, due := some .openSwitch } :=
    State.modPoint_read s p _
  have entered : s.enterOpening p q = (openDue s p q).tryEnqueuePoint p := rfl
  have switched' : (openDue s p q).switched p = some (u, a, b) := switched
  have sets (n : SetNo) : (openDue s p q).setRec n = s.setRec n := rfl
  rw [entered]
  generalize openDue s p q = v at read switched' sets
  have stays : (v.pointRec p).seq = some { q with phase := .opening, counter := .none } ∧
      (v.pointRec p).position = (s.pointRec p).position ∧ (∀ n, v.setRec n = s.setRec n) ∧
      ((v.pointRec p).due = some .openSwitch ∨ ((v.pointRec p).place = .queued .openSwitch ∧
        ⟨u, .openSwitch, [], .changeover p⟩ ∈ v.engine.queue)) := by
    rw [read]
    exact ⟨rfl, rfl, sets, .inl rfl⟩
  unfold State.tryEnqueuePoint
  dsimp only
  split
  next y code live found _ =>
    rw [read] at live found
    obtain rfl : _ = y := Option.some.inj live
    obtain rfl : _ = code := Option.some.inj found
    dsimp only
    unfold State.enqueuePoint
    rw [switched']
    dsimp only
    split
    · exact stays
    next enqueued =>
      obtain ⟨-, -, -, rfl⟩ := State.enqueue_eq_some.mp enqueued
      rw [State.modPoint_read]
      refine ⟨(congrArg PointRec.seq read :), (congrArg PointRec.position read :), sets, .inr ⟨rfl, ?_⟩⟩
      exact List.mem_append_right _ (List.mem_singleton_self _)
  · exact stays

theorem spends_makeDue (s : State) (n : SetNo) : Spends 0 s (s.makeDue n .start) := by
  have due := makeDue_start s n
  exact .of_notices (congrArg Port.notices due.port) fun k => by rw [State.pointRec, due.points]; rfl

section
variable (switched : s.switched p = some (u, a, b)) (eligible : s.eligible (sideSource side a b) = true)
include switched

/-- The target is ONLINE: the sequence is in DEAD where its point is OPEN, and in OPENING elsewhere. -/
theorem acceptChangeover_proceeds (run : (s.setRec (sideSource side a b)).run = .online) :
    ∃ q, q.targetSet = sideSource side a b ∧ Started s (s.acceptChangeover p side cause) p side cause u q := by
  have context := newSequence_accepted switched side cause
  have load : (s.newSequence p side cause a b).reservedLoad = s.pointLoad p := rfl
  have target : (s.newSequence p side cause a b).targetSet = sideSource side a b := rfl
  have original : (s.newSequence p side cause a b).originalPos = (s.pointRec p).position := rfl
  rw [acceptChangeover_online switched run]
  generalize s.newSequence p side cause a b = q at context load target original
  have point := contextFilled_point s p q
  have frame := contextFilled_frame s p q
  have reserved := contextFilled_reserved s p q
  rw [load] at reserved
  have proceeds := SeqFrame.proceed (contextFilled s p q) p q
  have frames := frame.trans proceeds
  generalize contextFilled s p q = v at point frame reserved proceeds frames
  have runs (k : SetNo) : ((v.proceed p q).setRec k).run = (s.setRec k).run := run_of_reserved (frames.sets k)
  have hires (k : SetNo) : ((v.proceed p q).setRec k).hire = (s.setRec k).hire := hire_of_reserved (frames.sets k)
  have switched' : v.switched p = some (u, a, b) := by
    rw [State.switched, State.pointEntry, frame.tables]; exact switched
  have entry : v.pointEntry p = s.pointEntry p := by rw [State.pointEntry, frame.tables]; rfl
  have cycle : v.engine.cycleNo = s.engine.cycleNo := (congrArg Engine.cycleNo frame.engine :)
  have online : (s.setRec q.targetSet).run = .online := by rw [target]; exact run
  have outside := sameOutside_of_seqFrame frames
  by_cases opened : (s.pointRec p).position = .opened
  · have proceeded : v.proceed p q = v.enterDead p q v.engine.cycleNo := if_pos (original.trans opened)
    have read : (v.proceed p q).pointRec p = { v.pointRec p with seq := some { q with
        phase := .dead, counter := .dead (((v.pointEntry p).map PointEntry.deadTime).getD 0)
        openCycle := some v.engine.cycleNo } } := by
      rw [proceeded]
      exact State.modPoint_read v p _
    rw [entry, cycle] at read
    have sets : (v.proceed p q).setRec q.targetSet = v.setRec q.targetSet := by rw [proceeded]; rfl
    refine ⟨{ q with
        phase := .dead, counter := .dead (((s.pointEntry p).map PointEntry.deadTime).getD 0)
        openCycle := some s.engine.cycleNo }, target, ⟨congrArg PointRec.seq read, ?_, outside, frames.due, ?_, ?_, fun k _ => runs k, hires,
      fun _ _ => ⟨rfl, rfl, rfl⟩, fun _ closed => absurd opened closed, fun off => absurd online off,
      fun off => absurd (online.symm.trans off) nofun, fun _ _ _ _ off => absurd (online.symm.trans off) nofun⟩⟩
    · exact ⟨context.toward, context.set, context.position, context.because, context.load, context.marks⟩
    · rw [read, point]
    · exact sets ▸ reserved
  · have proceeded : v.proceed p q = v.enterOpening p q := if_neg (mt original.symm.trans opened)
    obtain ⟨seq, position, sets, asked⟩ := enterOpening_asked switched' q
    rw [← proceeded] at seq position sets asked
    refine ⟨{ q with phase := .opening, counter := .none }, target, ⟨seq, ?_, outside, frames.due, ?_, ?_, fun k _ => runs k, hires,
      fun _ open_ => absurd open_ opened, fun _ _ => ⟨rfl, asked⟩, fun off => absurd online off,
      fun off => absurd (online.symm.trans off) nofun, fun _ _ _ _ off => absurd (online.symm.trans off) nofun⟩⟩
    · exact ⟨context.toward, context.set, context.position, context.because, context.load, context.marks⟩
    · rw [position, point]
    · exact sets _ ▸ reserved

include eligible

/-- The target is not ONLINE: the sequence prepares, and the target is started or on its way (R80, R129). -/
theorem acceptChangeover_prepares (run : (s.setRec (sideSource side a b)).run ≠ .online) :
    ∃ q, q.targetSet = sideSource side a b ∧ Started s (s.acceptChangeover p side cause) p side cause u q := by
  obtain ⟨reach, states⟩ := eligible_iff eligible
  have context := newSequence_accepted switched side cause
  have asks (t : State) (result : StartResult) := acceptChangeover_asked (t := t) (result := result) (cause := cause) switched run
  have load : (s.newSequence p side cause a b).reservedLoad = s.pointLoad p := rfl
  have target : (s.newSequence p side cause a b).targetSet = sideSource side a b := rfl
  have phase : (s.newSequence p side cause a b).phase = .preparing := rfl
  have counter : (s.newSequence p side cause a b).counter =
    .prepare (((s.pointEntry p).map PointEntry.prepareLimit).getD 0) := rfl
  generalize s.newSequence p side cause a b = q at context load target phase counter asks
  generalize sideSource side a b = n at target run reach states asks
  subst target
  have point := contextFilled_point s p q
  have frame := contextFilled_frame s p q
  have reserved := contextFilled_reserved s p q
  have spends := spends_contextFilled s p q
  rw [load] at reserved
  generalize contextFilled s p q = v at point frame reserved spends asks
  have run' := run_of_reserved (frame.sets q.targetSet)
  have reach' : (v.setRec q.targetSet).unreachable = false := (unreachable_of_seqFrame frame _).trans reach
  have live : (v.pointRec p).seq = some q := by rw [point]
  have cycle : v.engine.cycleNo = s.engine.cycleNo := (congrArg Engine.cycleNo frame.engine :)
  have asked := RunFrame.startRequest q.targetSet v
  have frames := (frame.runFrame (n := q.targetSet)).trans asked
  have left (t : State) (result : StartResult) (request : v.startRequest q.targetSet = (t, result))
      (waits : result = .started ∨ result = .waiting) (kept : PointKept p v t)
      (hire : (t.setRec q.targetSet).hire = (v.setRec q.targetSet).hire)
      (starts : (s.setRec q.targetSet).run = .stopped → (∃ allowed, (t.setRec q.targetSet).run = .starting 1 allowed none false) ∧
        Told s t (.setState q.targetSet .stopped .starting .sequencer none s.engine.cycleNo))
      (unmarked : ∀ attempt allowed crank mark, (s.setRec q.targetSet).run = .starting attempt allowed crank mark →
        (t.setRec q.targetSet).run = .starting attempt allowed crank false) :
      ∃ y, y.targetSet = q.targetSet ∧ Started s (s.acceptChangeover p side cause) p side cause u y := by
    rw [asks t result request waits]
    rw [request] at frames
    refine ⟨q, rfl, ⟨?_, context, sameOutside_of_runFrame frames, frames.due, ?_, ?_, fun k hk => run_of_runFrame frames k hk,
      fun k => ?_, fun online => absurd online run, fun online => absurd online run, fun _ => ⟨phase, counter⟩, starts, unmarked⟩⟩
    · rw [kept.point, live]
    · rw [kept.point, point]
    · have own := kept.reservations q.targetSet
      have mem : ⟨p, s.pointLoad p⟩ ∈ ((v.setRec q.targetSet).reservations.filter fun x => x.point = p) :=
        List.mem_filter.mpr ⟨reserved, decide_eq_true rfl⟩
      rw [← own] at mem
      exact (List.mem_filter.mp mem).1
    · exact hire_of_runFrame frames (hire.trans (hire_of_reserved (frame.sets _))) k
  rcases states with stopped | ⟨attempt, allowed, crank, mark, starting⟩ | ⟨c, warming⟩ | online
  · have request : v.startRequest q.targetSet = (v.enterStarting q.targetSet .sequencer, .started) := by
      simp [State.startRequest, run', stopped, reach']
    obtain ⟨starts, hire, -, -⟩ := enterStarting_spec v q.targetSet .sequencer
    have told := told_of_changeRun spends (spends_makeDue (v.changeRun q.targetSet
      (.starting 1 (((v.setEntry q.targetSet).map SetEntry.crankAttempts).getD 0) none false) .sequencer) q.targetSet)
      (Nat.le_of_ble_eq_true rfl)
    rw [run', stopped, cycle] at told
    have kept := PointKept.enterStarting live phase reach' .sequencer
    refine left _ _ request (.inl rfl) kept hire (fun _ => ⟨⟨_, starts⟩, told⟩)
      fun _ _ _ _ off => absurd (stopped.symm.trans off) nofun
  · have request : v.startRequest q.targetSet = (v.modSet q.targetSet SetRec.clearStopPending, .waiting) := by
      simp [State.startRequest, run', starting]
    have read : (v.modSet q.targetSet SetRec.clearStopPending).setRec q.targetSet = (v.setRec q.targetSet).clearStopPending :=
      State.modSet_read v q.targetSet _
    have cleared : (v.setRec q.targetSet).clearStopPending =
        { v.setRec q.targetSet with run := .starting attempt allowed crank false } := by
      simp [SetRec.clearStopPending, run', starting]
    rw [cleared] at read
    refine left _ _ request (.inr rfl) (.modSet p v _ (by rw [cleared])) (by rw [read])
      (fun off => absurd (starting.symm.trans off) nofun) fun attempt' allowed' crank' mark' same => ?_
    rw [read]
    cases starting.symm.trans same
    rfl
  · have request : v.startRequest q.targetSet = (v, .waiting) := by
      simp [State.startRequest, run', warming]
    exact left _ _ request (.inr rfl) (.refl p v) rfl (fun off => absurd (warming.symm.trans off) nofun)
      fun _ _ _ _ off => absurd (warming.symm.trans off) nofun
  · exact absurd online run

end

/-- An accepted request fills the context of a sequence in its first phase (R129). -/
theorem acceptChangeover_started (switched : s.switched p = some (u, a, b)) (side : Side) (cause : Cause) (eligible : s.eligible (sideSource side a b) = true) :
    ∃ q, q.targetSet = sideSource side a b ∧ Started s (s.acceptChangeover p side cause) p side cause u q := by
  by_cases run : (s.setRec (sideSource side a b)).run = .online
  · exact acceptChangeover_proceeds switched run
  · exact acceptChangeover_prepares switched eligible run

/-! ### The notices of an accepted request -/

theorem spends_enterStarting (s : State) (n : SetNo) (why : StateReason) : Spends 1 s (s.enterStarting n why) :=
  (Spends.changeRun s n (.starting 1 (((s.setEntry n).map SetEntry.crankAttempts).getD 0) none false) why none).trans
    (spends_makeDue _ n)

theorem spends_startRequest (s : State) (n : SetNo) : Spends 1 s (s.startRequest n).1 := by
  unfold State.startRequest
  split
  · split
    · exact (Spends.refl s).mono (Nat.zero_le _)
    · have asked := spends_enterStarting s n .sequencer
      generalize s.enterStarting n .sequencer = t at asked ⊢
      exact asked
  · exact (spends_modSet n s SetRec.clearStopPending).mono (Nat.zero_le _)
  all_goals exact (Spends.refl s).mono (Nat.zero_le _)

theorem spends_acceptChangeover (s : State) (p : PointNo) (side : Side) (cause : Cause) :
    Spends 2 s (s.acceptChangeover p side cause) := by
  unfold State.acceptChangeover
  split
  · exact (Spends.refl s).mono (Nat.zero_le _)
  next u a b _ =>
    dsimp only
    generalize s.newSequence p side cause a b = q
    have filled := spends_contextFilled s p q
    have live : ((contextFilled s p q).pointRec p).seq.isSome = true := by rw [contextFilled_point]; rfl
    have same : (s.reserve q.targetSet p q.reservedLoad).putSeq p q = contextFilled s p q := rfl
    rw [same]
    generalize contextFilled s p q = v at filled live
    split
    · exact (filled.trans (PointStep.proceed live q).spends).mono (by omega)
    next offline =>
      have asked := filled.trans (spends_startRequest v q.targetSet)
      split
      next t request => rw [request] at asked; exact asked
      next t request => rw [request] at asked; exact asked
      next t request =>
        exact absurd (Keeping.online_of_alreadyOnline request) offline
      next t request =>
        rw [request] at asked
        exact asked.trans (PointStep.endSequence p t .targetFault none).spends

/-! ### The checks in their order (R128) -/

theorem acceptanceRefusal_of {r : Option ResultCode} (h : Accepts s p side r) : s.acceptanceRefusal p side = r := by
  cases h with
  | notSwitched none => simp [State.acceptanceRefusal, none]
  | noChange some at_ =>
    obtain ⟨⟨u, a, b⟩, eq⟩ := Option.ne_none_iff_exists'.mp some
    simp [State.acceptanceRefusal, eq, at_]
  | unreachable u a b eq away h =>
    rcases h with h | h <;> simp_all [State.acceptanceRefusal]
  | localPanel u a b eq away reach known panel => simp [State.acceptanceRefusal, eq, away, reach, known, panel]
  | notEligible u a b eq away reach known remote h => simp [State.acceptanceRefusal, eq, away, reach, known, remote, h]
  | capacity u a b eq away reach known remote eligible h =>
    simp [State.acceptanceRefusal, eq, away, reach, known, remote, eligible, h]
  | passes u a b eq away reach known remote eligible h =>
    simp [State.acceptanceRefusal, eq, away, reach, known, remote, eligible, Int.not_lt.mpr h]

theorem eligible_of_accepted (h : s.acceptanceRefusal p side = none) :
    ∃ u a b, s.switched p = some (u, a, b) ∧ s.eligible (sideSource side a b) = true := by
  cases switched : s.switched p with
  | none => simp [State.acceptanceRefusal, switched] at h
  | some x =>
    obtain ⟨u, a, b⟩ := x
    refine ⟨u, a, b, rfl, ?_⟩
    unfold State.acceptanceRefusal at h
    rw [switched] at h
    dsimp only at h
    split at h
    · cases h
    · split at h
      · cases h
      · split at h
        · cases h
        · split at h
          · cases h
          next fits => rwa [Bool.not_eq_true', Bool.not_eq_false] at fits

/-! ### CHANGEOVER (R127 to R129) -/

theorem reqChangeover_badIndex {point : Nat} (h : point = 0 ∨ 12 < point) (side : Option Side) (s : State) :
    reqChangeover point side s = (s, .refuse .badIndex) := by
  rw [reqChangeover, numbered_none h]

theorem reqChangeover_badValue (p : PointNo) (s : State) : reqChangeover (p.val + 1) none s = (s, .refuse .badValue) := by
  simp [reqChangeover]

theorem reqChangeover_notValid (h : s.switched p = none) (side : Side) :
    reqChangeover (p.val + 1) (some side) s = (s, .refuse .notValid) := by
  simp [reqChangeover, h]

theorem reqChangeover_busy (h : s.switched p ≠ none) (busy : (s.pointRec p).seq ≠ none) (side : Side) :
    reqChangeover (p.val + 1) (some side) s = (s, .refuse .busy) := by
  simp [reqChangeover, h, Option.isSome_iff_ne_none.mpr busy]

theorem reqChangeover_refused {code : ResultCode} (idle : (s.pointRec p).seq = none)
    (refusal : s.acceptanceRefusal p side = some code) :
    reqChangeover (p.val + 1) (some side) s = (s, .refuse code) := by
  cases switched : s.switched p with
  | none =>
    rw [State.acceptanceRefusal, switched] at refusal
    cases refusal
    exact reqChangeover_notValid switched side
  | some x => simp [reqChangeover, switched, idle, refusal]

theorem reqChangeover_accepted {x : Addr × SetNo × SetNo} (idle : (s.pointRec p).seq = none)
    (switched : s.switched p = some x) (accepted : s.acceptanceRefusal p side = none) :
    reqChangeover (p.val + 1) (some side) s = (s.acceptChangeover p side .office,
      .okWith (.accepted (((s.acceptChangeover p side .office).pointRec p).seq.map Sequence.phase) (s.pointLoad p))) := by
  simp [reqChangeover, idle, switched, accepted]

end

/-- Settles O49: the checks are taken in their order, and an accepted request starts its sequence as said above. -/
theorem changeover : Obligations.Changeover := by
  refine ⟨fun tag point side s calm h => exec_request_calm calm rfl (reqChangeover_badIndex h side s),
    fun tag p s calm => exec_request_calm calm rfl (reqChangeover_badValue p s), fun tag p side s calm =>
    ⟨fun h => exec_request_calm calm rfl (reqChangeover_notValid h side),
      fun loaded busy => exec_request_calm calm rfl (reqChangeover_busy loaded busy side),
      fun code idle refused => exec_request_calm calm rfl (reqChangeover_refused idle (acceptanceRefusal_of refused)),
      fun u a b e idle passes switched entry => ?_⟩⟩
  have accepted := acceptanceRefusal_of passes
  obtain ⟨u', a', b', switched', eligible⟩ := eligible_of_accepted accepted
  cases switched.symm.trans switched'
  obtain ⟨q, -, started⟩ := acceptChangeover_started switched side .office eligible
  have request := reqChangeover_accepted idle switched accepted
  rw [started.seq] at request
  generalize s.acceptChangeover p side .office = t at request started
  have deadTime : ((s.pointEntry p).map PointEntry.deadTime).getD 0 = e.deadTime := by rw [entry]; rfl
  have prepareLimit : ((s.pointEntry p).map PointEntry.prepareLimit).getD 0 = e.prepareLimit := by rw [entry]; rfl
  refine ⟨_, q, exec_request_calm calm rfl request, rfl, started.seq, started.context, sameOutside_answered started.outside tag 27 _,
    started.due, started.position, started.reserved, started.runs, started.hires, fun online opened => ?_,
    started.opening, fun off => ?_, started.starts, started.unmarked⟩
  · have dead := started.dead online opened
    rwa [deadTime] at dead
  · have prepares := started.preparing off
    rwa [prepareLimit] at prepares

end Sys2Proof.Accepting
end

section
/-! SUPPORT. The walk of the schedule (R145); and automatic requests, refused or accepted (R91, R127 to R129). -/

namespace Sys2Proof.Raising

open Sys2Proof Sys2Proof.Machine Sys2Proof.Stated Sys2Proof.ClearFlags Sys2Proof.StopAndClear Sys2Proof.Sequencing
open Sys2Proof.Accepting Sys2Proof.Sessions Sys2Proof.Ending

/-! ### An event taken, which is no close-off: the loads stand (R55) -/

section
variable {s : State} {x : TimedEvent} (h : ∀ f, x ≠ .holdLimit f)
include h

theorem pointLoad_erase (p : PointNo) : ({ s with due := s.due.erase x } : State).pointLoad p = s.pointLoad p := by
  have closing (f : FeederNo) : ({ s with due := s.due.erase x } : State).closingOff f = s.closingOff f := by
    rw [State.closingOff, State.closingOff, Bool.eq_iff_iff, List.contains_iff_mem, List.contains_iff_mem]
    exact List.mem_erase_of_ne (h f).symm
  unfold State.pointLoad
  simp only [closing]
  rfl

theorem acceptanceRefusal_erase (p : PointNo) (side : Side) :
    ({ s with due := s.due.erase x } : State).acceptanceRefusal p side = s.acceptanceRefusal p side := by
  unfold State.acceptanceRefusal
  rw [pointLoad_erase h]
  rfl

end

/-! ### The walk of the schedule (R145) -/

/-- What the walk of the schedule leaves alone. -/
structure WalkFrame (s t : State) : Prop where
  tables : t.tables = s.tables
  site : t.site = s.site
  tanks : t.tanks = s.tanks
  billing : t.billing = s.billing
  tariff : t.tariff = s.tariff
  feeders : t.feeders = s.feeders

section
variable {s t u : State} {now : Nat} {e : ScheduleEntry}

theorem WalkFrame.refl (s : State) : WalkFrame s s := ⟨rfl, rfl, rfl, rfl, rfl, rfl⟩

theorem WalkFrame.trans (h : WalkFrame s t) (k : WalkFrame t u) : WalkFrame s u :=
  ⟨k.tables.trans h.tables, k.site.trans h.site, k.tanks.trans h.tanks, k.billing.trans h.billing, k.tariff.trans h.tariff,
    k.feeders.trans h.feeders⟩

theorem WalkFrame.removeScheduled (s : State) (e : ScheduleEntry) (r : ScheduleResult) :
    WalkFrame s (s.removeScheduled e r) := ⟨rfl, rfl, rfl, rfl, rfl, rfl⟩

theorem WalkFrame.of_outside (h : SameOutside s t) : WalkFrame s t :=
  ⟨h.tables, h.site, h.tanks, h.billing, h.tariff, h.feeders⟩

theorem removeScheduled_schedule (s : State) (e : ScheduleEntry) (r : ScheduleResult) :
    (s.removeScheduled e r).schedule = s.schedule.filter fun x => x ≠ e := rfl

/-- A request that fires: its entry goes, and nothing else of the schedule (R145). -/
theorem fireScheduled_frame (s : State) (e : ScheduleEntry) : WalkFrame s (s.fireScheduled e) ∧
    (s.fireScheduled e).schedule = s.schedule.filter fun x => x ≠ e := by
  unfold State.fireScheduled
  split
  · exact ⟨.removeScheduled s e _, rfl⟩
  next accepted =>
    obtain ⟨u, a, b, switched, eligible⟩ := eligible_of_accepted accepted
    obtain ⟨q, -, started⟩ := acceptChangeover_started switched e.side .schedule eligible
    have outside := started.outside
    generalize s.acceptChangeover e.point e.side .schedule = v at outside
    exact ⟨(WalkFrame.of_outside outside).trans (.removeScheduled v e _), by rw [removeScheduled_schedule, outside.schedule]⟩

/-- An entry too late to fire. -/
abbrev Late (now limit : Nat) (e : ScheduleEntry) : Prop := e.time + limit < now

/-- What one entry of the walk does to the schedule: it stays or goes; and it goes where it is late and its point not settled. -/
theorem walkEntry_step (now : Nat) (s : State) (settled : List PointNo) (e : ScheduleEntry) :
    WalkFrame s (State.walkEntry now (s, settled) e).1 ∧
    ((State.walkEntry now (s, settled) e).1.schedule = s.schedule ∨
      (e.time ≤ now ∧ (State.walkEntry now (s, settled) e).1.schedule = s.schedule.filter fun x => x ≠ e)) ∧
    (Late now s.site.values.lateLimit e → e.point ∉ settled →
      (State.walkEntry now (s, settled) e).1.schedule = s.schedule.filter fun x => x ≠ e) ∧
    (∀ k ∈ (State.walkEntry now (s, settled) e).2, k ∈ settled ∨ (k = e.point ∧ ¬ Late now s.site.values.lateLimit e)) := by
  unfold State.walkEntry
  dsimp only
  split
  next early =>
    refine ⟨.refl s, .inl rfl, fun late out => absurd early ?_, fun k hk => .inl hk⟩
    rw [Late] at late
    exact not_or.mpr ⟨by omega, out⟩
  next due =>
    obtain ⟨due, out⟩ := not_or.mp due
    split
    next late => exact ⟨.removeScheduled s e _, .inr ⟨by omega, rfl⟩, fun _ _ => rfl, fun k hk => .inl hk⟩
    next late =>
      have settles (k : PointNo) (hk : k ∈ e.point :: settled) :
          k ∈ settled ∨ (k = e.point ∧ ¬ Late now s.site.values.lateLimit e) :=
        (List.mem_cons.mp hk).elim (fun same => .inr ⟨same, late⟩) .inl
      split
      · obtain ⟨frame, schedule⟩ := fireScheduled_frame s e
        exact ⟨frame, .inr ⟨by omega, schedule⟩, fun yes _ => absurd yes late, settles⟩
      · exact ⟨.refl s, .inl rfl, fun yes _ => absurd yes late, settles⟩

/-- The walk over a list of entries (R145). -/
theorem walk_schedule (now : Nat) (xs : List ScheduleEntry) : ∀ (s : State) (settled : List PointNo),
    WalkFrame s (xs.foldl (State.walkEntry now) (s, settled)).1 ∧
    (∀ e ∈ (xs.foldl (State.walkEntry now) (s, settled)).1.schedule, e ∈ s.schedule) ∧
    (∀ e ∈ s.schedule, now < e.time → e ∈ (xs.foldl (State.walkEntry now) (s, settled)).1.schedule) ∧
    (xs.Pairwise (fun a b => a.time ≤ b.time) →
      (∀ e ∈ xs, Late now s.site.values.lateLimit e → e.point ∉ settled) →
      ∀ e ∈ xs, Late now s.site.values.lateLimit e → e ∉ (xs.foldl (State.walkEntry now) (s, settled)).1.schedule) := by
  induction xs with
  | nil => exact fun s settled => ⟨.refl s, fun _ h => h, fun _ h _ => h, fun _ _ _ h => absurd h List.not_mem_nil⟩
  | cons x xs ih =>
    intro s settled
    obtain ⟨frame, step, gone, settles⟩ := walkEntry_step now s settled x
    rw [List.foldl_cons]
    generalize State.walkEntry now (s, settled) x = acc at frame step gone settles
    obtain ⟨v, settled'⟩ := acc
    dsimp only at frame step gone settles
    obtain ⟨frame', within, stays, late⟩ := ih v settled'
    generalize (xs.foldl (State.walkEntry now) (v, settled')).1 = t at frame' within stays late
    rw [frame.site] at late
    refine ⟨frame.trans frame', fun e he => ?_, fun e he early => stays e ?_ early, fun sorted free e he isLate => ?_⟩
    · have mem := within e he
      rcases step with same | ⟨-, removed⟩
      · rwa [same] at mem
      · exact (List.mem_filter.mp (removed ▸ mem)).1
    · rcases step with same | ⟨due, removed⟩
      · rwa [same]
      · rw [removed]
        refine List.mem_filter.mpr ⟨he, decide_eq_true fun same => ?_⟩
        rw [same] at early
        omega
    · obtain ⟨after, sorted'⟩ := List.pairwise_cons.mp sorted
      rcases List.mem_cons.mp he with rfl | mem
      · intro still
        have there := within e still
        rw [gone isLate (free e List.mem_cons_self isLate)] at there
        exact of_decide_eq_true (List.mem_filter.mp there).2 rfl
      · refine late sorted' (fun y hy yLate settledY => ?_) e mem isLate
        rcases settles y.point settledY with before | ⟨-, early⟩
        · exact free y (List.mem_cons_of_mem _ hy) yLate before
        · have order := after y hy
          rw [Late] at yLate early
          omega

theorem entryTime_eq (e : ScheduleEntry) : e.time = e.day * 86400 + e.second := rfl

theorem walkSchedule_eq (clock : s.billing.nowSeconds = some now) :
    s.walkSchedule = (s.schedule.foldl (State.walkEntry now) (s, [])).1 := by
  rw [State.walkSchedule, clock]

section
variable (clock : s.billing.nowSeconds = some now) (only : s.schedule = [e]) (due : e.time ≤ now)
include clock only due

/-- The walk of a schedule of one entry that is due (R145). -/
theorem walkSchedule_single : s.walkSchedule =
    if Late now s.site.values.lateLimit e then s.removeScheduled e .late
    else if (s.pointRec e.point).seq.isNone then s.fireScheduled e else s := by
  have early : ¬ (now < e.time ∨ e.point ∈ ([] : List PointNo)) := not_or.mpr ⟨Nat.not_lt.mpr due, List.not_mem_nil⟩
  rw [walkSchedule_eq clock, only, List.foldl_cons, List.foldl_nil, State.walkEntry, if_neg early]
  by_cases late : Late now s.site.values.lateLimit e
  · rw [if_pos late, if_pos late]
  · rw [if_neg late, if_neg late]
    split <;> rfl

end

/-- The SCHEDULE notice of an entry that goes (R145). -/
theorem removeScheduled_told {k : Nat} {r : ScheduleResult} (earlier : Spends k s u) (few : k ≤ 15) :
    Told s (u.removeScheduled e r) (.schedule e.point e.day e.second e.side r) := by
  have removed : u.removeScheduled e r = { u with schedule := u.schedule.filter fun x => x ≠ e }.raise
    (.schedule e.point e.day e.second e.side r) := rfl
  rw [removed]
  exact told_of_spends (earlier.trans (u := { u with schedule := u.schedule.filter fun x => x ≠ e })
    (.of_notices rfl fun _ => rfl)) (.refl _) few

theorem removeScheduled_only (only : u.schedule = [e]) (r : ScheduleResult) : (u.removeScheduled e r).schedule = [] := by
  rw [removeScheduled_schedule, only]
  simp

end

/-- Settles O21: the walk by induction on its entries, and the walk of one entry by its case. -/
theorem scheduleFires : Obligations.ScheduleFires := by
  refine ⟨fun s now left clock => ?_, fun s e now left clock only due => ?_⟩
  · have run : exec .scheduleFire s =
        .next ((({ s with due := s.due.erase .schedule } : State)).happen .schedule).startTx := exec_timed left
    have happens := walkSchedule_eq (s := { s with due := s.due.erase .schedule }) clock
    have kept := State.happen_due { s with due := s.due.erase .schedule } .schedule
    obtain ⟨frame, within, stays, late⟩ := walk_schedule now s.schedule { s with due := s.due.erase .schedule } []
    have same : ({ s with due := s.due.erase .schedule } : State).happen .schedule =
      ({ s with due := s.due.erase .schedule } : State).walkSchedule := rfl
    rw [same, happens] at run kept
    generalize (s.schedule.foldl (State.walkEntry now) ({ s with due := s.due.erase .schedule }, [])).1 = t
      at run kept frame within stays late
    exact ⟨_, run, kept, within, stays, fun sorted e mem isLate =>
      late sorted (fun _ _ _ => List.not_mem_nil) e mem isLate, frame.tables, frame.site, frame.tanks, frame.billing, frame.tariff,
      frame.feeders⟩
  · intro late
    have run : exec .scheduleFire s =
        .next ((({ s with due := s.due.erase .schedule } : State)).happen .schedule).startTx := exec_timed left
    have single := walkSchedule_single (s := { s with due := s.due.erase .schedule }) clock only due
    have same : ({ s with due := s.due.erase .schedule } : State).happen .schedule =
      ({ s with due := s.due.erase .schedule } : State).walkSchedule := rfl
    rw [same] at run
    have isLate : Late now s.site.values.lateLimit e ↔ late := Iff.rfl
    have outcome (t : State) (result : ({ s with due := s.due.erase .schedule } : State).walkSchedule = t) :
        exec .scheduleFire s = .next t.startTx := by rw [run, result]
    by_cases isLate : Late now s.site.values.lateLimit e
    · have told := removeScheduled_told (e := e) (r := .late)
        (Spends.of_notices (s := s) (t := { s with due := s.due.erase .schedule }) rfl fun _ => rfl) (Nat.zero_le _)
      have gone := removeScheduled_only (u := { s with due := s.due.erase .schedule }) only .late
      exact ⟨_, outcome _ (single.trans (if_pos isLate)), fun _ => ⟨gone, rfl, told_startTx told⟩, fun no => absurd isLate no,
        fun no => absurd isLate no, fun no => absurd isLate no⟩
    rw [if_neg isLate] at single
    cases idle : (s.pointRec e.point).seq with
    | some q =>
      have busy : ¬ (s.pointRec e.point).seq.isNone = true := by rw [idle]; exact nofun
      exact ⟨_, outcome _ (single.trans (if_neg busy)), fun yes => absurd yes isLate, fun _ _ => ⟨only, rfl⟩, fun _ => nofun,
        fun _ => nofun⟩
    | none =>
      have free : (s.pointRec e.point).seq.isNone = true := by rw [idle]; rfl
      have fires := outcome _ (single.trans (if_pos free))
      have same := acceptanceRefusal_erase (s := s) (x := .schedule) nofun e.point e.side
      have taken := Spends.of_notices (s := s) (t := { s with due := s.due.erase .schedule }) rfl fun _ => rfl
      have only' : ({ s with due := s.due.erase .schedule } : State).schedule = [e] := only
      have points : ({ s with due := s.due.erase .schedule } : State).points = s.points := rfl
      have load := pointLoad_erase (s := s) (x := .schedule) nofun e.point
      generalize ({ s with due := s.due.erase .schedule } : State) = u at fires same taken only' points load
      cases refusal : s.acceptanceRefusal e.point e.side with
      | some code =>
        have fired : u.fireScheduled e = u.removeScheduled e (.refused code) := by
          rw [State.fireScheduled, same, refusal]
        rw [fired] at fires
        exact ⟨_, fires, fun yes => absurd yes isLate, fun _ => nofun, fun _ _ c found =>
          ⟨removeScheduled_only only' (.refused code), points, by
            cases found; exact told_startTx (removeScheduled_told taken (Nat.zero_le _))⟩, fun _ _ => nofun⟩
      | none =>
        obtain ⟨unit, a, b, switched, eligible⟩ := eligible_of_accepted (same.trans refusal)
        obtain ⟨q, -, started⟩ := acceptChangeover_started switched e.side .schedule eligible
        have spends := taken.trans (spends_acceptChangeover u e.point e.side .schedule)
        have fired : u.fireScheduled e = (u.acceptChangeover e.point e.side .schedule).removeScheduled e .accepted := by
          rw [State.fireScheduled, same, refusal]
        rw [fired] at fires
        generalize u.acceptChangeover e.point e.side .schedule = v at started spends fires
        refine ⟨_, fires, fun yes => absurd yes isLate, fun _ => nofun, fun _ _ _ => nofun, fun _ _ _ =>
          ⟨removeScheduled_only (started.outside.schedule.trans only') .accepted,
            told_startTx (removeScheduled_told spends (Nat.le_of_ble_eq_true rfl)), q, started.seq, started.context.because,
            started.context.toward, started.context.load.trans load⟩⟩

end Sys2Proof.Raising
end

section
/-! SUPPORT. Automatic requests, refused or accepted (R127 to R129), and the choice of the point for a LOAD request (R91). -/

namespace Sys2Proof.Requesting

open Sys2Proof Sys2Proof.Machine Sys2Proof.Stated Sys2Proof.ClearFlags Sys2Proof.StopAndClear Sys2Proof.Sequencing
open Sys2Proof.Accepting Sys2Proof.Sessions Sys2Proof.Ending Sys2Proof.Raising

section
variable {s t : State} {p k : PointNo} {n partner other : SetNo} {cause : Cause} {load : Nat}

/-! ### Automatic requests (R127 to R129) -/

/-- The refusal of an automatic request, recorded (R128). -/
def refusalRecorded (s : State) (p : PointNo) (cause : Cause) (code : ResultCode) : State :=
  s.modPoint p fun r => { r with lastRefusal := some ⟨cause, code, s.engine.cycleNo⟩ }

theorem refusalRecorded_read (s : State) (p : PointNo) (cause : Cause) (code : ResultCode) :
    (refusalRecorded s p cause code).pointRec p =
      { s.pointRec p with lastRefusal := some ⟨cause, code, s.engine.cycleNo⟩ } := State.modPoint_read s p _

/-- A point that may be asked to change over to `target`: a source of it, its sequencer idle and not blocked (R127). -/
structure Askable (s : State) (p : PointNo) (target : SetNo) : Prop where
  source : ∃ u a b, s.switched p = some (u, a, b) ∧ (target = a ∨ target = b)
  idle : (s.pointRec p).seq = none
  clear : (s.pointRec p).autoBlocked = false

/-- An automatic request to a point that may be asked: accepted, or refused with a record (R127 to R129). -/
theorem autoRequest_of (h : Askable s p partner) (cause : Cause) :
    (∃ code, s.autoRequest p partner cause = refusalRecorded s p cause code) ∨
      ∃ u side q, q.targetSet = partner ∧ s.autoRequest p partner cause = s.acceptChangeover p side cause ∧
        Started s (s.acceptChangeover p side cause) p side cause u q := by
  obtain ⟨u, a, b, switched, source⟩ := h.source
  obtain ⟨side, supplied, target⟩ : ∃ side, sideSupplied partner a b = some side ∧ sideSource side a b = partner := by
    unfold sideSupplied
    by_cases first : partner = a
    · exact ⟨.a, if_pos first, first.symm⟩
    · have second : partner = b := source.resolve_left first
      exact ⟨.b, by rw [if_neg first, if_pos second], second.symm⟩
  have free : ((s.pointRec p).seq.isSome || (s.pointRec p).autoBlocked) = false := by rw [h.idle, h.clear]; rfl
  have asked : s.autoRequest p partner cause =
      match s.acceptanceRefusal p side with
      | some code => refusalRecorded s p cause code
      | none => s.acceptChangeover p side cause := by
    unfold State.autoRequest
    rw [switched]
    dsimp only
    rw [supplied]
    exact if_neg (by rw [free]; exact Bool.false_ne_true)
  rw [asked]
  cases refusal : s.acceptanceRefusal p side with
  | some code => exact .inl ⟨code, rfl⟩
  | none =>
    obtain ⟨u', a', b', switched', eligible⟩ := eligible_of_accepted refusal
    cases switched.symm.trans switched'
    obtain ⟨q, set, started⟩ := acceptChangeover_started switched side cause eligible
    exact .inr ⟨u, side, q, set.trans target, rfl, started⟩

/-! ### The point for a LOAD request (R91) -/

theorem partnerFrom_iff : s.partnerFrom p n = some partner ↔
    (∃ u, s.switched p = some (u, n, partner) ∧ (s.pointRec p).position = .a) ∨
      (∃ u, s.switched p = some (u, partner, n) ∧ (s.pointRec p).position = .b) := by
  unfold State.partnerFrom
  cases switched : s.switched p with
  | none => simp
  | some x =>
    obtain ⟨u, a, b⟩ := x
    cases position : (s.pointRec p).position <;> simp [and_comm, eq_comm]

theorem loadCandidate_iff : s.loadCandidate n p = some (partner, load) ↔ Qualifies s n p partner ∧ load = s.pointLoad p := by
  unfold State.loadCandidate
  constructor
  · intro h
    split at h
    next x e found entry =>
      dsimp only at h
      split at h
      next conditions =>
        cases h
        simp only [Bool.and_eq_true, Bool.not_eq_true', Option.isNone_iff_eq_none, decide_eq_true_eq] at conditions
        obtain ⟨⟨⟨⟨asks, clear⟩, idle⟩, eligible⟩, room⟩ := conditions
        exact ⟨⟨⟨e, entry, asks⟩, partnerFrom_iff.mp found, clear, idle, eligible, room⟩, rfl⟩
      · cases h
    · cases h
  · rintro ⟨h, rfl⟩
    obtain ⟨e, entry, asks⟩ := h.entry
    rw [partnerFrom_iff.mpr h.sides, entry]
    simp [asks, h.clear, h.idle, h.eligible, h.room]

/-- What the choice has found among the points seen so far (R91). -/
structure Best (s : State) (n : SetNo) (seen : List PointNo) (best : Option (PointNo × SetNo × Nat)) : Prop where
  none : best = none → ∀ k ∈ seen, s.loadCandidate n k = none
  found : ∀ k other load, best = some (k, other, load) → k ∈ seen ∧ s.loadCandidate n k = some (other, load)
  largest : ∀ k other load, best = some (k, other, load) → ∀ j ∈ seen, ∀ x top, s.loadCandidate n j = some (x, top) →
    top < load ∨ (top = load ∧ k ≤ j)

/-- One point compared with the best so far (R91). -/
def better (p : PointNo) (candidate : Option (SetNo × Nat)) (best : Option (PointNo × SetNo × Nat)) :
    Option (PointNo × SetNo × Nat) :=
  candidate.elim best fun x => best.elim (some (p, x.1, x.2)) fun y => if y.2.2 < x.2 then some (p, x.1, x.2) else some y

theorem loadChoice_better (s : State) (n : SetNo) :
    s.loadChoice n = allPoints.foldl (fun best p => better p (s.loadCandidate n p) best) none := by
  unfold State.loadChoice
  congr 1
  funext best p
  cases s.loadCandidate n p with
  | none => rfl
  | some x => cases best <;> rfl

theorem Best.step {seen : List PointNo} {best : Option (PointNo × SetNo × Nat)} (h : Best s n seen best)
    (after : ∀ k ∈ seen, k ≤ p) : Best s n (p :: seen) (better p (s.loadCandidate n p) best) := by
  cases candidate : s.loadCandidate n p with
  | none =>
    refine ⟨fun none k hk => ?_, fun k x load eq => ?_, fun k x load eq j hj y top found => ?_⟩
    · rcases List.mem_cons.mp hk with rfl | mem
      · exact candidate
      · exact h.none none k mem
    · obtain ⟨mem, found⟩ := h.found k x load eq
      exact ⟨List.mem_cons_of_mem _ mem, found⟩
    · rcases List.mem_cons.mp hj with rfl | mem
      · exact absurd (candidate.symm.trans found) nofun
      · exact h.largest k x load eq j mem y top found
  | some x =>
    have wins : ∀ (best' : Option (PointNo × SetNo × Nat)), best' = some (p, x.1, x.2) →
        (∀ j ∈ seen, ∀ y top, s.loadCandidate n j = some (y, top) → top < x.2) → Best s n (p :: seen) best' := by
      rintro _ rfl less
      refine ⟨nofun, fun k y load eq => ?_, fun k y load eq j hj z top found => ?_⟩
      · cases eq
        exact ⟨List.mem_cons_self, candidate⟩
      · cases eq
        rcases List.mem_cons.mp hj with rfl | mem
        · cases candidate.symm.trans found
          exact .inr ⟨rfl, Fin.le_refl _⟩
        · exact .inl (less j mem z top found)
    cases eq : best with
    | none =>
      exact wins _ rfl fun j mem y top found => absurd (found.symm.trans (h.none eq j mem)) nofun
    | some y =>
      obtain ⟨k, partner, load⟩ := y
      have choice : better p (some x) (some (k, partner, load)) =
        if load < x.2 then some (p, x.1, x.2) else some (k, partner, load) := rfl
      rw [choice]
      by_cases more : load < x.2
      · refine wins _ (if_pos more) fun j mem z top found => ?_
        rcases h.largest k partner load eq j mem z top found with less | ⟨same, -⟩ <;> omega
      · rw [if_neg more]
        obtain ⟨mem, found⟩ := h.found k partner load eq
        refine ⟨nofun, fun k' z load' eq' => ?_, fun k' z load' eq' j hj w top found' => ?_⟩
        · cases eq'
          exact ⟨List.mem_cons_of_mem _ mem, found⟩
        · cases eq'
          rcases List.mem_cons.mp hj with rfl | mem'
          · cases candidate.symm.trans found'
            rcases Nat.lt_or_eq_of_le (Nat.not_lt.mp more) with less | same
            · exact .inl less
            · exact .inr ⟨same, after k mem⟩
          · exact h.largest k partner load eq j mem' w top found'

/-- The choice of the point for a LOAD request (R91). -/
theorem loadChoice_best (s : State) (n : SetNo) : Best s n allPoints (s.loadChoice n) := by
  have walk (xs : List PointNo) : ∀ seen best, Best s n seen best → (∀ k ∈ seen, ∀ x ∈ xs, k ≤ x) → xs.Pairwise (· ≤ ·) →
      Best s n (xs.reverse ++ seen) (xs.foldl (fun best p => better p (s.loadCandidate n p) best) best) := by
    induction xs with
    | nil => exact fun seen best h _ _ => h
    | cons x xs ih =>
      intro seen best h after sorted
      obtain ⟨first, sorted⟩ := List.pairwise_cons.mp sorted
      rw [List.foldl_cons, List.reverse_cons, List.append_assoc]
      refine ih _ _ (h.step fun k hk => after k hk x List.mem_cons_self) (fun k hk y hy => ?_) sorted
      rcases List.mem_cons.mp hk with rfl | mem
      · exact first y hy
      · exact after k mem y (List.mem_cons_of_mem _ hy)
  have all := walk allPoints [] none ⟨fun _ k hk => absurd hk List.not_mem_nil, nofun, nofun⟩
    (fun k hk => absurd hk List.not_mem_nil) (List.pairwise_le_finRange 12)
  rw [← loadChoice_better, List.append_nil] at all
  exact ⟨fun none k hk => all.none none k (List.mem_reverse.mpr hk),
    fun k x load eq => ⟨List.mem_finRange k, (all.found k x load eq).2⟩,
    fun k x load eq j hj => all.largest k x load eq j (List.mem_reverse.mpr hj)⟩

theorem loadChoice_eq (h : Qualifies s n p partner)
    (top : ∀ k other, Qualifies s n k other → s.pointLoad k < s.pointLoad p ∨ (s.pointLoad k = s.pointLoad p ∧ p ≤ k)) :
    s.loadChoice n = some (p, partner, s.pointLoad p) := by
  have best := loadChoice_best s n
  have own := loadCandidate_iff.mpr ⟨h, rfl⟩
  cases choice : s.loadChoice n with
  | none => exact absurd (own.symm.trans (best.none choice p (List.mem_finRange p))) nofun
  | some x =>
    obtain ⟨k, other, load⟩ := x
    obtain ⟨-, candidate⟩ := best.found k other load choice
    obtain ⟨qualifies, rfl⟩ := loadCandidate_iff.mp candidate
    have less := best.largest k other _ choice p (List.mem_finRange p) _ _ own
    have more := top k other qualifies
    have same : k = p := by
      rcases less with less | ⟨less, before⟩
      · rcases more with more | ⟨more, -⟩ <;> omega
      · rcases more with more | ⟨-, after⟩
        · omega
        · exact Fin.le_antisymm before after
    subst same
    rw [own] at candidate
    cases candidate
    rfl

theorem loadChoice_none (h : ∀ p partner, ¬ Qualifies s n p partner) : s.loadChoice n = none := by
  cases choice : s.loadChoice n with
  | none => rfl
  | some x =>
    obtain ⟨k, other, load⟩ := x
    obtain ⟨-, candidate⟩ := (loadChoice_best s n).found k other load choice
    exact absurd (loadCandidate_iff.mp candidate).1 (h k other)

/-! ### The LOAD request of a set (R91) -/

/-- An event taken, which is no close-off, leaves which points qualify. -/
theorem qualifies_erase {x : TimedEvent} (h : ∀ f, x ≠ .holdLimit f) :
    Qualifies { s with due := s.due.erase x } n p partner ↔ Qualifies s n p partner := by
  constructor
  · rintro ⟨entry, sides, clear, idle, eligible, room⟩
    exact ⟨entry, sides, clear, idle, eligible, pointLoad_erase h p ▸ room⟩
  · rintro ⟨entry, sides, clear, idle, eligible, room⟩
    exact ⟨entry, sides, clear, idle, eligible, (pointLoad_erase h p).symm ▸ room⟩

theorem askable_of_qualifies (h : Qualifies s n p partner) : Askable s p partner := by
  refine ⟨?_, h.idle, h.clear⟩
  rcases h.sides with ⟨u, switched, -⟩ | ⟨u, switched, -⟩
  · exact ⟨u, n, partner, switched, .inr rfl⟩
  · exact ⟨u, partner, n, switched, .inl rfl⟩

theorem raiseLoad_none (h : s.loadChoice n = none) : s.raiseLoad n = s := by
  unfold State.raiseLoad
  split
  · rfl
  · rw [h]
    split <;> rfl

theorem raiseLoad_of {e : SetEntry} (entry : s.setEntry n = some e) (online : (s.setRec n).run = .online)
    (held : e.overloadHold ≤ (s.setRec n).overloadRun) (choice : s.loadChoice n = some (p, partner, load)) :
    s.raiseLoad n = s.autoRequest p partner .load := by
  simp [State.raiseLoad, entry, online, held, choice]

/-- The LOAD request of a set, as a command of its own: the qualifying point with the largest load is asked (R91). -/
theorem loadRequest_asked {e : SetEntry} (left : .loadRequest n ∈ s.due) (entry : s.setEntry n = some e)
    (online : (s.setRec n).run = .online) (held : e.overloadHold ≤ (s.setRec n).overloadRun) (own : Qualifies s n p partner)
    (top : ∀ k other, Qualifies s n k other → s.pointLoad k < s.pointLoad p ∨ (s.pointLoad k = s.pointLoad p ∧ p ≤ k)) :
    ∃ t, exec (.loadChangeoverRequest n) s = .next t ∧
      ((∃ q, (t.pointRec p).seq = some q ∧ q.cause = .load ∧ q.targetSet = partner ∧ q.reservedLoad = s.pointLoad p) ∨
        (∃ code, t.pointRec p = { s.pointRec p with lastRefusal := some ⟨.load, code, s.engine.cycleNo⟩ })) ∧
      t.due = s.due.erase (.loadRequest n) ∧ SameOutside s t := by
  have run : exec (.loadChangeoverRequest n) s = .next ((({ s with due := s.due.erase (.loadRequest n) } : State)).raiseLoad n).startTx :=
    exec_timed left
  have load (k : PointNo) := pointLoad_erase (s := s) (x := .loadRequest n) nofun k
  have own' := (qualifies_erase (s := s) (x := .loadRequest n) nofun).mpr own
  have choice := loadChoice_eq own' fun k other qualifies => by
    rw [load, load]
    exact top k other ((qualifies_erase (s := s) (x := .loadRequest n) nofun).mp qualifies)
  rw [raiseLoad_of (s := { s with due := s.due.erase (.loadRequest n) }) entry online held choice] at run
  rcases autoRequest_of (askable_of_qualifies own') .load with ⟨code, refused⟩ | ⟨u, side, q, target, accepted, started⟩
  · rw [refused] at run
    refine ⟨_, run, .inr ⟨code, ?_⟩, rfl, sameOutside_startTx (sameOutside_taken (due := s.due.erase (.loadRequest n))
      (sameOutside_of_seqFrame (.modPoint _ p _)))⟩
    exact refusalRecorded_read { s with due := s.due.erase (.loadRequest n) } p .load code
  · rw [accepted] at run
    generalize State.acceptChangeover _ p side .load = t at run started
    exact ⟨_, run, .inl ⟨q, started.seq, started.context.because, target, started.context.load.trans (load p)⟩, started.due,
      sameOutside_startTx (sameOutside_taken started.outside)⟩

/-- Where no point qualifies, nothing is raised (R91). -/
theorem loadRequest_unasked (left : .loadRequest n ∈ s.due) (h : ∀ p partner, ¬ Qualifies s n p partner) :
    exec (.loadChangeoverRequest n) s = .next { s with due := s.due.erase (.loadRequest n) }.startTx := by
  have run : exec (.loadChangeoverRequest n) s = .next ((({ s with due := s.due.erase (.loadRequest n) } : State)).raiseLoad n).startTx :=
    exec_timed left
  rw [run, raiseLoad_none (loadChoice_none fun p partner qualifies =>
    h p partner ((qualifies_erase (s := s) (x := .loadRequest n) nofun).mp qualifies))]

end

end Sys2Proof.Requesting
end

section
/-! SUPPORT. Where a feeder's step goes: its account, and one place on the set side (R61 to R63); and the close-off of a feeder (R49,
R60). -/

namespace Sys2Proof.Stepping

open Sys2Proof Sys2Proof.Machine Sys2Proof.Stated Sys2Proof.ClearFlags Sys2Proof.Sessions Sys2Proof.Reads

/-! ### A step handed on -/

/-- What a feeder's step leaves alone. -/
structure StepFrame (s t : State) : Prop where
  tables : t.tables = s.tables
  site : t.site = s.site
  engine : t.engine = s.engine
  feeders : t.feeders = s.feeders
  limitFlags : t.limitFlags = s.limitFlags
  tanks : t.tanks = s.tanks
  meters : t.meters = s.meters
  points : t.points = s.points
  billing : { t.billing with accounts := s.billing.accounts } = s.billing
  port : t.port = s.port
  due : t.due = s.due
  pending : t.pending = s.pending

section
variable {s t u : State} {x : FeederStep} {n : SetNo} {k : AccountNo}

theorem StepFrame.refl (s : State) : StepFrame s s := ⟨rfl, rfl, rfl, rfl, rfl, rfl, rfl, rfl, rfl, rfl, rfl, rfl⟩

theorem StepFrame.trans (h : StepFrame s t) (k : StepFrame t u) : StepFrame s u where
  tables := k.tables.trans h.tables
  site := k.site.trans h.site
  engine := k.engine.trans h.engine
  feeders := k.feeders.trans h.feeders
  limitFlags := k.limitFlags.trans h.limitFlags
  tanks := k.tanks.trans h.tanks
  meters := k.meters.trans h.meters
  points := k.points.trans h.points
  billing := (congrArg (fun x : Billing => { x with accounts := s.billing.accounts }) k.billing :).trans h.billing
  port := k.port.trans h.port
  due := k.due.trans h.due
  pending := k.pending.trans h.pending

theorem StepFrame.modAccount (s : State) (k : AccountNo) (f : AccountRec → AccountRec) : StepFrame s (s.modAccount k f) :=
  ⟨rfl, rfl, rfl, rfl, rfl, rfl, rfl, rfl, rfl, rfl, rfl, rfl⟩

theorem StepFrame.billStep (s : State) (k : AccountNo) (energy : Nat) (estimated clamped : Bool) :
    StepFrame s (s.billStep k energy estimated clamped) := by
  unfold State.billStep
  split
  · exact .modAccount s k _
  · exact .refl s

theorem StepFrame.attribute (s : State) (x : FeederStep) : StepFrame s (s.attribute x) := by
  unfold State.attribute
  split <;> exact ⟨rfl, rfl, rfl, rfl, rfl, rfl, rfl, rfl, rfl, rfl, rfl, rfl⟩

theorem StepFrame.handStep (s : State) (x : FeederStep) : StepFrame s (s.handStep x) :=
  (StepFrame.billStep s x.account x.energy x.estimated x.clamped).trans (.attribute _ x)

theorem attribute_accounts (s : State) (x : FeederStep) : (s.attribute x).billing = s.billing := by
  unfold State.attribute
  split <;> rfl

/-- The account of a step with an open interval takes its energy and its marks (R61). -/
theorem handStep_open (h : s.intervalOpen x.account = true) : (s.handStep x).account x.account =
    { s.account x.account with
      accumulator := (s.account x.account).accumulator + x.energy
      marks := (s.account x.account).marks.addStep x.estimated x.clamped } := by
  rw [State.handStep, State.account, attribute_accounts, State.billStep, if_pos h]
  exact State.modAccount_read ..

/-- No other account is touched, nor one without an open interval (R62). -/
theorem handStep_account (h : k = x.account → s.intervalOpen k = false) : (s.handStep x).account k = s.account k := by
  rw [State.handStep, State.account, attribute_accounts, State.billStep]
  split
  next opened =>
    by_cases same : k = x.account
    · subst same
      exact absurd opened (by rw [h rfl]; exact Bool.false_ne_true)
    · exact State.modAccount_other _ _ _ same
  · rfl

theorem billStep_sets (s : State) (k : AccountNo) (energy : Nat) (estimated clamped : Bool) :
    (s.billStep k energy estimated clamped).sets = s.sets ∧
      (s.billStep k energy estimated clamped).unattributed = s.unattributed := by
  unfold State.billStep
  split <;> exact ⟨rfl, rfl⟩

/-- The set of a step, at its end or else at its start, takes its energy (R63). -/
theorem handStep_set (h : x.endSet.or x.startSet = some n) :
    (s.handStep x).setRec n = { s.setRec n with
      hire := { (s.setRec n).hire with meteredMj := satAdd max64 (s.setRec n).hire.meteredMj x.energy } } ∧
    (∀ k, k ≠ n → (s.handStep x).setRec k = s.setRec k) ∧ (s.handStep x).unattributed = s.unattributed := by
  obtain ⟨sets, unattributed⟩ := billStep_sets s x.account x.energy x.estimated x.clamped
  rw [State.handStep]
  generalize s.billStep x.account x.energy x.estimated x.clamped = v at sets unattributed
  have same (k : SetNo) : v.setRec k = s.setRec k := by rw [State.setRec, sets]; rfl
  have given : v.attribute x = v.modHire n fun h => { h with meteredMj := satAdd max64 h.meteredMj x.energy } := by
    rw [State.attribute, h]
  rw [given, State.modHire]
  exact ⟨by rw [State.modSet_read, same], fun k hk => by rw [State.modSet_other v n _ hk, same], unattributed⟩

/-- A step without a set goes to the site's unattributed counter (R63). -/
theorem handStep_unattributed (h : x.endSet.or x.startSet = none) :
    (s.handStep x).sets = s.sets ∧ (s.handStep x).unattributed = satAdd max64 s.unattributed x.energy := by
  obtain ⟨sets, unattributed⟩ := billStep_sets s x.account x.energy x.estimated x.clamped
  rw [State.handStep]
  generalize s.billStep x.account x.energy x.estimated x.clamped = v at sets unattributed
  have given : v.attribute x = { v with unattributed := satAdd max64 v.unattributed x.energy } := by
    rw [State.attribute, h]
  rw [given]
  exact ⟨sets, by rw [← unattributed]⟩

/-! ### The close-off (R49, R60) -/

/-- The flat step of a close-off (R60). -/
def flatStep (s : State) (f : FeederNo) (e : FeederEntry) (b : Baseline) : FeederStep :=
  { feeder := f, account := e.account, point := e.point, basePower := b.power, newPower := b.power
    delta := s.engine.holdInForce, period := s.engine.cycleLen, startSet := b.connected, endSet := s.connectedSet e.point
    estimated := true, clamped := b.clamped, cycle := s.engine.cycleNo }

theorem flatStep_energy (s : State) (f : FeederNo) (e : FeederEntry) (b : Baseline) :
    (flatStep s f e b).energy = b.power * 10 * s.engine.holdInForce * s.engine.cycleLen := by
  have twice : (b.power + b.power) * 5 = b.power * 10 := by omega
  rw [FeederStep.energy]
  exact congrArg (fun x => x * s.engine.holdInForce * s.engine.cycleLen) twice

theorem closeOff_eq {f : FeederNo} {e : FeederEntry} {b : Baseline} (entry : s.feederEntry f = some e)
    (state : (s.feederRec f).state = .live ∨ (s.feederRec f).state = .held) (baseline : (s.feederRec f).baseline = some b)
    (past : s.engine.holdInForce < (s.engine.cycleNo - b.cycle).toNat) :
    s.closeOff f = (s.handStep (flatStep s f e b)).modFeeder f fun r => { r with state := .stale, baseline := none } := by
  have exceeded : s.holdExceeded f = true := by
    unfold State.holdExceeded
    dsimp only
    rw [baseline]
    rcases state with state | state
    · rw [state]; exact decide_eq_true past
    · rw [state]; exact decide_eq_true past
  unfold State.closeOff
  rw [entry, baseline]
  exact if_pos exceeded

end

/-- Settles O23: the flat step is handed on, and the feeder is STALE. -/
theorem holdLimitClosesOff : Obligations.HoldLimitClosesOff := by
  intro f e b s left entry state baseline past energy
  have run : exec (.holdLimitCloseOff f) s =
      .next ((({ s with due := s.due.erase (.holdLimit f) } : State)).closeOff f).startTx := exec_timed left
  have closed := closeOff_eq (s := { s with due := s.due.erase (.holdLimit f) }) entry state baseline past
  rw [closed] at run
  have worth := flatStep_energy { s with due := s.due.erase (.holdLimit f) } f e b
  have endSide : (flatStep { s with due := s.due.erase (.holdLimit f) } f e b).endSet = s.connectedSet e.point := rfl
  have marks : (flatStep { s with due := s.due.erase (.holdLimit f) } f e b).estimated = true ∧
    (flatStep { s with due := s.due.erase (.holdLimit f) } f e b).clamped = b.clamped := ⟨rfl, rfl⟩
  have startSide : (flatStep { s with due := s.due.erase (.holdLimit f) } f e b).startSet = b.connected := rfl
  have account : (flatStep { s with due := s.due.erase (.holdLimit f) } f e b).account = e.account := rfl
  generalize flatStep { s with due := s.due.erase (.holdLimit f) } f e b = x at run worth endSide marks startSide account
  have frame := StepFrame.handStep { s with due := s.due.erase (.holdLimit f) } x
  have opened := handStep_open (s := { s with due := s.due.erase (.holdLimit f) }) (x := x)
  have other := fun k => handStep_account (s := { s with due := s.due.erase (.holdLimit f) }) (x := x) (k := k)
  have set := fun n => handStep_set (s := { s with due := s.due.erase (.holdLimit f) }) (x := x) (n := n)
  have unattributed := handStep_unattributed (s := { s with due := s.due.erase (.holdLimit f) }) (x := x)
  generalize ({ s with due := s.due.erase (.holdLimit f) } : State).handStep x = v at run frame opened other set unattributed
  rw [account] at opened other
  have same (g : FeederNo) : v.feederRec g = s.feederRec g := by rw [State.feederRec, frame.feeders]; rfl
  have closedOff := State.modFeeder_read v f fun r => { r with state := .stale, baseline := none }
  have others (g : FeederNo) (hg : g ≠ f) :=
    State.modFeeder_other v f (fun r => { r with state := .stale, baseline := none }) hg
  refine ⟨_, run, closedOff.trans (by rw [same]), fun g hg => (others g hg).trans (same g), fun isOpen => ?_, fun isClosed => ?_, fun k hk => other k fun same => absurd same hk,
    fun n side => ?_, fun none started => ?_, frame.tables, frame.site, frame.points, frame.tanks, frame.limitFlags,
    (congrArg Billing.records frame.billing :), (congrArg Billing.clock frame.billing :), frame.due⟩
  · have taken := opened (intervalOpen_iff.mpr isOpen)
    rw [worth, marks.1, marks.2, Marks.addStep, Bool.or_true] at taken
    exact taken
  · exact other e.account fun _ => Bool.eq_false_iff.mpr (mt intervalOpen_iff.mp isClosed)
  · have given : x.endSet.or x.startSet = some n := by
      rw [endSide, startSide]
      rcases side with connected | ⟨none, started⟩
      · rw [connected]; rfl
      · rw [none, started]; rfl
    obtain ⟨own, others, rest⟩ := set n given
    rw [worth] at own
    exact ⟨congrArg SetRec.hire own, others, rest⟩
  · have given : x.endSet.or x.startSet = Option.none := by rw [endSide, startSide, none, started]; rfl
    obtain ⟨sets, rest⟩ := unattributed given
    rw [worth] at rest
    exact ⟨sets, rest⟩

end Sys2Proof.Stepping
end

section
/-! SUPPORT. A unit that becomes LOST, and what its owner does by its kind (R28, R30, R45, R89, R120, R141). -/

namespace Sys2Proof.LinkLoss

open Sys2Proof Sys2Proof.Machine Sys2Proof.Stated Sys2Proof.ClearFlags Sys2Proof.StopAndClear Sys2Proof.Sequencing
open Sys2Proof.SetLoading Sys2Proof.OwnerSteps Sys2Proof.UnitLoading Sys2Proof.Sessions Sys2Proof.Ending Sys2Proof.Walks
open Sys2Proof.LineEvents Sys2Proof.PhaseCounters

/-! ### A walk, seen at one of its members -/

/-- The visit of `p` in a walk that meets it once, between visits that are related. -/
theorem forEach_at {α : Type} [DecidableEq α] {R : State → State → Prop} {f : α → State → State} {p : α} {xs : List α}
    (refl : ∀ s, R s s) (trans : ∀ {a b c}, R a b → R b c → R a c) (step : ∀ k, k ≠ p → ∀ s, R s (f k s)) (nodup : xs.Nodup)
    (mem : p ∈ xs) (s : State) : ∃ u, R s u ∧ R (f p u) (forEach xs f s) := by
  obtain ⟨before, after, rfl⟩ := List.append_of_mem mem
  have apart := List.nodup_middle.mp nodup
  have fresh : p ∉ before ++ after := (List.nodup_cons.mp apart).1
  have other (ys : List α) (within : ∀ y ∈ ys, y ∈ before ++ after) (u : State) : R u (forEach ys f u) :=
    forEach_rel refl trans (fun k hk => step k fun same => fresh (same ▸ within k hk)) u
  refine ⟨forEach before f s, other before (fun y hy => List.mem_append_left _ hy) s, ?_⟩
  rw [forEach_append, forEach_cons]
  exact other after (fun y hy => List.mem_append_right _ hy) _

section
variable {s t u : State} {a : Addr} {n : SetNo} {p : PointNo} {m : MeterNo} {j k : Nat}

/-! ### Feeders that miss their poll (R45) -/

/-- The feeders of the state after a board's poll is missed. -/
@[irreducible] def boardMissed (s : State) (a : Addr) : Vector FeederRec 32 :=
  Vector.ofFn fun f => if f ∈ s.boardFeeders a then missedPoll (s.feederRec f) else s.feederRec f

theorem boardMissed_get (s : State) (a : Addr) (f : FeederNo) : (boardMissed s a)[f] =
    if f ∈ s.boardFeeders a then missedPoll (s.feederRec f) else s.feederRec f := by
  unfold boardMissed
  exact Vector.getElem_ofFn _

theorem missBoard_eq (s : State) (a : Addr) : s.missBoard a = { s with feeders := boardMissed s a } := by
  unfold boardMissed
  exact forEach_put (fun feeders => { s with feeders }) (fun _ => missedPoll) (fun _ _ => rfl)
    ((List.nodup_finRange 32).filter _) s.feeders

theorem mem_boardFeeders {f : FeederNo} : f ∈ s.boardFeeders a ↔ ∃ x, s.feederEntry f = some x ∧ x.board = a := by
  simp [State.boardFeeders, allFeeders, Option.any_eq_true]

/-! ### What the owners of a line leave alone -/

/-- The owners' work, the feeders of a board apart. -/
def LineStep (s t : State) : Prop := OwnerStep s { t with feeders := s.feeders }

theorem LineStep.of_owner (h : OwnerStep s t) : LineStep s t :=
  ⟨h.tables, h.site, h.ten, h.engine, rfl, h.limitFlags, h.unattributed, h.tickets, h.schedule, h.tariff, h.billing, h.port, h.due,
    h.pending, h.queue, h.unlimited⟩

theorem LineStep.refl (s : State) : LineStep s s := .of_owner (.refl s)

theorem LineStep.trans (h : LineStep s t) (k : LineStep t u) : LineStep s u where
  tables := k.tables.trans h.tables
  site := k.site.trans h.site
  ten := k.ten.trans h.ten
  engine := (congrArg (fun x : Engine => { x with queue := s.engine.queue }) k.engine :).trans h.engine
  feeders := rfl
  limitFlags := k.limitFlags.trans h.limitFlags
  unattributed := k.unattributed.trans h.unattributed
  tickets := k.tickets.trans h.tickets
  schedule := k.schedule.trans h.schedule
  tariff := k.tariff.trans h.tariff
  billing := k.billing.trans h.billing
  port := (congrArg (fun x : Port =>
    { x with notices := s.port.notices, nextNotice := s.port.nextNotice, overflow := s.port.overflow }) k.port :).trans h.port
  due := k.due.trans h.due
  pending := k.pending.trans h.pending
  queue c hc := (k.queue c hc).elim (h.queue c) .inr
  unlimited x hx := (k.unlimited x hx).elim (h.unlimited x) .inr

theorem LineStep.missBoard (s : State) (a : Addr) : LineStep s (s.missBoard a) := by
  rw [missBoard_eq]
  exact OwnerStep.refl s

theorem LineStep.link (h : LineStep s t) (k : Addr) : t.link k = s.link k := link_of_ownerStep (t := { t with feeders := s.feeders }) h k

theorem LineStep.cycleNo (h : LineStep s t) : t.engine.cycleNo = s.engine.cycleNo := (congrArg Engine.cycleNo h.engine :)

/-! ### The marks of sets (R89) -/

/-- The marks of sets set in a walk: what each holds, and that nothing is told of but to sequencers. -/
theorem marksPut (mark : Bool) (xs : List SetNo) (s : State) :
    OwnerStep s (forEach xs (fun n s => s.setMark n mark) s) ∧ Spends 0 s (forEach xs (fun n s => s.setMark n mark) s) ∧
    (∀ k, MarkKept (s.setRec k) ((forEach xs (fun n s => s.setMark n mark) s).setRec k)) ∧
    ∀ k, k ∈ xs ∨ (s.setRec k).unreachable = mark →
      ((forEach xs (fun n s => s.setMark n mark) s).setRec k).unreachable = mark := by
  induction xs generalizing s with
  | nil => exact ⟨.refl s, .refl s, fun k => ⟨rfl, rfl, rfl, rfl, rfl, rfl, rfl⟩, fun k h => h.resolve_left List.not_mem_nil⟩
  | cons n xs ih =>
    have step := OwnerStep.setMark s n mark
    have spends := spends_setMark n s mark
    have own := setMark_mark s n mark
    have work := SetWork.setMark n s mark
    have kept := setMark_kept s n mark
    rw [forEach_cons]
    generalize s.setMark n mark = v at step spends own work kept
    obtain ⟨step', spends', kept', marks⟩ := ih v
    refine ⟨step.trans step', spends.trans spends', fun k => ?_, fun k hk => marks k ?_⟩
    · by_cases same : k = n
      · subst same
        have later := kept' k
        exact ⟨later.run.trans kept.run, later.due.trans kept.due, later.latest.trans kept.latest,
          later.baseline.trans kept.baseline, later.stopCycle.trans kept.stopCycle, later.place.trans kept.place,
          later.hire.trans kept.hire⟩
      · have other := work.others k same
        have later := kept' k
        exact ⟨later.run.trans (congrArg SetRec.run other :), later.due.trans (congrArg SetRec.due other :),
          later.latest.trans (congrArg SetRec.latest other :), later.baseline.trans (congrArg SetRec.baseline other :),
          later.stopCycle.trans (congrArg SetRec.stopCycle other :), later.place.trans (congrArg SetRec.place other :),
          later.hire.trans (congrArg SetRec.hire other :)⟩
    · by_cases same : k = n
      · subst same
        exact .inr own
      · rcases hk with mem | was
        · exact .inl ((List.mem_cons.mp mem).resolve_left same)
        · exact .inr ((mark_of_reserved (work.others k same)).trans was)

/-! ### A notice among others of its event (R191) -/

/-- A notice is raised on the way, which at most `n` others follow or come before: it is queued at the end of an event with room for
all of them. -/
structure Raises (n : Nat) (s t : State) (body : NoticeBody) : Prop where
  queued : ∀ (v w : State) (j k : Nat), Spends j v s → Spends k t w → weight v + j + n + k < 32 →
    ∃ x ∈ w.port.notices, x.body = body

theorem raises_raiseMarked (s : State) (urgent : Bool) (body : NoticeBody) : Raises 0 s (s.raiseMarked urgent body) body := by
  refine ⟨fun v w j k earlier later room => ?_⟩
  obtain ⟨-, before⟩ := earlier (by omega)
  have raised : (s.raiseMarked urgent body).port.notices = s.port.notices ++ [⟨s.port.nextNotice, urgent, body⟩] := by
    rw [State.raiseMarked, Port.raise_room (by rw [weight] at before; omega)]
  obtain ⟨-, after⟩ := Spends.raiseMarked s urgent body (by omega)
  exact ⟨_, later.mem (by omega) (raised ▸ List.mem_append_right _ (List.mem_singleton_self _)), rfl⟩

theorem raises_raise (s : State) (body : NoticeBody) : Raises 0 s (s.raise body) body := raises_raiseMarked s false body

theorem Raises.after {n i : Nat} {body : NoticeBody} (h : Raises n u t body) (earlier : Spends i s u) : Raises (i + n) s t body :=
  ⟨fun v w _ _ before after room => h.queued v w _ _ (before.trans earlier) after (by omega)⟩

theorem Raises.before {n i : Nat} {body : NoticeBody} (h : Raises n s u body) (later : Spends i u t) : Raises (n + i) s t body :=
  ⟨fun v w _ _ before after room => h.queued v w _ _ before (later.trans after) (by omega)⟩

theorem Raises.mono {n i : Nat} {body : NoticeBody} (h : Raises n s t body) (le : n ≤ i) : Raises i s t body :=
  ⟨fun v w _ _ before after room => h.queued v w _ _ before after (by omega)⟩

theorem Raises.told {n : Nat} {body : NoticeBody} (h : Raises n s t body) (few : n ≤ 15) : Told s t body := fun short => by
  have most := flying_le s
  exact h.queued s t 0 0 (.refl s) (.refl t) (by rw [weight]; omega)

/-- The notice of an end. -/
theorem raises_endSequence {q : Sequence} {o : SeqOutcome} (live : (s.pointRec p).seq = some q) (manual : Option ManualPart)
    (known : o ≠ .restart) : Raises 0 s (s.endSequence p o manual) (endNotice s p q o manual (s.pointRec p).position) := by
  refine ⟨fun v w j k earlier later room => ?_⟩
  obtain ⟨-, before⟩ := earlier (by omega)
  have raised : (s.endSequence p o manual).port.notices = s.port.notices ++
      [⟨s.port.nextNotice, decide (o = .dark), endNotice s p q o manual (s.pointRec p).position⟩] := by
    rw [endSequence_port live o manual known, Port.raise_room (by rw [weight] at before; omega)]
  obtain ⟨-, after⟩ := (PointStep.endSequence p s o manual).spends (by omega)
  exact ⟨_, later.mem (by omega) (raised ▸ List.mem_append_right _ (List.mem_singleton_self _)), rfl⟩

/-- The notice of a run state change (R76). -/
theorem raises_changeRun (s : State) (n : SetNo) (run : RunState) (why : StateReason) (attempts : Option Nat) :
    Raises 0 s (s.changeRun n run why attempts)
      (.setState n (s.setRec n).run.name run.name why attempts s.engine.cycleNo) := by
  rw [changeRun_eq]
  exact ((raises_raise _ _).after (Spends.runSet s n run)).before (Spends.tellSequencers _ n)

/-! ### A changeover unit lost (R141) -/

/-- What a step at another point leaves of point `p`. -/
structure Beside (p : PointNo) (s t : State) : Prop where
  owner : OwnerStep s t
  point : t.pointRec p = s.pointRec p
  spends : Spends 0 s t

theorem Beside.refl (p : PointNo) (s : State) : Beside p s s := ⟨.refl s, rfl, .refl s⟩

theorem Beside.trans (h : Beside p s t) (k : Beside p t u) : Beside p s u :=
  ⟨h.owner.trans k.owner, k.point.trans h.point, h.spends.trans k.spends⟩

theorem PointStep.forgetPosition (p : PointNo) (s : State) (o : SeqOutcome) : PointStep p s (s.forgetPosition p o) :=
  (PointStep.modPoint p s (f := fun r => { r with position := .unknown, selector := none }) rfl).trans (.endSequence p _ o none)

/-- Each point of a changeover unit that is lost. -/
def pointLost (a : Addr) (p : PointNo) (s : State) : State :=
  if (s.switched p).any fun x => x.1 = a then s.forgetPosition p .linkLost else s

theorem changeLost_eq (s : State) (a : Addr) : s.changeLost a = forEach allPoints (pointLost a) s := rfl

theorem pointLost_beside (a : Addr) {i : PointNo} (hi : i ≠ p) (s : State) : Beside p s (pointLost a i s) := by
  unfold pointLost
  split
  · have step := PointStep.forgetPosition i s .linkLost
    exact ⟨.of_pointStep (.forgetPosition s i .linkLost) step, step.others p hi.symm, step.spends⟩
  · exact .refl p s

theorem changeLost_step (s : State) (a : Addr) : OwnerStep s (s.changeLost a) ∧ Spends 0 s (s.changeLost a) := by
  have visit (p : PointNo) (s : State) : OwnerStep s (pointLost a p s) ∧ Spends 0 s (pointLost a p s) := by
    unfold pointLost
    split
    · have step := PointStep.forgetPosition p s .linkLost
      exact ⟨.of_pointStep (.forgetPosition s p .linkLost) step, step.spends⟩
    · exact ⟨.refl s, .refl s⟩
  rw [changeLost_eq]
  exact ⟨.forEach allPoints (fun p _ s => (visit p s).1) s, .forEach (k := 0) (fun p s => (visit p s).2) allPoints s⟩

/-- A point whose changeover unit is lost: its position goes, and with it its sequence (R141). -/
structure PointGone (s t : State) (p : PointNo) : Prop where
  position : (t.pointRec p).position = .unknown
  selector : (t.pointRec p).selector = none
  idle : (t.pointRec p).seq = none
  last : ∀ q, (s.pointRec p).seq = some q → (t.pointRec p).lastOutcome = some ⟨.linkLost, q.cause, s.engine.cycleNo⟩

/-- The state of a point with its position and selector gone, before its sequence ends. -/
def forgotten (s : State) (p : PointNo) : State := s.modPoint p fun r => { r with position := .unknown, selector := none }

theorem forgotten_read (s : State) (p : PointNo) :
    (forgotten s p).pointRec p = { s.pointRec p with position := .unknown, selector := none } := State.modPoint_read s p _

theorem forgetPosition_gone (s : State) (p : PointNo) : PointGone s (s.forgetPosition p .linkLost) p := by
  have read := forgotten_read s p
  have forgets : s.forgetPosition p .linkLost = (forgotten s p).endSequence p .linkLost none := rfl
  rw [forgets]
  cases live : (s.pointRec p).seq with
  | none =>
    rw [endSequence_idle (by rw [read]; exact live)]
    exact ⟨by rw [read], by rw [read], by rw [read]; exact live, fun q h => absurd (live.symm.trans h) nofun⟩
  | some q =>
    have live' : ((forgotten s p).pointRec p).seq = some q := by rw [read]; exact live
    have point := sequenceGone_point (forgotten s p) p q .linkLost
    have ended := endSequence_ended live' .linkLost none nofun
    rw [endSequence_eq live'] at ended ⊢
    refine ⟨ended.position.trans (by rw [read]), ?_, ended.idle, fun y h => ?_⟩
    · exact (congrArg PointRec.selector point :).trans (by rw [endedPoint, read])
    · cases live.symm.trans h
      exact ended.last

theorem changeLost_point {x y : SetNo} (named : s.switched p = some (a, x, y)) : PointGone s (s.changeLost a) p ∧
    ∀ q, (s.pointRec p).seq = some q → Raises 0 s (s.changeLost a) (endNotice s p q .linkLost none .unknown) := by
  obtain ⟨w, before, after⟩ := forEach_at (R := Beside p) (xs := allPoints) (.refl p) .trans (fun i hi s => pointLost_beside a hi s)
    (List.nodup_finRange 12) (List.mem_finRange p) s
  rw [changeLost_eq]
  have visited : pointLost a p w = w.forgetPosition p .linkLost := by
    have named' : w.switched p = some (a, x, y) := by
      rw [State.switched, State.pointEntry, before.owner.tables]; exact named
    rw [pointLost, named']
    exact if_pos (decide_eq_true rfl)
  rw [visited] at after
  have cycle : w.engine.cycleNo = s.engine.cycleNo := (congrArg Engine.cycleNo before.owner.engine :)
  have gone := forgetPosition_gone w p
  refine ⟨⟨?_, ?_, ?_, fun q live => ?_⟩, fun q live => ?_⟩
  · rw [after.point]; exact gone.position
  · rw [after.point]; exact gone.selector
  · rw [after.point]; exact gone.idle
  · rw [after.point, gone.last q (by rw [before.point]; exact live), cycle]
  · have read := forgotten_read w p
    have live' : ((forgotten w p).pointRec p).seq = some q := by rw [read, before.point]; exact live
    have raises := (raises_endSequence live' none (o := .linkLost) nofun).after (before.spends.trans
      (PointStep.modPoint p w (f := fun r => { r with position := .unknown, selector := none }) rfl).spends)
    have same : endNotice s p q .linkLost none .unknown =
        endNotice (forgotten w p) p q .linkLost none ((forgotten w p).pointRec p).position := by
      have cycle' : (forgotten w p).engine.cycleNo = s.engine.cycleNo := cycle
      rw [read, endNotice, endNotice, cycle']
    rw [same]
    exact raises.before after.spends

/-! ### A meter's unit lost (R120) -/

theorem spends_endSession (s : State) (m : MeterNo) (d : SessionEnd) : Spends 1 s (s.endSession m d) := by
  cases session : (s.meter m).session with
  | none =>
    have idle : s.endSession m d = s := by rw [State.endSession, session]
    rw [idle]
    exact (Spends.refl s).mono (Nat.zero_le _)
  | some x =>
    by_cases plain : x.phase = .granting ∨ d.result = .complete
    · rw [endSession_plain session plain]
      exact (Spends.raise s (endedBody m x d)).trans (k := 0) (.of_notices rfl fun _ => rfl)
    · obtain ⟨delivering, cut⟩ := not_or.mp plain
      rw [endSession_live session delivering cut]
      exact (Spends.raise s (endedBody m x d)).trans (k := 0) (.of_notices rfl fun _ => rfl)

theorem meterLost_step (s : State) (owner : Nat) : OwnerStep s (s.meterLost owner) ∧ Spends 1 s (s.meterLost owner) := by
  unfold State.meterLost
  split
  · exact ⟨.refl s, (Spends.refl s).mono (Nat.zero_le _)⟩
  · exact ⟨.endSession s _ _, spends_endSession s _ _⟩

/-! ### A unit becomes LOST (R28, R30) -/

/-- The state of a lost unit as it is told of, before its owner is (R30). -/
def lostTold (s : State) (a : Addr) : State :=
  (s.modLink a fun l => { l with state := some .lost }).raise (.unitLink a .lost (s.link a).misses)

/-- What the owner of a lost unit does, by its kind (R30). -/
def ownerLost (s : State) (a : Addr) (e : UnitEntry) : State :=
  match e.kind with
  | .board => s.missBoard a
  | .set => forEach (s.setsNaming a) (fun n s => s.setMark n true) s
  | .change => s.changeLost a
  | .fuel => s.meterLost e.owner

theorem becomeLost_eq (s : State) (a : Addr) (e : UnitEntry) : s.becomeLost a e = ownerLost (lostTold s a) a e := by
  have misses : ((s.modLink a fun l => { l with state := some .lost }).link a).misses = (s.link a).misses := by
    rw [modLink_link]
  unfold State.becomeLost ownerLost lostTold
  dsimp only
  rw [misses] <;> cases e.kind <;> rfl

theorem ownerLost_step (s : State) (a : Addr) (e : UnitEntry) : LineStep s (ownerLost s a e) ∧ Spends 1 s (ownerLost s a e) := by
  unfold ownerLost
  cases e.kind with
  | board =>
    refine ⟨.missBoard s a, ?_⟩
    rw [missBoard_eq]
    exact Spends.mono (.of_notices rfl fun _ => rfl) (Nat.zero_le 1)
  | set =>
    obtain ⟨step, spends, -⟩ := marksPut true (s.setsNaming a) s
    exact ⟨.of_owner step, spends.mono (Nat.zero_le _)⟩
  | change =>
    obtain ⟨step, spends⟩ := changeLost_step s a
    exact ⟨.of_owner step, spends.mono (Nat.zero_le _)⟩
  | fuel =>
    obtain ⟨step, spends⟩ := meterLost_step s e.owner
    exact ⟨.of_owner step, spends⟩

theorem lostTold_link (s : State) (a : Addr) : (lostTold s a).link a = { s.link a with state := some .lost } :=
  modLink_link s a fun l => { l with state := some .lost }

theorem lostTold_other (s : State) {k : Addr} (hk : k ≠ a) : (lostTold s a).link k = s.link k :=
  State.modLink_other s a (fun l => { l with state := some .lost }) hk

/-- What is told of a unit that becomes LOST, and what that leaves alone. -/
structure BecameLost (s t : State) (a : Addr) : Prop where
  own : t.link a = { s.link a with state := some .lost }
  others : ∀ k, k ≠ a → t.link k = s.link k
  told : Raises 1 s t (.unitLink a .lost (s.link a).misses)
  step : LineStep (lostTold s a) t
  spends : Spends 2 s t

theorem spends_modLink (s : State) (a : Addr) (f : LinkRec → LinkRec) : Spends 0 s (s.modLink a f) := .of_notices rfl fun _ => rfl

theorem becomeLost_lost (s : State) (a : Addr) (e : UnitEntry) : BecameLost s (s.becomeLost a e) a := by
  obtain ⟨step, spends⟩ := ownerLost_step (lostTold s a) a e
  rw [becomeLost_eq]
  refine ⟨(step.link a).trans (lostTold_link s a), fun k hk => (step.link k).trans (lostTold_other s hk),
    ?_, step, ?_⟩
  · exact ((raises_raise (s.modLink a fun l => { l with state := some .lost }) _).after (spends_modLink s a _)).before spends
  · exact ((spends_modLink s a _).trans (.raise _ _)).trans spends

/-- The set of a lost unit: its mark, and nothing else of its run (R89). -/
theorem becomeLost_set {e : UnitEntry} {x : SetEntry} (kind : e.kind = .set) (entry : s.setEntry n = some x) (unit : x.unit = a) :
    ((s.becomeLost a e).setRec n).unreachable = true ∧ MarkKept (s.setRec n) ((s.becomeLost a e).setRec n) := by
  rw [becomeLost_eq]
  unfold ownerLost
  rw [kind]
  obtain ⟨-, -, kept, marks⟩ := marksPut true ((lostTold s a).setsNaming a) (lostTold s a)
  have named : n ∈ (lostTold s a).setsNaming a := mem_setsNaming.mpr ⟨x, entry, unit⟩
  exact ⟨marks n (.inl named), kept n⟩

/-- The feeders of a lost board (R45). -/
theorem becomeLost_board {e : UnitEntry} (kind : e.kind = .board) :
    s.becomeLost a e = { lostTold s a with feeders := boardMissed s a } := by
  have missed := missBoard_eq (lostTold s a) a
  have same : boardMissed (lostTold s a) a = boardMissed s a := by unfold boardMissed; rfl
  rw [same] at missed
  rw [becomeLost_eq, ← missed]
  unfold ownerLost
  rw [kind]

/-- The points of a lost changeover unit (R141). -/
theorem becomeLost_change {e : UnitEntry} {x y : SetNo} (kind : e.kind = .change) (named : s.switched p = some (a, x, y)) :
    PointGone s (s.becomeLost a e) p ∧ ∀ q, (s.pointRec p).seq = some q →
      Raises 1 s (s.becomeLost a e) (endNotice s p q .linkLost none .unknown) := by
  have named' : (lostTold s a).switched p = some (a, x, y) := named
  obtain ⟨gone, told⟩ := changeLost_point named'
  have lost : s.becomeLost a e = (lostTold s a).changeLost a := by
    rw [becomeLost_eq]
    unfold ownerLost
    rw [kind]
  have spends : Spends 1 s (lostTold s a) := (spends_modLink s a _).trans (.raise _ _)
  rw [lost]
  refine ⟨⟨gone.position, gone.selector, gone.idle, gone.last⟩, fun q live => ?_⟩
  exact (told q live).after spends

/-- A session ends: what is left of it, its notice among others of the event, and what goes to the delivered totals (R117). -/
structure SessionGone (s t : State) (m : MeterNo) (x : Session) (d : SessionEnd) : Prop where
  meter : t.meter m = endedMeter (s.meter m) d.lastChunk
  told : Raises 0 s t (endedBody m x d)
  live : x.phase ≠ .granting → d.result ≠ .complete →
    (t.tank x.set).delivered = min (2 ^ 64 - 1) ((s.tank x.set).delivered + x.live)
  plain : x.phase = .granting → (t.tank x.set).delivered = (s.tank x.set).delivered

theorem endSession_gone {x : Session} (session : (s.meter m).session = some x) (d : SessionEnd) :
    SessionGone s (s.endSession m d) m x d := by
  have told {w : State} (port : w.port = s.port.raise false (endedBody m x d)) (points : w.points = s.points) :
      Raises 0 s w (endedBody m x d) :=
    (raises_raise s (endedBody m x d)).before (.of_notices (congrArg Port.notices port) fun p => by
      rw [State.pointRec, points]; rfl)
  by_cases plain : x.phase = .granting ∨ d.result = .complete
  · have eq := endSession_plain session plain
    refine ⟨by rw [eq]; simp [State.meter], told (congrArg State.port eq :) (congrArg State.points eq :),
      fun delivering cut => absurd plain (not_or.mpr ⟨delivering, cut⟩), fun _ => by rw [eq]; simp [State.tank]⟩
  · obtain ⟨delivering, cut⟩ := not_or.mp plain
    have eq := endSession_live session delivering cut
    exact ⟨by rw [eq]; simp [State.meter], told (congrArg State.port eq :) (congrArg State.points eq :),
      fun _ _ => by rw [eq]; simp [State.tank], fun granting => absurd granting delivering⟩

theorem becomeLost_fuel {e : UnitEntry} {x : Session} (kind : e.kind = .fuel) (owner : e.owner = m.val + 1)
    (session : (s.meter m).session = some x) : ∃ d : SessionEnd, d.lastChunk = none ∧ d.result = .linkLost ∧
      endedBody m x d = .delivery ⟨m, x.set.val + 1, .linkLost, x.live, none, none, none, none⟩ ∧
      SessionGone (lostTold s a) (s.becomeLost a e) m x d := by
  have lost : s.becomeLost a e = (lostTold s a).endSession m { result := .linkLost } := by
    rw [becomeLost_eq]
    unfold ownerLost State.meterLost
    rw [kind, owner, numbered_succ]
  have session' : ((lostTold s a).meter m).session = some x := session
  rw [lost]
  exact ⟨{ result := .linkLost }, rfl, rfl, rfl, endSession_gone session' _⟩

/-! ### LINK_LOST as a command of its own (R28, R30) -/

theorem told_taken {due : List TimedEvent} {body : NoticeBody} (h : Told { s with due } t body) : Told s t body := h

theorem linkLost_taken {e : UnitEntry} (left : .linkLost a ∈ s.due) (entry : s.unitEntry a = some e) (enabled : e.enabled = true)
    (silent : (s.link a).state = some .silent) (spent : s.site.values.lossLimit ≤ (s.link a).misses) :
    exec (.linkLost a) s = .next (({ s with due := s.due.erase (.linkLost a) } : State).becomeLost a e).startTx := by
  have run : exec (.linkLost a) s =
      .next ((({ s with due := s.due.erase (.linkLost a) } : State)).expireLink a).startTx := exec_timed left
  have expires : ({ s with due := s.due.erase (.linkLost a) } : State).expireLink a =
      ({ s with due := s.due.erase (.linkLost a) } : State).becomeLost a e := by
    have entry' : ({ s with due := s.due.erase (.linkLost a) } : State).unitEntry a = some e := entry
    have falls : (e.enabled && decide ((({ s with due := s.due.erase (.linkLost a) } : State).link a).state = some .silent) &&
        decide (({ s with due := s.due.erase (.linkLost a) } : State).site.values.lossLimit ≤
          (({ s with due := s.due.erase (.linkLost a) } : State).link a).misses)) = true := by
      rw [enabled, Bool.true_and, Bool.and_eq_true]
      exact ⟨decide_eq_true silent, decide_eq_true spent⟩
    unfold State.expireLink
    rw [entry']
    exact if_pos falls
  rw [run, expires]

/-- What O24 says of a unit that becomes LOST. -/
theorem linkLost_isTold (a : Addr) (e : UnitEntry) (s : State) (left : .linkLost a ∈ s.due) (entry : s.unitEntry a = some e)
    (enabled : e.enabled = true) (silent : (s.link a).state = some .silent)
    (spent : s.site.values.lossLimit ≤ (s.link a).misses) :
    ∃ t, exec (.linkLost a) s = .next t ∧ t.link a = { s.link a with state := some .lost } ∧
      (∀ k, k ≠ a → t.link k = s.link k) ∧ Told s t (.unitLink a .lost (s.link a).misses) ∧
      (e.kind = .board → NoticeRaised s.port t.port false (.unitLink a .lost (s.link a).misses) ∧
        ∀ f x, s.feederEntry f = some x → x.board = a →
          t.feederRec f = { s.feederRec f with
            state := if (s.feederRec f).state = .live then .held else (s.feederRec f).state
            status := .missing }) ∧
      (e.kind = .set → ∀ n x, s.setEntry n = some x → x.enabled = true → x.unit = a →
        (t.setRec n).unreachable = true ∧ (t.setRec n).run = (s.setRec n).run ∧
          (t.setRec n).latest = (s.setRec n).latest) ∧
      (e.kind = .change → ∀ p x y, s.switched p = some (a, x, y) →
        (t.pointRec p).position = .unknown ∧ (t.pointRec p).selector = none ∧ (t.pointRec p).seq = none ∧
          ∀ q, (s.pointRec p).seq = some q →
            (t.pointRec p).lastOutcome = some ⟨.linkLost, q.cause, s.engine.cycleNo⟩ ∧
              Told s t (endNotice s p q .linkLost none .unknown)) ∧
      (e.kind = .fuel → ∀ m : MeterNo, e.owner = m.val + 1 → ∀ x, (s.meter m).session = some x →
        (t.meter m).session = none ∧ (t.meter m).promoted = false ∧
          Told s t (.delivery ⟨m, x.set.val + 1, .linkLost, x.live, none, none, none, none⟩) ∧
          (x.phase ≠ .granting →
            (t.tank x.set).delivered = min (2 ^ 64 - 1) ((s.tank x.set).delivered + x.live)) ∧
          (x.phase = .granting → (t.tank x.set).delivered = (s.tank x.set).delivered)) ∧
      t.tables = s.tables ∧ t.site = s.site ∧ t.billing = s.billing ∧ t.tariff = s.tariff ∧
      t.schedule = s.schedule ∧ t.due = s.due.erase (.linkLost a) := by
  have run := linkLost_taken left entry enabled silent spent
  have lost := becomeLost_lost { s with due := s.due.erase (.linkLost a) } a e
  have set := fun n x => becomeLost_set (s := { s with due := s.due.erase (.linkLost a) }) (a := a) (e := e) (n := n) (x := x)
  have board := becomeLost_board (s := { s with due := s.due.erase (.linkLost a) }) (a := a) (e := e)
  have change := fun p x y => becomeLost_change (s := { s with due := s.due.erase (.linkLost a) }) (a := a) (e := e) (p := p) (x := x) (y := y)
  have fuel := fun m x => becomeLost_fuel (s := { s with due := s.due.erase (.linkLost a) }) (a := a) (e := e) (m := m) (x := x)
  have taken : Spends 1 { s with due := s.due.erase (.linkLost a) } (lostTold { s with due := s.due.erase (.linkLost a) } a) :=
    (spends_modLink _ a _).trans (.raise _ _)
  generalize ({ s with due := s.due.erase (.linkLost a) } : State).becomeLost a e = t at run lost set board change fuel
  have step := lost.step
  refine ⟨_, run, lost.own, lost.others, told_startTx (lost.told.told (Nat.le_of_ble_eq_true rfl)), fun kind => ?_,
    fun kind n x loaded _ unit => ?_, fun kind p x y named => ?_, fun kind m owner x session => ?_, step.tables, step.site,
    step.billing, step.tariff, step.schedule, step.due⟩
  · have eq := board kind
    refine ⟨?_, fun f x loaded named => ?_⟩
    · rw [eq]
      exact noticeRaised_startTx (noticeRaised s.port false _)
    · have missed : t.feederRec f = (boardMissed { s with due := s.due.erase (.linkLost a) } a)[f] := by rw [eq]; rfl
      rw [boardMissed_get, if_pos (mem_boardFeeders (s := { s with due := s.due.erase (.linkLost a) }).mpr ⟨x, loaded, named⟩)] at missed
      exact missed
  · obtain ⟨mark, kept⟩ := set n x kind loaded unit
    exact ⟨mark, kept.run, kept.latest⟩
  · obtain ⟨gone, told⟩ := change p x y kind named
    exact ⟨gone.position, gone.selector, gone.idle, fun q live => ⟨gone.last q live, told_startTx ((told q live).told (Nat.le_of_ble_eq_true rfl))⟩⟩
  · obtain ⟨d, noChunk, result, body, gone⟩ := fuel m x kind owner session
    have told := (gone.told.after taken).told (Nat.le_of_ble_eq_true rfl)
    rw [body] at told
    refine ⟨(congrArg MeterRec.session gone.meter :), (congrArg MeterRec.promoted gone.meter :), told_startTx told,
      fun delivering => gone.live delivering (by rw [result]; nofun), gone.plain⟩

end

end Sys2Proof.LinkLoss
end

section
/-! SUPPORT. The end of a slot (R25, R36), by what it received: a valid report, a missed poll, or a report that is discarded. -/

namespace Sys2Proof.Slots

open Sys2Proof Sys2Proof.Machine Sys2Proof.Stated Sys2Proof.ClearFlags Sys2Proof.StopAndClear Sys2Proof.Sequencing
open Sys2Proof.SetLoading Sys2Proof.OwnerSteps Sys2Proof.UnitLoading Sys2Proof.Sessions Sys2Proof.Ending Sys2Proof.LinkLoss
open Sys2Proof.LineEvents

section
variable {s t u : State} {a : Addr} {e : UnitEntry} {q : Outstanding} {received : SlotInput} {deferred : List TimedEvent} {j k : Nat}

/-! ### The slot that ends (R19) -/

/-- The state in which the next slot has ended, at a time of the clock and of the cycle, before what was received acts (R19). -/
def slotBegun (s : State) (clock : Option Nat) (age : Nat) : State :=
  { s with
    billing := { s.billing with clock }
    engine := { s.engine with age, slotsEnded := s.engine.slotsEnded + 1, fde := false } }

/-- What the end of a slot does with what it received, the reply slot and its orphan known (R25, R36). -/
def slotDone (v : State) (a : Addr) (received : SlotInput) (deferred : List TimedEvent) (isReply orphan : Bool) : State :=
  match v.unitEntry a, orphan with
  | _, true => v.endOutstanding .noAnswer
  | none, false => if isReply then v.endOutstanding .noAnswer else v.missBoard a
  | some e, false =>
    if e.enabled then
      match slotOutcome a e received with
      | .valid r => v.validSlot a e isReply r fun n => deferred.contains (.discrepancy n)
      | .silent =>
        let v := v.missSlot a e false (deferred.contains (.linkLost a))
        if isReply then v.endOutstanding .noAnswer else v
      | .garbled =>
        let v := v.missSlot a e true (deferred.contains (.linkLost a))
        if isReply then v.endOutstanding .noAnswer else v
    else if isReply then v.endOutstanding .noAnswer
    else if e.kind = .board then v.missBoard a
    else v

/-- The state at the moment at which the next slot ends (R19). -/
def slotMoment (s : State) : State := s.bringTo (4 + 5 * (s.engine.slotsEnded + 1) / 2)

theorem closeSlot_slotMoment (running : s.engine.running = true) :
    (slotMoment s).closeSlot = slotBegun s (slotMoment s).billing.clock (slotMoment s).engine.age ∧
      (slotMoment s).engine.atReplySlot = s.engine.atReplySlot ∧ (slotMoment s).engine.orphaned = s.engine.orphaned := by
  have brought : slotMoment s = s.advance (4 + 5 * (s.engine.slotsEnded + 1) / 2 - s.engine.age) := if_pos running
  rw [brought]
  exact ⟨rfl, rfl, rfl⟩

theorem exec_slotEnd_at (h : OpenSlot s a) (received : SlotInput) (deferred : List TimedEvent) :
    exec (.slotEnd received deferred) s = .next
      (slotDone (slotBegun s (slotMoment s).billing.clock (slotMoment s).engine.age) a received deferred s.engine.atReplySlot
        s.engine.orphaned).startTx := by
  obtain ⟨begun, reply, orphaned⟩ := closeSlot_slotMoment h.running
  have ends : s.endSlot received deferred = (slotMoment s).endSlotOf a received deferred := by
    unfold State.endSlot
    rw [if_pos h.running, h.owner]
    rfl
  have run : exec (.slotEnd received deferred) s = .next (s.settle.endSlot received deferred).startTx := rfl
  rw [run, State.settle_nil h.settled, ends, ← begun, ← reply, ← orphaned]
  generalize slotMoment s = w
  have same : w.endSlotOf a received deferred =
      slotDone w.closeSlot a received deferred w.engine.atReplySlot w.engine.orphaned := by
    unfold State.endSlotOf slotDone
    dsimp only <;> cases w.unitEntry a <;> cases w.engine.orphaned <;> rfl
  rw [same]

theorem exec_slotEnd (h : OpenSlot s a) (received : SlotInput) (deferred : List TimedEvent) : ∃ clock age,
    exec (.slotEnd received deferred) s = .next
      (slotDone (slotBegun s clock age) a received deferred s.engine.atReplySlot s.engine.orphaned).startTx :=
  ⟨_, _, exec_slotEnd_at h received deferred⟩

theorem openSlot (h : SlotOf s a e) : OpenSlot s a := ⟨h.running, h.owner, h.settled⟩

theorem not_orphaned (h : SlotOf s a e) : s.engine.orphaned = false := by
  cases outstanding : s.engine.outstanding with
  | none => simp [Engine.orphaned, outstanding]
  | some q => simp [Engine.orphaned, outstanding, h.kept q outstanding]

/-! ### What a slot received (R25) -/

theorem slotOutcome_valid {r : FieldReport} (h : ValidFrom a e received r) : slotOutcome a e received = .valid r := by
  obtain ⟨bytes, rfl, parsed, source, kind⟩ := h
  simp [slotOutcome, parsed, source, kind]

theorem slotOutcome_garbled (h : Garbled a e received) : slotOutcome a e received = .garbled := by
  rcases h with rfl | ⟨bytes, rfl, foreign⟩
  · rfl
  · unfold slotOutcome
    dsimp only
    cases parsed : parseReport bytes with
    | none => rfl
    | some r =>
      refine if_neg fun own => ?_
      rw [Bool.and_eq_true, decide_eq_true_eq, decide_eq_true_eq] at own
      exact (foreign r parsed).elim (fun h => h own.1) fun h => h own.2

/-- A slot with a valid report of its owner. -/
theorem exec_validSlot_at {r : FieldReport} (h : SlotOf s a e) (valid : ValidFrom a e received r) (deferred : List TimedEvent) :
    exec (.slotEnd received deferred) s = .next
      ((slotBegun s (slotMoment s).billing.clock (slotMoment s).engine.age).validSlot a e s.engine.atReplySlot r
        fun n => deferred.contains (.discrepancy n)).startTx := by
  have entry : (slotBegun s (slotMoment s).billing.clock (slotMoment s).engine.age).unitEntry a = some e := h.entry
  rw [exec_slotEnd_at (openSlot h), not_orphaned h]
  generalize slotBegun s _ _ = v at entry
  unfold slotDone
  rw [entry]
  simp only [h.enabled, slotOutcome_valid valid, if_true]

theorem exec_validSlot {r : FieldReport} (h : SlotOf s a e) (valid : ValidFrom a e received r) (deferred : List TimedEvent) :
    ∃ clock age, exec (.slotEnd received deferred) s = .next
      ((slotBegun s clock age).validSlot a e s.engine.atReplySlot r fun n => deferred.contains (.discrepancy n)).startTx :=
  ⟨_, _, exec_validSlot_at h valid deferred⟩

/-- The command of a reply slot ends NO_ANSWER where the slot is missed (R25, R35). -/
def unanswered (v : State) (isReply : Bool) : State := if isReply then v.endOutstanding .noAnswer else v

/-- A slot that is silent or garbled. -/
theorem exec_missedSlot (h : SlotOf s a e) (missed : received = .nothing ∨ Garbled a e received) (kept : .linkLost a ∉ deferred) :
    ∃ clock age garbled, (received = .nothing → garbled = false) ∧ (received ≠ .nothing → garbled = true) ∧
      exec (.slotEnd received deferred) s =
        .next (unanswered ((slotBegun s clock age).missSlot a e garbled false) s.engine.atReplySlot).startTx := by
  obtain ⟨clock, age, run⟩ := exec_slotEnd (openSlot h) received deferred
  have entry : (slotBegun s clock age).unitEntry a = some e := h.entry
  have leave : deferred.contains (.linkLost a) = false := by
    rw [Bool.eq_false_iff]
    exact fun mem => kept (List.contains_iff_mem.mp mem)
  rw [run, not_orphaned h]
  generalize hv : slotBegun s clock age = v at entry
  rcases missed with rfl | garbled
  · refine ⟨clock, age, false, fun _ => rfl, fun other => absurd rfl other, ?_⟩
    rw [hv]
    unfold slotDone
    rw [entry]
    simp only [h.enabled, slotOutcome, leave, if_true]
    rfl
  · refine ⟨clock, age, true, fun none => ?_, fun _ => rfl, ?_⟩
    · rcases garbled with other | ⟨bytes, other, -⟩ <;> exact absurd (none.symm.trans other) nofun
    · rw [hv]
      unfold slotDone
      rw [entry]
      simp only [h.enabled, slotOutcome_garbled garbled, leave, if_true]
      rfl

/-! ### A missed slot: the counts and the link (R25, R28, R30, R31) -/

/-- The state with the links given. -/
def withLinks (s : State) (links : Vector LinkRec 63) : State := { s with engine := { s.engine with links } }

/-- The state of a unit's link after a missed slot (R28). -/
def missedLink (s : State) (l : LinkRec) (garbled : Bool) : LinkRec :=
  { l.miss garbled with
    state := if l.state = some .lost then some .lost
      else if (l.miss garbled).misses < s.site.values.lossLimit then some .silent else some .lost }

/-- What a missed slot leaves. -/
structure Missed (s t : State) (a : Addr) (e : UnitEntry) (garbled : Bool) : Prop where
  link : t.link a = missedLink s (s.link a) garbled
  others : ∀ k, k ≠ a → t.link k = s.link k
  told : (s.link a).state ≠ some .lost → s.site.values.lossLimit ≤ ((s.link a).miss garbled).misses →
    Raises 1 s t (.unitLink a .lost ((s.link a).miss garbled).misses)
  feeders : e.kind = .board → ∀ f x, s.feederEntry f = some x → x.board = a → t.feederRec f = missedPoll (s.feederRec f)
  step : ∃ links, LineStep (withLinks s links) t
  spends : Spends 2 s t

/-- The first stage of a missed slot, before a board's feeders are told of it. -/
def linkMissed (s : State) (a : Addr) (e : UnitEntry) (garbled : Bool) : State :=
  let v := s.modLink a (LinkRec.miss · garbled)
  if (s.link a).state = some .lost then v
  else if ((s.link a).miss garbled).misses < s.site.values.lossLimit then v.modLink a fun l => { l with state := some .silent }
  else v.becomeLost a e

theorem missSlot_eq (s : State) (a : Addr) (e : UnitEntry) (garbled : Bool) : s.missSlot a e garbled false =
    if e.kind = .board then (linkMissed s a e garbled).missBoard a else linkMissed s a e garbled := by
  have read : ((s.modLink a (LinkRec.miss · garbled)).link a).misses = ((s.link a).miss garbled).misses := by
    rw [modLink_link]
  have site : (s.modLink a (LinkRec.miss · garbled)).site = s.site := rfl
  unfold State.missSlot linkMissed
  dsimp only
  rw [read, site]
  cases e.kind <;> rfl

theorem missedPoll_twice (r : FeederRec) : missedPoll (missedPoll r) = missedPoll r := by
  unfold missedPoll
  by_cases live : r.state = .live <;> simp [live]

/-- The link after the first stage, and what that stage leaves alone. -/
structure LinkMissed (s t : State) (a : Addr) (garbled : Bool) : Prop where
  link : t.link a = missedLink s (s.link a) garbled
  others : ∀ k, k ≠ a → t.link k = s.link k
  told : (s.link a).state ≠ some .lost → s.site.values.lossLimit ≤ ((s.link a).miss garbled).misses →
    Raises 1 s t (.unitLink a .lost ((s.link a).miss garbled).misses)
  feeders : ∀ f, t.feederRec f = s.feederRec f ∨ t.feederRec f = missedPoll (s.feederRec f)
  step : ∃ links, LineStep (withLinks s links) t
  spends : Spends 2 s t

theorem becomeLost_feeders (s : State) (a : Addr) (e : UnitEntry) (f : FeederNo) :
    (s.becomeLost a e).feederRec f = s.feederRec f ∨ (s.becomeLost a e).feederRec f = missedPoll (s.feederRec f) := by
  by_cases kind : e.kind = .board
  · have missed : (s.becomeLost a e).feederRec f = (boardMissed s a)[f] := by rw [becomeLost_board kind]; rfl
    rw [missed, boardMissed_get]
    split
    · exact .inr rfl
    · exact .inl rfl
  · refine .inl ?_
    have kept : OwnerStep (lostTold s a) (ownerLost (lostTold s a) a e) := by
      generalize lostTold s a = v
      unfold ownerLost
      cases other : e.kind with
      | board => exact absurd other kind
      | set => exact (marksPut true (v.setsNaming a) v).1
      | change => exact (changeLost_step v a).1
      | fuel => exact (meterLost_step v e.owner).1
    rw [becomeLost_eq, State.feederRec, kept.feeders]
    rfl

theorem missedLink_kept (h : (s.link a).state = some .lost) (garbled : Bool) :
    missedLink s (s.link a) garbled = (s.link a).miss garbled := by
  rw [missedLink, if_pos h, ← h]
  rfl

theorem linkMissed_spec (s : State) (a : Addr) (e : UnitEntry) (garbled : Bool) :
    LinkMissed s (linkMissed s a e garbled) a garbled := by
  have read := modLink_link s a (LinkRec.miss · garbled)
  have others (k : Addr) (hk : k ≠ a) := State.modLink_other s a (LinkRec.miss · garbled) hk
  have spends := spends_modLink s a (LinkRec.miss · garbled)
  unfold linkMissed
  dsimp only
  by_cases lost : (s.link a).state = some .lost
  · rw [if_pos lost]
    exact ⟨read.trans (missedLink_kept lost garbled).symm, others, fun other => absurd lost other, fun _ => .inl rfl,
      ⟨_, .refl _⟩, spends.mono (Nat.zero_le _)⟩
  · rw [if_neg lost]
    have below : missedLink s (s.link a) garbled = { (s.link a).miss garbled with
        state := if ((s.link a).miss garbled).misses < s.site.values.lossLimit then some .silent else some .lost } := by
      rw [missedLink, if_neg lost]
    by_cases few : ((s.link a).miss garbled).misses < s.site.values.lossLimit
    · rw [if_pos few] at below ⊢
      have silent := modLink_link (s.modLink a (LinkRec.miss · garbled)) a fun l => { l with state := some .silent }
      rw [read] at silent
      refine ⟨silent.trans below.symm, fun k hk => ?_, fun _ many => absurd few (Nat.not_lt.mpr many), fun _ => .inl rfl,
        ⟨_, .refl _⟩, (spends.trans (spends_modLink _ a _)).mono (Nat.zero_le _)⟩
      exact (State.modLink_other (s.modLink a (LinkRec.miss · garbled)) a _ hk).trans (others k hk)
    · rw [if_neg few] at below ⊢
      have feeders := becomeLost_feeders (s.modLink a (LinkRec.miss · garbled)) a e
      have became := becomeLost_lost (s.modLink a (LinkRec.miss · garbled)) a e
      have told := LineStep.of_owner (OwnerStep.raise
        ((s.modLink a (LinkRec.miss · garbled)).modLink a fun l => { l with state := some .lost })
        (.unitLink a .lost ((s.modLink a (LinkRec.miss · garbled)).link a).misses))
      have step : ∃ links, LineStep (withLinks s links) ((s.modLink a (LinkRec.miss · garbled)).becomeLost a e) :=
        ⟨_, told.trans became.step⟩
      generalize (s.modLink a (LinkRec.miss · garbled)).becomeLost a e = t at feeders became step
      have own := became.own
      rw [read] at own
      refine ⟨own.trans below.symm, fun k hk => (became.others k hk).trans (others k hk), fun _ _ => ?_,
        feeders, step, (spends.trans became.spends).mono (Nat.le_of_ble_eq_true rfl)⟩
      have tells := became.told.after spends
      rwa [read] at tells

theorem missSlot_missed (s : State) (a : Addr) (e : UnitEntry) (garbled : Bool) : Missed s (s.missSlot a e garbled false) a e garbled := by
  have first := linkMissed_spec s a e garbled
  rw [missSlot_eq]
  generalize linkMissed s a e garbled = v at first
  obtain ⟨links, step⟩ := first.step
  split
  next kind =>
    have board := LineStep.missBoard v a
    rw [missBoard_eq] at board ⊢
    have same : Spends 0 v { v with feeders := boardMissed v a } := .of_notices rfl fun _ => rfl
    refine ⟨first.link, first.others, fun lost many => (first.told lost many).before same,
      fun _ f x entry named => ?_, ⟨links, step.trans board⟩,
      first.spends.trans (k := 0) (.of_notices rfl fun _ => rfl)⟩
    have entry' : v.feederEntry f = some x := by
      rw [State.feederEntry, step.tables]; exact entry
    have missed : ({ v with feeders := boardMissed v a } : State).feederRec f = (boardMissed v a)[f] := rfl
    rw [missed, boardMissed_get, if_pos (mem_boardFeeders.mpr ⟨x, entry', named⟩)]
    rcases first.feeders f with same | missed
    · rw [same]
    · rw [missed, missedPoll_twice]
  next kind => exact ⟨first.link, first.others, first.told, fun board => absurd board kind, ⟨links, step⟩, first.spends⟩

/-! ### The command of a reply slot (R35, R36) -/

theorem endOutstanding_of (h : s.engine.outstanding = some q) (o : CommandOutcome) :
    s.endOutstanding o = (s.putOutstanding none).returnOutcome q.command o := by
  rw [State.endOutstanding, h]

theorem endOutstanding_step (s : State) (o : CommandOutcome) : OwnerStep (s.putOutstanding none) (s.endOutstanding o) := by
  cases outstanding : s.engine.outstanding with
  | none =>
    have idle : s.endOutstanding o = s := by rw [State.endOutstanding, outstanding]
    have same : s.putOutstanding none = s := by rw [State.putOutstanding, ← outstanding]
    rw [idle, same]
    exact .refl s
  | some q =>
    rw [endOutstanding_of outstanding]
    exact .returnOutcome _ q.command o

theorem endOutstanding_outstanding (s : State) (o : CommandOutcome) : (s.endOutstanding o).engine.outstanding = none :=
  (congrArg Engine.outstanding (endOutstanding_step s o).engine :)

theorem endOutstanding_office {tag : Byte} (h : s.engine.outstanding = some q) (origin : q.command.origin = .office tag)
    (o : CommandOutcome) : s.endOutstanding o =
      (s.putOutstanding none).raise (.commandResult tag q.command.target q.command.code o s.engine.cycleNo) := by
  rw [endOutstanding_of h, returnOutcome_office origin]
  rfl

/-- The outstanding command apart, what the end of a missed slot leaves alone. -/
theorem unanswered_step (v : State) (isReply : Bool) :
    ∃ outstanding, OwnerStep (v.putOutstanding outstanding) (unanswered v isReply) := by
  unfold unanswered
  split
  · exact ⟨none, endOutstanding_step v .noAnswer⟩
  · exact ⟨v.engine.outstanding, .refl v⟩

end

end Sys2Proof.Slots
end

section
/-! SUPPORT. The notices that the outcome of a command raises (R35, R190, R191); missed and discarded slots (R25, R36). -/

namespace Sys2Proof.MissedSlots

open Sys2Proof Sys2Proof.Machine Sys2Proof.Stated Sys2Proof.ClearFlags Sys2Proof.StopAndClear Sys2Proof.Sequencing
open Sys2Proof.SetLoading Sys2Proof.OwnerSteps Sys2Proof.UnitLoading Sys2Proof.Sessions Sys2Proof.Ending Sys2Proof.LinkLoss
open Sys2Proof.Slots Sys2Proof.Starting Sys2Proof.Accepting

section
variable {s t u : State} {n : SetNo} {p : PointNo} {m : MeterNo} {a : Addr}

/-! ### The notices of an outcome -/

theorem spends_none {k : Nat} (s : State) : Spends k s s := (Spends.refl s).mono (Nat.zero_le k)

theorem spends_changeRun (s : State) (n : SetNo) (run : RunState) (why : StateReason) (attempts : Option Nat) :
    Spends 1 s (s.changeRun n run why attempts) := .changeRun s n run why attempts

theorem spends_enqueue {c : Command} (h : s.enqueue c = some t) : Spends 0 s t := by
  obtain ⟨-, -, -, rfl⟩ := State.enqueue_eq_some.mp h
  exact .of_notices rfl fun _ => rfl

theorem spends_tryEnqueueSet (s : State) (n : SetNo) : Spends 1 s (s.tryEnqueueSet n) := by
  unfold State.tryEnqueueSet
  dsimp only
  split
  · split
    · exact (spends_modSet n s _).trans (spends_changeRun _ n _ _ _)
    · split
      · exact spends_none s
      · split
        · exact spends_none s
        next enqueued => exact ((spends_enqueue enqueued).trans (spends_modSet n _ _)).mono (Nat.zero_le _)
  · exact spends_none s

theorem spends_endAttempt (s : State) (n : SetNo) : Spends 1 s (s.endAttempt n) := by
  unfold State.endAttempt
  split
  · split
    · exact spends_changeRun s n _ _ _
    · split
      · exact ((spends_modSet n s _).trans (spends_makeDue _ n)).mono (Nat.zero_le _)
      · exact spends_changeRun s n _ _ _
  · exact spends_none s

theorem spends_setOutcome (s : State) (n : SetNo) (code : Code) (o : CommandOutcome) : Spends 1 s (s.setOutcome n code o) := by
  unfold State.setOutcome
  dsimp only
  have free := spends_modSet n s fun r => { r with place := .free }
  generalize (s.modSet n fun r => { r with place := .free }) = t at free ⊢
  refine free.trans (k := 1) ?_
  split
  · exact spends_none t
  · split
    · unfold State.startOutcome
      split
      · exact (spends_modSet n t _).mono (Nat.zero_le _)
      · exact spends_endAttempt t n
      · exact spends_endAttempt t n
      · exact spends_endAttempt t n
      · exact (spends_modSet n t _).mono (Nat.zero_le _)
    · unfold State.stopOutcome
      split
      · exact spends_none t
      · exact spends_changeRun t n _ _ _
      · exact spends_changeRun t n _ _ _
      · exact spends_changeRun t n _ _ _
      · exact (spends_modSet n t _).mono (Nat.zero_le _)

theorem spends_modMeter (m : MeterNo) (s : State) (f : MeterRec → MeterRec) : Spends 0 s (s.modMeter m f) :=
  .of_notices rfl fun _ => rfl

theorem spends_meterOutcome (s : State) (m : MeterNo) (code : Code) (o : CommandOutcome) :
    Spends 1 s (s.meterOutcome m code o) := by
  unfold State.meterOutcome
  dsimp only
  have free := spends_modMeter m s fun r => { r with place := .free }
  generalize (s.modMeter m fun r => { r with place := .free }) = t at free ⊢
  refine free.trans (k := 1) ?_
  split
  · exact spends_none t
  · split
    · split
      · unfold State.permitOutcome
        split
        · exact (spends_modMeter m t _).mono (Nat.zero_le _)
        · exact spends_endSession t m _
        · split <;> exact spends_endSession t m _
        · exact spends_endSession t m _
        · exact spends_endSession t m _
      · exact spends_none t
    · split
      · unfold State.revokeOutcome
        split <;> exact spends_endSession t m _
      · exact spends_none t
    · exact spends_none t

theorem spends_tryEnqueueMeter (s : State) (m : MeterNo) : Spends 0 s (s.tryEnqueueMeter m) := by
  rcases tryEnqueueMeter_spec s m with same | ⟨a, -, queued⟩
  · rw [same]
    exact .refl s
  · rw [queued]
    exact .of_notices rfl fun _ => rfl

theorem spends_giveOutcome (s : State) (c : Command) (o : CommandOutcome) : Spends 1 s (s.giveOutcome c o) := by
  unfold State.giveOutcome
  split
  · exact .raise s _
  · exact spends_setOutcome s _ _ _
  · exact (PointStep.pointOutcome _ s _ _).spends.mono (Nat.zero_le _)
  · exact spends_meterOutcome s _ _ _

theorem spends_resume (s : State) (o : Origin) : Spends 1 s (s.resume o) := by
  cases o with
  | office tag => exact spends_none s
  | sets n => exact spends_tryEnqueueSet s n
  | changeover p => exact (PointStep.tryEnqueuePoint p s).spends.mono (Nat.zero_le _)
  | fuel m => exact (spends_tryEnqueueMeter s m).mono (Nat.zero_le _)

theorem spends_returnOutcome (s : State) (c : Command) (o : CommandOutcome) : Spends 2 s (s.returnOutcome c o) :=
  (spends_giveOutcome s c o).trans (spends_resume _ _)

theorem spends_endOutstanding (s : State) (o : CommandOutcome) : Spends 2 s (s.endOutstanding o) := by
  cases outstanding : s.engine.outstanding with
  | none =>
    have idle : s.endOutstanding o = s := by rw [State.endOutstanding, outstanding]
    rw [idle]
    exact spends_none s
  | some q =>
    have cleared : Spends 0 s (s.putOutstanding none) := .of_notices rfl fun _ => rfl
    rw [endOutstanding_of outstanding]
    exact cleared.trans (spends_returnOutcome _ q.command o)

theorem spends_unanswered (v : State) (isReply : Bool) : Spends 2 v (unanswered v isReply) := by
  unfold unanswered
  split
  · exact spends_endOutstanding v .noAnswer
  · exact spends_none v

theorem spends_slotBegun (s : State) (clock : Option Nat) (age : Nat) : Spends 0 s (slotBegun s clock age) :=
  .of_notices rfl fun _ => rfl

/-! ### A missed slot (R25, R28, R30, R31, R45) -/

/-- The counts of a missed slot. -/
theorem missed_counts (s : State) (l : LinkRec) (garbled : Bool) :
    (missedLink s l garbled).misses = min 255 (l.misses + 1) ∧ (missedLink s l garbled).missed = min 65535 (l.missed + 1) ∧
      (missedLink s l garbled).garbled = (if garbled then min 65535 (l.garbled + 1) else l.garbled) ∧
      (missedLink s l garbled).forward = l.forward := ⟨rfl, rfl, rfl, rfl⟩

theorem missed_state (s : State) (l : LinkRec) (garbled : Bool) : (missedLink s l garbled).state =
    if l.state = some .lost then some .lost
      else if min 255 (l.misses + 1) < s.site.values.lossLimit then some .silent else some .lost := rfl

/-- What O27 says of a slot that is silent or garbled. -/
theorem slotMissed_counts (a : Addr) (e : UnitEntry) (received : SlotInput) (deferred : List TimedEvent) (s : State)
    (slot : SlotOf s a e) (missed : received = .nothing ∨ Garbled a e received) (kept : .linkLost a ∉ deferred) :
    ∃ t, exec (.slotEnd received deferred) s = .next t ∧
      t.engine.slotsEnded = s.engine.slotsEnded + 1 ∧ t.engine.slots = s.engine.slots ∧
      (t.link a).misses = min 255 ((s.link a).misses + 1) ∧
      (t.link a).missed = min 65535 ((s.link a).missed + 1) ∧
      (received = .nothing → (t.link a).garbled = (s.link a).garbled) ∧
      (received ≠ .nothing → (t.link a).garbled = min 65535 ((s.link a).garbled + 1)) ∧
      (t.link a).forward = (s.link a).forward ∧
      ((s.link a).state = some .lost → (t.link a).state = some .lost) ∧
      ((s.link a).state ≠ some .lost → min 255 ((s.link a).misses + 1) < s.site.values.lossLimit →
        (t.link a).state = some .silent) ∧
      ((s.link a).state ≠ some .lost → s.site.values.lossLimit ≤ min 255 ((s.link a).misses + 1) →
        (t.link a).state = some .lost ∧ Told s t (.unitLink a .lost (min 255 ((s.link a).misses + 1)))) ∧
      (∀ k, k ≠ a → t.link k = s.link k) ∧
      (e.kind = .board → ∀ f x, s.feederEntry f = some x → x.board = a →
        t.feederRec f = missedPoll (s.feederRec f)) ∧
      t.tables = s.tables ∧ t.site = s.site ∧ t.limitFlags = s.limitFlags ∧ t.tariff = s.tariff ∧
      t.schedule = s.schedule ∧ t.pending = s.pending := by
  obtain ⟨clock, age, garbled, quiet, loud, run⟩ := exec_missedSlot slot missed kept
  have spent := missSlot_missed (slotBegun s clock age) a e garbled
  have begun := spends_slotBegun s clock age
  obtain ⟨links, step⟩ := spent.step
  obtain ⟨outstanding, answer⟩ := unanswered_step ((slotBegun s clock age).missSlot a e garbled false) s.engine.atReplySlot
  have few := spends_unanswered ((slotBegun s clock age).missSlot a e garbled false) s.engine.atReplySlot
  have told (lost : (s.link a).state ≠ some .lost) (many : s.site.values.lossLimit ≤ min 255 ((s.link a).misses + 1)) :=
    ((spent.told lost many).after begun).before few
  generalize (slotBegun s clock age).missSlot a e garbled false = v at run spent step answer few told
  generalize unanswered v s.engine.atReplySlot = t at run answer told
  have link (k : Addr) : t.link k = v.link k := link_of_ownerStep answer k
  have own : t.link a = missedLink s (s.link a) garbled := (link a).trans spent.link
  have engine : t.engine.slotsEnded = s.engine.slotsEnded + 1 ∧ t.engine.slots = s.engine.slots :=
    ⟨(congrArg Engine.slotsEnded answer.engine :).trans (congrArg Engine.slotsEnded step.engine :),
      (congrArg Engine.slots answer.engine :).trans (congrArg Engine.slots step.engine :)⟩
  have state := missed_state s (s.link a) garbled
  rw [← own] at state
  refine ⟨_, run, engine.1, engine.2, (congrArg LinkRec.misses own :), (congrArg LinkRec.missed own :), fun none => ?_, fun some => ?_,
    (congrArg LinkRec.forward own :), fun lost => state.trans (if_pos lost), fun heard below => ?_, fun heard many => ?_,
    fun k hk => (link k).trans (spent.others k hk), fun kind f x entry board => ?_, answer.tables.trans step.tables,
    answer.site.trans step.site, answer.limitFlags.trans step.limitFlags, answer.tariff.trans step.tariff,
    answer.schedule.trans step.schedule, answer.pending.trans step.pending⟩
  · exact (congrArg LinkRec.garbled own).trans (by rw [quiet none]; rfl)
  · exact (congrArg LinkRec.garbled own).trans (by rw [loud some]; rfl)
  · exact state.trans ((if_neg heard).trans (if_pos below))
  · exact ⟨state.trans ((if_neg heard).trans (if_neg (Nat.not_lt.mpr many))),
      told_startTx ((told heard many).told (Nat.le_of_ble_eq_true rfl))⟩
  · have polled := spent.feeders kind f x entry board
    have same : t.feederRec f = v.feederRec f := by rw [State.feederRec, answer.feeders]; rfl
    exact same.trans polled

/-! ### A slot that is discarded (R36) -/

theorem startTx_copies (p : Port) : p.startTx.copies = p.copies ∧ p.startTx.copyDrops = p.copyDrops := by
  unfold Port.startTx
  split <;> exact ⟨rfl, rfl⟩

theorem discarded_of_owner {v : State} {clock : Option Nat} {age : Nat} {outstanding : Option Outstanding}
    (h : LineStep ((slotBegun s clock age).putOutstanding outstanding) v) : SlotDiscarded s v.startTx where
  ended := ⟨(congrArg Engine.slotsEnded h.engine :), (congrArg Engine.slots h.engine :)⟩
  links k := h.link k
  copies := by
    obtain ⟨copies, drops⟩ := startTx_copies v.port
    exact ⟨copies.trans (congrArg Port.copies h.port :), drops.trans (congrArg Port.copyDrops h.port :)⟩
  limits := ⟨h.limitFlags, h.unattributed⟩
  stores := ⟨h.tickets, h.schedule, h.tariff⟩
  tables := ⟨h.tables, h.site⟩
  pending := h.pending

/-- The slot of a target that can no longer answer: its command ends NO_ANSWER (R36). -/
theorem slotDone_orphan {v : State} {received : SlotInput} {deferred : List TimedEvent} {orphan : Bool}
    (h : orphan = true ∨ ∀ e, v.unitEntry a = some e → e.enabled = false) :
    slotDone v a received deferred true orphan = v.endOutstanding .noAnswer := by
  unfold slotDone
  cases orphan with
  | true => cases v.unitEntry a <;> rfl
  | false =>
    have disabled := h.resolve_left Bool.false_ne_true
    cases entry : v.unitEntry a with
    | none => rfl
    | some e =>
      dsimp only
      rw [disabled e entry]
      rfl

/-- The slot of another owner that is no longer enabled: its board's poll is missed, where it is one or none (R45; log entry 15). -/
theorem slotDone_stray {v : State} {received : SlotInput} {deferred : List TimedEvent}
    (h : ∀ e, v.unitEntry a = some e → e.enabled = false) : slotDone v a received deferred false false =
      if ∀ e, v.unitEntry a = some e → e.kind = .board then v.missBoard a else v := by
  unfold slotDone
  cases entry : v.unitEntry a with
  | none => exact (if_pos nofun).symm
  | some e =>
    dsimp only
    rw [h e entry, if_neg Bool.false_ne_true, if_neg Bool.false_ne_true]
    by_cases board : e.kind = .board
    · rw [if_pos board]
      exact (if_pos fun x hx => Option.some.inj hx ▸ board).symm
    · rw [if_neg board]
      exact (if_neg fun all => board (all e rfl)).symm

/-- What O27 says of the reply slot of a target that is no longer enabled. -/
theorem replySlot_discarded (a : Addr) (q : Outstanding) (received : SlotInput) (deferred : List TimedEvent) (s : State)
    (slot : OpenSlot s a) (first : s.engine.slotsEnded = 0) (outstanding : s.engine.outstanding = some q)
    (allocated : q.replyAllocated = true) (gone : q.orphan = true ∨ ∀ e, s.unitEntry a = some e → e.enabled = false) :
    ∃ t, exec (.slotEnd received deferred) s = .next t ∧ SlotDiscarded s t ∧ t.engine.outstanding = none ∧
      t.feeders = s.feeders ∧
      (∀ tag, q.command.origin = .office tag → OwnersKept s t ∧
        Told s t (.commandResult tag q.command.target q.command.code .noAnswer s.engine.cycleNo)) := by
  obtain ⟨clock, age, run⟩ := exec_slotEnd slot received deferred
  have reply : s.engine.atReplySlot = true := by simp [Engine.atReplySlot, first, outstanding, allocated]
  have orphan : s.engine.orphaned = true ∨ ∀ e, (slotBegun s clock age).unitEntry a = some e → e.enabled = false :=
    gone.imp_left fun orphan => by simp [Engine.orphaned, reply, outstanding, orphan]
  rw [reply, slotDone_orphan orphan] at run
  have asked : (slotBegun s clock age).engine.outstanding = some q := outstanding
  have step := endOutstanding_step (slotBegun s clock age) .noAnswer
  have none := endOutstanding_outstanding (slotBegun s clock age) .noAnswer
  refine ⟨_, run, discarded_of_owner (.of_owner step), none, step.feeders, fun tag origin => ?_⟩
  have office := endOutstanding_office asked origin .noAnswer
  have begun : Spends 0 s ((slotBegun s clock age).putOutstanding Option.none) := .of_notices rfl fun _ => rfl
  rw [office]
  exact ⟨⟨rfl, rfl, rfl, rfl⟩, told_startTx (((raises_raise _ _).after begun).told (Nat.zero_le _))⟩

/-- What O27 says of another slot, of an owner that is no longer enabled. -/
theorem straySlot_discarded (a : Addr) (received : SlotInput) (deferred : List TimedEvent) (s : State)
    (slot : OpenSlot s a) (gone : ∀ e, s.unitEntry a = some e → e.enabled = false)
    (other : s.engine.slotsEnded ≠ 0 ∨ ∀ q, s.engine.outstanding = some q → q.replyAllocated = false) :
    ∃ t, exec (.slotEnd received deferred) s = .next t ∧ SlotDiscarded s t ∧ OwnersKept s t ∧
      t.engine.outstanding = s.engine.outstanding ∧
      (∀ f x, s.feederEntry f = some x → x.board = a → (∀ e, s.unitEntry a = some e → e.kind = .board) →
        t.feederRec f = missedPoll (s.feederRec f)) ∧
      (∀ f, (∀ x, s.feederEntry f = some x → x.board ≠ a) ∨ (∃ e, s.unitEntry a = some e ∧ e.kind ≠ .board) →
        t.feederRec f = s.feederRec f) := by
  obtain ⟨clock, age, run⟩ := exec_slotEnd slot received deferred
  have reply : s.engine.atReplySlot = false := by
    rcases other with later | unallocated
    · simp [Engine.atReplySlot, later]
    · cases outstanding : s.engine.outstanding with
      | none => simp [Engine.atReplySlot, outstanding]
      | some q => simp [Engine.atReplySlot, outstanding, unallocated q outstanding]
  have orphan : s.engine.orphaned = false := by rw [Engine.orphaned, reply, Bool.false_and]
  have gone' : ∀ e, (slotBegun s clock age).unitEntry a = some e → e.enabled = false := gone
  rw [reply, orphan, slotDone_stray gone', missBoard_eq] at run
  have fields : ∀ f, (slotBegun s clock age).feederRec f = s.feederRec f := fun _ => rfl
  have entries : ∀ f, (slotBegun s clock age).feederEntry f = s.feederEntry f := fun _ => rfl
  by_cases board : ∀ e, (slotBegun s clock age).unitEntry a = some e → e.kind = .board
  · rw [if_pos board] at run
    have get (f : FeederNo) := boardMissed_get (slotBegun s clock age) a f
    simp only [mem_boardFeeders, entries, fields] at get
    generalize boardMissed (slotBegun s clock age) a = feeders at run get
    have step : LineStep ((slotBegun s clock age).putOutstanding s.engine.outstanding) { slotBegun s clock age with feeders } :=
      OwnerStep.refl _
    refine ⟨_, run, discarded_of_owner step, ⟨rfl, rfl, rfl, rfl⟩, rfl, fun f x entry named _ => ?_, fun f away => ?_⟩
    · exact (get f).trans (if_pos ⟨x, entry, named⟩)
    · refine (get f).trans (if_neg fun ⟨x, entry, named⟩ => ?_)
      rcases away with away | ⟨e, entry', kind⟩
      · exact away x entry named
      · exact kind (board e entry')
  · rw [if_neg board] at run
    have step : LineStep ((slotBegun s clock age).putOutstanding s.engine.outstanding) (slotBegun s clock age) := .refl _
    exact ⟨_, run, discarded_of_owner step, ⟨rfl, rfl, rfl, rfl⟩, rfl, fun f x entry named all => absurd all board,
      fun f _ => rfl⟩

end

/-- Settles O27: a missed slot by its counts, a discarded one by what it leaves alone. -/
theorem slotMissed : Obligations.SlotMissed := ⟨slotMissed_counts, replySlot_discarded, straySlot_discarded⟩

end Sys2Proof.MissedSlots
end

section
/-! SUPPORT. What the owners do with a report or an outcome, as the line and the notice queue see it: a notice early in a slot stays
queued however many follow, for each urgent one that follows has its sequence in flight (R26, R191, R192). -/

namespace Sys2Proof.BodySteps

open Sys2Proof Sys2Proof.Machine Sys2Proof.Stated Sys2Proof.ClearFlags Sys2Proof.StopAndClear Sys2Proof.Sequencing
open Sys2Proof.SetLoading Sys2Proof.OwnerSteps Sys2Proof.UnitLoading Sys2Proof.Sessions Sys2Proof.Ending Sys2Proof.LinkLoss
open Sys2Proof.Slots Sys2Proof.LineEvents Sys2Proof.Booking

/-! ### A notice that stays queued (R191, R192) -/

/-- The work of an event on the notice queue: ordinary notices, and the steps of sequencers. -/
inductive Works : State → State → Prop where
  | quiet {s t : State} (notices : t.port.notices = s.port.notices)
    (seqs : ∀ p, (t.pointRec p).seq.isSome = (s.pointRec p).seq.isSome) : Works s t
  | raise (s : State) (body : NoticeBody) : Works s (s.raise body)
  | point {p : PointNo} {s t : State} (h : PointStep p s t) : Works s t
  | trans {s t u : State} (h : Works s t) (k : Works t u) : Works s u

/-- The urgent notices among some. -/
def urgents (xs : List Notice) : Nat := (xs.filter Notice.urgent).length

theorem urgents_append (xs ys : List Notice) : urgents (xs ++ ys) = urgents xs + urgents ys := by
  rw [urgents, List.filter_append, List.length_append]; rfl

theorem urgents_cons (x : Notice) (xs : List Notice) : urgents (x :: xs) = (if x.urgent then 1 else 0) + urgents xs := by
  rw [urgents, List.filter_cons]
  split
  · rw [List.length_cons, Nat.add_comm]; rfl
  · rw [Nat.zero_add]; rfl

/-- The newest ordinary notice among some that are not all urgent. -/
theorem newest_ordinary {xs : List Notice} (h : urgents xs < xs.length) : ∃ older x newer, xs = older ++ x :: newer ∧
    x.urgent = false ∧ ∀ y ∈ newer, y.urgent = true := by
  induction xs with
  | nil => exact absurd h (Nat.lt_irrefl 0)
  | cons y ys ih =>
    by_cases rest : urgents ys < ys.length
    · obtain ⟨older, x, newer, rfl, ordinary, all⟩ := ih rest
      exact ⟨y :: older, x, newer, rfl, ordinary, all⟩
    · have most : urgents ys ≤ ys.length := List.length_filter_le _ ys
      have same : (ys.filter Notice.urgent).length = ys.length := Nat.le_antisymm most (Nat.not_lt.mp rest)
      rw [urgents_cons, List.length_cons] at h
      refine ⟨[], y, ys, rfl, ?_, List.length_filter_eq_length_iff.mp same⟩
      by_contra urgent
      rw [if_pos (Bool.not_eq_false _ ▸ urgent)] at h
      omega

/-- A notice with its place in the queue, and the urgent ones that come after it. -/
structure Held (pre : List Notice) (x : Notice) (k : Nat) (xs : List Notice) : Prop where
  place : ∃ post, xs = pre ++ x :: post ∧ urgents post ≤ k

/-- A raise leaves a notice in its place, unless everything after it is urgent. -/
theorem held_raise {p : Port} {pre : List Notice} {x : Notice} {k : Nat} (h : Held pre x k p.notices) (urgent : Bool)
    (body : NoticeBody) (room : urgent = true → pre.length + k < 31) :
    Held pre x (if urgent then k + 1 else k) (p.raise urgent body).notices := by
  obtain ⟨post, eq, few⟩ := h.place
  have raised := noticeRaised p urgent body
  by_cases short : p.notices.length < 32
  · obtain ⟨notices, -⟩ := raised.room short
    refine ⟨post ++ [⟨p.nextNotice, urgent, body⟩], by rw [notices, eq, List.append_assoc]; rfl, ?_⟩
    rw [urgents_append, urgents_cons]
    cases urgent <;> simp [urgents] at few ⊢ <;> exact few
  · have full := Nat.not_lt.mp short
    cases urgent with
    | false =>
      obtain ⟨notices, -⟩ := raised.lost full rfl
      exact ⟨post, notices.trans eq, few⟩
    | true =>
      have long : urgents post < post.length := by
        have length := congrArg List.length eq
        rw [List.length_append, List.length_cons] at length
        have := room rfl
        omega
      obtain ⟨older, y, newer, rfl, ordinary, all⟩ := newest_ordinary long
      have split : p.notices = (pre ++ x :: older) ++ y :: newer := by rw [eq, List.append_assoc]; rfl
      obtain ⟨notices, -⟩ := raised.displacing (pre ++ x :: older) y newer full rfl split ordinary (fun _ => by simp) all
      refine ⟨older ++ newer ++ [⟨p.nextNotice, true, body⟩], by rw [notices]; simp, ?_⟩
      rw [urgents_append, urgents_cons, ordinary, if_neg Bool.false_ne_true] at few
      rw [urgents_append, urgents_append, urgents_cons, if_pos rfl, if_pos rfl]
      simp only [urgents, List.filter_nil, List.length_nil] at few ⊢
      omega

/-- A notice stays queued through the work of an event: the urgent ones that follow are of the sequences in flight. -/
theorem Works.held {s t : State} (h : Works s t) {pre : List Notice} {x : Notice} {k : Nat}
    (here : Held pre x k s.port.notices) (room : pre.length + k + flying s ≤ 31) :
    ∃ j, Held pre x j t.port.notices ∧ j + flying t ≤ k + flying s := by
  induction h generalizing k with
  | quiet notices seqs => exact ⟨k, notices ▸ here, by rw [flying_congr seqs]⟩
  | raise s body => exact ⟨k, held_raise here false body nofun, Nat.le_refl _⟩
  | @point p s t step =>
    rcases step.ends with ⟨port, same⟩ | ⟨⟨urgent, body, port⟩, live, gone⟩
    · refine ⟨k, port ▸ here, ?_⟩
      rw [flying_congr fun i => ?_]
      by_cases hi : i = p
      · exact hi ▸ same
      · rw [step.others i hi]
    · have fewer := flying_ended step.others live gone
      have held := held_raise here urgent (.changeover body) fun _ => by omega
      rw [← port] at held
      refine ⟨_, held, ?_⟩
      split <;> omega
  | trans _ _ ih ih' =>
    obtain ⟨j, held, few⟩ := ih here room
    obtain ⟨i, held', few'⟩ := ih' held (by omega)
    exact ⟨i, held', by omega⟩

/-- A notice raised first of all in its event is told, whatever follows. -/
theorem told_first {s u t : State} {body : NoticeBody} (notices : u.port.notices = s.port.notices)
    (later : Works (u.raise body) t) : Told s t body := by
  intro short
  have most := flying_le (u.raise body)
  have raised : (u.raise body).port.notices = u.port.notices ++ [⟨u.port.nextNotice, false, body⟩] := by
    rw [State.raise, State.raiseMarked, Port.raise_room (by rw [notices]; omega)]
  obtain ⟨j, ⟨post, eq, -⟩, -⟩ := later.held (pre := u.port.notices) (x := ⟨u.port.nextNotice, false, body⟩) (k := 0)
    ⟨[], raised, Nat.le_refl 0⟩ (by rw [notices]; omega)
  exact ⟨_, eq ▸ List.mem_append_right _ List.mem_cons_self, rfl⟩

/-! ### The steps of the owners -/

/-- What the owners do with a report or an outcome, as the line sees it: no link, no copy, no mark of a set is touched. -/
structure BodyStep (s t : State) : Prop where
  tables : t.tables = s.tables
  site : t.site = s.site
  schedule : t.schedule = s.schedule
  tariff : t.tariff = s.tariff
  engine : { t.engine with queue := s.engine.queue, acks := s.engine.acks } = s.engine
  port : { t.port with notices := s.port.notices, nextNotice := s.port.nextNotice, overflow := s.port.overflow } = s.port
  pending : t.pending = s.pending
  marks : ∀ n, (t.setRec n).unreachable = (s.setRec n).unreachable
  works : Works s t

section
variable {s t u : State} {n : SetNo} {p : PointNo} {m : MeterNo} {f : FeederNo} {a : Addr}

theorem Works.refl (s : State) : Works s s := .quiet rfl fun _ => rfl

theorem Works.forEach {α : Type} {f : α → State → State} {xs : List α} (h : ∀ x s, Works s (f x s)) (s : State) :
    Works s (forEach xs f s) := forEach_rel Works.refl Works.trans (fun x _ s => h x s) s

theorem BodyStep.refl (s : State) : BodyStep s s := ⟨rfl, rfl, rfl, rfl, rfl, rfl, rfl, fun _ => rfl, .refl s⟩

theorem BodyStep.trans (h : BodyStep s t) (k : BodyStep t u) : BodyStep s u where
  tables := k.tables.trans h.tables
  site := k.site.trans h.site
  schedule := k.schedule.trans h.schedule
  tariff := k.tariff.trans h.tariff
  engine := (congrArg (fun x : Engine => { x with queue := s.engine.queue, acks := s.engine.acks }) k.engine :).trans h.engine
  port := (congrArg (fun x : Port =>
    { x with notices := s.port.notices, nextNotice := s.port.nextNotice, overflow := s.port.overflow }) k.port :).trans h.port
  pending := k.pending.trans h.pending
  marks n := (k.marks n).trans (h.marks n)
  works := h.works.trans k.works

theorem BodyStep.forEach {α : Type} {f : α → State → State} {xs : List α} (h : ∀ x s, BodyStep s (f x s)) (s : State) :
    BodyStep s (forEach xs f s) := forEach_rel BodyStep.refl BodyStep.trans (fun x _ s => h x s) s

theorem BodyStep.of_owner (h : OwnerStep s t) (marks : ∀ n, (t.setRec n).unreachable = (s.setRec n).unreachable)
    (works : Works s t) : BodyStep s t where
  tables := h.tables
  site := h.site
  schedule := h.schedule
  tariff := h.tariff
  engine := (congrArg (fun x : Engine => { x with acks := s.engine.acks }) h.engine :)
  port := h.port
  pending := h.pending
  marks := marks
  works := works

/-! #### Steps that the line and the notice queue do not see -/

theorem BodyStep.modPoint (p : PointNo) (s : State) {f : PointRec → PointRec}
    (h : (f (s.pointRec p)).seq.isSome = (s.pointRec p).seq.isSome) : BodyStep s (s.modPoint p f) :=
  ⟨rfl, rfl, rfl, rfl, rfl, rfl, rfl, fun _ => rfl, .point (.modPoint p s h)⟩

theorem BodyStep.modSet (n : SetNo) (s : State) {f : SetRec → SetRec} (h : ∀ r, (f r).unreachable = r.unreachable) :
    BodyStep s (s.modSet n f) where
  tables := rfl
  site := rfl
  schedule := rfl
  tariff := rfl
  engine := rfl
  port := rfl
  pending := rfl
  marks k := by
    by_cases hk : k = n
    · subst hk
      rw [State.modSet_read, h]
    · rw [State.modSet_other s n f hk]
  works := .quiet rfl fun _ => rfl

theorem BodyStep.modHire (n : SetNo) (s : State) (f : Hire → Hire) : BodyStep s (s.modHire n f) := .modSet n s fun _ => rfl

theorem BodyStep.modMeter (m : MeterNo) (s : State) (f : MeterRec → MeterRec) : BodyStep s (s.modMeter m f) :=
  ⟨rfl, rfl, rfl, rfl, rfl, rfl, rfl, fun _ => rfl, .quiet rfl fun _ => rfl⟩

theorem BodyStep.modTank (n : SetNo) (s : State) (f : Tank → Tank) : BodyStep s (s.modTank n f) :=
  ⟨rfl, rfl, rfl, rfl, rfl, rfl, rfl, fun _ => rfl, .quiet rfl fun _ => rfl⟩

theorem BodyStep.modFeeder (f : FeederNo) (s : State) (g : FeederRec → FeederRec) : BodyStep s (s.modFeeder f g) :=
  ⟨rfl, rfl, rfl, rfl, rfl, rfl, rfl, fun _ => rfl, .quiet rfl fun _ => rfl⟩

theorem BodyStep.modAccount (k : AccountNo) (s : State) (g : AccountRec → AccountRec) : BodyStep s (s.modAccount k g) :=
  ⟨rfl, rfl, rfl, rfl, rfl, rfl, rfl, fun _ => rfl, .quiet rfl fun _ => rfl⟩

theorem BodyStep.putLimitFlag (f : FeederNo) (s : State) (flag : Bool) : BodyStep s (s.putLimitFlag f flag) :=
  ⟨rfl, rfl, rfl, rfl, rfl, rfl, rfl, fun _ => rfl, .quiet rfl fun _ => rfl⟩

theorem BodyStep.withdraw (s : State) (o : Origin) : BodyStep s (s.withdraw o) :=
  ⟨rfl, rfl, rfl, rfl, rfl, rfl, rfl, fun _ => rfl, .quiet rfl fun _ => rfl⟩

theorem BodyStep.askAck (s : State) (m : MeterNo) (unit : Addr) (chunk : Byte) : BodyStep s (s.askAck m unit chunk) :=
  ⟨rfl, rfl, rfl, rfl, rfl, rfl, rfl, fun _ => rfl, .quiet rfl fun _ => rfl⟩

theorem BodyStep.enqueue {c : Command} (h : s.enqueue c = some t) : BodyStep s t := by
  obtain ⟨-, -, -, rfl⟩ := State.enqueue_eq_some.mp h
  exact ⟨rfl, rfl, rfl, rfl, rfl, rfl, rfl, fun _ => rfl, .quiet rfl fun _ => rfl⟩

theorem BodyStep.enqueueFuel {unit : Addr} {code : Code} {args : List Byte} (h : s.enqueueFuel m unit code args = some t) :
    BodyStep s t := by
  rw [State.enqueueFuel, Option.map_eq_some_iff] at h
  obtain ⟨v, joined, rfl⟩ := h
  exact (BodyStep.enqueue joined).trans (.modMeter m v _)

theorem BodyStep.raise (s : State) (body : NoticeBody) : BodyStep s (s.raise body) :=
  ⟨rfl, rfl, rfl, rfl, rfl, (Port.raise_frame _ _ _).1, rfl, fun _ => rfl, .raise s body⟩

/-- A step of a sequencer. -/
theorem BodyStep.of_point (frame : SeqFrame s t) (step : PointStep p s t) : BodyStep s t :=
  .of_owner (.of_pointStep frame step) (unreachable_of_seqFrame frame) (.point step)

/-! #### Sets -/

theorem marks_of_runFrame (h : RunFrame n s t) (k : SetNo) : (t.setRec k).unreachable = (s.setRec k).unreachable := by
  by_cases hk : k = n
  · subst hk
    exact h.figures.2.1
  · exact mark_of_reserved (h.others k hk)

theorem Works.tellSequencers (s : State) (n : SetNo) : Works s (s.tellSequencers n) :=
  .forEach (fun p s => .point (.seqNews s n p)) s

theorem Works.changeRun (s : State) (n : SetNo) (run : RunState) (why : StateReason) (attempts : Option Nat) :
    Works s (s.changeRun n run why attempts) := by
  have ran : Works s (runSet s n run) := .quiet (congrArg Port.notices (runSet_port s n run)) fun p => by
    rw [State.pointRec, runSet_points]; rfl
  rw [changeRun_eq]
  exact (ran.trans (.raise _ _)).trans (.tellSequencers _ n)

theorem BodyStep.changeRun (s : State) (n : SetNo) (run : RunState) (why : StateReason) (attempts : Option Nat) :
    BodyStep s (s.changeRun n run why attempts) :=
  .of_owner (.changeRun s n run why attempts) (marks_of_runFrame (.changeRun n s run why attempts)) (.changeRun s n run why attempts)

theorem BodyStep.tryEnqueueSet (s : State) (n : SetNo) : BodyStep s (s.tryEnqueueSet n) := by
  unfold State.tryEnqueueSet
  dsimp only
  split
  · split
    · have dropped := BodyStep.modSet n s (f := fun r => { r with due := none }) fun _ => rfl
      generalize s.modSet n _ = t at dropped ⊢
      exact dropped.trans (.changeRun t n _ _ _)
    · split
      · exact .refl s
      · split
        · exact .refl s
        next joined => exact (BodyStep.enqueue joined).trans (.modSet n _ fun _ => rfl)
  · exact .refl s

theorem BodyStep.makeDue (s : State) (n : SetNo) (code : Code) : BodyStep s (s.makeDue n code) := by
  unfold State.makeDue
  have due := BodyStep.modSet n s (f := fun r => { r with due := some code }) fun _ => rfl
  generalize s.modSet n _ = t at due ⊢
  exact due.trans (.tryEnqueueSet t n)

theorem BodyStep.endAttempt (s : State) (n : SetNo) : BodyStep s (s.endAttempt n) := by
  unfold State.endAttempt
  split
  next attempt allowed _ _ _ =>
    dsimp only
    split
    · exact .changeRun s n _ _ _
    · split
      · have next := BodyStep.modSet n s (f := fun r => { r with
          run := .starting (attempt + 1) (((s.setEntry n).map SetEntry.crankAttempts).getD 0) none false }) fun _ => rfl
        generalize s.modSet n _ = t at next ⊢
        exact next.trans (.makeDue t n _)
      · exact .changeRun s n _ _ _
  · exact .refl s

theorem BodyStep.setOutcome (s : State) (n : SetNo) (code : Code) (o : CommandOutcome) : BodyStep s (s.setOutcome n code o) := by
  unfold State.setOutcome
  dsimp only
  have free := BodyStep.modSet n s (f := fun r => { r with place := .free }) fun _ => rfl
  generalize s.modSet n _ = t at free ⊢
  refine free.trans ?_
  split
  · exact .refl t
  · split
    · unfold State.startOutcome
      split
      · refine .modSet n t fun r => ?_
        split <;> rfl
      · exact .endAttempt t n
      · exact .endAttempt t n
      · exact .endAttempt t n
      · exact .modSet n t fun _ => rfl
    · unfold State.stopOutcome
      split
      · exact .refl t
      · exact .changeRun t n _ _ _
      · exact .changeRun t n _ _ _
      · exact .changeRun t n _ _ _
      · exact .modSet n t fun _ => rfl

theorem BodyStep.enterWarming (s : State) (n : SetNo) (c : Nat) (why : StateReason) : BodyStep s (s.enterWarming n c why) := by
  unfold State.enterWarming
  dsimp only
  have warming := (BodyStep.changeRun s n (.warming c) why none).trans (.modHire n _ fun h => { h with starts := satAdd max64 h.starts 1 })
  generalize State.modHire _ n _ = t at warming ⊢
  split
  · exact warming.trans (.changeRun t n _ _ _)
  · exact warming

theorem BodyStep.enterStopping (s : State) (n : SetNo) (why : StateReason) : BodyStep s (s.enterStopping n why) := by
  unfold State.enterStopping
  exact (BodyStep.changeRun s n .stopping why none).trans (.makeDue _ n .stop)

theorem BodyStep.setLocalStart (s : State) (n : SetNo) : BodyStep s (s.setLocalStart n) := by
  unfold State.setLocalStart
  split
  · exact .refl s
  · have flagged := BodyStep.modSet n s (f := fun r => { r with localStart := true }) fun _ => rfl
    generalize s.modSet n _ = t at flagged ⊢
    exact flagged.trans (.raise t _)

theorem BodyStep.stopCycle (s : State) (n : SetNo) (c : CycleNo) : BodyStep s (s.modSet n fun r => { r with stopCycle := some c }) :=
  .modSet n s fun _ => rfl

theorem BodyStep.unexpectedStop (s : State) (n : SetNo) (c : CycleNo) : BodyStep s (s.unexpectedStop n c) := by
  unfold State.unexpectedStop State.enterFault
  exact (BodyStep.stopCycle s n c).trans (.changeRun _ n _ _ _)

theorem BodyStep.startSucceeds (s : State) (n : SetNo) (e : SetEntry) (p : Bool) (c : CycleNo) :
    BodyStep s (s.startSucceeds n e p c) := by
  unfold State.startSucceeds
  split
  · exact .enterStopping s n _
  · exact .enterWarming s n _ _

theorem BodyStep.applyReport (s : State) (n : SetNo) (e : SetEntry) (engine : EngineState) (c : CycleNo) :
    BodyStep s (s.applyReport n e engine c) := by
  unfold State.applyReport State.enterFault
  split
  case h_6 => exact (BodyStep.enterWarming s n _ _).trans (.setLocalStart _ n)
  case h_10 => exact .startSucceeds s n e _ c
  case h_11 =>
    split
    · exact .changeRun s n _ _ _
    · exact .endAttempt s n
  case h_14 => exact (BodyStep.stopCycle s n c).trans (.changeRun _ n _ _ _)
  case h_2 | h_3 | h_4 | h_7 | h_15 | h_22 | h_23 | h_24 => exact .changeRun s n _ _ _
  case h_25 | h_26 | h_27 | h_28 | h_29 | h_30 => exact .unexpectedStop s n c
  all_goals exact .refl s

/-! #### Tanks and set reports -/

theorem BodyStep.recordAdjustment (s : State) (n : SetNo) (x : Int) : BodyStep s (s.recordAdjustment n x) := by
  unfold State.recordAdjustment
  exact (BodyStep.modTank n s _).trans (.modHire n _ _)

theorem BodyStep.flagged (n : SetNo) (s : State) (f : Tank → Tank) (body : NoticeBody) : BodyStep s ((s.modTank n f).raise body) :=
  (BodyStep.modTank n s f).trans (.raise _ body)

theorem BodyStep.setDiscrepancy (s : State) (n : SetNo) (x : Option Int) (sensor : Option Nat) :
    BodyStep s (s.setDiscrepancy n x sensor) := by
  unfold State.setDiscrepancy
  dsimp only
  split
  · exact .refl s
  · exact .flagged n s _ _

theorem BodyStep.testThresholds (s : State) (n : SetNo) : BodyStep s (s.testThresholds n) := by
  unfold State.testThresholds
  split
  · exact .refl s
  next e _ =>
    have low : BodyStep s (s.testLow n e) := by
      unfold State.testLow
      dsimp only
      split
      · exact .flagged n s _ _
      · exact .refl s
    refine low.trans ?_
    generalize s.testLow n e = t
    unfold State.testReserve
    dsimp only
    split
    · exact .flagged n t _ _
    · exact .refl t

theorem BodyStep.changeBook (s : State) (n : SetNo) (change : Int) : BodyStep s (s.changeBook n change) := by
  unfold State.changeBook
  dsimp only
  have booked := BodyStep.modTank n s fun t =>
    { t with book := (max 0 (min ((s.tank n).capacity : Int) ((s.tank n).book + change))).toNat }
  generalize s.modTank n _ = t at booked ⊢
  refine booked.trans (.trans ?_ (.testThresholds _ n))
  have adjusted (x : Int) (c : Prop) [Decidable c] : BodyStep t (if c then t else t.recordAdjustment n x) := by
    split
    · exact .refl t
    · exact .recordAdjustment t n x
  split
  · exact (adjusted _ _).trans (.setDiscrepancy _ n _ _)
  · exact adjusted _ _

theorem BodyStep.burnOne (s : State) (n : SetNo) : BodyStep s (s.burnOne n) := by
  unfold State.burnOne
  exact ((BodyStep.modTank n s _).trans (.changeBook _ n _)).trans (.modHire n _ _)

theorem BodyStep.burnTimes (n : SetNo) (k : Nat) : ∀ s : State, BodyStep s (s.burnTimes n k) := by
  induction k with
  | zero => exact fun s => .refl s
  | succ k ih => exact fun s => (BodyStep.burnOne s n).trans (ih _)

theorem BodyStep.burn (s : State) (n : SetNo) (units : Nat) : BodyStep s (s.burn n units) := by
  unfold State.burn
  exact (BodyStep.modTank n s _).trans (.burnTimes n _ _)

theorem BodyStep.putDue (s : State) (due : List TimedEvent) : BodyStep s { s with due } :=
  ⟨rfl, rfl, rfl, rfl, rfl, rfl, rfl, fun _ => rfl, .quiet rfl fun _ => rfl⟩

theorem BodyStep.expireDiscrepancy (s : State) (n : SetNo) : BodyStep s (s.expireDiscrepancy n) := by
  unfold State.expireDiscrepancy
  split
  · exact .setDiscrepancy s n _ _
  · exact .refl s

theorem BodyStep.checkSensor (s : State) (n : SetNo) (e : SetEntry) (sensor : Nat) (leave : Bool) :
    BodyStep s (s.checkSensor n e sensor leave) := by
  unfold State.checkSensor
  dsimp only
  split
  · exact .refl s
  · split
    · exact .modTank n s _
    · split
      · exact (BodyStep.modTank n s _).trans (.putDue _ _)
      · exact (BodyStep.modTank n s _).trans (.expireDiscrepancy _ n)

theorem BodyStep.integrateSet (s : State) (n : SetNo) (e : SetEntry) (raw : Nat) (engine : EngineState) :
    BodyStep s (s.integrateSet n e raw engine) := by
  unfold State.integrateSet
  dsimp only
  refine .trans ?_ (.modSet n _ fun _ => rfl)
  split
  · exact .refl s
  · unfold State.setStep
    dsimp only
    split
    · exact (BodyStep.modHire n s _).trans (.burn _ n _)
    · exact .modHire n s _

theorem BodyStep.storeReport (s : State) (n : SetNo) (e : SetEntry) (x : SetReport) : BodyStep s (s.storeReport n e x) := by
  unfold State.storeReport
  exact .modSet n s fun _ => rfl

theorem BodyStep.setReport (s : State) (unit : Addr) (owner : Nat) (engine : EngineState) (power sensor : Nat) (alarm : Byte)
    (leave : SetNo → Bool) : BodyStep s (s.setReport unit owner engine power sensor alarm leave) := by
  unfold State.setReport
  split
  · exact .refl s
  next n _ =>
    split
    · exact .refl s
    · split
      · exact (((BodyStep.storeReport s n _ _).trans (.applyReport _ n _ _ _)).trans (.integrateSet _ n _ _ _)).trans
          (.checkSensor _ n _ _ _)
      · exact .refl s

/-! #### Feeders -/

theorem BodyStep.reportGap (s : State) (k : AccountNo) : BodyStep s (s.reportGap k) := by
  unfold State.reportGap
  split
  · exact .modAccount k s _
  · exact .refl s

theorem BodyStep.handStep (s : State) (x : FeederStep) : BodyStep s (s.handStep x) := by
  have billed : BodyStep s (s.billStep x.account x.energy x.estimated x.clamped) := by
    unfold State.billStep
    split
    · exact .modAccount _ s _
    · exact .refl s
  unfold State.handStep
  refine billed.trans ?_
  generalize s.billStep x.account x.energy x.estimated x.clamped = t
  unfold State.attribute
  split
  · exact .modHire _ t _
  · exact ⟨rfl, rfl, rfl, rfl, rfl, rfl, rfl, fun _ => rfl, .quiet rfl fun _ => rfl⟩

theorem BodyStep.testWindow (s : State) (f : FeederNo) (e : FeederEntry) (current : Nat) :
    BodyStep s (s.testWindow f e current) := by
  unfold State.testWindow
  split
  · exact (BodyStep.putLimitFlag f s true).trans (.raise _ _)
  · exact .refl s

theorem BodyStep.setBaseline (f : FeederNo) (s : State) (e : FeederEntry) (x : Sample) : BodyStep s (s.setBaseline f e x) := by
  unfold State.setBaseline
  exact .modFeeder f s _

theorem BodyStep.takeSample (s : State) (f : FeederNo) (e : FeederEntry) (x : Sample) : BodyStep s (s.takeSample f e x) := by
  unfold State.takeSample
  dsimp only
  refine .trans ((BodyStep.testWindow s f e x.current).trans ?_) (BodyStep.setBaseline f _ e x)
  split
  · exact .handStep _ _
  · exact .handStep _ _
  · exact .reportGap _ _
  · exact .refl _

theorem BodyStep.feederOfReport (s : State) (samples : List BoardSample) (f : FeederNo) :
    BodyStep s (s.feederOfReport samples f) := by
  unfold State.feederOfReport
  split
  · exact .refl s
  · split
    · exact .modFeeder f s _
    · split
      · exact .modFeeder f s _
      · exact .takeSample s f _ _

theorem BodyStep.boardReport (s : State) (unit : Addr) (samples : List BoardSample) : BodyStep s (s.boardReport unit samples) :=
  .forEach (fun f s => .feederOfReport s samples f) s

/-! #### Points -/

theorem BodyStep.of_runFrame (h : RunFrame n s t) (works : Works s t) : BodyStep s t where
  tables := h.tables
  site := h.site
  schedule := h.schedule
  tariff := h.tariff
  engine := (congrArg (fun x : Engine => { x with acks := s.engine.acks }) h.engine :)
  port := h.port
  pending := h.pending
  marks := marks_of_runFrame h
  works := works

theorem Works.endClosed (s : State) (p : PointNo) (q : Sequence) : Works s (s.endClosed p q) := by
  unfold State.endClosed
  split
  · exact .point (.endSequence p s _ _)
  · exact .point (.endSequence p s _ _)
  · exact .trans (t := { s with freeCount := s.freeCount + 1 }) (.quiet rfl fun _ => rfl) (.point (.endSequence p _ _ _))

theorem Works.manualChange (s : State) (p : PointNo) (x : ReportedPos) (y : Selector) : Works s (s.manualChange p x y) := by
  unfold State.manualChange
  dsimp only
  have moved : Works s (s.putPosition p x.pos) := .point (.modPoint p s rfl)
  generalize s.putPosition p x.pos = t at moved ⊢
  refine moved.trans ?_
  split
  · exact .point (.endSequence p t _ _)
  · exact .raise t _

theorem Works.positionChange (s : State) (p : PointNo) (x : ReportedPos) (y : Selector) : Works s (s.positionChange p x y) := by
  unfold State.positionChange
  split
  · exact .manualChange s p x y
  next q live =>
    dsimp only
    have moved : Works s (s.putPosition p x.pos) := .point (.modPoint p s rfl)
    have live : ((s.putPosition p x.pos).pointRec p).seq.isSome = true := by
      rw [State.putPosition, State.modPoint_read, live]
      rfl
    generalize s.putPosition p x.pos = t at moved live ⊢
    split
    · split
      · split
        · exact moved.trans (.point (.enterDead live q _))
        · exact moved.trans (.point (.enterRecovering p live q _))
      · exact .manualChange s p x y
    · split
      · exact moved.trans (.endClosed t p q)
      · exact .manualChange s p x y
    · split
      · exact moved.trans (.endClosed t p q)
      · split
        · exact moved.trans (.point (.endSequence p t _ _))
        · exact .manualChange s p x y
    · exact .manualChange s p x y
    · exact .manualChange s p x y

theorem BodyStep.changeReport (s : State) (a : Addr) (owner : Nat) (x : ReportedPos) (y : Selector) :
    BodyStep s (s.changeReport a owner x y) := by
  refine .of_runFrame (n := 0) (SeqFrame.changeReport s a owner x y).runFrame ?_
  unfold State.changeReport
  split
  · exact .refl s
  next p _ =>
    split
    · exact .refl s
    · split
      · dsimp only
        have selected : Works s (s.modPoint p fun r => { r with selector := some y }) := .point (.modPoint p s rfl)
        generalize (s.modPoint p fun r => { r with selector := some y }) = t at selected ⊢
        refine selected.trans ?_
        split
        · exact .refl t
        · split
          · exact .point (.modPoint p t rfl)
          · split
            · exact .manualChange t p x y
            · exact .positionChange t p x y
      · exact .refl s

/-! #### Meters -/

theorem BodyStep.dropMeterCommand (s : State) (m : MeterNo) : BodyStep s (s.dropMeterCommand m) := by
  unfold State.dropMeterCommand
  exact (BodyStep.withdraw s _).trans (.modMeter m _ _)

theorem BodyStep.addDelivered (s : State) (n : SetNo) (volume : Nat) : BodyStep s (s.addDelivered n volume) := by
  unfold State.addDelivered
  exact (BodyStep.modTank n s _).trans (.modHire n _ _)

theorem BodyStep.endSession (s : State) (m : MeterNo) (d : SessionEnd) : BodyStep s (s.endSession m d) := by
  unfold State.endSession
  split
  · exact .refl s
  · dsimp only
    have ended := (BodyStep.dropMeterCommand s m).trans
      (.modMeter m _ fun r => { r with session := none, promoted := false, lastChunk := d.lastChunk })
    generalize State.modMeter _ m _ = t at ended ⊢
    refine ended.trans (.trans ?_ (.raise _ _))
    split
    · exact .modTank _ t _
    · exact (BodyStep.modTank _ t _).trans (.addDelivered _ _ _)

theorem BodyStep.permit (s : State) (m : MeterNo) (unit : Addr) (n : SetNo) : BodyStep s (s.permit m unit n) := by
  unfold State.permit
  dsimp only
  split
  · exact .refl s
  next joined => exact (BodyStep.enqueueFuel joined).trans (.modMeter m _ _)

theorem BodyStep.deny (s : State) (m : MeterNo) (unit : Addr) (k : Nat) (why : DenyReason) : BodyStep s (s.deny m unit k why) := by
  unfold State.deny
  dsimp only
  split
  · exact .refl s
  next joined => exact ((BodyStep.enqueueFuel joined).trans (.modMeter m _ _)).trans (.raise _ _)

theorem BodyStep.takeRequest (s : State) (m : MeterNo) (unit : Addr) (k : Nat) : BodyStep s (s.takeRequest m unit k) := by
  unfold State.takeRequest
  dsimp only
  split
  · split
    · exact .permit s m unit _
    · exact .deny s m unit k _
    · exact .refl s
  · exact .refl s

theorem BodyStep.bookDelivery (s : State) (m : MeterNo) (x : Session) (volume : Nat) :
    BodyStep s (s.bookDelivery m x volume) := by
  unfold State.bookDelivery
  split
  · exact (BodyStep.changeBook s _ _).trans (.modMeter m _ _)
  · exact .refl s

theorem BodyStep.enterTicketing (s : State) (m : MeterNo) : BodyStep s (s.enterTicketing m) := by
  unfold State.enterTicketing
  exact (BodyStep.dropMeterCommand s m).trans (.modMeter m _ _)

theorem BodyStep.putTickets (s : State) (tickets : List TicketRecord) : BodyStep s { s with tickets } :=
  ⟨rfl, rfl, rfl, rfl, rfl, rfl, rfl, fun _ => rfl, .quiet rfl fun _ => rfl⟩

theorem BodyStep.takeTicket (s : State) (m : MeterNo) (x : Session) (ticket : Ticket) (chunk : Byte) :
    BodyStep s (s.takeTicket m x ticket chunk) := by
  unfold State.takeTicket
  dsimp only
  have delivered := (BodyStep.changeBook s x.set ((ticket.volume : Int) - x.live)).trans (.addDelivered _ x.set ticket.volume)
  generalize State.addDelivered _ x.set ticket.volume = t at delivered ⊢
  exact (delivered.trans (.putTickets t _)).trans (.endSession _ m _)

theorem BodyStep.acceptChunk (s : State) (m : MeterNo) (unit : Addr) (x : Session) (b : TicketBuffer) :
    BodyStep s (s.acceptChunk m unit x b) := by
  unfold State.acceptChunk
  dsimp only
  refine (BodyStep.askAck s m unit b.lastChunk).trans ?_
  split
  · exact .modMeter m _ _
  · split
    · exact .takeTicket _ m x _ _
    · exact .endSession _ m _

theorem BodyStep.ticketChunk (s : State) (m : MeterNo) (unit : Addr) (x : Session) (buffer : Option TicketBuffer) (chunk : Byte)
    (bytes : List Byte) : BodyStep s (s.ticketChunk m unit x buffer chunk bytes) := by
  unfold State.ticketChunk
  split
  · split
    · unfold State.firstChunk
      split
      · exact .endSession s m _
      · split
        · exact .modMeter m s _
        · split
          · exact .acceptChunk s m unit x _
          · exact .endSession s m _
    · exact .endSession s m _
  · split
    · exact .acceptChunk s m unit x _
    · split
      · exact .askAck s m unit chunk
      · exact .endSession s m _

theorem BodyStep.ticketingReport (s : State) (m : MeterNo) (unit : Addr) (x : Session) (buffer : Option TicketBuffer)
    (f : FuelBody) : BodyStep s (s.ticketingReport m unit x buffer f) := by
  unfold State.ticketingReport
  split
  · exact .ticketChunk s m unit x buffer _ _
  · split
    · exact .endSession s m _
    · exact .endSession s m _
    all_goals exact .refl s

theorem BodyStep.dispensingReport (s : State) (m : MeterNo) (unit : Addr) (x : Session) (f : FuelBody) :
    BodyStep s (s.dispensingReport m unit x f) := by
  unfold State.dispensingReport
  dsimp only
  refine (BodyStep.bookDelivery s m x f.volume).trans ?_
  generalize s.bookDelivery m x f.volume = t
  split
  · exact .refl t
  · exact .enterTicketing t m
  · refine (BodyStep.enterTicketing t m).trans ?_
    generalize t.enterTicketing m = u
    split
    · exact .ticketChunk u m unit _ none _ _
    · exact .refl u
  · exact .endSession t m _
  · exact .endSession t m _

theorem BodyStep.idleReport (s : State) (m : MeterNo) (unit : Addr) (f : FuelBody) : BodyStep s (s.idleReport m unit f) := by
  unfold State.idleReport
  dsimp only
  have request (t : State) : BodyStep t (if f.state = .request then t.takeRequest m unit f.requested else t) := by
    split
    · exact .takeRequest t m unit _
    · exact .refl t
  have forgot (t : State) : BodyStep t (if f.state = .ticket then t else t.modMeter m fun r => { r with lastChunk := none }) := by
    split
    · exact .refl t
    · exact .modMeter m t _
  cases f.chunk with
  | none => exact (forgot s).trans (request _)
  | some x =>
    have repeated : BodyStep s (if (s.meter m).lastChunk = some x.1 then s.askAck m unit x.1 else s) := by
      split
      · exact .askAck s m unit x.1
      · exact .refl s
    exact (repeated.trans (forgot _)).trans (request _)

theorem BodyStep.fuelReport (s : State) (unit : Addr) (owner : Nat) (f : FuelBody) : BodyStep s (s.fuelReport unit owner f) := by
  unfold State.fuelReport
  split
  · exact .refl s
  next m _ =>
    dsimp only
    have marked : BodyStep s (if f.state = .request then s else s.modMeter m fun r => { r with requestMark := none }) := by
      split
      · exact .refl s
      · exact .modMeter m s _
    refine marked.trans ?_
    generalize (if f.state = .request then s else s.modMeter m fun r => { r with requestMark := none }) = t
    split
    · exact .idleReport t m unit f
    · split
      · exact .refl t
      · exact .dispensingReport t m unit _ f
      · exact .ticketingReport t m unit _ _ f

theorem BodyStep.handBody (s : State) (a : Addr) (e : UnitEntry) (body : ReportBody) (leave : SetNo → Bool) :
    BodyStep s (s.handBody a e body leave) := by
  unfold State.handBody
  split
  · exact .setReport s a _ _ _ _ _ _
  · exact .boardReport s a _
  · exact .changeReport s a _ _ _
  · exact .fuelReport s a _ _

/-! #### Outcomes -/

theorem BodyStep.tryEnqueueMeter (s : State) (m : MeterNo) : BodyStep s (s.tryEnqueueMeter m) := by
  unfold State.tryEnqueueMeter
  dsimp only
  split
  · split
    · exact .refl s
    next joined => exact (BodyStep.enqueueFuel joined).trans (.modMeter m _ _)
  · exact .refl s

theorem BodyStep.meterOutcome (s : State) (m : MeterNo) (code : Code) (o : CommandOutcome) :
    BodyStep s (s.meterOutcome m code o) := by
  unfold State.meterOutcome
  dsimp only
  have free : BodyStep s (s.modMeter m fun r => { r with place := .free }) := .modMeter m s _
  generalize (s.modMeter m fun r => { r with place := .free }) = t at free ⊢
  refine free.trans ?_
  split
  · exact .refl t
  · split
    · split
      · unfold State.permitOutcome
        split
        · exact .modMeter m t _
        · exact .endSession t m _
        · split
          · exact .endSession t m _
          · exact .endSession t m _
        · exact .endSession t m _
        · exact .endSession t m _
      · exact .refl t
    · split
      · unfold State.revokeOutcome
        split
        · exact .endSession t m _
        · exact .endSession t m _
        · exact .endSession t m _
        · exact .endSession t m _
        · exact .endSession t m _
      · exact .refl t
    · exact .refl t

theorem BodyStep.giveOutcome (s : State) (c : Command) (o : CommandOutcome) : BodyStep s (s.giveOutcome c o) := by
  unfold State.giveOutcome
  split
  · exact .raise s _
  · exact .setOutcome s _ _ _
  · exact .of_point (.pointOutcome s _ _ _) (OwnerSteps.PointStep.pointOutcome _ s _ _)
  · exact .meterOutcome s _ _ _

theorem BodyStep.resume (s : State) (o : Origin) : BodyStep s (s.resume o) := by
  unfold State.resume
  split
  · exact .refl s
  · exact .tryEnqueueSet s _
  · exact .of_point (.tryEnqueuePoint s _) (.tryEnqueuePoint _ s)
  · exact .tryEnqueueMeter s _

theorem BodyStep.returnOutcome (s : State) (c : Command) (o : CommandOutcome) : BodyStep s (s.returnOutcome c o) :=
  (BodyStep.giveOutcome s c o).trans (.resume _ _)

end

end Sys2Proof.BodySteps
end

section
/-! SUPPORT. A valid slot: the link of its owner, the command it answers, the body, and the forward count (R26, R28, R30, R31, R194). -/

namespace Sys2Proof.Hearing

open Sys2Proof Sys2Proof.Machine Sys2Proof.Stated Sys2Proof.ClearFlags Sys2Proof.StopAndClear Sys2Proof.Sequencing
open Sys2Proof.SetLoading Sys2Proof.OwnerSteps Sys2Proof.UnitLoading Sys2Proof.Sessions Sys2Proof.Ending Sys2Proof.LinkLoss
open Sys2Proof.Slots Sys2Proof.MissedSlots Sys2Proof.BodySteps

section
variable {s t u v : State} {n : SetNo} {a : Addr} {e : UnitEntry}

/-- A notice raised before the work of an event's end is told. -/
theorem told_works {i k : Nat} {body : NoticeBody} (h : Raises i s u body) (spends : Spends k s u) (later : Works u t)
    (few : i ≤ 15) (few' : k ≤ 15) : Told s t body := by
  intro short
  have most := flying_le s
  obtain ⟨x, mem, rfl⟩ := h.queued s u 0 0 (.refl s) (.refl u) (by rw [weight]; omega)
  obtain ⟨-, heavy⟩ := spends (by rw [weight]; omega)
  obtain ⟨pre, post, split⟩ := List.append_of_mem mem
  have length := congrArg List.length split
  have fewer : urgents post ≤ post.length := List.length_filter_le _ post
  rw [List.length_append, List.length_cons] at length
  rw [weight, weight] at heavy
  obtain ⟨j, ⟨later, eq, -⟩, -⟩ := (later.held (pre := pre) (x := x) (k := urgents post) ⟨post, split, Nat.le_refl _⟩ (by omega))
  exact ⟨x, eq ▸ List.mem_append_right _ List.mem_cons_self, rfl⟩

/-! ### The forward count and the copy (R31, R194) -/

/-- What the end of a valid slot does with the state that its owners leave: the forward count of its unit, the copies, and the
transmitter. -/
structure Passed (v t : State) (a : Addr) : Prop where
  rest : ∃ links port, t = { v with engine := { v.engine with links }, port }
  own : ∃ forward, t.link a = { v.link a with forward }
  others : ∀ k, k ≠ a → t.link k = v.link k
  notices : t.port.notices = v.port.notices

theorem putCopies_startTx (v : State) (links : Vector LinkRec 63) (port : Port) :
    ∃ port', ({ v with engine := { v.engine with links }, port } : State).startTx =
      { v with engine := { v.engine with links }, port := port' } ∧ port'.notices = port.notices ∧ port'.copies = port.copies ∧
      port'.copyDrops = port.copyDrops :=
  ⟨port.startTx, rfl, startTx_notices port, startTx_copies port⟩

/-- The forward count, the copies and the rest after the end of a valid slot. -/
theorem forward_passed (v : State) (a : Addr) (e : UnitEntry) (raw : List Byte) : Passed v (v.forward a e raw).startTx a ∧
    ((v.forward a e raw).startTx.link a).forward =
      (if e.forwardDivisor = 0 then 0
        else if e.forwardDivisor ≤ satAdd 65535 (v.link a).forward 1 then 0 else satAdd 65535 (v.link a).forward 1) ∧
    ((v.forward a e raw).startTx.port.copies, (v.forward a e raw).startTx.port.copyDrops) =
      (if e.forwardDivisor ≠ 0 ∧ e.forwardDivisor ≤ satAdd 65535 (v.link a).forward 1 then
        ((v.port.offerCopy ⟨a, v.engine.cycleNo, raw⟩).copies, (v.port.offerCopy ⟨a, v.engine.cycleNo, raw⟩).copyDrops)
      else (v.port.copies, v.port.copyDrops)) := by
  have passed (forward : Nat) (port : Port) (notices : port.notices = v.port.notices) :
      Passed v ({ v.modLink a fun l => { l with forward } with port } : State).startTx a :=
    ⟨⟨_, _, rfl⟩, ⟨forward, (State.modLink_read v a fun l => { l with forward } :)⟩,
      fun k hk => (State.modLink_other v a (fun l => { l with forward }) hk :), (startTx_notices port).trans notices⟩
  have count (forward : Nat) (port : Port) :
      (({ v.modLink a fun l => { l with forward } with port } : State).startTx.link a).forward = forward :=
    (congrArg LinkRec.forward (State.modLink_read v a fun l => { l with forward }) :)
  have copies (forward : Nat) (port : Port) :
      (({ v.modLink a fun l => { l with forward } with port } : State).startTx.port.copies,
        ({ v.modLink a fun l => { l with forward } with port } : State).startTx.port.copyDrops) = (port.copies, port.copyDrops) :=
    Prod.ext (startTx_copies port).1 (startTx_copies port).2
  unfold State.forward
  dsimp only
  by_cases none : e.forwardDivisor = 0
  · rw [if_pos none, if_pos none, if_neg fun h => h.1 none]
    exact ⟨passed 0 v.port rfl, count 0 v.port, copies 0 v.port⟩
  · rw [if_neg none, if_neg none]
    by_cases reached : e.forwardDivisor ≤ satAdd 65535 (v.link a).forward 1
    · rw [if_pos reached, if_pos reached, if_pos ⟨none, reached⟩]
      have offered : (v.port.offerCopy ⟨a, v.engine.cycleNo, raw⟩).notices = v.port.notices := by
        unfold Port.offerCopy
        split <;> rfl
      exact ⟨passed 0 _ offered, count 0 _, copies 0 _⟩
    · rw [if_neg reached, if_neg reached, if_neg fun h => reached h.2]
      exact ⟨passed _ v.port rfl, count _ v.port, copies _ v.port⟩

/-- The forward count and the copy of a valid slot, by a state whose unit's forward count and copies the slot has left alone so far. -/
theorem forwarded_of {r : FieldReport} (count : (v.link a).forward = (s.link a).forward) (copies : v.port.copies = s.port.copies)
    (drops : v.port.copyDrops = s.port.copyDrops) (cycle : v.engine.cycleNo = s.engine.cycleNo) :
    Forwarded s (v.forward a e r.raw).startTx a e r := by
  obtain ⟨-, forward, offered⟩ := forward_passed v a e r.raw
  generalize (v.forward a e r.raw).startTx = t at forward offered
  have next : satAdd 65535 (v.link a).forward 1 = min 65535 ((s.link a).forward + 1) := by rw [count]; rfl
  rw [next] at forward offered
  rw [copies, drops, cycle] at offered
  refine ⟨fun none => ⟨forward.trans (if_pos none), ?_⟩, fun below => ⟨?_, ?_⟩, fun some reached => ⟨?_, fun room => ?_, fun full => ?_⟩⟩
  · exact Prod.mk.inj (offered.trans (if_neg fun h => h.1 none))
  · exact forward.trans ((if_neg (by omega)).trans (if_neg (by omega)))
  · exact Prod.mk.inj (offered.trans (if_neg fun h => absurd h.2 (by omega)))
  · exact forward.trans ((if_neg (by omega)).trans (if_pos reached))
  · have joined := Prod.mk.inj (offered.trans (if_pos ⟨by omega, reached⟩))
    rw [Port.offerCopy, if_pos (copies ▸ room)] at joined
    rwa [copies, drops] at joined
  · have lost := Prod.mk.inj (offered.trans (if_pos ⟨by omega, reached⟩))
    rw [Port.offerCopy, if_neg (Nat.not_lt.mpr (copies ▸ full))] at lost
    rwa [copies, drops] at lost

/-! ### The link (R28, R30, R89) -/

/-- The state with a unit's link PRESENT and without misses. -/
def linkHeard (s : State) (a : Addr) : State := s.modLink a fun l => { l with state := some .present, misses := 0 }

theorem linkUp_known (h : (s.link a).state ≠ some .lost) : s.linkUp a = linkHeard s a := if_neg h

theorem linkUp_lost (h : (s.link a).state = some .lost) : s.linkUp a =
    forEach (s.setsNaming a) (fun n s => s.clearMark n) ((linkHeard s a).raise (.unitLink a .present 0)) := if_pos h

theorem works_setMark (s : State) (n : SetNo) (mark : Bool) : Works s (s.setMark n mark) := by
  unfold State.setMark
  split
  · exact .refl s
  · have marked : Works s (s.modSet n fun r =>
        { r with unreachable := mark, overloadRun := if mark then 0 else r.overloadRun }) := .quiet rfl fun _ => rfl
    generalize s.modSet n _ = t at marked ⊢
    exact marked.trans (.tellSequencers t n)

theorem works_clearMark (s : State) (n : SetNo) : Works s (s.clearMark n) := by
  unfold State.clearMark
  split
  · exact (works_setMark s n false).trans (BodyStep.tryEnqueueSet _ n).works
  · exact .refl s

theorem clearMark_other (s : State) {k : SetNo} (h : k ≠ n) :
    ((s.clearMark n).setRec k).unreachable = (s.setRec k).unreachable := by
  unfold State.clearMark
  split
  · exact mark_of_reserved (((SetWork.setMark n s false).trans (.tryEnqueueSet n _)).others k h)
  · rfl

/-- Marks that a walk clears stay clear. -/
theorem marksCleared (xs : List SetNo) (s : State) (k : SetNo) (h : k ∈ xs ∨ (s.setRec k).unreachable = false) :
    ((forEach xs (fun n s => s.clearMark n) s).setRec k).unreachable = false := by
  induction xs generalizing s with
  | nil => exact h.resolve_left List.not_mem_nil
  | cons n xs ih =>
    rw [forEach_cons]
    by_cases same : k = n
    · exact ih _ (.inr (same ▸ clearMark_mark s n))
    · exact ih _ (h.imp (fun mem => (List.mem_cons.mp mem).resolve_left same) fun clear => (clearMark_other s same).trans clear)

/-! ### The body, the line and the command -/

theorem link_of_bodyStep (h : BodyStep s t) (k : Addr) : t.link k = s.link k := by
  have links : t.engine.links = s.engine.links := (congrArg Engine.links h.engine :)
  rw [State.link, links]
  rfl

/-- The command of a reply slot is answered by a valid report (R35). -/
def answered (v : State) (isReply : Bool) (r : FieldReport) : State := if isReply then v.endOutstanding r.answer.outcome else v

theorem validSlot_eq (v : State) (a : Addr) (e : UnitEntry) (isReply : Bool) (r : FieldReport) (leave : SetNo → Bool) :
    v.validSlot a e isReply r leave = ((answered (v.linkUp a) isReply r).handBody a e r.body leave).forward a e r.raw := rfl

theorem endOutstanding_body (s : State) (o : CommandOutcome) :
    ∃ outstanding, BodyStep (s.putOutstanding outstanding) (s.endOutstanding o) := by
  cases outstanding : s.engine.outstanding with
  | none =>
    have idle : s.endOutstanding o = s := by rw [State.endOutstanding, outstanding]
    rw [idle]
    exact ⟨s.engine.outstanding, .refl s⟩
  | some q =>
    rw [endOutstanding_of outstanding]
    exact ⟨none, .returnOutcome _ q.command o⟩

/-- The outstanding command apart, what the answer of a reply slot does. -/
theorem answered_body (v : State) (isReply : Bool) (r : FieldReport) :
    ∃ outstanding, BodyStep (v.putOutstanding outstanding) (answered v isReply r) := by
  unfold answered
  split
  · exact endOutstanding_body v _
  · exact ⟨v.engine.outstanding, .refl v⟩

theorem works_putOutstanding (s : State) (q : Option Outstanding) : Works s (s.putOutstanding q) := .quiet rfl fun _ => rfl

theorem works_passed (h : Passed v t a) : Works v t := by
  obtain ⟨links, port, rfl⟩ := h.rest
  exact .quiet h.notices fun _ => rfl

/-- What O24 says of a unit that is heard again. -/
theorem heardAgain (a : Addr) (e : UnitEntry) (r : FieldReport) (received : SlotInput) (deferred : List TimedEvent) (s : State)
    (slot : SlotOf s a e) (lost : (s.link a).state = some .lost) (valid : ValidFrom a e received r) :
    ∃ t, exec (.slotEnd received deferred) s = .next t ∧ (t.link a).state = some .present ∧
      (t.link a).misses = 0 ∧ (∀ k, k ≠ a → t.link k = s.link k) ∧ Told s t (.unitLink a .present 0) ∧
      (∀ n x, s.setEntry n = some x → x.unit = a → (t.setRec n).unreachable = false) := by
  obtain ⟨clock, age, run⟩ := exec_validSlot slot valid deferred
  rw [validSlot_eq] at run
  have link (k : Addr) : (slotBegun s clock age).link k = s.link k := rfl
  have naming : (slotBegun s clock age).setsNaming a = s.setsNaming a := rfl
  have notices : (linkHeard (slotBegun s clock age) a).port.notices = s.port.notices := rfl
  have up := linkUp_lost ((congrArg LinkRec.state (link a)).trans lost)
  generalize slotBegun s clock age = w at run link naming notices up
  have cleared : OwnerStep (linkHeard w a) (w.linkUp a) := by
    rw [up]
    exact (OwnerStep.raise _ _).trans (.forEach _ (fun n _ s => .clearMark s n) _)
  have marks (k : SetNo) (named : k ∈ s.setsNaming a) : ((w.linkUp a).setRec k).unreachable = false := by
    rw [up]
    exact marksCleared _ _ k (.inl (naming ▸ named))
  have works : Works ((linkHeard w a).raise (.unitLink a .present 0)) (w.linkUp a) := by
    rw [up]
    exact .forEach (fun n s => works_clearMark s n) _
  have heard : (linkHeard w a).link a = { w.link a with state := some .present, misses := 0 } := State.modLink_read w a _
  have others (k : Addr) (hk : k ≠ a) : (linkHeard w a).link k = w.link k := State.modLink_other w a _ hk
  obtain ⟨outstanding, answer⟩ := answered_body (w.linkUp a) s.engine.atReplySlot r
  have body := BodyStep.handBody (answered (w.linkUp a) s.engine.atReplySlot r) a e r.body fun n =>
    deferred.contains (.discrepancy n)
  generalize linkHeard w a = h at cleared works heard others notices
  generalize w.linkUp a = u at run cleared marks works answer body
  generalize answered u s.engine.atReplySlot r = x at run answer body
  generalize x.handBody a e r.body _ = v at run body
  obtain ⟨passed, -⟩ := forward_passed v a e r.raw
  generalize (v.forward a e r.raw).startTx = t at run passed
  have same (k : Addr) : v.link k = h.link k :=
    ((link_of_bodyStep body k).trans (link_of_bodyStep answer k)).trans (link_of_ownerStep cleared k)
  have kept (k : SetNo) : (t.setRec k).unreachable = (u.setRec k).unreachable := by
    obtain ⟨links, port, rfl⟩ := passed.rest
    exact (body.marks k).trans (answer.marks k)
  obtain ⟨forward, own⟩ := passed.own
  rw [same a, heard] at own
  refine ⟨t, run, (congrArg LinkRec.state own :), (congrArg LinkRec.misses own :), fun k hk => ?_, ?_, fun n x loaded unit => ?_⟩
  · exact (passed.others k hk).trans ((same k).trans ((others k hk).trans (link k)))
  · exact told_first notices (works.trans ((works_putOutstanding u outstanding).trans (answer.works.trans (body.works.trans
      (works_passed passed)))))
  · exact (kept n).trans (marks n (mem_setsNaming.mpr ⟨x, loaded, unit⟩))

end

/-- Settles O24: a unit lost by what its owner does, and one heard again by its slot. -/
theorem linkLostIsTold : Obligations.LinkLostIsTold := ⟨linkLost_isTold, heardAgain⟩

end Sys2Proof.Hearing
end

section
/-! SUPPORT. What the outcome of a command makes of the set, the sequence or the session that waits for it, its origin's due command
enqueued after (R35, R81, R82, R86, R110, R119, R134, R137, R138). -/

namespace Sys2Proof.Outcomes

open Sys2Proof Sys2Proof.Machine Sys2Proof.Stated Sys2Proof.ClearFlags Sys2Proof.StopAndClear Sys2Proof.Sequencing
open Sys2Proof.SetLoading Sys2Proof.OwnerSteps Sys2Proof.UnitLoading Sys2Proof.Sessions Sys2Proof.Ending Sys2Proof.LinkLoss
open Sys2Proof.Slots Sys2Proof.MissedSlots Sys2Proof.BodySteps Sys2Proof.RunCounters Sys2Proof.Starting

/-- An outcome that is neither ACCEPTED nor the RESTART of a FIELD RESTART. -/
structure Failed (o : CommandOutcome) : Prop where
  refused : o ≠ .accepted
  cycling : o ≠ .restart

section
variable {s t u v w : State} {n : SetNo} {p : PointNo} {m : MeterNo} {c : Command} {o : CommandOutcome} {x : SetEntry} {code : Code}

/-! ### Sets (R78, R81, R82, R86) -/

theorem returnOutcome_set (origin : c.origin = .sets n) (s : State) (o : CommandOutcome) :
    s.returnOutcome c o = (s.setOutcome n c.code o).tryEnqueueSet n := by
  unfold State.returnOutcome State.giveOutcome State.resume
  rw [origin]

/-- The state with a set's command place free. -/
def setFreed (s : State) (n : SetNo) : State := s.modSet n fun r => { r with place := .free }

theorem setFreed_read (s : State) (n : SetNo) : (setFreed s n).setRec n = { s.setRec n with place := .free } :=
  State.modSet_read s n _

theorem setOutcome_waits (due : (s.setRec n).due = none) (calls : (s.setRec n).run.calledFor = some code) (o : CommandOutcome) :
    s.setOutcome n code o =
      if code = .start then (setFreed s n).startOutcome n o else (setFreed s n).stopOutcome n o := by
  have waits : ¬ (((setFreed s n).setRec n).due.isSome || decide (((setFreed s n).setRec n).run.calledFor ≠ some code)) = true := by
    rw [setFreed_read, due, calls]
    simp
  exact if_neg waits

/-- What the outcome of a command makes of a set that waits for it, with the notices it raises: an attempt ends, or goes on accepted;
STOP has failed, or is accepted (R81, R82, R86). -/
structure SetAnswered (s t : State) (n : SetNo) (x : SetEntry) (code : Code) (o : CommandOutcome) : Prop where
  cranks : ∀ attempt allowed crank mark, code = .start → (s.setRec n).run = .starting attempt allowed crank mark → o = .accepted →
    (t.setRec n).run = .starting attempt allowed (some x.crankWindow) mark ∧ (t.setRec n).place = .free
  marked : ∀ attempt allowed crank, code = .start → (s.setRec n).run = .starting attempt allowed crank true → Failed o →
    (t.setRec n).run = .stopped ∧ (t.setRec n).stopCycle = (s.setRec n).stopCycle ∧
      Raises 0 s t (.setState n .starting .stopped .startEnded none s.engine.cycleNo)
  again : ∀ attempt allowed crank, code = .start → (s.setRec n).run = .starting attempt allowed crank false → Failed o →
    attempt < allowed → (t.setRec n).run = .starting (attempt + 1) x.crankAttempts none false ∧
      ((t.setRec n).due = some .start ∨ (t.setRec n).place = .queued .start)
  failed : ∀ attempt allowed crank, code = .start → (s.setRec n).run = .starting attempt allowed crank false → Failed o →
    allowed ≤ attempt → (t.setRec n).run = .fault .failedStart ∧
      Raises 0 s t (.setState n .starting .fault .failedStart (some attempt) s.engine.cycleNo)
  stops : code = .stop → (s.setRec n).run = .stopping → o = .accepted →
    (t.setRec n).run = .stopping ∧ (t.setRec n).place = .free
  serves : code = .stop → (s.setRec n).run = .stopping → Failed o → (t.setRec n).run = .online ∧ (t.setRec n).place = .free ∧
    Raises 0 s t (.setState n .stopping .online .stopFailed none s.engine.cycleNo)

theorem startOutcome_failed (h : Failed o) (s : State) (n : SetNo) : s.startOutcome n o = s.endAttempt n := by
  cases o with
  | accepted => exact absurd rfl h.refused
  | restart => exact absurd rfl h.cycling
  | refused why => rfl
  | noAnswer => rfl
  | unitLost => rfl

theorem stopOutcome_failed (h : Failed o) (s : State) (n : SetNo) : s.stopOutcome n o = s.changeRun n .online .stopFailed := by
  cases o with
  | accepted => exact absurd rfl h.refused
  | restart => exact absurd rfl h.cycling
  | refused why => rfl
  | noAnswer => rfl
  | unitLost => rfl

/-- A run state change of a set with nothing due, with what it leaves of the set and its notice. -/
structure Changed (s t : State) (n : SetNo) (next : RunState) (why : StateReason) (attempts : Option Nat) : Prop where
  run : (t.setRec n).run = next
  due : (t.setRec n).due = none
  place : (s.setRec n).place = .free → (t.setRec n).place = .free
  stopCycle : (t.setRec n).stopCycle = (s.setRec n).stopCycle
  raises : Raises 0 s t (.setState n (s.setRec n).run.name next.name why attempts s.engine.cycleNo)

theorem changeRun_changed (due : (s.setRec n).due = none) (run : RunState) (why : StateReason) (attempts : Option Nat) :
    Changed s (s.changeRun n run why attempts) n run why attempts where
  run := (State.changeRun_run n s run why attempts).1
  due := changeRun_due s n run why attempts due
  place h := changeRun_place_free h run why attempts
  stopCycle := (RunFrame.changeRun n s run why attempts).figures.1
  raises := raises_changeRun s n run why attempts

/-- START stays asked for when a set tries again to have it enqueued. -/
theorem startAsked_again (h : (s.setRec n).due = some .start ∨ (s.setRec n).place = .queued .start)
    (known : (s.setRec n).due = none ∨ (s.setRec n).due = some .start) :
    ((s.tryEnqueueSet n).setRec n).run = (s.setRec n).run ∧
      (((s.tryEnqueueSet n).setRec n).due = some .start ∨ ((s.tryEnqueueSet n).setRec n).place = .queued .start) := by
  rcases known with none | due
  · rw [tryEnqueueSet_idle none]
    exact ⟨rfl, h⟩
  · rcases tryEnqueueSet_due due nofun with stays | ⟨e, -, -, queued⟩
    · rw [stays]
      exact ⟨rfl, h⟩
    · rw [queued, commandQueued_read]
      exact ⟨rfl, .inr rfl⟩

theorem makeDue_known (s : State) (n : SetNo) :
    ((s.makeDue n .start).setRec n).due = none ∨ ((s.makeDue n .start).setRec n).due = some .start := by
  have read : (s.modSet n fun r => { r with due := some .start }).setRec n = { s.setRec n with due := some .start } :=
    State.modSet_read s n _
  have made : s.makeDue n .start = (s.modSet n fun r => { r with due := some .start }).tryEnqueueSet n := rfl
  rw [made]
  rcases tryEnqueueSet_due (s := s.modSet n fun r => { r with due := some .start }) (n := n) (code := .start)
    (by rw [read]) nofun with stays | ⟨e, -, -, queued⟩
  · rw [stays, read]
    exact .inr rfl
  · rw [queued, commandQueued_read]
    exact .inl rfl

/-- What the outcome of its command makes of a set (R81, R82, R86). -/
theorem setAnswered (origin : c.origin = .sets n) (entry : s.setEntry n = some x) (due : (s.setRec n).due = none) :
    SetAnswered s (s.returnOutcome c o) n x c.code o := by
  have read := setFreed_read s n
  have freed : Spends 0 s (setFreed s n) := spends_modSet n s _
  have due' : ((setFreed s n).setRec n).due = none := by rw [read]; exact due
  have place : ((setFreed s n).setRec n).place = .free := by rw [read]
  have run' : ((setFreed s n).setRec n).run = (s.setRec n).run := by rw [read]
  have stopCycle : ((setFreed s n).setRec n).stopCycle = (s.setRec n).stopCycle := by rw [read]
  have entry' : (setFreed s n).setEntry n = some x := entry
  have cycle : (setFreed s n).engine.cycleNo = s.engine.cycleNo := rfl
  have start (code : c.code = .start) {attempt allowed : Nat} {crank : Option Nat} {mark : Bool}
      (run : (s.setRec n).run = .starting attempt allowed crank mark) :
      s.returnOutcome c o = ((setFreed s n).startOutcome n o).tryEnqueueSet n := by
    rw [returnOutcome_set origin, setOutcome_waits due (by rw [run, code]; rfl), if_pos code]
  have stop (code : c.code = .stop) (run : (s.setRec n).run = .stopping) :
      s.returnOutcome c o = ((setFreed s n).stopOutcome n o).tryEnqueueSet n := by
    rw [returnOutcome_set origin, setOutcome_waits due (by rw [run, code]; rfl), if_neg (by rw [code]; nofun)]
  generalize setFreed s n = f at read freed due' place run' entry' cycle stopCycle start stop
  have changed (run : RunState) (why : StateReason) (attempts : Option Nat) :=
    changeRun_changed (s := f) (n := n) due' run why attempts
  refine ⟨fun attempt allowed crank mark code run accepted => ?_, fun attempt allowed crank code run failing => ?_,
    fun attempt allowed crank code run failing left => ?_, fun attempt allowed crank code run failing spent => ?_,
    fun code run accepted => ?_, fun code run failing => ?_⟩
  · rw [start code run, accepted]
    have cranked : (f.startOutcome n .accepted).setRec n =
        { f.setRec n with run := .starting attempt allowed (some x.crankWindow) mark } := by
      unfold State.startOutcome
      dsimp only
      rw [State.modSet_read, entry', run'.trans run]
      rfl
    rw [tryEnqueueSet_idle (by rw [cranked]; exact due'), cranked]
    exact ⟨rfl, place⟩
  · have ends := endAttempt_marked (run'.trans run)
    have ended := changed .stopped .startEnded none
    rw [start code run, startOutcome_failed failing, ends, tryEnqueueSet_idle ended.due]
    have raises := ended.raises.after freed
    rw [run'.trans run, cycle] at raises
    exact ⟨ended.run, ended.stopCycle.trans stopCycle, raises⟩
  · have ends := endAttempt_again (run'.trans run) left
    have next := makeDue_start (nextAttempt f n attempt) n
    have asked := startAsked_again (next.asked.imp_right And.left) (makeDue_known (nextAttempt f n attempt) n)
    rw [next.run, nextAttempt_read, entry'] at asked
    rw [start code run, startOutcome_failed failing, ends]
    exact asked
  · have ends := endAttempt_failed (run'.trans run) spent
    have ended := changed (.fault .failedStart) .failedStart (some attempt)
    rw [start code run, startOutcome_failed failing, ends, tryEnqueueSet_idle ended.due]
    have raises := ended.raises.after freed
    rw [run'.trans run, cycle] at raises
    exact ⟨ended.run, raises⟩
  · have kept : f.stopOutcome n .accepted = f := rfl
    rw [stop code run, accepted, kept, tryEnqueueSet_idle due']
    exact ⟨run'.trans run, place⟩
  · have ended := changed .online .stopFailed none
    rw [stop code run, stopOutcome_failed failing, tryEnqueueSet_idle ended.due]
    have raises := ended.raises.after freed
    rw [run'.trans run, cycle] at raises
    exact ⟨ended.run, ended.place place, raises⟩

/-! ### Points (R132, R134, R137, R138) -/

variable {y : Sequence} {e : PointEntry}

theorem returnOutcome_point (origin : c.origin = .changeover p) (s : State) (o : CommandOutcome) :
    s.returnOutcome c o = (s.pointOutcome p c.code o).tryEnqueuePoint p := by
  unfold State.returnOutcome State.giveOutcome State.resume
  rw [origin]

theorem awaits_eq (y : Sequence) : y.awaits = awaitedCode y := by
  unfold Sequence.awaits awaitedCode
  cases y.phase <;> cases y.originalPos <;> rfl

theorem freed_read (s : State) (p : PointNo) : (freed s p).pointRec p = { s.pointRec p with place := .free } :=
  (State.modPoint_read s p (fun r => { r with place := .free }) :)

/-- The outcome of its phase's command reaches a sequence. -/
theorem pointOutcome_waits (live : (s.pointRec p).seq = some y) (due : (s.pointRec p).due = none)
    (awaited : awaitedCode y = some code) (o : CommandOutcome) :
    s.pointOutcome p code o = (freed s p).applySeqOutcome p y o := by
  have entered : s.pointOutcome p code o =
      match ((freed s p).pointRec p).seq with
      | some q => if q.awaits = some code && ((freed s p).pointRec p).due = none then (freed s p).applySeqOutcome p q o else freed s p
      | none => freed s p := rfl
  rw [entered, freed_read, live]
  exact if_pos (by rw [awaits_eq, awaited, due]; simp)

theorem tryEnqueuePoint_idle (h : (s.pointRec p).seq = none) : s.tryEnqueuePoint p = s := by
  unfold State.tryEnqueuePoint
  dsimp only
  rw [h]

theorem tryEnqueuePoint_quiet (h : (s.pointRec p).due = none) : s.tryEnqueuePoint p = s := by
  unfold State.tryEnqueuePoint
  dsimp only
  split
  next due _ => exact absurd (due.symm.trans h) nofun
  · rfl

/-- A sequence whose source can be restored stays in RECOVERING when its close is enqueued. -/
theorem tryEnqueuePoint_recovering (live : (s.pointRec p).seq = some y) (phase : y.phase = .recovering) (h : Restorable s y) :
    ((s.tryEnqueuePoint p).pointRec p).seq = some y := by
  obtain ⟨-, -, online⟩ := restorable_iff.mp h
  unfold State.tryEnqueuePoint
  dsimp only
  rw [live]
  split
  next q code hq due place =>
    obtain rfl : y = q := Option.some.inj hq
    rw [phase]
    unfold State.enqueueRecovery
    rw [if_pos online, enqueuePoint_seq]
    exact live
  · exact live

theorem restorable_of_seqFrame (h : SeqFrame s t) : Restorable t y ↔ Restorable s y := by
  have online (n : SetNo) : Online t n ↔ Online s n := by
    unfold Online
    rw [(markKept_of_seqFrame h n).run, unreachable_of_seqFrame h]
  simp only [Restorable, online]

theorem endOpening_ended (live : (s.pointRec p).seq = some y) :
    Ended s (s.endOpening p y) p y (outcomeOf y.abort) := by
  have outcome : y.abort.elim .openFailed AbortMark.outcome = outcomeOf y.abort := by
    cases y.abort with
    | none => rfl
    | some mark => cases mark <;> rfl
  unfold State.endOpening
  rw [outcome]
  refine endSequence_ended live _ none ?_
  cases y.abort with
  | none => nofun
  | some mark => cases mark <;> nofun

theorem applySeqOutcome_failed (h : Failed o) (s : State) (p : PointNo) (y : Sequence) : s.applySeqOutcome p y o =
    match y.phase with
    | .opening => s.endOpening p y
    | .closing => s.enterRecovering p y .closeFailed
    | .recovering => s.endSequence p .dark none
    | .preparing | .dead => s := by
  cases o with
  | accepted => exact absurd rfl h.refused
  | restart => exact absurd rfl h.cycling
  | refused why => cases phase : y.phase <;> simp [State.applySeqOutcome, phase]
  | noAnswer => cases phase : y.phase <;> simp [State.applySeqOutcome, phase]
  | unitLost => cases phase : y.phase <;> simp [State.applySeqOutcome, phase]

/-- What a failure of its command makes of a sequence (R134, R137, R138). -/
theorem pointFailed (origin : c.origin = .changeover p) (live : (s.pointRec p).seq = some y) (due : (s.pointRec p).due = none)
    (awaited : awaitedCode y = some c.code) (failing : Failed o) : PointUnanswered s (s.returnOutcome c o) p y := by
  have live' : ((freed s p).pointRec p).seq = some y := by rw [freed_read]; exact live
  have eq := returnOutcome_point origin s o
  rw [pointOutcome_waits live due awaited, applySeqOutcome_failed failing] at eq
  have restorable : Restorable (freed s p) y ↔ Restorable s y := Iff.rfl
  refine ⟨fun phase => ?_, fun phase back => ?_, fun phase lost => ?_, fun phase => ?_⟩
  · have ended := endOpening_ended live'
    rw [phase] at eq
    rw [eq, tryEnqueuePoint_idle ended.idle]
    exact ended
  · have seq := enterRecovering_seq (p := p) (restorable.mpr back) .closeFailed
    have frame := SeqFrame.enterRecovering (freed s p) p y .closeFailed
    rw [phase] at eq
    rw [eq]
    refine tryEnqueuePoint_recovering seq rfl ?_
    exact (restorable_of_seqFrame frame).mpr back
  · have ended := enterRecovering_ended (p := p) (mt restorable.mp lost) .closeFailed
    rw [phase] at eq
    rw [eq, tryEnqueuePoint_idle ended.idle]
    exact ended
  · have ended := endSequence_ended live' .dark none nofun
    rw [phase] at eq
    rw [eq, tryEnqueuePoint_idle ended.idle]
    exact ended

/-- ACCEPTED loads the confirm counter of a sequence that waits for it (R134, R137, R138). -/
theorem pointAccepted (origin : c.origin = .changeover p) (entry : s.pointEntry p = some e) (live : (s.pointRec p).seq = some y)
    (due : (s.pointRec p).due = none) (awaited : awaitedCode y = some c.code) :
    (s.returnOutcome c .accepted).pointRec p =
      { s.pointRec p with seq := some { y with counter := .confirm e.confirmTimeout }, place := .free } := by
  have entry' : (freed s p).pointEntry p = some e := entry
  have loaded : ((freed s p).loadConfirm p y).pointRec p =
      { s.pointRec p with seq := some { y with counter := .confirm e.confirmTimeout }, place := .free } := by
    unfold State.loadConfirm State.putSeq
    dsimp only
    rw [State.modPoint_read, freed_read, entry']
    rfl
  have eq := returnOutcome_point origin s .accepted
  rw [pointOutcome_waits live due awaited] at eq
  have applied : (freed s p).applySeqOutcome p y .accepted = (freed s p).loadConfirm p y := rfl
  rw [eq, applied, tryEnqueuePoint_quiet (by rw [loaded]; exact due), loaded]

/-! ### Meters (R108, R110, R119) -/

variable {z : Session}

theorem returnOutcome_meter (origin : c.origin = .fuel m) (s : State) (o : CommandOutcome) :
    s.returnOutcome c o = (s.meterOutcome m c.code o).tryEnqueueMeter m := by
  unfold State.returnOutcome State.giveOutcome State.resume
  rw [origin]

/-- The state with a meter's command place free. -/
def meterFreed (s : State) (m : MeterNo) : State := s.modMeter m fun r => { r with place := .free }

theorem meterFreed_read (s : State) (m : MeterNo) : (meterFreed s m).meter m = { s.meter m with place := .free } :=
  State.modMeter_read s m _

theorem tryEnqueueMeter_idle (h : (s.meter m).due = false) : s.tryEnqueueMeter m = s := by
  unfold State.tryEnqueueMeter
  dsimp only
  rw [h]

theorem tryEnqueueMeter_session (s : State) (m : MeterNo) : ((s.tryEnqueueMeter m).meter m).session = (s.meter m).session ∧
    ((s.tryEnqueueMeter m).meter m).promoted = (s.meter m).promoted := by
  rcases tryEnqueueMeter_spec s m with same | ⟨a, -, queued⟩
  · rw [same]
    exact ⟨rfl, rfl⟩
  · rw [queued]
    simp [State.meter]

/-- What the end of a session by an outcome leaves, its notice raised (R110, R117, R119). -/
structure SessionAnswered (s t : State) (m : MeterNo) (z : Session) (d : SessionEnd) : Prop where
  meter : (t.meter m).session = none ∧ (t.meter m).promoted = false ∧ (t.meter m).place = .free ∧ (t.meter m).due = false
  raises : Raises 0 s t (endedBody m z d)
  live : z.phase ≠ .granting → d.result ≠ .complete →
    (t.tank z.set).delivered = min (2 ^ 64 - 1) ((s.tank z.set).delivered + z.live)
  plain : z.phase = .granting → (t.tank z.set).delivered = (s.tank z.set).delivered

theorem sessionAnswered (session : (s.meter m).session = some z) (d : SessionEnd) :
    SessionAnswered s (((meterFreed s m).endSession m d).tryEnqueueMeter m) m z d := by
  have read := meterFreed_read s m
  have gone := endSession_gone (s := meterFreed s m) (m := m) (x := z) (by rw [read]; exact session) d
  have freed : Spends 0 s (meterFreed s m) := spends_modMeter m s _
  have meter := gone.meter
  rw [read] at meter
  rw [tryEnqueueMeter_idle (congrArg MeterRec.due meter :)]
  exact ⟨⟨(congrArg MeterRec.session meter :), (congrArg MeterRec.promoted meter :), (congrArg MeterRec.place meter :),
    (congrArg MeterRec.due meter :)⟩, gone.told.after freed, gone.live, gone.plain⟩

/-- What ends a session whose PERMIT has not been accepted (R110, R119). -/
def permitEnd (cancel : Bool) : CommandOutcome → SessionEnd
  | .refused why => if cancel then { result := .cancelled } else { result := .refused, unitReason := some why }
  | .noAnswer => { result := if cancel then .cancelled else .noAnswer }
  | .unitLost => { result := if cancel then .cancelled else .unitLost }
  | .restart => { result := .restart }
  | .accepted => { result := .restart }

/-- The outcome of a command reaches the session of its meter. -/
theorem meterOutcome_eq (session : (s.meter m).session = some z) (code : Code) (o : CommandOutcome) :
    s.meterOutcome m code o = match z.phase with
      | .granting => if code = .permit then (meterFreed s m).permitOutcome m z o else meterFreed s m
      | .dispensing =>
        if code = .revoke && z.cancel && !(s.meter m).due then (meterFreed s m).revokeOutcome m o else meterFreed s m
      | .ticketing _ _ => meterFreed s m := by
  have read := meterFreed_read s m
  have entered : s.meterOutcome m code o =
      match ((meterFreed s m).meter m).session with
      | none => meterFreed s m
      | some z => match z.phase with
        | .granting => if code = .permit then (meterFreed s m).permitOutcome m z o else meterFreed s m
        | .dispensing => if code = .revoke && z.cancel && !((meterFreed s m).meter m).due then (meterFreed s m).revokeOutcome m o
          else meterFreed s m
        | .ticketing _ _ => meterFreed s m := rfl
  rw [entered, read]
  dsimp only
  rw [session]

theorem permitFailed (origin : c.origin = .fuel m) (session : (s.meter m).session = some z) (permit : c.code = .permit)
    (phase : z.phase = .granting) (failing : Failed o) :
    SessionAnswered s (s.returnOutcome c o) m z (permitEnd z.cancel o) := by
  have ends : (meterFreed s m).permitOutcome m z o = (meterFreed s m).endSession m (permitEnd z.cancel o) := by
    cases o with
    | accepted => exact absurd rfl failing.refused
    | restart => exact absurd rfl failing.cycling
    | refused why => cases cancel : z.cancel <;> simp [State.permitOutcome, permitEnd, cancel]
    | noAnswer => rfl
    | unitLost => rfl
  rw [returnOutcome_meter origin, meterOutcome_eq session, phase, permit]
  dsimp only
  rw [if_pos rfl, ends]
  exact sessionAnswered session _

theorem permitAccepted (origin : c.origin = .fuel m) (session : (s.meter m).session = some z) (permit : c.code = .permit)
    (phase : z.phase = .granting) : ((s.returnOutcome c .accepted).meter m).session = some { z with phase := .dispensing } ∧
      ((s.returnOutcome c .accepted).meter m).promoted = true := by
  have granted : (((meterFreed s m).permitOutcome m z .accepted).meter m).session = some { z with phase := .dispensing } ∧
      (((meterFreed s m).permitOutcome m z .accepted).meter m).promoted = true := by
    unfold State.permitOutcome
    dsimp only
    rw [State.modMeter_read]
    exact ⟨rfl, rfl⟩
  have kept := tryEnqueueMeter_session ((meterFreed s m).permitOutcome m z .accepted) m
  rw [returnOutcome_meter origin, meterOutcome_eq session, phase, permit]
  dsimp only
  rw [if_pos rfl]
  exact ⟨kept.1.trans granted.1, kept.2.trans granted.2⟩

theorem revokeAnswered (origin : c.origin = .fuel m) (session : (s.meter m).session = some z) (revoke : c.code = .revoke)
    (phase : z.phase = .dispensing) (cancel : z.cancel = true) (due : (s.meter m).due = false) (known : o ≠ .restart) :
    SessionAnswered s (s.returnOutcome c o) m z { result := .cancelled, revoke := some o } := by
  have ends : (meterFreed s m).revokeOutcome m o = (meterFreed s m).endSession m { result := .cancelled, revoke := some o } := by
    cases o with
    | restart => exact absurd rfl known
    | _ => rfl
  rw [returnOutcome_meter origin, meterOutcome_eq session, phase, revoke]
  dsimp only
  rw [if_pos (by rw [cancel, due]; rfl), ends]
  exact sessionAnswered session _

end

end Sys2Proof.Outcomes
end

section
/-! SUPPORT. STOP CYCLES: the cycle abandoned, and what NO_ANSWER does to each origin (R35, R39, R164). -/

namespace Sys2Proof.StoppingCycles

open Sys2Proof Sys2Proof.Machine Sys2Proof.Stated Sys2Proof.ClearFlags Sys2Proof.StopAndClear Sys2Proof.Sequencing
open Sys2Proof.SetLoading Sys2Proof.OwnerSteps Sys2Proof.UnitLoading Sys2Proof.Sessions Sys2Proof.Ending Sys2Proof.LinkLoss
open Sys2Proof.Slots Sys2Proof.MissedSlots Sys2Proof.BodySteps Sys2Proof.RunCounters Sys2Proof.Starting Sys2Proof.Outcomes
open Sys2Proof.Reads Sys2Proof.LineResetting

section
variable {s t u v w : State} {n : SetNo} {p : PointNo} {m : MeterNo} {q : Outstanding} {x : SetEntry} {y : Sequence} {z : Session}

/-- The state with the cycle abandoned and the cycles halted, no command outstanding (R39). -/
def halted (s : State) : State :=
  { s with engine := { s.engine with slots := [], slotsEnded := 0, header := none, fde := false, running := false, outstanding := none } }

/-- The outstanding command ended NO_ANSWER, in a run that has been stopped (R35). -/
def haltedAnswered (s : State) : State :=
  match s.engine.outstanding with
  | none => halted s
  | some q => (halted s).returnOutcome q.command .noAnswer

/-- The open intervals marked GAP (R164). -/
def gapMarked (s : State) : State := if s.site.live then s.markGap else s

theorem stopCycles_eq (s : State) : s.stopCycles = gapMarked (haltedAnswered s) := by
  have stopped : s.stopCycles = gapMarked (({ s with engine := { s.engine with
      slots := [], slotsEnded := 0, header := none, fde := false, running := false } } : State).endOutstanding .noAnswer) := rfl
  rw [stopped, State.endOutstanding, haltedAnswered]
  congr 1
  cases outstanding : s.engine.outstanding with
  | none =>
    unfold halted
    dsimp only
    rw [outstanding]
  | some q => rfl

theorem gapMarked_eq (s : State) : ∃ accounts, gapMarked s = { s with billing := { s.billing with accounts } } ∧
    (∀ k, OpenFor s k → (gapMarked s).account k = { s.account k with marks := { (s.account k).marks with gap := true } }) ∧
    (∀ k, ¬ OpenFor s k → (gapMarked s).account k = s.account k) := by
  unfold gapMarked
  split
  · have marked (k : AccountNo) : s.markGap.account k =
        if s.intervalOpen k then { s.account k with marks := { (s.account k).marks with gap := true } } else s.account k := by
      rw [markGap_eq]
      unfold accountsAfter
      exact Vector.getElem_ofFn _
    exact ⟨_, markGap_eq s, fun k opened => (marked k).trans (if_pos (intervalOpen_iff.mpr opened)),
      fun k closed => (marked k).trans (if_neg (mt intervalOpen_iff.mp closed))⟩
  next commission => exact ⟨s.billing.accounts, rfl, fun k opened => absurd opened.1 commission, fun _ _ => rfl⟩

/-! ### A place that is not SENT (R78) -/

/-- A set's command place is free or queued. -/
def Unsent (s : State) (n : SetNo) : Prop := (s.setRec n).place = .free ∨ ∃ c, (s.setRec n).place = .queued c

theorem unsent_of_place (h : (t.setRec n).place = (s.setRec n).place) (unsent : Unsent s n) : Unsent t n := by
  unfold Unsent
  rw [h]
  exact unsent

theorem unsent_modSet (s : State) {f : SetRec → SetRec} (h : ∀ r, (f r).place = r.place) (unsent : Unsent s n) :
    Unsent (s.modSet n f) n := unsent_of_place (by rw [State.modSet_read, h]) unsent

theorem unsent_dropUncalled (unsent : Unsent s n) : Unsent (s.dropUncalled n) n := by
  unfold State.dropUncalled
  dsimp only
  split
  · split
    · exact unsent_modSet s (fun _ => rfl) unsent
    · exact .inl (by rw [State.modSet_read])
  all_goals exact unsent_modSet s (fun _ => rfl) unsent

theorem unsent_changeRun (unsent : Unsent s n) (run : RunState) (why : StateReason) (attempts : Option Nat) :
    Unsent (s.changeRun n run why attempts) n := by
  have ran : Unsent (runSet s n run) n := unsent_dropUncalled (unsent_modSet s (fun _ => rfl) unsent)
  rw [changeRun_eq]
  exact unsent_of_place (markKept_of_seqFrame (.tellSequencers _ n) n).place ran

theorem unsent_tryEnqueueSet (unsent : Unsent s n) : Unsent (s.tryEnqueueSet n) n := by
  unfold State.tryEnqueueSet
  dsimp only
  split
  next code _ _ _ =>
    split
    · have dropped := unsent_modSet (f := fun r => { r with due := none }) s (fun _ => rfl) unsent
      generalize s.modSet n _ = t at dropped ⊢
      exact unsent_changeRun dropped _ _ _
    · split
      · exact unsent
      · split
        · exact unsent
        · exact .inr ⟨code, by rw [State.modSet_read]⟩
  · exact unsent

theorem unsent_endAttempt (unsent : Unsent s n) : Unsent (s.endAttempt n) n := by
  unfold State.endAttempt
  split
  · split
    · exact unsent_changeRun unsent _ _ _
    · split
      · exact unsent_tryEnqueueSet (unsent_modSet _ (fun _ => rfl) (unsent_modSet s (fun _ => rfl) unsent))
      · exact unsent_changeRun unsent _ _ _
  · exact unsent

theorem unsent_setOutcome (s : State) (n : SetNo) (code : Code) (o : CommandOutcome) : Unsent (s.setOutcome n code o) n := by
  have free : Unsent (setFreed s n) n := .inl (by rw [setFreed_read])
  have entered : s.setOutcome n code o =
      if ((setFreed s n).setRec n).due.isSome || ((setFreed s n).setRec n).run.calledFor ≠ some code then setFreed s n
      else if code = .start then (setFreed s n).startOutcome n o else (setFreed s n).stopOutcome n o := rfl
  rw [entered]
  generalize setFreed s n = f at free
  split
  · exact free
  · split
    · unfold State.startOutcome
      split
      · refine unsent_modSet f (fun r => ?_) free
        split <;> rfl
      · exact unsent_endAttempt free
      · exact unsent_endAttempt free
      · exact unsent_endAttempt free
      · exact unsent_modSet f (fun _ => rfl) free
    · unfold State.stopOutcome
      split
      · exact free
      · exact unsent_changeRun free _ _ _
      · exact unsent_changeRun free _ _ _
      · exact unsent_changeRun free _ _ _
      · exact unsent_modSet f (fun _ => rfl) free

theorem unsent_returnOutcome {c : Command} (origin : c.origin = .sets n) (s : State) (o : CommandOutcome) :
    Unsent (s.returnOutcome c o) n := by
  rw [returnOutcome_set origin]
  exact unsent_tryEnqueueSet (unsent_setOutcome s n c.code o)

/-! ### The statements' words, from the state before and to the state after -/

/-- What an end of a sequence reads of a state is the same in another, the selector of its point apart. -/
structure Alike (p : PointNo) (s t : State) : Prop where
  point : { t.pointRec p with selector := none } = { s.pointRec p with selector := none }
  others : ∀ k, k ≠ p → t.pointRec k = s.pointRec k
  sets : t.sets = s.sets
  queue : t.engine.queue = s.engine.queue
  notices : t.port.notices = s.port.notices
  cycle : t.engine.cycleNo = s.engine.cycleNo

theorem Alike.of_points (points : t.points = s.points) (sets : t.sets = s.sets) (queue : t.engine.queue = s.engine.queue)
    (notices : t.port.notices = s.port.notices) (cycle : t.engine.cycleNo = s.engine.cycleNo) : Alike p s t := by
  have point (k : PointNo) : t.pointRec k = s.pointRec k := by rw [State.pointRec, points]; rfl
  exact ⟨by rw [point], fun k _ => point k, sets, queue, notices, cycle⟩

theorem Alike.setRec (h : Alike p s t) (n : SetNo) : t.setRec n = s.setRec n := by
  rw [State.setRec, h.sets]
  rfl

theorem Alike.freed (h : Alike p s t) : Alike p (freed s p) (freed t p) where
  point := by
    rw [freed_read, freed_read]
    exact (congrArg (fun r : PointRec => { r with place := .free }) h.point :)
  others k hk := by
    have away (s : State) : (Stated.freed s p).pointRec k = s.pointRec k :=
      (State.modPoint_other s p (fun r => { r with place := .free }) hk :)
    rw [away, away]
    exact h.others k hk
  sets := h.sets
  queue := h.queue
  notices := h.notices
  cycle := h.cycle

theorem ended_alike {s' t' : State} {o : SeqOutcome} {manual : Option ManualPart} (h : EndedBy s t p y o manual)
    (before : Alike p s s') (after : Alike p t t') : EndedBy s' t' p y o manual where
  idle := (congrArg PointRec.seq after.point :).trans h.idle
  due := (congrArg PointRec.due after.point :).trans h.due
  place := ((congrArg PointRec.place after.point :).trans h.place).trans
    (congrArg (fun r : PointRec => r.place.unqueue) before.point :).symm
  withdrawn c hc := by
    rw [before.queue]
    exact h.withdrawn c (after.queue ▸ hc)
  released := by
    rw [after.setRec, before.setRec]
    exact h.released
  last := by
    rw [before.cycle]
    exact (congrArg PointRec.lastOutcome after.point :).trans h.last
  blocked := by
    have left : (t'.pointRec p).autoBlocked = (t.pointRec p).autoBlocked := (congrArg PointRec.autoBlocked after.point :)
    have right : (s'.pointRec p).autoBlocked = (s.pointRec p).autoBlocked := (congrArg PointRec.autoBlocked before.point :)
    rw [left, right]
    exact h.blocked
  position := ((congrArg PointRec.position after.point :).trans h.position).trans (congrArg PointRec.position before.point :).symm
  others k hk := ((after.others k hk).trans (h.others k hk)).trans (before.others k hk).symm
  sets n := by
    rw [after.setRec, before.setRec]
    exact h.sets n
  told short := by
    have position : (s'.pointRec p).position = (s.pointRec p).position := (congrArg PointRec.position before.point :)
    obtain ⟨x, mem, urgent, body⟩ := h.told (before.notices ▸ short)
    refine ⟨x, after.notices ▸ mem, urgent, body.trans ?_⟩
    rw [position, endNotice, endNotice, before.cycle]

theorem pointUnanswered_alike {s' t' : State} (h : PointUnanswered s t p y) (before : Alike p s s') (after : Alike p t t') :
    PointUnanswered s' t' p y := by
  have online (n : SetNo) : Online s' n ↔ Online s n := by rw [Online, Online, before.setRec]
  have restorable : Restorable s' y ↔ Restorable s y := by simp only [Restorable, online]
  exact ⟨fun phase => ended_alike (h.opening phase) before.freed after,
    fun phase back => (congrArg PointRec.seq after.point :).trans (h.restoring phase (restorable.mp back)),
    fun phase lost => ended_alike (h.lost phase (mt restorable.mpr lost)) before.freed after,
    fun phase => ended_alike (h.recovering phase) before.freed after⟩

theorem told_alike {s' t' : State} {body : NoticeBody} (h : Told s t body) (before : s'.port.notices = s.port.notices)
    (after : t'.port.notices = t.port.notices) : Told s' t' body := fun short => by
  rw [after]
  exact h (before ▸ short)

/-! ### What STOP CYCLES leaves (R39) -/

theorem haltedAnswered_step (s : State) : OwnerStep (halted s) (haltedAnswered s) := by
  unfold haltedAnswered
  split
  · exact .refl _
  · exact .returnOutcome _ _ _

theorem haltedAnswered_none (h : s.engine.outstanding = none) : haltedAnswered s = halted s := by rw [haltedAnswered, h]

theorem haltedAnswered_some (h : s.engine.outstanding = some q) :
    haltedAnswered s = (halted s).returnOutcome q.command .noAnswer := by rw [haltedAnswered, h]

theorem failed_noAnswer : Failed .noAnswer := ⟨nofun, nofun⟩

/-- NO_ANSWER of a stopped run at a set that waits for it. -/
theorem set_unanswered (outstanding : s.engine.outstanding = some q) (origin : q.command.origin = .sets n)
    (entry : s.setEntry n = some x) (due : (s.setRec n).due = none) :
    SetUnanswered s (haltedAnswered s) n x q.command.code := by
  have answered := setAnswered (s := halted s) (o := .noAnswer) origin entry due
  rw [haltedAnswered_some outstanding]
  generalize (halted s).returnOutcome q.command .noAnswer = t at answered
  have told {body : NoticeBody} (h : Raises 0 (halted s) t body) : Told s t body := h.told (Nat.zero_le _)
  refine ⟨fun attempt allowed crank code run => ?_, fun attempt allowed crank code run left => ?_,
    fun attempt allowed crank code run spent => ?_, fun code run => ?_⟩
  · obtain ⟨stopped, cycle, raises⟩ := answered.marked attempt allowed crank code run failed_noAnswer
    exact ⟨stopped, cycle, told raises⟩
  · exact answered.again attempt allowed crank code run failed_noAnswer left
  · obtain ⟨fault, raises⟩ := answered.failed attempt allowed crank code run failed_noAnswer spent
    exact ⟨fault, told raises⟩
  · obtain ⟨online, free, raises⟩ := answered.serves code run failed_noAnswer
    exact ⟨online, free, told raises⟩

/-- NO_ANSWER of a stopped run at a session that waits for it. -/
theorem meter_unanswered (outstanding : s.engine.outstanding = some q) (origin : q.command.origin = .fuel m)
    (session : (s.meter m).session = some z) : MeterUnanswered s (haltedAnswered s) m z q.command.code := by
  rw [haltedAnswered_some outstanding]
  have session' : ((halted s).meter m).session = some z := session
  refine ⟨fun permit phase => ?_, fun revoke phase cancel due => ?_⟩
  · have ended := permitFailed origin session' permit phase failed_noAnswer
    have told := ended.raises.told (Nat.zero_le _)
    obtain ⟨idle, promoted, free, dropped⟩ := ended.meter
    refine ⟨idle, promoted, free, dropped, ended.plain phase, fun cancel => ?_, fun cancel => ?_⟩
    · rw [cancel] at told
      exact told
    · rw [cancel] at told
      exact told
  · have ended := revokeAnswered origin session' revoke phase cancel due (o := .noAnswer) nofun
    obtain ⟨idle, promoted, free, -⟩ := ended.meter
    exact ⟨idle, promoted, free, ended.live (by rw [phase]; nofun) nofun, ended.raises.told (Nat.zero_le _)⟩

end

/-- Settles O37: the run halted, the command ended NO_ANSWER by its origin, and the open intervals marked. -/
theorem stopCycles : Obligations.StopCycles := by
  intro tag s calm
  refine ⟨fun idle => exec_request_calm calm rfl (by simp [reqStopCycles, idle, Reply.refuse]), fun running => ?_⟩
  have request : reqStopCycles s = (s.stopCycles, ⟨.ok, .none⟩) := by simp [reqStopCycles, running, Reply.ok]
  rw [stopCycles_eq] at request
  have run : exec (.stopCycles tag) s = .next (answered (gapMarked (haltedAnswered s)) tag 5 ⟨.ok, .none⟩) :=
    exec_request_calm calm rfl request
  have step := haltedAnswered_step s
  have none := haltedAnswered_none (s := s)
  have some := fun q => haltedAnswered_some (s := s) (q := q)
  have set := fun q n x => set_unanswered (s := s) (q := q) (n := n) (x := x)
  have meter := fun q m z => meter_unanswered (s := s) (q := q) (m := m) (z := z)
  obtain ⟨accounts, marked, opened, closed⟩ := gapMarked_eq (haltedAnswered s)
  generalize hv : haltedAnswered s = v at *
  rw [marked] at run opened closed
  have openFor (k : AccountNo) : OpenFor v k ↔ OpenFor s k := by
    have entry : v.accountEntry k = s.accountEntry k := by rw [State.accountEntry, step.tables]; rfl
    rw [OpenFor, OpenFor, step.site, step.billing, entry]
    exact Iff.rfl
  have account (k : AccountNo) : v.account k = s.account k := by rw [State.account, step.billing]; rfl
  refine ⟨_, run, rfl, (congrArg Engine.running step.engine :), (congrArg Engine.outstanding step.engine :),
    (congrArg Engine.slots step.engine :), (congrArg Engine.header step.engine :), (congrArg Engine.fde step.engine :),
    step.due.trans calm.2.2, (congrArg Engine.links step.engine :), (congrArg Engine.pollPointer step.engine :),
    (congrArg Engine.cycleNo step.engine :), (congrArg Engine.acks step.engine :), fun idle => ?_, fun q outstanding o origin => ?_,
    fun q outstanding n origin => ?_, fun q n x outstanding origin entry due => ?_,
    fun q p y outstanding origin live due awaited => ?_, fun q m z outstanding origin session => ?_,
    fun k open' => ?_, fun k shut => ?_, step.feeders, step.tables, step.site, step.tariff, step.schedule, step.tickets,
    step.limitFlags⟩
  · rw [none idle] 
    exact ⟨rfl, rfl, rfl, rfl, rfl, rfl⟩
  · have office := (some q outstanding).trans (returnOutcome_office origin _ _)
    rw [office]
    exact ⟨rfl, (raises_raise (halted s) _).told (Nat.zero_le _)⟩
  · have unsent := unsent_returnOutcome origin (halted s) .noAnswer
    rw [← some q outstanding] at unsent
    exact unsent
  · have unanswered := set q n x outstanding origin entry due
    exact ⟨unanswered.marked, unanswered.again, unanswered.failed, unanswered.stop⟩
  · have failed := pointFailed (s := halted s) origin live due awaited failed_noAnswer
    rw [← some q outstanding] at failed
    exact pointUnanswered_alike failed (.of_points rfl rfl rfl rfl rfl) (.of_points rfl rfl rfl rfl rfl)
  · have unanswered := meter q m z outstanding origin session
    exact ⟨unanswered.permit, unanswered.revoke⟩
  · exact (opened k ((openFor k).mpr open')).trans (by rw [account])
  · exact (closed k (mt (openFor k).mp shut)).trans (account k)

end Sys2Proof.StoppingCycles
end

section
/-! SUPPORT. The reply slot up to the outcome it returns: what a slot, missed or valid, leaves alone of what waits for the outcome (R25, R26,
R28, R35). -/

namespace Sys2Proof.ReplySlots

open Sys2Proof Sys2Proof.Machine Sys2Proof.Stated Sys2Proof.ClearFlags Sys2Proof.StopAndClear Sys2Proof.Sequencing
open Sys2Proof.SetLoading Sys2Proof.OwnerSteps Sys2Proof.UnitLoading Sys2Proof.Sessions Sys2Proof.Ending Sys2Proof.LinkLoss
open Sys2Proof.Slots Sys2Proof.MissedSlots Sys2Proof.BodySteps Sys2Proof.RunCounters Sys2Proof.Starting Sys2Proof.Outcomes
open Sys2Proof.Hearing Sys2Proof.StoppingCycles

section
variable {s t u v w : State} {n k : SetNo} {p : PointNo} {m : MeterNo} {q : Outstanding} {a : Addr} {e : UnitEntry}
variable {received : SlotInput}

/-! ### What of a set waits for an outcome -/

/-- The run state of a set, its command place, what is due of it and its stop cycle are as they were. -/
structure WaitKept (n : SetNo) (s t : State) : Prop where
  run : (t.setRec n).run = (s.setRec n).run
  due : (t.setRec n).due = (s.setRec n).due
  place : (t.setRec n).place = (s.setRec n).place
  stopCycle : (t.setRec n).stopCycle = (s.setRec n).stopCycle

theorem WaitKept.refl (n : SetNo) (s : State) : WaitKept n s s := ⟨rfl, rfl, rfl, rfl⟩

theorem WaitKept.trans (h : WaitKept n s t) (k : WaitKept n t u) : WaitKept n s u :=
  ⟨k.run.trans h.run, k.due.trans h.due, k.place.trans h.place, k.stopCycle.trans h.stopCycle⟩

theorem WaitKept.of_sets (h : t.sets = s.sets) (n : SetNo) : WaitKept n s t := by
  have read : t.setRec n = s.setRec n := by rw [State.setRec, h]; rfl
  exact ⟨by rw [read], by rw [read], by rw [read], by rw [read]⟩

theorem WaitKept.of_markKept (h : MarkKept (s.setRec n) (t.setRec n)) : WaitKept n s t := ⟨h.run, h.due, h.place, h.stopCycle⟩

theorem WaitKept.of_reserved (h : { t.setRec n with reservations := [] } = { s.setRec n with reservations := [] }) : WaitKept n s t :=
  ⟨(congrArg SetRec.run h :), (congrArg SetRec.due h :), (congrArg SetRec.place h :), (congrArg SetRec.stopCycle h :)⟩

theorem WaitKept.modSet (n : SetNo) (s : State) (k : SetNo) {f : SetRec → SetRec} (run : ∀ r, (f r).run = r.run)
    (due : ∀ r, (f r).due = r.due) (place : ∀ r, (f r).place = r.place) (stopCycle : ∀ r, (f r).stopCycle = r.stopCycle) :
    WaitKept n s (s.modSet k f) := by
  by_cases hn : n = k
  · subst hn
    have read := State.modSet_read s n f
    exact ⟨by rw [read, run], by rw [read, due], by rw [read, place], by rw [read, stopCycle]⟩
  · rw [State.modSet] at *
    exact .of_reserved (by rw [State.putSet_other s k _ hn])

theorem WaitKept.endSession (n : SetNo) (s : State) (m : MeterNo) (d : SessionEnd) : WaitKept n s (s.endSession m d) := by
  cases session : (s.meter m).session with
  | none =>
    unfold State.endSession
    rw [session]
    exact .refl n s
  | some z =>
    by_cases plain : z.phase = .granting ∨ d.result = .complete
    · rw [endSession_plain session plain]
      exact .of_sets (by rfl) n
    · obtain ⟨delivering, cut⟩ := not_or.mp plain
      have same : WaitKept n s (s.modHire z.set fun h => { h with delivered := min (2 ^ 64 - 1) (h.delivered + z.live) }) :=
        .modSet n s z.set (fun _ => rfl) (fun _ => rfl) (fun _ => rfl) (fun _ => rfl)
      rw [endSession_live session delivering cut]
      exact ⟨same.run, same.due, same.place, same.stopCycle⟩

/-! ### A missed slot -/

theorem waitKept_ownerLost (n : SetNo) (s : State) (a : Addr) (e : UnitEntry) : WaitKept n s (ownerLost s a e) := by
  unfold ownerLost
  split
  · rw [missBoard_eq]
    exact .of_sets (by rfl) n
  · exact .of_markKept ((marksPut true (s.setsNaming a) s).2.2.1 n)
  · exact .of_markKept (markKept_of_seqFrame (.changeLost s a) n)
  · unfold State.meterLost
    split
    · exact .refl n s
    next m _ => exact .endSession n s m _

/-- What a slot leaves of a state before the outcome of its command returns: what concerns the origins of commands. -/
structure Seen (s u : State) (a : Addr) : Prop where
  tables : u.tables = s.tables
  site : u.site = s.site
  pending : u.pending = s.pending
  cycle : u.engine.cycleNo = s.engine.cycleNo
  outstanding : u.engine.outstanding = s.engine.outstanding
  spends : Spends 9 s u
  waits : ∀ n, (s.setRec n).due = none → WaitKept n s u
  far : FarFromLost s a → OwnersKept s u ∧ u.engine.queue = s.engine.queue ∧ u.port.notices = s.port.notices

/-- The links, the feeders and what is left over apart, a step of a slot touches nothing. -/
def besides (v : State) (links : Vector LinkRec 63) (feeders : Vector FeederRec 32) (due : List TimedEvent) : State :=
  { withLinks v links with feeders, due }

theorem seen_besides (v : State) (links : Vector LinkRec 63) (feeders : Vector FeederRec 32) (due : List TimedEvent) (a : Addr) :
    Seen v (besides v links feeders due) a :=
  ⟨rfl, rfl, rfl, rfl, rfl, (Spends.of_notices (by rfl) fun _ => rfl).mono (Nat.zero_le 9), fun n _ => .of_sets (by rfl) n,
    fun _ => ⟨⟨rfl, rfl, rfl, rfl⟩, rfl, rfl⟩⟩

/-- The link of a missed slot, before a board's feeders are told of it; `leave` leaves the fall to LOST over (R28, R30; log entry 6). -/
def linkStage (v : State) (a : Addr) (e : UnitEntry) (garbled leave : Bool) : State :=
  let w := v.modLink a (LinkRec.miss · garbled)
  if (v.link a).state = some .lost then w
  else if ((v.link a).miss garbled).misses < v.site.values.lossLimit then w.modLink a fun l => { l with state := some .silent }
  else if leave then { w.modLink a (fun l => { l with state := some .silent }) with due := v.due ++ [.linkLost a] }
  else w.becomeLost a e

theorem missSlot_stage (v : State) (a : Addr) (e : UnitEntry) (garbled leave : Bool) : v.missSlot a e garbled leave =
    if e.kind = .board then (linkStage v a e garbled leave).missBoard a else linkStage v a e garbled leave := by
  have read : ((v.modLink a (LinkRec.miss · garbled)).link a).misses = ((v.link a).miss garbled).misses := by
    rw [modLink_link]
  have site : (v.modLink a (LinkRec.miss · garbled)).site = v.site := rfl
  have due : (v.modLink a (LinkRec.miss · garbled)).due = v.due := rfl
  unfold State.missSlot linkStage
  dsimp only
  rw [read, site, due]
  cases e.kind <;> rfl

theorem linkStage_cases (v : State) (a : Addr) (e : UnitEntry) (garbled leave : Bool) :
    (∃ links due, linkStage v a e garbled leave = besides v links v.feeders due) ∨
      (v.site.values.lossLimit ≤ ((v.link a).miss garbled).misses ∧
        linkStage v a e garbled leave = (v.modLink a (LinkRec.miss · garbled)).becomeLost a e) := by
  unfold linkStage
  dsimp only
  by_cases lost : (v.link a).state = some .lost
  · rw [if_pos lost]
    exact .inl ⟨(v.modLink a (LinkRec.miss · garbled)).engine.links, v.due, rfl⟩
  · rw [if_neg lost]
    by_cases few : ((v.link a).miss garbled).misses < v.site.values.lossLimit
    · rw [if_pos few]
      exact .inl ⟨((v.modLink a (LinkRec.miss · garbled)).modLink a fun l => { l with state := some .silent }).engine.links, v.due, rfl⟩
    · rw [if_neg few]
      cases leave with
      | true =>
        exact .inl ⟨((v.modLink a (LinkRec.miss · garbled)).modLink a fun l => { l with state := some .silent }).engine.links,
          v.due ++ [.linkLost a], rfl⟩
      | false => exact .inr ⟨Nat.not_lt.mp few, rfl⟩

/-- A missed slot touches the links, the feeders and what is left over, or its unit becomes LOST. -/
theorem missSlot_cases (v : State) (a : Addr) (e : UnitEntry) (garbled leave : Bool) :
    (∃ links feeders due, v.missSlot a e garbled leave = besides v links feeders due) ∨
      (v.site.values.lossLimit ≤ ((v.link a).miss garbled).misses ∧
        ∃ feeders, v.missSlot a e garbled leave =
          { (v.modLink a (LinkRec.miss · garbled)).becomeLost a e with feeders }) := by
  rw [missSlot_stage, missBoard_eq]
  rcases linkStage_cases v a e garbled leave with ⟨links, due, eq⟩ | ⟨many, eq⟩
  · rw [eq]
    split
    · exact .inl ⟨links, boardMissed (besides v links v.feeders due) a, due, rfl⟩
    · exact .inl ⟨links, v.feeders, due, rfl⟩
  · rw [eq]
    split
    · exact .inr ⟨many, _, rfl⟩
    · exact .inr ⟨many, _, rfl⟩

theorem seen_missSlot (v : State) (a : Addr) (e : UnitEntry) (garbled leave : Bool) : Seen v (v.missSlot a e garbled leave) a := by
  rcases missSlot_cases v a e garbled leave with ⟨links, feeders, due, eq⟩ | ⟨many, feeders, eq⟩
  · rw [eq]
    exact seen_besides v links feeders due a
  · have waits (n : SetNo) : WaitKept n v ((v.modLink a (LinkRec.miss · garbled)).becomeLost a e) := by
      rw [becomeLost_eq]
      exact (WaitKept.of_sets (by rfl) n).trans (waitKept_ownerLost n (lostTold (v.modLink a (LinkRec.miss · garbled)) a) a e)
    have became := becomeLost_lost (v.modLink a (LinkRec.miss · garbled)) a e
    have told := OwnerStep.raise ((v.modLink a (LinkRec.miss · garbled)).modLink a fun l => { l with state := some .lost })
      (.unitLink a .lost ((v.modLink a (LinkRec.miss · garbled)).link a).misses)
    rw [eq]
    generalize (v.modLink a (LinkRec.miss · garbled)).becomeLost a e = t at waits became
    have step := became.step
    refine ⟨step.tables.trans told.tables, step.site.trans told.site, step.pending.trans told.pending,
      (congrArg Engine.cycleNo step.engine :).trans (congrArg Engine.cycleNo told.engine :),
      (congrArg Engine.outstanding step.engine :).trans (congrArg Engine.outstanding told.engine :), ?_,
      fun n _ => (waits n).trans (.of_sets (by rfl) n), fun far => absurd many (Nat.not_le.mpr far.2)⟩
    exact ((spends_modLink v a _).trans (became.spends.trans (k := 0) (.of_notices rfl fun _ => rfl))).mono (Nat.le_of_ble_eq_true rfl)

/-! ### A valid slot -/

theorem waitKept_clearMark (due : (s.setRec n).due = none) (k : SetNo) : WaitKept n s (s.clearMark k) := by
  by_cases hn : n = k
  · subst hn
    rw [clearMark_idle due]
    exact .of_markKept (setMark_kept s n false)
  · refine .of_reserved ?_
    unfold State.clearMark
    split
    · exact ((SetWork.setMark k s false).trans (.tryEnqueueSet k _)).others n hn
    · rfl

theorem waitKept_clearMarks (xs : List SetNo) (due : (s.setRec n).due = none) :
    WaitKept n s (forEach xs (fun k s => s.clearMark k) s) := by
  induction xs generalizing s with
  | nil => exact .refl n s
  | cons k xs ih =>
    rw [forEach_cons]
    have first := waitKept_clearMark due k
    exact first.trans (ih (first.due.trans due))

theorem spends_clearMark (s : State) (n : SetNo) : Spends 1 s (s.clearMark n) := by
  unfold State.clearMark
  split
  · exact ((spends_setMark n s false).trans (spends_tryEnqueueSet _ n)).mono (Nat.le_of_ble_eq_true rfl)
  · exact spends_none s

theorem seen_linkUp (v : State) (a : Addr) : Seen v (v.linkUp a) a := by
  by_cases lost : (v.link a).state = some .lost
  · rw [linkUp_lost lost]
    have heard : Spends 1 v ((linkHeard v a).raise (.unitLink a .present 0)) :=
      (spends_modLink v a _).trans (.raise _ _)
    have few : (v.setsNaming a).length * 1 ≤ 8 := by
      rw [Nat.mul_one]
      exact List.length_filter_le _ allSets
    have walk := Spends.forEach (f := fun n s => State.clearMark s n) (fun n s => spends_clearMark s n) (v.setsNaming a)
      ((linkHeard v a).raise (.unitLink a .present 0))
    have step := (OwnerStep.raise (linkHeard v a) (.unitLink a .present 0)).trans
      (.forEach (f := fun n s => State.clearMark s n) (v.setsNaming a) (fun n _ s => .clearMark s n) _)
    have waits (n : SetNo) (due : (v.setRec n).due = none) : WaitKept n v
        (forEach (v.setsNaming a) (fun n s => s.clearMark n) ((linkHeard v a).raise (.unitLink a .present 0))) :=
      (WaitKept.of_sets (s := v) (t := (linkHeard v a).raise (.unitLink a .present 0)) rfl n).trans
        (waitKept_clearMarks (s := (linkHeard v a).raise (.unitLink a .present 0)) _ due)
    generalize forEach (v.setsNaming a) _ _ = t at walk step waits
    exact ⟨step.tables, step.site, step.pending, (congrArg Engine.cycleNo step.engine :),
      (congrArg Engine.outstanding step.engine :), (heard.trans walk).mono (by omega), waits, fun far => absurd lost far.1⟩
  · rw [linkUp_known lost]
    exact seen_besides v (linkHeard v a).engine.links v.feeders v.due a

theorem linkUp_own (v : State) (a : Addr) : ((v.linkUp a).link a).state = some .present ∧ ((v.linkUp a).link a).misses = 0 := by
  have heard : (linkHeard v a).link a = { v.link a with state := some .present, misses := 0 } := State.modLink_read v a _
  by_cases lost : (v.link a).state = some .lost
  · have step := (OwnerStep.raise (linkHeard v a) (.unitLink a .present 0)).trans
      (.forEach (f := fun n s => State.clearMark s n) (v.setsNaming a) (fun n _ s => .clearMark s n) _)
    rw [linkUp_lost lost, link_of_ownerStep step, heard]
    exact ⟨rfl, rfl⟩
  · rw [linkUp_known lost, heard]
    exact ⟨rfl, rfl⟩

/-! ### The reply slot -/

theorem seen_slotBegun {clock : Option Nat} {age : Nat} (h : Seen (slotBegun s clock age) u a) : Seen s u a :=
  ⟨h.tables, h.site, h.pending, h.cycle, h.outstanding, ((spends_slotBegun s clock age).trans h.spends).mono (by omega),
    fun n due => (WaitKept.of_sets (by rfl) n).trans (h.waits n due), h.far⟩

/-- The reply slot: the outcome returns to a state that the slot has left alone but for the line and for the sets of its unit, and the body of
a valid report follows it (R26, R35). -/
structure Replied (s t : State) (a : Addr) (e : UnitEntry) (q : Outstanding) (received : SlotInput) (leave : SetNo → Bool) : Prop where
  missed : received = .nothing ∨ Garbled a e received → ∃ u, Seen s u a ∧
    t = ((u.putOutstanding none).returnOutcome q.command .noAnswer).startTx
  valid : ∀ r, ValidFrom a e received r → ∃ u, Seen s u a ∧ (u.link a).state = some .present ∧ (u.link a).misses = 0 ∧
    t = ((((u.putOutstanding none).returnOutcome q.command r.answer.outcome).handBody a e r.body leave).forward a e r.raw).startTx

theorem exec_replySlot (h : ReplySlotOf s a e q) (received : SlotInput) (deferred : List TimedEvent) :
    ∃ t, exec (.slotEnd received deferred) s = .next t ∧
      Replied s t a e q received fun n => deferred.contains (.discrepancy n) := by
  obtain ⟨clock, age, run⟩ := exec_slotEnd (openSlot h.slot) received deferred
  have reply : s.engine.atReplySlot = true := by simp [Engine.atReplySlot, h.first, h.outstanding, h.allocated]
  have entry : (slotBegun s clock age).unitEntry a = some e := h.slot.entry
  have asked : (slotBegun s clock age).engine.outstanding = some q := h.outstanding
  have begun (u : State) := seen_slotBegun (s := s) (u := u) (a := a) (clock := clock) (age := age)
  rw [reply, not_orphaned h.slot] at run
  generalize slotBegun s clock age = v at run entry asked begun
  refine ⟨_, run, fun missed => ?_, fun r valid => ?_⟩
  · have done : ∃ garbled leave, slotDone v a received deferred true false =
        (v.missSlot a e garbled leave).endOutstanding .noAnswer := by
      unfold slotDone
      rw [entry]
      rcases missed with rfl | garbled
      · refine ⟨false, deferred.contains (.linkLost a), ?_⟩
        simp only [h.slot.enabled, slotOutcome, if_true]
      · refine ⟨true, deferred.contains (.linkLost a), ?_⟩
        simp only [h.slot.enabled, slotOutcome_garbled garbled, if_true]
    obtain ⟨garbled, leave, eq⟩ := done
    have seen := seen_missSlot v a e garbled leave
    rw [eq, endOutstanding_of (seen.outstanding.trans asked)]
    exact ⟨_, begun _ seen, rfl⟩
  · have done : slotDone v a received deferred true false =
        v.validSlot a e true r fun n => deferred.contains (.discrepancy n) := by
      unfold slotDone
      rw [entry]
      simp only [h.slot.enabled, slotOutcome_valid valid, if_true]
    have seen := seen_linkUp v a
    obtain ⟨present, none⟩ := linkUp_own v a
    have answers : Hearing.answered (v.linkUp a) true r = (v.linkUp a).endOutstanding r.answer.outcome := rfl
    rw [done, validSlot_eq, answers, endOutstanding_of (seen.outstanding.trans asked)]
    exact ⟨_, begun _ seen, present, none, rfl⟩

end

end Sys2Proof.ReplySlots
end

section
/-! SUPPORT. A SET report by its parts: the fuel of a step, the integration, the sensor check, and the run state (R66 to R68, R71, R75, R87,
R101, R102, R106). -/

namespace Sys2Proof.SetReports

open Sys2Proof Sys2Proof.Machine Sys2Proof.Stated Sys2Proof.StopAndClear Sys2Proof.TankSet Sys2Proof.Sequencing Sys2Proof.Booking
open Sys2Proof.SetLoading Sys2Proof.MissedSlots Sys2Proof.LinkLoss Sys2Proof.BodySteps Sys2Proof.ReplySlots Sys2Proof.UnitLoading

section
variable {s t u : State} {n k : SetNo}

/-! ### Fuel burnt (R101, R102) -/

/-- What the fuel of a set step leaves alone: the other tanks and sets, of the tank its capacity, its delivered total and its discrepancy
count, of the set all but two hire counters. -/
structure FuelStep (n : SetNo) (s t : State) : Prop where
  tanks : ∀ i, i ≠ n → t.tank i = s.tank i
  sets : ∀ i, i ≠ n → t.setRec i = s.setRec i
  set : ∃ adjustments burnt, t.setRec n = { s.setRec n with hire := { (s.setRec n).hire with adjustments, burnt } }
  capacity : (t.tank n).capacity = (s.tank n).capacity
  discCount : (t.tank n).discCount = (s.tank n).discCount
  frame : { t with tanks := s.tanks, sets := s.sets, port := s.port } = s
  port : { t.port with notices := s.port.notices, nextNotice := s.port.nextNotice, overflow := s.port.overflow } = s.port

theorem FuelStep.refl (n : SetNo) (s : State) : FuelStep n s s :=
  ⟨fun _ _ => rfl, fun _ _ => rfl, ⟨_, _, rfl⟩, rfl, rfl, rfl, rfl⟩

theorem FuelStep.trans (h : FuelStep n s t) (k : FuelStep n t u) : FuelStep n s u where
  tanks i hi := (k.tanks i hi).trans (h.tanks i hi)
  sets i hi := (k.sets i hi).trans (h.sets i hi)
  set := by
    obtain ⟨x, y, first⟩ := h.set
    obtain ⟨x', y', second⟩ := k.set
    exact ⟨x', y', by rw [second, first]⟩
  capacity := k.capacity.trans h.capacity
  discCount := k.discCount.trans h.discCount
  frame := (congrArg (fun t : State => { t with tanks := s.tanks, sets := s.sets, port := s.port }) k.frame :).trans h.frame
  port := (congrArg (fun x : Port =>
    { x with notices := s.port.notices, nextNotice := s.port.nextNotice, overflow := s.port.overflow }) k.port :).trans h.port

theorem FuelStep.of_tankStep {i : Nat} (h : TankStep i n s t) (capacity : (t.tank n).capacity = (s.tank n).capacity)
    (discCount : (t.tank n).discCount = (s.tank n).discCount) : FuelStep n s t where
  tanks := h.tanks
  sets := h.sets
  set := by
    obtain ⟨x, set⟩ := h.set
    exact ⟨x, _, set⟩
  capacity := capacity
  discCount := discCount
  frame := h.frame
  port := h.port

theorem FuelStep.residue (n : SetNo) (s : State) (f : Nat → Nat) :
    FuelStep n s (s.modTank n fun t => { t with residue := f t.residue }) :=
  .of_tankStep (.modTank n s _) (by rw [State.modTank_read]) (by rw [State.modTank_read])

theorem FuelStep.changeBook (n : SetNo) (s : State) (d : Int) : FuelStep n s (s.changeBook n d) := by
  obtain ⟨low, reserve, tank⟩ := changeBook_tank s n d
  exact .of_tankStep (.changeBook n s d) (by rw [tank]) (by rw [tank])

theorem FuelStep.burnt (n : SetNo) (s : State) (f : Nat → Nat) :
    FuelStep n s (s.modHire n fun h => { h with burnt := f h.burnt }) where
  tanks _ _ := rfl
  sets _ hi := State.modSet_other s n _ hi
  set := ⟨_, _, State.modSet_read s n _⟩
  capacity := rfl
  discCount := rfl
  frame := rfl
  port := rfl

theorem FuelStep.burnOne (n : SetNo) (s : State) : FuelStep n s (s.burnOne n) :=
  ((FuelStep.residue n s (· - decilitre)).trans (.changeBook n _ _)).trans (.burnt n _ (satAdd max64 · 1))

theorem FuelStep.burnTimes (n : SetNo) (i : Nat) : ∀ s : State, FuelStep n s (s.burnTimes n i) := by
  induction i with
  | zero => exact fun s => .refl n s
  | succ i ih => exact fun s => (FuelStep.burnOne n s).trans (ih _)

theorem FuelStep.burn (s : State) (n : SetNo) (units : Nat) : FuelStep n s (s.burn n units) :=
  (FuelStep.residue n s (· + units)).trans (.burnTimes n _ _)

/-- The threshold flags of a tank that are clear: what a test can still set. -/
def clearFlags (t : Tank) : Nat := (if t.low then 0 else 1) + if t.reserve then 0 else 1

/-- A threshold test raises a notice for each flag that it sets. -/
theorem spends_testThresholds (s : State) (n : SetNo) : ∃ i,
    Spends i s (s.testThresholds n) ∧ i + clearFlags ((s.testThresholds n).tank n) ≤ clearFlags (s.tank n) := by
  have one (s : State) (fires : Bool) (mark : Tank → Tank) (flag : SetFlag)
      (sets : fires = true → clearFlags (mark (s.tank n)) + 1 ≤ clearFlags (s.tank n)) : ∃ i,
      Spends i s (flagTest s n fires mark flag) ∧
        i + clearFlags ((flagTest s n fires mark flag).tank n) ≤ clearFlags (s.tank n) := by
    rw [flagTest_tank]
    cases fires with
    | false => exact ⟨0, .refl s, by simp⟩
    | true => exact ⟨1, spends_of_tankStep (.flagTest n s true mark flag), by have := sets rfl; simp; omega⟩
  unfold State.testThresholds
  split
  · exact ⟨0, .refl s, Nat.le_of_eq (Nat.zero_add _)⟩
  next e _ =>
    rw [testReserve_eq, testLow_eq]
    obtain ⟨i, first, few⟩ := one s (lowMet e (s.tank n) && !(s.tank n).low) (fun t => { t with low := true }) .low fun fires => by
      rw [Bool.and_eq_true, Bool.not_eq_true'] at fires
      simp [clearFlags, fires.2]
    generalize flagTest s n _ _ .low = v at first few
    obtain ⟨j, second, few'⟩ := one v (reserveMet e (v.tank n) && !(v.tank n).reserve) (fun t => { t with reserve := true }) .reserve
      fun fires => by
        rw [Bool.and_eq_true, Bool.not_eq_true'] at fires
        simp [clearFlags, fires.2]
    exact ⟨i + j, first.trans second, by omega⟩

/-- Decilitres burnt out of a book that is within its capacity. -/
structure Burnt (i : Nat) (n : SetNo) (s t : State) : Prop where
  book : (t.tank n).book = (s.tank n).book - i
  residue : (t.tank n).residue = (s.tank n).residue - i * decilitre
  discrepancy : (t.tank n).discrepancy = (s.tank n).discrepancy
  burnt : (s.setRec n).hire.burnt ≤ max64 → (t.setRec n).hire.burnt = min max64 ((s.setRec n).hire.burnt + i)
  spends : ∃ j, Spends j s t ∧ j + clearFlags (t.tank n) ≤ clearFlags (s.tank n)

/-- A decilitre taken out of the book. -/
theorem changeBook_lowered (s : State) (n : SetNo) (within : (s.tank n).book ≤ (s.tank n).capacity) :
    (∃ low reserve adjustments, (s.changeBook n (-1)).tank n =
      { s.tank n with low, reserve, adjustments, book := (s.tank n).book - 1 }) ∧
    ∃ j, Spends j s (s.changeBook n (-1)) ∧ j + clearFlags ((s.changeBook n (-1)).tank n) ≤ clearFlags (s.tank n) := by
  have below : ¬ ((s.tank n).capacity : Int) < askedLevel s n (-1) := by
    unfold askedLevel
    omega
  have stored : (storedLevel s n (-1)).toNat = (s.tank n).book - 1 := by
    unfold storedLevel askedLevel
    omega
  have level := levelTaken_tank s n (-1)
  rw [stored, decide_eq_false below, Bool.or_false] at level
  obtain ⟨j, spends, few⟩ := spends_testThresholds (levelTaken s n (-1)) n
  obtain ⟨low, reserve, tank⟩ := testThresholds_tank (levelTaken s n (-1)) n
  have taken : Spends 0 s (levelTaken s n (-1)) := by
    unfold levelTaken discrepancyIf
    rw [if_neg below]
    exact spends_of_tankStep ((TankStep.modTank n s _).trans (.adjustmentUnless n _ _ _))
  rw [changeBook_eq]
  rw [level] at tank few
  exact ⟨⟨low, reserve, _, tank⟩, 0 + j, taken.trans spends, by rw [Nat.zero_add]; exact few⟩

theorem burnOne_burnt (s : State) (n : SetNo) (within : (s.tank n).book ≤ (s.tank n).capacity) :
    Burnt 1 n s (s.burnOne n) := by
  have read := State.modTank_read s n fun t => { t with residue := t.residue - decilitre }
  have sets : (s.modTank n fun t => { t with residue := t.residue - decilitre }).setRec n = s.setRec n := rfl
  have first : Spends 0 s (s.modTank n fun t => { t with residue := t.residue - decilitre }) := .of_notices rfl fun _ => rfl
  have burns : s.burnOne n = ((s.modTank n fun t => { t with residue := t.residue - decilitre }).changeBook n (-1)).modHire n
      fun h => { h with burnt := satAdd max64 h.burnt 1 } := rfl
  rw [burns]
  generalize (s.modTank n fun t => { t with residue := t.residue - decilitre }) = v at read sets first
  obtain ⟨⟨low, reserve, adjustments, tank⟩, j, spends, few⟩ := changeBook_lowered v n (by rw [read]; exact within)
  obtain ⟨x, set⟩ := (TankStep.changeBook n v (-1)).set
  have flags : clearFlags (v.tank n) = clearFlags (s.tank n) := by
    rw [read]
    unfold clearFlags
    dsimp only
  rw [read] at tank
  rw [flags] at few
  generalize v.changeBook n (-1) = w at tank set spends few
  have hire := State.modSet_read w n fun r => { r with hire := { r.hire with burnt := satAdd max64 r.hire.burnt 1 } }
  have last : Spends 0 w (w.modHire n fun h => { h with burnt := satAdd max64 h.burnt 1 }) := spends_modSet n w _
  have same : (w.modHire n fun h => { h with burnt := satAdd max64 h.burnt 1 }).tank n = w.tank n := rfl
  refine ⟨by rw [same, tank], by rw [same, tank, Nat.one_mul], by rw [same, tank], fun _ => ?_, ?_⟩
  · rw [State.modHire, hire, set, sets]
    rfl
  · rw [same]
    exact ⟨j, ((first.trans spends).trans last).mono (Nat.le_of_eq (Nat.zero_add j)), few⟩

theorem burnTimes_burnt (n : SetNo) (i : Nat) : ∀ s : State, (s.tank n).book ≤ (s.tank n).capacity →
    Burnt i n s (s.burnTimes n i) := by
  induction i with
  | zero =>
    refine fun s _ => ⟨rfl, by simp [State.burnTimes], rfl, fun within => ?_, 0, .refl s,
      Nat.le_of_eq (Nat.zero_add _)⟩
    rw [Nat.add_zero, Nat.min_eq_right within]
    rfl
  | succ i ih =>
    intro s within
    have first := burnOne_burnt s n within
    have kept := (FuelStep.burnOne n s).capacity
    have burns : s.burnTimes n (i + 1) = (s.burnOne n).burnTimes n i := rfl
    have rest := ih (s.burnOne n) (by rw [kept, first.book]; omega)
    rw [burns]
    generalize s.burnOne n = v at first rest
    obtain ⟨j, spends, few⟩ := first.spends
    obtain ⟨j', spends', few'⟩ := rest.spends
    refine ⟨?_, ?_, rest.discrepancy.trans first.discrepancy, fun within => ?_, j + j', spends.trans spends', by omega⟩
    · rw [rest.book, first.book]
      omega
    · rw [rest.residue, first.residue, Nat.add_mul]
      omega
    · have one := first.burnt within
      rw [rest.burnt (by rw [one]; omega), one]
      omega

/-- The burn of some units out of a book within its capacity (R101, R102). -/
structure BurntUnits (s t : State) (n : SetNo) (total : Nat) : Prop where
  book : (t.tank n).book = (s.tank n).book - total / 360000000000
  residue : (t.tank n).residue = total % 360000000000
  discrepancy : (t.tank n).discrepancy = (s.tank n).discrepancy
  burnt : (s.setRec n).hire.burnt ≤ 2 ^ 64 - 1 →
    (t.setRec n).hire.burnt = min (2 ^ 64 - 1) ((s.setRec n).hire.burnt + total / 360000000000)
  spends : Spends 2 s t

theorem burn_burnt (s : State) (n : SetNo) (units : Nat) (within : (s.tank n).book ≤ (s.tank n).capacity) :
    BurntUnits s (s.burn n units) n ((s.tank n).residue + units) := by
  have read := State.modTank_read s n fun t => { t with residue := t.residue + units }
  have sets : (s.modTank n fun t => { t with residue := t.residue + units }).setRec n = s.setRec n := rfl
  have first : Spends 0 s (s.modTank n fun t => { t with residue := t.residue + units }) := .of_notices rfl fun _ => rfl
  have burns : s.burn n units = (s.modTank n fun t => { t with residue := t.residue + units }).burnTimes n
      (((s.modTank n fun t => { t with residue := t.residue + units }).tank n).residue / decilitre) := rfl
  rw [burns]
  generalize (s.modTank n fun t => { t with residue := t.residue + units }) = v at read sets first
  have done := burnTimes_burnt n ((v.tank n).residue / decilitre) v (by rw [read]; exact within)
  have residue : (v.tank n).residue = (s.tank n).residue + units := by rw [read]
  rw [residue] at done
  obtain ⟨j, spends, few⟩ := done.spends
  have flags : clearFlags (v.tank n) ≤ 2 := by
    unfold clearFlags
    split <;> split <;> omega
  rw [residue]
  refine ⟨?_, ?_, ?_, fun within => ?_, (first.trans spends).mono (by omega)⟩
  · rw [done.book, read]
    rfl
  · have modulo := Nat.mod_def ((s.tank n).residue + units) 360000000000
    rw [done.residue, residue, modulo, Nat.mul_comm]
    rfl
  · rw [done.discrepancy, read]
  · have total := done.burnt (by rw [sets]; exact within)
    rw [total, sets]
    rfl

end

end Sys2Proof.SetReports
end

section
/-! SUPPORT. The integration of a SET report, its sensor check, and its run state, in the words of the statements (R66 to R68, R71, R75, R87, R101,
R102, R106). -/

namespace Sys2Proof.SetReporting

open Sys2Proof Sys2Proof.Machine Sys2Proof.Stated Sys2Proof.StopAndClear Sys2Proof.TankSet Sys2Proof.Sequencing Sys2Proof.Booking
open Sys2Proof.SetLoading Sys2Proof.MissedSlots Sys2Proof.LinkLoss Sys2Proof.BodySteps Sys2Proof.ReplySlots Sys2Proof.UnitLoading
open Sys2Proof.SetReports

section
variable {s t u v : State} {n k : SetNo} {x : SetEntry} {engine : EngineState} {power sensor : Nat}

/-! ### The integration (R66 to R68, R71, R101, R102) -/

/-- The baseline that a SET report leaves (R66). -/
def newBaseline (s : State) (power : Nat) : SetBaseline := ⟨min 30000 power, s.engine.cycleNo, decide (30000 < power)⟩

/-- What the integration of a report leaves, and what it leaves alone. -/
structure Integrated (s t : State) (n : SetNo) (x : SetEntry) (engine : EngineState) (power : Nat) : Prop where
  set : ∃ hire, t.setRec n = { s.setRec n with baseline := some (newBaseline s power), hire } ∧ hire.starts = (s.setRec n).hire.starts
  stepped : SetStepped s t n x engine power
  sets : ∀ k, k ≠ n → t.setRec k = s.setRec k
  discCount : (t.tank n).discCount = (s.tank n).discCount
  frame : { t with tanks := s.tanks, sets := s.sets, port := s.port } = s
  port : { t.port with notices := s.port.notices, nextNotice := s.port.nextNotice, overflow := s.port.overflow } = s.port
  within : (s.tank n).book ≤ (s.tank n).capacity → (t.tank n).discrepancy = (s.tank n).discrepancy ∧ Spends 2 s t

/-- The state of an integration with its energy added and its marks set (R67, R68, R71). -/
def energyAdded (s : State) (n : SetNo) (b : SetBaseline) (power : Nat) : State :=
  s.modHire n fun h =>
    { h with
      outputMj := satAdd max64 h.outputMj (setEnergy s b (min 30000 power))
      gap := h.gap || decide (s.engine.holdInForce < cycleDiff s.engine.cycleNo b.cycle)
      clamped := h.clamped || b.clamped || decide (30000 < power) }

/-- The burn of a set step (R101). -/
def stepUnits (s : State) (x : SetEntry) (b : SetBaseline) (power : Nat) : Nat :=
  x.noLoadRate * s.engine.cycleLen * min (cycleDiff s.engine.cycleNo b.cycle) s.engine.holdInForce * 1000 +
    x.incrementalRate * setEnergy s b (min 30000 power)

/-- The state with the reading of a report as the baseline. -/
def baselineTaken (s : State) (n : SetNo) (b : SetBaseline) : State := s.modSet n fun r => { r with baseline := some b }

theorem integrateSet_first (h : (s.setRec n).baseline = none) :
    s.integrateSet n x power engine = baselineTaken s n (newBaseline s power) := by
  unfold State.integrateSet
  dsimp only
  rw [h]
  rfl

theorem integrateSet_step {b : SetBaseline} (h : (s.setRec n).baseline = some b) : s.integrateSet n x power engine =
    baselineTaken (if engine = .running then (energyAdded s n b power).burn n (stepUnits s x b power) else energyAdded s n b power) n
      (newBaseline s power) := by
  have cycle : (if engine = .running then (energyAdded s n b power).burn n (stepUnits s x b power)
      else energyAdded s n b power).engine.cycleNo = s.engine.cycleNo := by
    split
    · exact (congrArg (fun v : State => v.engine.cycleNo) (FuelStep.burn (energyAdded s n b power) n (stepUnits s x b power)).frame :)
    · rfl
  have step : s.integrateSet n x power engine =
      (if engine = .running then (energyAdded s n b power).burn n (stepUnits s x b power) else energyAdded s n b power).modSet n
        fun r => { r with baseline := some ⟨min 30000 power, (if engine = .running then
          (energyAdded s n b power).burn n (stepUnits s x b power) else energyAdded s n b power).engine.cycleNo, decide (30000 < power)⟩ } := by
    unfold State.integrateSet
    dsimp only
    rw [h]
    rfl
  rw [step, cycle]
  rfl

theorem energyAdded_read (s : State) (n : SetNo) (b : SetBaseline) (power : Nat) : (energyAdded s n b power).setRec n =
    { s.setRec n with hire := { (s.setRec n).hire with
      outputMj := satAdd max64 (s.setRec n).hire.outputMj (setEnergy s b (min 30000 power))
      gap := (s.setRec n).hire.gap || decide (s.engine.holdInForce < cycleDiff s.engine.cycleNo b.cycle)
      clamped := (s.setRec n).hire.clamped || b.clamped || decide (30000 < power) } } := State.modSet_read s n _

theorem baselineTaken_read (s : State) (n : SetNo) (b : SetBaseline) :
    (baselineTaken s n b).setRec n = { s.setRec n with baseline := some b } := State.modSet_read s n _

theorem baselineTaken_other (s : State) (n : SetNo) (b : SetBaseline) (h : k ≠ n) : (baselineTaken s n b).setRec k = s.setRec k :=
  State.modSet_other s n _ h

theorem integrated_first (h : (s.setRec n).baseline = none) : Integrated s (s.integrateSet n x power engine) n x engine power := by
  have read := baselineTaken_read s n (newBaseline s power)
  have other (k : SetNo) (hk : k ≠ n) := baselineTaken_other s n (newBaseline s power) hk
  rw [integrateSet_first h]
  refine ⟨⟨_, read, rfl⟩, ⟨fun _ => ⟨by rw [read], rfl, rfl⟩, fun b hb => ?_, fun b hb => ?_, fun _ => ⟨rfl, rfl, by rw [read]⟩,
    fun k hk => ⟨by rw [other k hk], rfl⟩⟩, other, rfl, rfl, rfl, fun _ => ⟨rfl, (spends_modSet n s _).mono (Nat.zero_le _)⟩⟩
  · exact absurd (h.symm.trans hb) nofun
  · exact absurd (h.symm.trans hb) nofun

/-- What a set step leaves before its reading becomes the baseline. -/
theorem integrated_step {b : SetBaseline} (h : (s.setRec n).baseline = some b) :
    Integrated s (s.integrateSet n x power engine) n x engine power := by
  have read := energyAdded_read s n b power
  have other (k : SetNo) (hk : k ≠ n) : (energyAdded s n b power).setRec k = s.setRec k := State.modSet_other s n _ hk
  have added : Spends 0 s (energyAdded s n b power) := spends_modSet n s _
  have burnt := burn_burnt (energyAdded s n b power) n (stepUnits s x b power)
  have total : (s.tank n).residue + stepUnits s x b power = (s.tank n).residue +
      x.noLoadRate * s.engine.cycleLen * min (s.engine.cycleNo - b.cycle).toNat s.engine.holdInForce * 1000 +
      x.incrementalRate * setEnergy s b (min 30000 power) := (Nat.add_assoc _ _ _).symm
  have fuel : FuelStep n (energyAdded s n b power)
      (if engine = .running then (energyAdded s n b power).burn n (stepUnits s x b power) else energyAdded s n b power) := by
    split
    · exact .burn _ n _
    · exact .refl n _
  have running (h : engine = .running) : (if engine = .running then (energyAdded s n b power).burn n (stepUnits s x b power)
      else energyAdded s n b power) = (energyAdded s n b power).burn n (stepUnits s x b power) := if_pos h
  have still (h : engine ≠ .running) : (if engine = .running then (energyAdded s n b power).burn n (stepUnits s x b power)
      else energyAdded s n b power) = energyAdded s n b power := if_neg h
  have tank : ∀ k, (energyAdded s n b power).tank k = s.tank k := fun _ => rfl
  have frame : { energyAdded s n b power with sets := s.sets } = s := rfl
  have port : (energyAdded s n b power).port = s.port := rfl
  rw [integrateSet_step h]
  generalize (energyAdded s n b power).burn n (stepUnits s x b power) = w at burnt fuel running still ⊢
  generalize energyAdded s n b power = v at read other added burnt fuel running still tank frame port ⊢
  generalize (if engine = .running then w else v) = u at fuel running still ⊢
  have last := baselineTaken_read u n (newBaseline s power)
  have lastOther (k : SetNo) (hk : k ≠ n) := baselineTaken_other u n (newBaseline s power) hk
  have taken : Spends 0 u (baselineTaken u n (newBaseline s power)) := spends_modSet n u _
  obtain ⟨adjustments, burntHire, set⟩ := fuel.set
  have final : (baselineTaken u n (newBaseline s power)).setRec n = { s.setRec n with
      baseline := some (newBaseline s power)
      hire := { (v.setRec n).hire with adjustments, burnt := burntHire } } := by
    rw [last, set, read]
  have hire : ((baselineTaken u n (newBaseline s power)).setRec n).hire =
      { (v.setRec n).hire with adjustments, burnt := burntHire } := by rw [final]
  have hireBurnt : (u.setRec n).hire.burnt = burntHire := by rw [set]
  have lastTank : ∀ k, (baselineTaken u n (newBaseline s power)).tank k = u.tank k := fun _ => rfl
  refine ⟨⟨_, final, by rw [read]⟩, ⟨fun none => absurd (none.symm.trans h) nofun, fun c hc => ?_, fun c hc run within => ?_,
    fun off => ?_, fun k hk => ⟨?_, ?_⟩⟩, fun k hk => ?_, ?_, ?_, ?_, fun within => ?_⟩
  · obtain rfl : b = c := Option.some.inj (h.symm.trans hc)
    rw [hire, read]
    refine ⟨rfl, ?_, ?_⟩
    · rw [Bool.or_eq_true, decide_eq_true_eq]
      exact Iff.rfl
    · rw [Bool.or_eq_true, Bool.or_eq_true, decide_eq_true_eq, or_assoc]
  · obtain rfl : b = c := Option.some.inj (h.symm.trans hc)
    have done := burnt (by rw [tank]; exact within)
    rw [tank, total] at done
    rw [running run] at hireBurnt
    rw [lastTank]
    refine ⟨by rw [running run, done.residue], by rw [running run, done.book, tank], fun low => ?_⟩
    have same : (v.setRec n).hire.burnt = (s.setRec n).hire.burnt := by rw [read]
    rw [hire]
    dsimp only
    rw [← hireBurnt, done.burnt (by rw [same]; exact low), same]
  · rw [still off] at hireBurnt
    rw [lastTank, hire]
    refine ⟨by rw [still off, tank], by rw [still off, tank], ?_⟩
    dsimp only
    rw [← hireBurnt, read]
  · rw [lastOther k hk, fuel.sets k hk, other k hk]
  · rw [lastTank, fuel.tanks k hk, tank]
  · rw [lastOther k hk, fuel.sets k hk, other k hk]
  · rw [lastTank, fuel.discCount, tank]
  · exact ((congrArg (fun w : State => { w with tanks := s.tanks, sets := s.sets, port := s.port }) fuel.frame :).trans
      (congrArg (fun w : State => { w with tanks := s.tanks, port := s.port }) frame :))
  · have kept := fuel.port
    rw [port] at kept
    exact kept
  · by_cases run : engine = .running
    · have done := burnt (by rw [tank]; exact within)
      rw [lastTank, running run]
      rw [running run] at taken
      refine ⟨done.discrepancy.trans (by rw [tank]), ((added.trans done.spends).trans taken).mono (by omega)⟩
    · rw [still run] at taken
      rw [lastTank, still run, tank]
      exact ⟨rfl, (added.trans taken).mono (by omega)⟩

theorem integrateSet_integrated (s : State) (n : SetNo) (x : SetEntry) (power : Nat) (engine : EngineState) :
    Integrated s (s.integrateSet n x power engine) n x engine power := by
  cases baseline : (s.setRec n).baseline with
  | none => exact integrated_first baseline
  | some b => exact integrated_step baseline

end

end Sys2Proof.SetReporting
end

section
/-! SUPPORT. The sensor check of a SET report and what the report makes of the run state, and what the report of another set leaves (R75, R77,
R81 to R83, R86, R87, R97, R106). -/

namespace Sys2Proof.SetApplying

open Sys2Proof Sys2Proof.Machine Sys2Proof.Stated Sys2Proof.StopAndClear Sys2Proof.TankSet Sys2Proof.Sequencing Sys2Proof.Booking
open Sys2Proof.SetLoading Sys2Proof.MissedSlots Sys2Proof.LinkLoss Sys2Proof.BodySteps Sys2Proof.ReplySlots Sys2Proof.UnitLoading
open Sys2Proof.SetReports Sys2Proof.SetReporting Sys2Proof.Hearing

section
variable {s t u v : State} {n k : SetNo} {x : SetEntry} {engine : EngineState} {power sensor : Nat} {leave : Bool}

/-! ### The sensor check (R106) -/

/-- The state of a sensor level outside the tolerance: the count has risen (R106). -/
def outsideCounted (s : State) (n : SetNo) : State := s.modTank n fun t => { t with discCount := satAdd 20 t.discCount 1 }

theorem checkSensor_skipped (h : sensor = 65535 ∨ ∃ m y, (s.meter m).session = some y ∧ y.set = n) :
    s.checkSensor n x sensor leave = s := by
  unfold State.checkSensor
  refine if_pos ?_
  rw [Bool.or_eq_true, decide_eq_true_eq, sessionFor_eq_true]
  exact h

section
variable (level : sensor ≠ 65535) (idle : ∀ m y, (s.meter m).session = some y → y.set ≠ n)
include level idle

theorem sensor_tested : ¬ (decide (sensor = 65535) || s.sessionFor n) = true := by
  rw [Bool.or_eq_true, decide_eq_true_eq, sessionFor_eq_true]
  exact fun h => h.elim level fun ⟨m, y, session, set⟩ => idle m y session set

theorem checkSensor_near (below : (s.tank n).book ≤ sensor + x.sensorTolerance)
    (above : sensor ≤ (s.tank n).book + x.sensorTolerance) :
    s.checkSensor n x sensor leave = s.modTank n fun t => { t with discCount := 0 } := by
  unfold State.checkSensor
  rw [if_neg (sensor_tested level idle)]
  exact if_pos (by omega)

theorem checkSensor_outside (outside : sensor + x.sensorTolerance < (s.tank n).book ∨ (s.tank n).book + x.sensorTolerance < sensor) :
    s.checkSensor n x sensor leave =
      if leave && ((outsideCounted s n).tank n).discCount = 20 then { outsideCounted s n with due := s.due ++ [.discrepancy n] }
      else (outsideCounted s n).expireDiscrepancy n := by
  unfold State.checkSensor
  rw [if_neg (sensor_tested level idle)]
  exact if_neg (by omega)

end

/-- What the sensor check leaves alone: all but the discrepancy of the tank, what is left over and the notices. -/
structure SensorStep (n : SetNo) (s t : State) : Prop where
  tank : ∃ discCount discrepancy, t.tank n = { s.tank n with discCount, discrepancy }
  tanks : ∀ k, k ≠ n → t.tank k = s.tank k
  frame : { t with tanks := s.tanks, port := s.port, due := s.due } = s
  port : { t.port with notices := s.port.notices, nextNotice := s.port.nextNotice, overflow := s.port.overflow } = s.port

theorem SensorStep.refl (n : SetNo) (s : State) : SensorStep n s s := ⟨⟨_, _, rfl⟩, fun _ _ => rfl, rfl, rfl⟩

theorem SensorStep.trans (h : SensorStep n s t) (k : SensorStep n t u) : SensorStep n s u where
  tank := by
    obtain ⟨x, y, first⟩ := h.tank
    obtain ⟨x', y', second⟩ := k.tank
    exact ⟨x', y', by rw [second, first]⟩
  tanks i hi := (k.tanks i hi).trans (h.tanks i hi)
  frame := (congrArg (fun t : State => { t with tanks := s.tanks, port := s.port, due := s.due }) k.frame :).trans h.frame
  port := (congrArg (fun x : Port =>
    { x with notices := s.port.notices, nextNotice := s.port.nextNotice, overflow := s.port.overflow }) k.port :).trans h.port

theorem SensorStep.count (n : SetNo) (s : State) (f : Nat → Nat) :
    SensorStep n s (s.modTank n fun t => { t with discCount := f t.discCount }) :=
  ⟨⟨_, _, State.modTank_read s n _⟩, fun _ hk => State.modTank_other s n _ hk, rfl, rfl⟩

theorem SensorStep.setDiscrepancy (n : SetNo) (s : State) (d : Option Int) (sensor : Option Nat) :
    SensorStep n s (s.setDiscrepancy n d sensor) := by
  unfold State.setDiscrepancy
  dsimp only
  split
  · exact .refl n s
  · exact ⟨⟨_, _, State.modTank_read s n fun t => { t with discrepancy := true }⟩,
      fun k hk => State.modTank_other s n (fun t => { t with discrepancy := true }) hk, rfl, (Port.raise_frame _ _ _).1⟩

theorem SensorStep.checkSensor (n : SetNo) (s : State) (x : SetEntry) (sensor : Nat) (leave : Bool) :
    SensorStep n s (s.checkSensor n x sensor leave) := by
  unfold State.checkSensor
  dsimp only
  split
  · exact .refl n s
  · split
    · exact .count n s fun _ => 0
    · split
      · exact (SensorStep.count n s fun c => satAdd 20 c 1).trans ⟨⟨_, _, rfl⟩, fun _ _ => rfl, rfl, rfl⟩
      · refine (SensorStep.count n s fun c => satAdd 20 c 1).trans ?_
        unfold State.expireDiscrepancy
        split
        · exact .setDiscrepancy n _ _ _
        · exact .refl n _

/-- What the sensor check makes of the discrepancy count and of the flag, with its notice. -/
structure SensorDone (s t : State) (n : SetNo) (x : SetEntry) (sensor : Nat) (left : Prop) : Prop where
  book : (t.tank n).book = (s.tank n).book
  skipped : (sensor = 65535 ∨ ∃ m y, (s.meter m).session = some y ∧ y.set = n) →
    (t.tank n).discCount = (s.tank n).discCount
  near : sensor ≠ 65535 → (∀ m y, (s.meter m).session = some y → y.set ≠ n) →
    (s.tank n).book ≤ sensor + x.sensorTolerance → sensor ≤ (s.tank n).book + x.sensorTolerance → (t.tank n).discCount = 0
  counted : sensor ≠ 65535 → (∀ m y, (s.meter m).session = some y → y.set ≠ n) →
    sensor + x.sensorTolerance < (s.tank n).book ∨ (s.tank n).book + x.sensorTolerance < sensor →
    (t.tank n).discCount = min 20 ((s.tank n).discCount + 1) ∧
      (19 ≤ (s.tank n).discCount → left → TimedEvent.discrepancy n ∈ t.due) ∧
      (19 ≤ (s.tank n).discCount → ¬ left → (t.tank n).discrepancy = true ∧
        ((s.tank n).discrepancy = false → Raises 0 s t
          (.setFlag n .discrepancy (some (s.tank n).book) none ((s.setRec n).latest.map SetReport.sensor) s.engine.cycleNo)))

theorem setDiscrepancy_done (s : State) (n : SetNo) (d : Option Int) (sensor : Option Nat) :
    ((s.setDiscrepancy n d sensor).tank n).discrepancy = true ∧
      ((s.setDiscrepancy n d sensor).tank n).discCount = (s.tank n).discCount ∧
      ((s.tank n).discrepancy = false → Raises 0 s (s.setDiscrepancy n d sensor)
        (.setFlag n .discrepancy (some (s.tank n).book) d sensor s.engine.cycleNo)) := by
  unfold State.setDiscrepancy
  dsimp only
  split
  next marked => exact ⟨marked, rfl, fun clear => absurd (marked.symm.trans clear) nofun⟩
  next clear =>
    have read := State.modTank_read s n fun t => { t with discrepancy := true }
    have marked : Spends 0 s (s.modTank n fun t => { t with discrepancy := true }) := .of_notices rfl fun _ => rfl
    have same (body : NoticeBody) : ((s.modTank n fun t => { t with discrepancy := true }).raise body).tank n =
        (s.modTank n fun t => { t with discrepancy := true }).tank n := rfl
    rw [same, read]
    exact ⟨rfl, rfl, fun _ => (raises_raise _ _).after marked⟩

theorem outsideCounted_read (s : State) (n : SetNo) :
    (outsideCounted s n).tank n = { s.tank n with discCount := min 20 ((s.tank n).discCount + 1) } := State.modTank_read s n _

theorem checkSensor_done {left : Prop} (h : leave = true ↔ left) :
    SensorDone s (s.checkSensor n x sensor leave) n x sensor left := by
  obtain ⟨c, d, tank⟩ := (SensorStep.checkSensor n s x sensor leave).tank
  refine ⟨by rw [tank], fun skips => by rw [checkSensor_skipped skips], fun level idle below above => ?_,
    fun level idle outside => ?_⟩
  · rw [checkSensor_near level idle below above, State.modTank_read]
  · have read := outsideCounted_read s n
    have spends : Spends 0 s (outsideCounted s n) := .of_notices rfl fun _ => rfl
    have sets : (outsideCounted s n).setRec n = s.setRec n := rfl
    have cycle : (outsideCounted s n).engine.cycleNo = s.engine.cycleNo := rfl
    rw [checkSensor_outside level idle outside]
    generalize outsideCounted s n = w at read spends sets cycle
    have count : (w.tank n).discCount = min 20 ((s.tank n).discCount + 1) := by rw [read]
    have full : (w.tank n).discCount = 20 ↔ 19 ≤ (s.tank n).discCount := by rw [count]; omega
    by_cases leaves : (leave && decide ((w.tank n).discCount = 20)) = true
    · rw [if_pos leaves]
      rw [Bool.and_eq_true] at leaves
      exact ⟨count, fun _ _ => List.mem_append_right _ (List.mem_singleton_self _), fun _ stays => absurd (h.mp leaves.1) stays⟩
    · rw [if_neg leaves]
      rw [Bool.and_eq_true, decide_eq_true_eq, full] at leaves
      unfold State.expireDiscrepancy
      by_cases reached : 19 ≤ (s.tank n).discCount
      · obtain ⟨set, kept, told⟩ := setDiscrepancy_done w n none ((w.setRec n).latest.map SetReport.sensor)
        rw [if_pos (full.mpr reached)]
        refine ⟨kept.trans count, fun _ leaving => absurd ⟨h.mpr leaving, reached⟩ leaves, fun _ _ => ⟨set, fun clear => ?_⟩⟩
        have raises := (told (by rw [read]; exact clear)).after spends
        rw [read, sets, cycle] at raises
        rw [sets]
        exact raises
      · rw [if_neg (mt full.mp reached)]
        exact ⟨count, fun few _ => absurd few reached, fun few _ => absurd few reached⟩

/-! ### What a report leaves of the sets (R75, R87) -/

/-- What the report of set `n` does to the run state leaves alone. -/
structure ReportStep (n : SetNo) (s t : State) : Prop where
  tables : t.tables = s.tables
  site : t.site = s.site
  pending : t.pending = s.pending
  due : t.due = s.due
  tanks : t.tanks = s.tanks
  meters : t.meters = s.meters
  engine : { t.engine with queue := s.engine.queue } = s.engine
  port : { t.port with notices := s.port.notices, nextNotice := s.port.nextNotice, overflow := s.port.overflow } = s.port
  others : ∀ k, k ≠ n → { t.setRec k with reservations := [] } = { s.setRec k with reservations := [] }
  latest : (t.setRec n).latest = (s.setRec n).latest
  loadFraction : (t.setRec n).loadFraction = (s.setRec n).loadFraction
  baseline : (t.setRec n).baseline = (s.setRec n).baseline
  hire : { (t.setRec n).hire with starts := 0 } = { (s.setRec n).hire with starts := 0 }

theorem ReportStep.of_runFrame (h : RunFrame n s t) : ReportStep n s t := by
  obtain ⟨-, -, latest, fraction, baseline, -, hire⟩ := h.figures
  exact ⟨h.tables, h.site, h.pending, h.due, h.tanks, h.meters, h.engine, h.port, h.others, latest, fraction, baseline, hire⟩

theorem ReportStep.refl (n : SetNo) (s : State) : ReportStep n s s := .of_runFrame (.refl n s)

theorem ReportStep.trans (h : ReportStep n s t) (k : ReportStep n t u) : ReportStep n s u where
  tables := k.tables.trans h.tables
  site := k.site.trans h.site
  pending := k.pending.trans h.pending
  due := k.due.trans h.due
  tanks := k.tanks.trans h.tanks
  meters := k.meters.trans h.meters
  engine := (congrArg (fun x : Engine => { x with queue := s.engine.queue }) k.engine :).trans h.engine
  port := (congrArg (fun x : Port =>
    { x with notices := s.port.notices, nextNotice := s.port.nextNotice, overflow := s.port.overflow }) k.port :).trans h.port
  others i hi := (k.others i hi).trans (h.others i hi)
  latest := k.latest.trans h.latest
  loadFraction := k.loadFraction.trans h.loadFraction
  baseline := k.baseline.trans h.baseline
  hire := k.hire.trans h.hire

theorem ReportStep.stopCycle (n : SetNo) (s : State) (c : CycleNo) :
    ReportStep n s (s.modSet n fun r => { r with stopCycle := some c }) := by
  have read := State.modSet_read s n fun r => { r with stopCycle := some c }
  exact ⟨rfl, rfl, rfl, rfl, rfl, rfl, rfl, rfl, fun k hk => by rw [State.modSet_other s n _ hk], by rw [read], by rw [read],
    by rw [read], by rw [read]⟩

theorem ReportStep.setLocalStart (n : SetNo) (s : State) : ReportStep n s (s.setLocalStart n) := by
  unfold State.setLocalStart
  split
  · exact .refl n s
  · have read := State.modSet_read s n fun r => { r with localStart := true }
    have other (k : SetNo) (hk : k ≠ n) := State.modSet_other s n (fun r => { r with localStart := true }) hk
    have flagged : ReportStep n s (s.modSet n fun r => { r with localStart := true }) :=
      ⟨rfl, rfl, rfl, rfl, rfl, rfl, rfl, rfl, fun k hk => by rw [other k hk], by rw [read], by rw [read], by rw [read], by rw [read]⟩
    generalize s.modSet n _ = v at flagged ⊢
    exact flagged.trans (.of_runFrame (SeqFrame.raiseMarked v false _).runFrame)

theorem ReportStep.changeRun (n : SetNo) (s : State) (run : RunState) (why : StateReason) (attempts : Option Nat) :
    ReportStep n s (s.changeRun n run why attempts) := .of_runFrame (.changeRun n s run why attempts)

theorem ReportStep.unexpectedStop (n : SetNo) (s : State) (c : CycleNo) : ReportStep n s (s.unexpectedStop n c) := by
  unfold State.unexpectedStop State.enterFault
  exact (ReportStep.stopCycle n s c).trans (.changeRun n _ _ _ _)

theorem ReportStep.startSucceeds (n : SetNo) (s : State) (e : SetEntry) (mark : Bool) (c : CycleNo) :
    ReportStep n s (s.startSucceeds n e mark c) := by
  unfold State.startSucceeds
  split
  · exact .of_runFrame (.enterStopping n s _)
  · exact .of_runFrame (.enterWarming n s _ _)

theorem ReportStep.applyReport (n : SetNo) (s : State) (e : SetEntry) (engine : EngineState) (c : CycleNo) :
    ReportStep n s (s.applyReport n e engine c) := by
  unfold State.applyReport State.enterFault
  split
  case h_6 => exact (ReportStep.of_runFrame (.enterWarming n s _ _)).trans (.setLocalStart n _)
  case h_10 => exact .startSucceeds n s e _ c
  case h_11 =>
    split
    · exact .changeRun n s _ _ _
    · exact .of_runFrame (.endAttempt n s)
  case h_14 => exact (ReportStep.stopCycle n s c).trans (.changeRun n _ _ _ _)
  case h_2 | h_3 | h_4 | h_7 | h_15 | h_22 | h_23 | h_24 => exact .changeRun n s _ _ _
  case h_25 | h_26 | h_27 | h_28 | h_29 | h_30 => exact .unexpectedStop n s c
  all_goals exact .refl n s

/-! ### A whole report -/

/-- The report stored (R75, R90). -/
def reportStored (s : State) (n : SetNo) (x : SetEntry) (r : SetReport) : State :=
  s.modSet n fun y => { y with latest := some r, loadFraction := some (r.power * 100 / x.rating) }

theorem setReport_eq {a : Addr} (entry : s.setEntry n = some x) (enabled : x.enabled = true) (unit : x.unit = a) (engine : EngineState)
    (power sensor : Nat) (alarm : Byte) (leave : SetNo → Bool) :
    s.setReport a (n.val + 1) engine power sensor alarm leave =
      (((reportStored s n x ⟨engine, min 30000 power, sensor, alarm, s.engine.cycleNo⟩).applyReport n x engine
        s.engine.cycleNo).integrateSet n x power engine).checkSensor n x sensor (leave n) := by
  unfold State.setReport
  rw [numbered_succ]
  dsimp only
  rw [entry]
  exact if_pos (by rw [enabled, unit]; simp)

/-- The run states that the report of an engine state leaves (R77, R87). -/
def Still (run : RunState) (engine : EngineState) : Prop :=
  ((engine = .stopped ∨ engine = .cranking) ∧
      ((∃ attempt allowed crank mark, run = .starting attempt allowed crank mark) ∨ run = .stopped ∨ ∃ why, run = .fault why)) ∨
    (engine = .running ∧ (run = .stopping ∨ run = .online))

theorem applyReport_still (h : Still (s.setRec n).run engine) (x : SetEntry) (c : CycleNo) : s.applyReport n x engine c = s := by
  unfold State.applyReport
  rcases h with ⟨rfl | rfl, ⟨attempt, allowed, crank, mark, run⟩ | run | ⟨why, run⟩⟩ | ⟨rfl, run | run⟩ <;> rw [run]

theorem waitKept_tank (h : FuelStep k s t) (n : SetNo) : WaitKept n s t := by
  by_cases hn : n = k
  · subst hn
    obtain ⟨x, y, set⟩ := h.set
    exact ⟨by rw [set], by rw [set], by rw [set], by rw [set]⟩
  · exact .of_reserved (by rw [h.sets n hn])

theorem waitKept_integrateSet (n : SetNo) (s : State) (k : SetNo) (x : SetEntry) (power : Nat) (engine : EngineState) :
    WaitKept n s (s.integrateSet k x power engine) := by
  have done := integrateSet_integrated s k x power engine
  by_cases hn : n = k
  · subst hn
    obtain ⟨hire, set, -⟩ := done.set
    exact ⟨by rw [set], by rw [set], by rw [set], by rw [set]⟩
  · exact .of_reserved (by rw [done.sets n hn])

theorem waitKept_checkSensor (n : SetNo) (s : State) (k : SetNo) (x : SetEntry) (sensor : Nat) (leave : Bool) :
    WaitKept n s (s.checkSensor k x sensor leave) := by
  have sets : (s.checkSensor k x sensor leave).sets = s.sets :=
    (congrArg State.sets (SensorStep.checkSensor k s x sensor leave).frame :)
  exact .of_sets sets n

/-- What a set waits for goes on through any SET report that leaves its run state. -/
theorem waitKept_setReport (still : Still (s.setRec n).run engine) (a : Addr) (owner power sensor : Nat) (alarm : Byte)
    (leave : SetNo → Bool) : WaitKept n s (s.setReport a owner engine power sensor alarm leave) := by
  unfold State.setReport
  split
  · exact .refl n s
  next k _ =>
    split
    · exact .refl n s
    next e _ =>
      split
      · dsimp only
        have stored : WaitKept n s (s.storeReport k e ⟨engine, power, sensor, alarm, s.engine.cycleNo⟩) := by
          unfold State.storeReport
          refine .modSet n s k ?_ ?_ ?_ ?_ <;> exact fun _ => rfl
        generalize s.storeReport k e ⟨engine, power, sensor, alarm, s.engine.cycleNo⟩ = v at stored ⊢
        have applied : WaitKept n v (v.applyReport k e engine s.engine.cycleNo) := by
          by_cases hn : n = k
          · subst hn
            rw [applyReport_still (by rw [stored.run]; exact still)]
            exact .refl n v
          · exact .of_reserved ((ReportStep.applyReport k v e engine s.engine.cycleNo).others n hn)
        exact ((stored.trans applied).trans (waitKept_integrateSet n _ k e power engine)).trans
          (waitKept_checkSensor n _ k e sensor _)
      · exact .refl n s

end

end Sys2Proof.SetApplying
end

section
/-! SUPPORT. What the outcome of a reply slot makes of its origin, the body of the report after it (R26, R35, R81, R82, R86, R110, R119, R134, R137,
R138, R190). -/

namespace Sys2Proof.Replies

open Sys2Proof Sys2Proof.Machine Sys2Proof.Stated Sys2Proof.StopAndClear Sys2Proof.Sequencing
open Sys2Proof.SetLoading Sys2Proof.OwnerSteps Sys2Proof.UnitLoading Sys2Proof.Sessions Sys2Proof.Ending Sys2Proof.LinkLoss
open Sys2Proof.Slots Sys2Proof.MissedSlots Sys2Proof.BodySteps Sys2Proof.Starting Sys2Proof.Outcomes
open Sys2Proof.Hearing Sys2Proof.StoppingCycles Sys2Proof.ReplySlots Sys2Proof.SetApplying

section
variable {s t u v w x : State} {n k : SetNo} {p : PointNo} {m : MeterNo} {q : Outstanding} {a : Addr} {e : UnitEntry}
variable {received : SlotInput} {leave : SetNo → Bool} {o : CommandOutcome} {body : ReportBody → Prop} {y : Sequence} {z : Session}

/-! ### What a slot received (R25) -/

theorem received_cases (a : Addr) (e : UnitEntry) (received : SlotInput) :
    (received = .nothing ∨ Garbled a e received) ∨ ∃ r, ValidFrom a e received r := by
  cases received with
  | nothing => exact .inl (.inl rfl)
  | contention => exact .inl (.inr (.inl rfl))
  | frame bytes =>
    by_cases valid : ∃ r, parseReport bytes = some r ∧ r.source.toNat = a.val + 1 ∧ r.kind = e.kind
    · obtain ⟨r, parsed, source, kind⟩ := valid
      exact .inr ⟨r, bytes, rfl, parsed, source, kind⟩
    · refine .inl (.inr (.inr ⟨bytes, rfl, fun r parsed => ?_⟩))
      by_contra own
      rw [not_or, not_not, not_not] at own
      exact valid ⟨r, parsed, own⟩

/-! ### After the outcome -/

/-- The rest of a reply slot after the outcome has returned: nothing, or a body of some form, and the forward count (R26). -/
inductive Concluded (a : Addr) (e : UnitEntry) (leave : SetNo → Bool) (body : ReportBody → Prop) (x : State) : State → Prop where
  | missed : Concluded a e leave body x x.startTx
  | valid (r : FieldReport) (h : body r.body) :
    Concluded a e leave body x ((x.handBody a e r.body leave).forward a e r.raw).startTx

/-- What the returned outcome meets, and how the slot goes on after it. -/
structure Answered (s t : State) (a : Addr) (e : UnitEntry) (q : Outstanding) (leave : SetNo → Bool) (o : CommandOutcome)
    (body : ReportBody → Prop) (u : State) : Prop where
  seen : Seen s u a
  known : o = .accepted ∨ Failed o
  concluded : Concluded a e leave body ((u.putOutstanding none).returnOutcome q.command o) t

theorem answered_of (h : Replied s t a e q received leave) (returned : Returned a e received o body) :
    ∃ u, Answered s t a e q leave o body u := by
  rcases returned with ⟨missed, rfl⟩ | ⟨r, valid, form, answer⟩
  · obtain ⟨u, seen, rfl⟩ := h.missed missed
    exact ⟨u, seen, .inr failed_noAnswer, .missed⟩
  · obtain ⟨u, seen, -, -, rfl⟩ := h.valid r valid
    have outcome : r.answer.outcome = o ∧ (o = .accepted ∨ Failed o) := by
      rcases answer with ⟨none, rfl⟩ | ⟨accept, rfl⟩ | ⟨why, refuse, rfl⟩
      · exact ⟨by rw [none]; rfl, .inr failed_noAnswer⟩
      · exact ⟨by rw [accept]; rfl, .inl rfl⟩
      · exact ⟨by rw [refuse]; rfl, .inr ⟨nofun, nofun⟩⟩
    obtain ⟨rfl, known⟩ := outcome
    exact ⟨u, seen, known, .valid r form⟩

theorem works_startTx (x : State) : Works x x.startTx := .quiet (startTx_notices x.port) fun _ => rfl

theorem concluded_works (h : Concluded a e leave body x t) : Works x t := by
  cases h with
  | missed => exact works_startTx x
  | valid r form => exact (BodyStep.handBody x a e r.body leave).works.trans (works_passed (forward_passed _ a e r.raw).1)

/-- A notice that the outcome raises is told at the end of its slot. -/
theorem answered_told (h : Answered s t a e q leave o body u) {notice : NoticeBody}
    (raises : Raises 0 (u.putOutstanding none) ((u.putOutstanding none).returnOutcome q.command o) notice) : Told s t notice := by
  have cleared : Spends 9 s (u.putOutstanding none) :=
    (h.seen.spends.trans (k := 0) (.of_notices rfl fun _ => rfl)).mono (Nat.le_refl 9)
  exact told_works (raises.after cleared) (cleared.trans (spends_returnOutcome _ q.command o)) (concluded_works h.concluded)
    (Nat.le_of_ble_eq_true rfl) (Nat.le_of_ble_eq_true rfl)

/-- What a state keeps at the end of its slot, where it does so in the body. -/
theorem passed_fields (x : State) (a : Addr) (e : UnitEntry) (raw : List Byte) :
    ((x.forward a e raw).startTx.tables, (x.forward a e raw).startTx.site, (x.forward a e raw).startTx.pending,
      (x.forward a e raw).startTx.engine.outstanding, (x.forward a e raw).startTx.engine.queue,
      (x.forward a e raw).startTx.engine.cycleNo, (x.forward a e raw).startTx.port.notices) =
      (x.tables, x.site, x.pending, x.engine.outstanding, x.engine.queue, x.engine.cycleNo, x.port.notices) ∧
    ((x.forward a e raw).startTx.sets, (x.forward a e raw).startTx.points, (x.forward a e raw).startTx.meters,
      (x.forward a e raw).startTx.tanks) = (x.sets, x.points, x.meters, x.tanks) := by
  obtain ⟨passed, -⟩ := forward_passed x a e raw
  have notices := passed.notices
  obtain ⟨links, port, eq⟩ := passed.rest
  rw [notices, eq]
  exact ⟨rfl, rfl⟩

theorem concluded_frame (h : Concluded a e leave body x t) : t.tables = x.tables ∧ t.site = x.site ∧ t.pending = x.pending ∧
    t.engine.outstanding = x.engine.outstanding := by
  cases h with
  | missed => exact ⟨rfl, rfl, rfl, rfl⟩
  | valid r form =>
    have step := BodyStep.handBody x a e r.body leave
    have outstanding : (x.handBody a e r.body leave).engine.outstanding = x.engine.outstanding :=
      (congrArg Engine.outstanding step.engine :)
    obtain ⟨kept, -⟩ := passed_fields (x.handBody a e r.body leave) a e r.raw
    rw [Prod.mk.injEq, Prod.mk.injEq, Prod.mk.injEq, Prod.mk.injEq] at kept
    obtain ⟨tables, site, pending, line, -⟩ := kept
    exact ⟨tables.trans step.tables, site.trans step.site, pending.trans step.pending, line.trans outstanding⟩

/-! ### The office (R190) -/

theorem answered_frame (h : Answered s t a e q leave o body u) : t.engine.outstanding = none ∧ t.tables = s.tables ∧
    t.site = s.site ∧ t.pending = s.pending := by
  have step := OwnerStep.returnOutcome (u.putOutstanding none) q.command o
  have none : ((u.putOutstanding none).returnOutcome q.command o).engine.outstanding = none :=
    (congrArg Engine.outstanding step.engine :)
  obtain ⟨tables, site, pending, outstanding⟩ := concluded_frame h.concluded
  exact ⟨outstanding.trans none, (tables.trans step.tables).trans h.seen.tables, (site.trans step.site).trans h.seen.site,
    (pending.trans step.pending).trans h.seen.pending⟩

theorem office_told {tag : Byte} (origin : q.command.origin = .office tag) (h : Answered s t a e q leave o body u) :
    Told s t (.commandResult tag q.command.target q.command.code o s.engine.cycleNo) := by
  have raises := raises_raise (u.putOutstanding none)
    (.commandResult tag q.command.target q.command.code o (u.putOutstanding none).engine.cycleNo)
  rw [← returnOutcome_office origin] at raises
  have cycle : (u.putOutstanding none).engine.cycleNo = s.engine.cycleNo := h.seen.cycle
  have told := answered_told h raises
  rwa [cycle] at told

/-- The outcome that a valid report gives. -/
theorem returned_valid {r : FieldReport} (valid : ValidFrom a e received r) :
    ∃ o, r.answer.outcome = o ∧ Returned a e received o fun _ => True := by
  refine ⟨_, rfl, .inr ⟨r, valid, trivial, ?_⟩⟩
  cases answer : r.answer with
  | none => exact .inl ⟨rfl, rfl⟩
  | accept => exact .inr (.inl ⟨rfl, rfl⟩)
  | refuse why => exact .inr (.inr ⟨why, rfl, rfl⟩)

/-- What O28 says of a command of the office. -/
theorem office_answered (a : Addr) (e : UnitEntry) (q : Outstanding) (tag : Byte) (received : SlotInput)
    (deferred : List TimedEvent) (s : State) (slot : SlotOf s a e) (first : s.engine.slotsEnded = 0)
    (outstanding : s.engine.outstanding = some q) (allocated : q.replyAllocated = true) (origin : q.command.origin = .office tag) :
    ∃ t, exec (.slotEnd received deferred) s = .next t ∧ t.engine.outstanding = none ∧
      (received = .nothing ∨ Garbled a e received →
        Told s t (.commandResult tag q.command.target q.command.code .noAnswer s.engine.cycleNo)) ∧
      (∀ r, ValidFrom a e received r →
        (r.answer = .accept →
          Told s t (.commandResult tag q.command.target q.command.code .accepted s.engine.cycleNo)) ∧
        (∀ reason, r.answer = .refuse reason →
          Told s t (.commandResult tag q.command.target q.command.code (.refused reason) s.engine.cycleNo)) ∧
        (r.answer = .none →
          Told s t (.commandResult tag q.command.target q.command.code .noAnswer s.engine.cycleNo)) ∧
        (t.link a).state = some .present ∧ (t.link a).misses = 0) ∧
      t.tables = s.tables ∧ t.site = s.site ∧ t.pending = s.pending := by
  obtain ⟨t, run, replied⟩ := exec_replySlot ⟨slot, first, outstanding, allocated⟩ received deferred
  have told {o : CommandOutcome} (returned : Returned a e received o fun _ => True) :
      Told s t (.commandResult tag q.command.target q.command.code o s.engine.cycleNo) := by
    obtain ⟨u, answered⟩ := answered_of replied returned
    exact office_told origin answered
  have frame : t.engine.outstanding = none ∧ t.tables = s.tables ∧ t.site = s.site ∧ t.pending = s.pending := by
    rcases received_cases a e received with missed | ⟨r, valid⟩
    · obtain ⟨u, answered⟩ := answered_of replied (body := fun _ => True) (.inl ⟨missed, rfl⟩)
      exact answered_frame answered
    · obtain ⟨o, -, returned⟩ := returned_valid valid
      obtain ⟨u, answered⟩ := answered_of replied returned
      exact answered_frame answered
  refine ⟨t, run, frame.1, fun missed => told (.inl ⟨missed, rfl⟩), fun r valid => ⟨fun accept => ?_, fun why refuse => ?_,
    fun none => ?_, ?_⟩, frame.2⟩
  · exact told (.inr ⟨r, valid, trivial, .inr (.inl ⟨accept, rfl⟩)⟩)
  · exact told (.inr ⟨r, valid, trivial, .inr (.inr ⟨why, refuse, rfl⟩)⟩)
  · exact told (.inr ⟨r, valid, trivial, .inl ⟨none, rfl⟩⟩)
  · obtain ⟨u, -, present, misses, rfl⟩ := replied.valid r valid
    have owner := OwnerStep.returnOutcome (u.putOutstanding Option.none) q.command r.answer.outcome
    have body := BodyStep.handBody ((u.putOutstanding Option.none).returnOutcome q.command r.answer.outcome) a e r.body
      fun n => deferred.contains (.discrepancy n)
    have same := (link_of_bodyStep body a).trans (link_of_ownerStep owner a)
    obtain ⟨forward, own⟩ := (forward_passed (((u.putOutstanding Option.none).returnOutcome q.command r.answer.outcome).handBody a e
      r.body fun n => deferred.contains (.discrepancy n)) a e r.raw).1.own
    rw [same] at own
    exact ⟨(congrArg LinkRec.state own :).trans present, (congrArg LinkRec.misses own :).trans misses⟩

/-! ### Sets (R81, R82, R86) -/

theorem concluded_waits (h : Concluded a e leave body x t) (kept : ∀ b, body b → WaitKept n x (x.handBody a e b leave)) :
    WaitKept n x t := by
  cases h with
  | missed => exact .of_sets (by rfl) n
  | valid r form =>
    obtain ⟨-, owners⟩ := passed_fields (x.handBody a e r.body leave) a e r.raw
    exact (kept r.body form).trans (.of_sets (congrArg Prod.fst owners :) n)

/-- The set that waits for the outcome, by the state in which the outcome meets it. -/
theorem answered_set {c : SetEntry} (h : Answered s t a e q leave o body u) (origin : q.command.origin = .sets n)
    (entry : s.setEntry n = some c) (due : (s.setRec n).due = none) :
    SetAnswered (u.putOutstanding none) ((u.putOutstanding none).returnOutcome q.command o) n c q.command.code o := by
  refine setAnswered origin ?_ ((h.seen.waits n due).due.trans due)
  have tables : (u.putOutstanding none).tables = s.tables := h.seen.tables
  rw [State.setEntry, tables]
  exact entry

/-- The body of a SET report that leaves the run state of a set. -/
theorem waits_setBody {b : ReportBody} {engine : EngineState} {power sensor : Nat} {alarm : Byte}
    (h : b = .set engine power sensor alarm) (still : Still (x.setRec n).run engine) : WaitKept n x (x.handBody a e b leave) := by
  subst h
  exact waitKept_setReport still a e.owner power sensor alarm leave

/-- What O28 says of a set. -/
theorem set_answered (a : Addr) (e : UnitEntry) (q : Outstanding) (n : SetNo) (x : SetEntry) (o : CommandOutcome)
    (received : SlotInput) (deferred : List TimedEvent) (s : State) (slot : ReplySlotOf s a e q)
    (origin : q.command.origin = .sets n) (entry : s.setEntry n = some x) (due : (s.setRec n).due = none) :
    let idle := Returned a e received o fun body => ∃ engine power sensor alarm,
      body = .set engine power sensor alarm ∧ (engine = .stopped ∨ engine = .cranking)
    let running := Returned a e received o fun body => ∃ power sensor alarm, body = .set .running power sensor alarm
    ∃ t, exec (.slotEnd received deferred) s = .next t ∧
      (∀ attempt allowed crank mark, q.command.code = .start →
        (s.setRec n).run = .starting attempt allowed crank mark → idle →
        (o = .accepted → (t.setRec n).run = .starting attempt allowed (some x.crankWindow) mark ∧
          (t.setRec n).place = .free) ∧
        (o ≠ .accepted → mark = true → (t.setRec n).run = .stopped ∧
          Told s t (.setState n .starting .stopped .startEnded none s.engine.cycleNo)) ∧
        (o ≠ .accepted → mark = false → attempt < allowed →
          (t.setRec n).run = .starting (attempt + 1) x.crankAttempts none false ∧
          ((t.setRec n).due = some .start ∨ (t.setRec n).place = .queued .start)) ∧
        (o ≠ .accepted → mark = false → allowed ≤ attempt → (t.setRec n).run = .fault .failedStart ∧
          Told s t (.setState n .starting .fault .failedStart (some attempt) s.engine.cycleNo))) ∧
      (q.command.code = .stop → (s.setRec n).run = .stopping → running →
        (t.setRec n).place = .free ∧ (o = .accepted → (t.setRec n).run = .stopping) ∧
        (o ≠ .accepted → (t.setRec n).run = .online ∧
          Told s t (.setState n .stopping .online .stopFailed none s.engine.cycleNo))) := by
  intro idle running
  obtain ⟨t, run, replied⟩ := exec_replySlot slot received deferred
  refine ⟨t, run, fun attempt allowed crank mark code starting form => ?_, fun code stopping form => ?_⟩
  · obtain ⟨u, answered⟩ := answered_of replied form
    have failing (h : o ≠ .accepted) : Failed o := answered.known.resolve_left h
    have run' : ((u.putOutstanding none).setRec n).run = .starting attempt allowed crank mark :=
      (answered.seen.waits n due).run.trans starting
    have cycle : (u.putOutstanding none).engine.cycleNo = s.engine.cycleNo := answered.seen.cycle
    have set := answered_set answered origin entry due
    have told {body : NoticeBody} := answered_told (notice := body) answered
    have waits (run : (∃ attempt allowed crank mark,
          (((u.putOutstanding none).returnOutcome q.command o).setRec n).run = .starting attempt allowed crank mark) ∨
        (((u.putOutstanding none).returnOutcome q.command o).setRec n).run = .stopped ∨
        ∃ why, (((u.putOutstanding none).returnOutcome q.command o).setRec n).run = .fault why) :
        WaitKept n ((u.putOutstanding none).returnOutcome q.command o) t :=
      concluded_waits answered.concluded fun b ⟨engine, power, sensor, alarm, eq, off⟩ => waits_setBody eq (.inl ⟨off, run⟩)
    generalize (u.putOutstanding none).returnOutcome q.command o = v at set told waits
    refine ⟨fun accepted => ?_, fun refused marked => ?_, fun refused clear left => ?_, fun refused clear spent => ?_⟩
    · obtain ⟨cranks, free⟩ := set.cranks attempt allowed crank mark code run' accepted
      have kept := waits (.inl ⟨_, _, _, _, cranks⟩)
      exact ⟨kept.run.trans cranks, kept.place.trans free⟩
    · obtain ⟨stopped, -, raises⟩ := set.marked attempt allowed crank code (marked ▸ run') (failing refused)
      exact ⟨(waits (.inr (.inl stopped))).run.trans stopped, told (cycle ▸ raises)⟩
    · obtain ⟨next, asked⟩ := set.again attempt allowed crank code (clear ▸ run') (failing refused) left
      have kept := waits (.inl ⟨_, _, _, _, next⟩)
      exact ⟨kept.run.trans next, asked.imp kept.due.trans kept.place.trans⟩
    · obtain ⟨fault, raises⟩ := set.failed attempt allowed crank code (clear ▸ run') (failing refused) spent
      exact ⟨(waits (.inr (.inr ⟨_, fault⟩))).run.trans fault, told (cycle ▸ raises)⟩
  · obtain ⟨u, answered⟩ := answered_of replied form
    have failing (h : o ≠ .accepted) : Failed o := answered.known.resolve_left h
    have run' : ((u.putOutstanding none).setRec n).run = .stopping := (answered.seen.waits n due).run.trans stopping
    have cycle : (u.putOutstanding none).engine.cycleNo = s.engine.cycleNo := answered.seen.cycle
    have set := answered_set answered origin entry due
    have told {body : NoticeBody} := answered_told (notice := body) answered
    have known := answered.known
    have waits (run : (((u.putOutstanding none).returnOutcome q.command o).setRec n).run = .stopping ∨
        (((u.putOutstanding none).returnOutcome q.command o).setRec n).run = .online) :
        WaitKept n ((u.putOutstanding none).returnOutcome q.command o) t :=
      concluded_waits answered.concluded fun b ⟨power, sensor, alarm, eq⟩ => waits_setBody eq (.inr ⟨rfl, run⟩)
    generalize (u.putOutstanding none).returnOutcome q.command o = v at set told waits
    rcases known with accepted | failed
    · obtain ⟨stays, free⟩ := set.stops code run' accepted
      have kept := waits (.inl stays)
      exact ⟨kept.place.trans free, fun _ => kept.run.trans stays, fun other => absurd accepted other⟩
    · obtain ⟨online, free, raises⟩ := set.serves code run' failed
      have kept := waits (.inr online)
      exact ⟨kept.place.trans free, fun accepted => absurd accepted failed.refused, fun _ => ⟨kept.run.trans online, told (cycle ▸ raises)⟩⟩

/-! ### Points (R134, R137, R138) -/

theorem positions_pointOutcome (s : State) (p : PointNo) (code : Code) (o : CommandOutcome) (k : PointNo) :
    ((s.pointOutcome p code o).pointRec k).position = (s.pointRec k).position := by
  unfold State.pointOutcome
  dsimp only
  have free : ((s.modPoint p fun r => { r with place := .free }).pointRec k).position = (s.pointRec k).position :=
    (NewsKeeps.modPoint s p).positions k
  generalize (s.modPoint p fun r => { r with place := .free }) = v at free ⊢
  refine Eq.trans ?_ free
  split
  next q _ =>
    split
    · unfold State.applySeqOutcome
      split
      · exact (NewsKeeps.endSequence v p _ _).positions k
      · exact (NewsKeeps.putSeq v p _).positions k
      all_goals
        split
        · exact (NewsKeeps.endSequence v p _ _).positions k
        · exact (NewsKeeps.enterRecovering v p _ _).positions k
        · exact (NewsKeeps.endSequence v p _ _).positions k
        all_goals rfl
    · rfl
  · rfl

theorem positions_returnOutcome (origin : q.command.origin = .changeover p) (s : State) (o : CommandOutcome) (k : PointNo) :
    ((s.returnOutcome q.command o).pointRec k).position = (s.pointRec k).position := by
  rw [returnOutcome_point origin]
  exact ((NewsKeeps.tryEnqueuePoint _ p).positions k).trans (positions_pointOutcome s p q.command.code o k)

/-- A report of the position that the point has gives its selector and nothing more (R125). -/
theorem changeReport_known {position : ReportedPos} (known : mapped position = (s.pointRec p).position) (a : Addr)
    (selector : Selector) : s.changeReport a (p.val + 1) position selector = s ∨
      s.changeReport a (p.val + 1) position selector = s.modPoint p fun r => { r with selector := some selector } := by
  have pos : position.pos = mapped position := by cases position <;> rfl
  unfold State.changeReport
  rw [numbered_succ]
  dsimp only
  split
  · exact .inl rfl
  · split
    · refine .inr (if_pos ?_)
      rw [State.modPoint_read, pos]
      exact known.symm
    · exact .inl rfl

theorem Alike.refl (p : PointNo) (s : State) : Alike p s s := .of_points rfl rfl rfl rfl rfl

theorem Alike.trans (h : Alike p s t) (k : Alike p t u) : Alike p s u :=
  ⟨k.point.trans h.point, fun i hi => (k.others i hi).trans (h.others i hi), k.sets.trans h.sets, k.queue.trans h.queue,
    k.notices.trans h.notices, k.cycle.trans h.cycle⟩

theorem alike_selector (p : PointNo) (s : State) (selector : Selector) :
    Alike p s (s.modPoint p fun r => { r with selector := some selector }) :=
  ⟨by rw [State.modPoint_read], fun _ hk => State.modPoint_other s p _ hk, rfl, rfl, rfl, rfl⟩

theorem concluded_alike (h : Concluded a e leave body x t) (kept : ∀ b, body b → Alike p x (x.handBody a e b leave)) :
    Alike p x t := by
  cases h with
  | missed => exact .of_points (by rfl) (by rfl) (by rfl) (startTx_notices x.port) (by rfl)
  | valid r form =>
    obtain ⟨line, owners⟩ := passed_fields (x.handBody a e r.body leave) a e r.raw
    simp only [Prod.mk.injEq] at line owners
    obtain ⟨-, -, -, -, queue, cycle, notices⟩ := line
    obtain ⟨sets, points, -, -⟩ := owners
    exact Alike.trans (kept r.body form) (.of_points points sets queue notices cycle)

theorem seen_alike (h : Seen s u a) (far : FarFromLost s a) : Alike p (u.putOutstanding none) s := by
  obtain ⟨⟨sets, -, -, points⟩, queue, notices⟩ := h.far far
  exact .of_points points.symm sets.symm queue.symm notices.symm h.cycle.symm

/-- What O28 says of a sequence. -/
theorem point_answered (a : Addr) (e : UnitEntry) (q : Outstanding) (p : PointNo) (x : PointEntry) (y : Sequence) (o : CommandOutcome)
    (received : SlotInput) (deferred : List TimedEvent) (s : State) (slot : ReplySlotOf s a e q) (far : FarFromLost s a)
    (origin : q.command.origin = .changeover p) (entry : s.pointEntry p = some x) (live : (s.pointRec p).seq = some y)
    (due : (s.pointRec p).due = none) (awaited : awaitedCode y = some q.command.code)
    (returned : Returned a e received o (fun body => e.owner = p.val + 1 ∧ ∃ position selector,
      body = .change position selector ∧ mapped position = (s.pointRec p).position)) :
    let back := { y with phase := .recovering, recovery := some .closeFailed, counter := .none }
    ∃ t, exec (.slotEnd received deferred) s = .next t ∧
      (o = .accepted → (t.pointRec p).seq = some { y with counter := .confirm x.confirmTimeout } ∧
        (t.pointRec p).place = .free) ∧
      (o ≠ .accepted → y.phase = .opening → Ended (freed s p) t p y (outcomeOf y.abort)) ∧
      (o ≠ .accepted → y.phase = .closing → Restorable s y → (t.pointRec p).seq = some back) ∧
      (o ≠ .accepted → y.phase = .closing → ¬ Restorable s y → Ended (freed s p) t p back .dark) ∧
      (o ≠ .accepted → y.phase = .recovering → Ended (freed s p) t p y .dark) := by
  intro back
  obtain ⟨t, run, replied⟩ := exec_replySlot slot received deferred
  obtain ⟨u, answered⟩ := answered_of replied returned
  have before : Alike p (u.putOutstanding none) s := seen_alike answered.seen far
  have point : (u.putOutstanding none).pointRec p = s.pointRec p := by
    have points := (answered.seen.far far).1.2.2.2
    rw [State.pointRec, State.putOutstanding, points]
    rfl
  have entry' : (u.putOutstanding none).pointEntry p = some x := by
    have tables : (u.putOutstanding none).tables = s.tables := answered.seen.tables
    rw [State.pointEntry, tables]
    exact entry
  have known := answered.known
  have position := positions_returnOutcome origin (u.putOutstanding none) o p
  have after : Alike p ((u.putOutstanding none).returnOutcome q.command o) t :=
    concluded_alike answered.concluded fun b ⟨owner, reported, selector, form, same⟩ => by
      have report : ((u.putOutstanding none).returnOutcome q.command o).handBody a e b
          (fun n => deferred.contains (.discrepancy n)) =
          ((u.putOutstanding none).returnOutcome q.command o).changeReport a (p.val + 1) reported selector := by
        rw [form, ← owner]
        rfl
      rw [report]
      rcases changeReport_known (s := (u.putOutstanding none).returnOutcome q.command o) (p := p)
        (by rw [position, point]; exact same) a selector with kept | kept
      · rw [kept]
        exact Alike.refl p _
      · rw [kept]
        exact alike_selector p _ selector
  rw [← point] at live due
  refine ⟨t, run, fun accepted => ?_, ?_⟩
  · subst accepted
    have loaded := pointAccepted (s := u.putOutstanding none) origin entry' live due awaited
    have seq := (congrArg PointRec.seq after.point :)
    have place := (congrArg PointRec.place after.point :)
    dsimp only at seq place
    rw [loaded] at seq place
    exact ⟨seq, place⟩
  · have failing (refused : o ≠ .accepted) := pointUnanswered_alike
      (pointFailed (s := u.putOutstanding none) origin live due awaited (known.resolve_left refused)) before after
    exact ⟨fun refused => (failing refused).opening, fun refused => (failing refused).restoring,
      fun refused => (failing refused).lost, fun refused => (failing refused).recovering⟩

/-! ### Meters (R110, R119) -/

/-- What a session's end or grant reads of a meter and of the delivered totals. -/
structure MeterKept (m : MeterNo) (s t : State) : Prop where
  session : (t.meter m).session = (s.meter m).session
  promoted : (t.meter m).promoted = (s.meter m).promoted
  place : (t.meter m).place = (s.meter m).place
  due : (t.meter m).due = (s.meter m).due
  tanks : t.tanks = s.tanks

theorem MeterKept.refl (m : MeterNo) (s : State) : MeterKept m s s := ⟨rfl, rfl, rfl, rfl, rfl⟩

theorem MeterKept.trans (h : MeterKept m s t) (k : MeterKept m t u) : MeterKept m s u :=
  ⟨k.session.trans h.session, k.promoted.trans h.promoted, k.place.trans h.place, k.due.trans h.due, k.tanks.trans h.tanks⟩

theorem MeterKept.of_owners (meters : t.meters = s.meters) (tanks : t.tanks = s.tanks) : MeterKept m s t := by
  have read : t.meter m = s.meter m := by rw [State.meter, meters]; rfl
  exact ⟨by rw [read], by rw [read], by rw [read], by rw [read], tanks⟩

theorem MeterKept.modMeter (m : MeterNo) (s : State) {f : MeterRec → MeterRec} (session : ∀ r, (f r).session = r.session)
    (promoted : ∀ r, (f r).promoted = r.promoted) (place : ∀ r, (f r).place = r.place) (due : ∀ r, (f r).due = r.due) :
    MeterKept m s (s.modMeter m f) := by
  have read := State.modMeter_read s m f
  exact ⟨by rw [read, session], by rw [read, promoted], by rw [read, place], by rw [read, due], rfl⟩

/-- The state without the request mark of its meter, where the meter does not ask (R109). -/
def unmarked (s : State) (m : MeterNo) : State := s.modMeter m fun r => { r with requestMark := none }

theorem unmarked_kept (s : State) (m : MeterNo) : MeterKept m s (unmarked s m) :=
  .modMeter m s (f := fun r => { r with requestMark := none }) (fun _ => rfl) (fun _ => rfl) (fun _ => rfl) (fun _ => rfl)

/-- An IDLE report without a chunk changes nothing of an IDLE session (R109, R118). -/
theorem fuelReport_idle {f : FuelBody} (idle : (s.meter m).session = none) (state : f.state = .idle) (chunk : f.chunk = none)
    (a : Addr) : MeterKept m s (s.fuelReport a (m.val + 1) f) := by
  have report : s.fuelReport a (m.val + 1) f = (unmarked s m).modMeter m fun r => { r with lastChunk := none } := by
    have session : ((unmarked s m).meter m).session = none := (unmarked_kept s m).session.trans idle
    have entered : s.fuelReport a (m.val + 1) f = (unmarked s m).idleReport m a f := by
      unfold State.fuelReport
      rw [numbered_succ]
      dsimp only
      rw [state, if_neg (by nofun)]
      unfold unmarked at session
      rw [session]
      rfl
    rw [entered]
    unfold State.idleReport
    dsimp only
    rw [chunk, state]
    rfl
  rw [report]
  exact (unmarked_kept s m).trans (.modMeter m _ (f := fun r => { r with lastChunk := none }) (fun _ => rfl) (fun _ => rfl)
    (fun _ => rfl) (fun _ => rfl))

/-- A DISPENSING report without an increase changes nothing of its session (R111). -/
theorem fuelReport_dispensing {f : FuelBody} (session : (s.meter m).session = some z) (phase : z.phase = .dispensing)
    (state : f.state = .dispensing) (volume : f.volume ≤ z.highWater) (a : Addr) :
    MeterKept m s (s.fuelReport a (m.val + 1) f) := by
  have session' : ((unmarked s m).meter m).session = some z := (unmarked_kept s m).session.trans session
  have report : s.fuelReport a (m.val + 1) f = unmarked s m := by
    have entered : s.fuelReport a (m.val + 1) f = (unmarked s m).dispensingReport m a z f := by
      unfold State.fuelReport
      rw [numbered_succ]
      dsimp only
      rw [state, if_neg (by nofun)]
      unfold unmarked at session'
      rw [session']
      dsimp only
      rw [phase]
      rfl
    rw [entered]
    unfold State.dispensingReport State.bookDelivery
    rw [if_neg (Nat.not_lt.mpr volume), state]
  rw [report]
  exact unmarked_kept s m

theorem concluded_meter (h : Concluded a e leave body x t) (kept : ∀ b, body b → MeterKept m x (x.handBody a e b leave)) :
    MeterKept m x t := by
  cases h with
  | missed => exact .of_owners (by rfl) (by rfl)
  | valid r form =>
    obtain ⟨-, owners⟩ := passed_fields (x.handBody a e r.body leave) a e r.raw
    simp only [Prod.mk.injEq] at owners
    obtain ⟨-, -, meters, tanks⟩ := owners
    exact (kept r.body form).trans (.of_owners meters tanks)

/-- What the end of a session by an outcome leaves at the end of the slot. -/
theorem answered_session {d : SessionEnd} (h : Answered s t a e q leave o
      (fun body => e.owner = m.val + 1 ∧ ∃ f, body = .fuel f ∧ f.state = .idle ∧ f.chunk = none) u) (far : FarFromLost s a)
    (ended : SessionAnswered (u.putOutstanding none) ((u.putOutstanding none).returnOutcome q.command o) m z d) :
    ((t.meter m).session = none ∧ (t.meter m).promoted = false ∧ (t.meter m).place = .free ∧ (t.meter m).due = false) ∧
      Told s t (endedBody m z d) ∧
      (z.phase ≠ .granting → d.result ≠ .complete →
        (t.tank z.set).delivered = min (2 ^ 64 - 1) ((s.tank z.set).delivered + z.live)) ∧
      (z.phase = .granting → (t.tank z.set).delivered = (s.tank z.set).delivered) := by
  have told := answered_told h ended.raises
  obtain ⟨idle, promoted, free, due⟩ := ended.meter
  have kept : MeterKept m ((u.putOutstanding none).returnOutcome q.command o) t :=
    concluded_meter h.concluded fun b ⟨owner, f, form, state, chunk⟩ => by
      subst form
      have report := fuelReport_idle idle state chunk a
      rw [← owner] at report
      exact report
  have tanks : (u.putOutstanding none).tanks = s.tanks := (h.seen.far far).1.2.1
  have before (k : SetNo) : (u.putOutstanding none).tank k = s.tank k := by rw [State.tank, tanks]; rfl
  have after (k : SetNo) : t.tank k = ((u.putOutstanding none).returnOutcome q.command o).tank k := by
    rw [State.tank, kept.tanks]; rfl
  refine ⟨⟨kept.session.trans idle, kept.promoted.trans promoted, kept.place.trans free, kept.due.trans due⟩, told,
    fun delivering cut => ?_, fun granting => ?_⟩
  · rw [after, ended.live delivering cut, before]
  · rw [after, ended.plain granting, before]

/-- What O28 says of a session. -/
theorem meter_answered (a : Addr) (e : UnitEntry) (q : Outstanding) (m : MeterNo) (x : Session) (o : CommandOutcome)
    (received : SlotInput) (deferred : List TimedEvent) (s : State) (slot : ReplySlotOf s a e q) (far : FarFromLost s a)
    (origin : q.command.origin = .fuel m) (session : (s.meter m).session = some x) :
    let ending := Returned a e received o fun body => e.owner = m.val + 1 ∧ ∃ f,
      body = .fuel f ∧ f.state = .idle ∧ f.chunk = none
    let flowing := Returned a e received o fun body => e.owner = m.val + 1 ∧ ∃ f,
      body = .fuel f ∧ f.state = .dispensing ∧ f.volume ≤ x.highWater
    ∃ t, exec (.slotEnd received deferred) s = .next t ∧
      (q.command.code = .permit → x.phase = .granting → o = .accepted → flowing →
        (t.meter m).session = some { x with phase := .dispensing } ∧ (t.meter m).promoted = true) ∧
      (q.command.code = .permit → x.phase = .granting → o ≠ .accepted → ending →
        (t.meter m).session = none ∧ (t.meter m).promoted = false ∧ (t.meter m).place = .free ∧
        (t.meter m).due = false ∧ (t.tank x.set).delivered = (s.tank x.set).delivered ∧
        (x.cancel = true → Told s t (.delivery ⟨m, x.set.val + 1, .cancelled, x.live, none, none, none, none⟩)) ∧
        (x.cancel = false → o = .noAnswer →
          Told s t (.delivery ⟨m, x.set.val + 1, .noAnswer, x.live, none, none, none, none⟩)) ∧
        (∀ why, x.cancel = false → o = .refused why →
          Told s t (.delivery ⟨m, x.set.val + 1, .refused, x.live, some why, none, none, none⟩))) ∧
      (q.command.code = .revoke → x.phase = .dispensing → x.cancel = true → (s.meter m).due = false → ending →
        (t.meter m).session = none ∧ (t.meter m).promoted = false ∧
        (t.tank x.set).delivered = min (2 ^ 64 - 1) ((s.tank x.set).delivered + x.live) ∧
        Told s t (.delivery ⟨m, x.set.val + 1, .cancelled, x.live, none, none, some o, none⟩)) := by
  intro ending flowing
  obtain ⟨t, run, replied⟩ := exec_replySlot slot received deferred
  have meter {u : State} (seen : Seen s u a) : (u.putOutstanding none).meter m = s.meter m := by
    have meters : (u.putOutstanding none).meters = s.meters := (seen.far far).1.2.2.1
    rw [State.meter, meters]
    rfl
  refine ⟨t, run, fun permit phase accepted form => ?_, fun permit phase refused form => ?_,
    fun revoke phase cancel due form => ?_⟩
  · subst accepted
    obtain ⟨u, answered⟩ := answered_of replied form
    have granted := permitAccepted (s := u.putOutstanding none) origin (by rw [meter answered.seen]; exact session) permit phase
    have kept : MeterKept m ((u.putOutstanding none).returnOutcome q.command .accepted) t :=
      concluded_meter answered.concluded fun b ⟨owner, f, form, state, volume⟩ => by
        subst form
        have report := fuelReport_dispensing granted.1 rfl state volume a
        rw [← owner] at report
        exact report
    exact ⟨kept.session.trans granted.1, kept.promoted.trans granted.2⟩
  · obtain ⟨u, answered⟩ := answered_of replied form
    have ended := permitFailed (s := u.putOutstanding none) origin (by rw [meter answered.seen]; exact session) permit phase
      (answered.known.resolve_left refused)
    obtain ⟨⟨idle, promoted, free, due⟩, told, -, plain⟩ := answered_session answered far ended
    refine ⟨idle, promoted, free, due, plain phase, fun cancel => ?_, fun kept none => ?_, fun why kept refusing => ?_⟩
    · have body : permitEnd x.cancel o = { result := .cancelled } := by
        rw [cancel]
        rcases answered.known with accepted | failed
        · exact absurd accepted refused
        · cases o with
          | accepted => exact absurd rfl failed.refused
          | restart => exact absurd rfl failed.cycling
          | _ => rfl
      rw [body] at told
      exact told
    · rw [kept, none] at told
      exact told
    · rw [kept, refusing] at told
      exact told
  · obtain ⟨u, answered⟩ := answered_of replied form
    have ended := revokeAnswered (s := u.putOutstanding none) origin (by rw [meter answered.seen]; exact session) revoke phase cancel
      (by rw [meter answered.seen]; exact due) (o := o) fun restart => by
        rcases answered.known with accepted | failed
        · exact absurd (accepted.symm.trans restart) nofun
        · exact failed.cycling restart
    obtain ⟨⟨idle, promoted, -, -⟩, told, live, -⟩ := answered_session answered far ended
    exact ⟨idle, promoted, live (by rw [phase]; nofun) nofun, told⟩

end

/-- Settles O28: the outcome of a reply slot at each origin. -/
theorem replySlotEndsTheCommand : Obligations.ReplySlotEndsTheCommand :=
  ⟨office_answered, set_answered, point_answered, meter_answered⟩

end Sys2Proof.Replies
end

section
/-! SUPPORT. The slot of a unit that is not LOST, no command outstanding: the body of its report and nothing else (R26, R28, R31, R194); a SET
report of it (R75). -/

namespace Sys2Proof.PlainSlots

open Sys2Proof Sys2Proof.Machine Sys2Proof.Stated Sys2Proof.StopAndClear Sys2Proof.Sequencing Sys2Proof.SetLoading
open Sys2Proof.MissedSlots Sys2Proof.LinkLoss Sys2Proof.BodySteps Sys2Proof.ReplySlots Sys2Proof.UnitLoading Sys2Proof.Slots
open Sys2Proof.Hearing Sys2Proof.OwnerSteps

section
variable {s t u v x : State} {a : Addr} {e : UnitEntry} {r : FieldReport} {received : SlotInput} {clock : Option Nat} {age : Nat}

/-- The state in which the body of a report meets its owner: the slot ended, its unit PRESENT (R19, R28). -/
def slotHeard (s : State) (a : Addr) (clock : Option Nat) (age : Nat) : State := linkHeard (slotBegun s clock age) a

theorem exec_plainSlot_at (slot : SlotOf s a e) (idle : s.engine.outstanding = none) (known : (s.link a).state ≠ some .lost)
    (valid : ValidFrom a e received r) (deferred : List TimedEvent) : exec (.slotEnd received deferred) s = .next
      (((slotHeard s a (slotMoment s).billing.clock (slotMoment s).engine.age).handBody a e r.body
        fun n => deferred.contains (.discrepancy n)).forward a e r.raw).startTx := by
  have reply : s.engine.atReplySlot = false := by simp [Engine.atReplySlot, idle]
  have up (clock : Option Nat) (age : Nat) : (slotBegun s clock age).linkUp a = slotHeard s a clock age := linkUp_known known
  have answers (clock : Option Nat) (age : Nat) : answered (slotHeard s a clock age) false r = slotHeard s a clock age := rfl
  rw [exec_validSlot_at slot valid deferred, reply, validSlot_eq, up, answers]

theorem exec_plainSlot (slot : SlotOf s a e) (idle : s.engine.outstanding = none) (known : (s.link a).state ≠ some .lost)
    (valid : ValidFrom a e received r) (deferred : List TimedEvent) : ∃ clock age, exec (.slotEnd received deferred) s = .next
      (((slotHeard s a clock age).handBody a e r.body fun n => deferred.contains (.discrepancy n)).forward a e r.raw).startTx :=
  ⟨_, _, exec_plainSlot_at slot idle known valid deferred⟩

/-- What a valid slot does beside the body of its report: the link, the forward count, the copy, and the tables that stay. -/
structure PlainEnd (s x t : State) (a : Addr) (e : UnitEntry) (r : FieldReport) : Prop where
  present : (t.link a).state = some .present
  misses : (t.link a).misses = 0
  forwarded : Forwarded s t a e r
  tables : t.tables = s.tables
  site : t.site = s.site
  pending : t.pending = s.pending
  schedule : t.schedule = s.schedule
  tariff : t.tariff = s.tariff
  rest : ∃ links port, t = { x with engine := { x.engine with links }, port } ∧ port.notices = x.port.notices
  works : Works x t

theorem plainEnd_of (step : BodyStep (slotHeard s a clock age) x) : PlainEnd s x (x.forward a e r.raw).startTx a e r := by
  have heard : (slotHeard s a clock age).link a = { s.link a with state := some .present, misses := 0 } :=
    State.modLink_read (slotBegun s clock age) a _
  have link : x.link a = { s.link a with state := some .present, misses := 0 } := (link_of_bodyStep step a).trans heard
  have forwarded := forwarded_of (s := s) (v := x) (a := a) (e := e) (r := r) (congrArg LinkRec.forward link :)
    (congrArg Port.copies step.port :) (congrArg Port.copyDrops step.port :) (congrArg Engine.cycleNo step.engine :)
  obtain ⟨passed, -⟩ := forward_passed x a e r.raw
  generalize (x.forward a e r.raw).startTx = t at passed forwarded
  obtain ⟨forward, own⟩ := passed.own
  rw [link] at own
  have works := works_passed passed
  have notices := passed.notices
  obtain ⟨links, port, rfl⟩ := passed.rest
  exact ⟨(congrArg LinkRec.state own :), (congrArg LinkRec.misses own :), forwarded, step.tables, step.site, step.pending,
    step.schedule, step.tariff, ⟨links, port, rfl, notices⟩, works⟩

/-- A notice that the event raises first of all is told, whatever follows. -/
theorem told_firstChange {n : SetNo} {run : RunState} {why : StateReason} {attempts : Option Nat}
    (notices : u.port.notices = s.port.notices) (later : Works (u.changeRun n run why attempts) t) :
    Told s t (.setState n (u.setRec n).run.name run.name why attempts u.engine.cycleNo) := by
  have changed := changeRun_eq u n run why attempts
  have news : Works ((runSet u n run).raise (.setState n (u.setRec n).run.name run.name why attempts u.engine.cycleNo))
      (u.changeRun n run why attempts) := by
    rw [changed]
    exact .tellSequencers _ n
  exact told_first ((congrArg Port.notices (runSet_port u n run)).trans notices) (news.trans later)

end

end Sys2Proof.PlainSlots
end

section
/-! SUPPORT. What a SET report makes of the run state of its set, and the whole of its slot (R75, R77, R81 to R83, R86, R87, R97). -/

namespace Sys2Proof.SetReported

open Sys2Proof Sys2Proof.Machine Sys2Proof.Stated Sys2Proof.StopAndClear Sys2Proof.Sequencing Sys2Proof.SetLoading
open Sys2Proof.MissedSlots Sys2Proof.LinkLoss Sys2Proof.BodySteps Sys2Proof.ReplySlots Sys2Proof.UnitLoading Sys2Proof.Slots
open Sys2Proof.Hearing Sys2Proof.OwnerSteps Sys2Proof.PlainSlots Sys2Proof.SetApplying Sys2Proof.SetReports Sys2Proof.SetReporting
open Sys2Proof.Starting Sys2Proof.RunCounters Sys2Proof.Outcomes

section
variable {s t u v : State} {n : SetNo} {x : SetEntry} {engine : EngineState}

/-! ### The run state before and after the report meets it -/

/-- The state in which a report meets the run state of its set, by the state before the slot. -/
structure Begins (n : SetNo) (s u : State) : Prop where
  run : (u.setRec n).run = (s.setRec n).run
  stopCycle : (u.setRec n).stopCycle = (s.setRec n).stopCycle
  starts : (u.setRec n).hire.starts = (s.setRec n).hire.starts
  notices : u.port.notices = s.port.notices
  cycle : u.engine.cycleNo = s.engine.cycleNo
  serves : u.inService n = s.inService n
  entry : u.setEntry n = s.setEntry n

/-- The end of the slot, by the state that the report has left of the run state. -/
structure Ends (n : SetNo) (v t : State) : Prop where
  run : (t.setRec n).run = (v.setRec n).run
  due : (t.setRec n).due = (v.setRec n).due
  place : (t.setRec n).place = (v.setRec n).place
  stopCycle : (t.setRec n).stopCycle = (v.setRec n).stopCycle
  localStart : (t.setRec n).localStart = (v.setRec n).localStart
  starts : (t.setRec n).hire.starts = (v.setRec n).hire.starts
  works : Works v t

/-- A run state change that a report makes first of all, with its notice. -/
theorem told_change (b : Begins n s u) {run : RunState} {why : StateReason} {attempts : Option Nat}
    (later : Works (u.changeRun n run why attempts) t) :
    Told s t (.setState n (s.setRec n).run.name run.name why attempts s.engine.cycleNo) := by
  have told := told_firstChange b.notices later
  rwa [b.run, b.cycle] at told

theorem changeRun_run (s : State) (n : SetNo) (run : RunState) (why : StateReason) (attempts : Option Nat) :
    ((s.changeRun n run why attempts).setRec n).run = run := (State.changeRun_run n s run why attempts).1

theorem changeRun_stopCycle (s : State) (n : SetNo) (run : RunState) (why : StateReason) (attempts : Option Nat) :
    ((s.changeRun n run why attempts).setRec n).stopCycle = (s.setRec n).stopCycle :=
  (RunFrame.changeRun n s run why attempts).figures.1

/-- A stop that no one asked for (R87). -/
theorem unexpectedStop_done (s : State) (n : SetNo) (c : CycleNo) :
    ((s.unexpectedStop n c).setRec n).run = .fault .unexpectedStop ∧ ((s.unexpectedStop n c).setRec n).stopCycle = some c := by
  have stops : s.unexpectedStop n c =
      (s.modSet n fun r => { r with stopCycle := some c }).changeRun n (.fault .unexpectedStop) .unexpectedStop none := rfl
  have read := State.modSet_read s n fun r => { r with stopCycle := some c }
  rw [stops]
  generalize (s.modSet n fun r => { r with stopCycle := some c }) = w at read ⊢
  exact ⟨changeRun_run .., (changeRun_stopCycle ..).trans (by rw [read])⟩

/-! ### By the run state (R77, R87) -/

theorem applyReport_unseen {c : CycleNo} (run : (u.setRec n).run = .unseen) :
    ((u.applyReport n x engine c).setRec n).run =
      match engine with
      | .running => .online
      | .stopped => .stopped
      | .faulted => .fault .setAlarm
      | .cranking => .unseen := by
  unfold State.applyReport State.enterFault
  rw [run]
  cases engine with
  | cranking => exact run
  | running | stopped | faulted => exact changeRun_run ..

/-- An alarm of a set that can have one (R87). -/
theorem applyReport_alarm {c : CycleNo} (h : (u.setRec n).run = .stopped ∨ (u.setRec n).run = .stopping ∨
      (u.setRec n).run = .online ∨ (∃ k, (u.setRec n).run = .warming k) ∨ ∃ k, (u.setRec n).run = .cooling k) :
    u.applyReport n x .faulted c = u.changeRun n (.fault .setAlarm) .setAlarm none := by
  unfold State.applyReport
  rcases h with run | run | run | ⟨k, run⟩ | ⟨k, run⟩
  all_goals
    rw [run]
    rfl

theorem serving_reported (b : Begins n s u) (f : Ends n (u.applyReport n x engine s.engine.cycleNo) t)
    (run : (s.setRec n).run = .online ∨ (∃ c, (s.setRec n).run = .warming c) ∨ ∃ c, (s.setRec n).run = .cooling c) :
    (engine = .stopped ∨ engine = .cranking → (t.setRec n).run = .fault .unexpectedStop ∧
      (t.setRec n).stopCycle = some s.engine.cycleNo) ∧
    (engine = .faulted → (t.setRec n).run = .fault .setAlarm ∧ (t.setRec n).stopCycle = (s.setRec n).stopCycle) ∧
    (engine = .running → (t.setRec n).run = (s.setRec n).run) := by
  rw [← b.run] at run
  refine ⟨fun stopped => ?_, fun faulted => ?_, fun running => ?_⟩
  · have applied : u.applyReport n x engine s.engine.cycleNo = u.unexpectedStop n s.engine.cycleNo := by
      unfold State.applyReport
      rcases run with run | ⟨c, run⟩ | ⟨c, run⟩ <;> rcases stopped with rfl | rfl <;> rw [run]
    obtain ⟨fault, cycle⟩ := unexpectedStop_done u n s.engine.cycleNo
    rw [f.run, f.stopCycle, applied]
    exact ⟨fault, cycle⟩
  · subst faulted
    rw [f.run, f.stopCycle, applyReport_alarm (.inr (.inr run))]
    exact ⟨changeRun_run .., (changeRun_stopCycle ..).trans b.stopCycle⟩
  · have applied : u.applyReport n x engine s.engine.cycleNo = u := by
      subst running
      unfold State.applyReport
      rcases run with run | ⟨c, run⟩ | ⟨c, run⟩ <;> rw [run]
    rw [f.run, applied, b.run]

theorem setLocalStart_done (s : State) (n : SetNo) : ((s.setLocalStart n).setRec n).localStart = true ∧
    ((s.setLocalStart n).setRec n).run = (s.setRec n).run ∧ ((s.setLocalStart n).setRec n).hire = (s.setRec n).hire := by
  unfold State.setLocalStart
  split
  next marked => exact ⟨marked, rfl, rfl⟩
  · have read := State.modSet_read s n fun r => { r with localStart := true }
    have same (body : NoticeBody) : ((s.modSet n fun r => { r with localStart := true }).raise body).setRec n =
        (s.modSet n fun r => { r with localStart := true }).setRec n := rfl
    rw [same, read]
    exact ⟨rfl, rfl, rfl⟩

theorem stopped_reported {c : CycleNo} (b : Begins n s u) (f : Ends n (u.applyReport n x engine c) t)
    (run : (s.setRec n).run = .stopped) :
    (engine = .running → (0 < x.warmUpLong → (t.setRec n).run = .warming x.warmUpLong) ∧
      (x.warmUpLong = 0 → (t.setRec n).run = .online) ∧ (t.setRec n).localStart = true ∧
      (t.setRec n).hire.starts = min (2 ^ 64 - 1) ((s.setRec n).hire.starts + 1)) ∧
    (engine = .faulted → (t.setRec n).run = .fault .setAlarm) ∧
    (engine = .stopped ∨ engine = .cranking → (t.setRec n).run = .stopped) := by
  have run' := b.run.trans run
  refine ⟨fun running => ?_, fun faulted => ?_, fun off => ?_⟩
  · subst running
    have applied : u.applyReport n x .running c = (u.enterWarming n x.warmUpLong .localStart).setLocalStart n := by
      unfold State.applyReport
      rw [run']
    obtain ⟨warming, hire, -⟩ := enterWarming_spec u n x.warmUpLong .localStart
    obtain ⟨flag, same, same'⟩ := setLocalStart_done (u.enterWarming n x.warmUpLong .localStart) n
    have starts : (t.setRec n).hire.starts = min (2 ^ 64 - 1) ((s.setRec n).hire.starts + 1) := by
      rw [f.starts, applied, same', hire, b.starts]
    rw [f.run, f.localStart, applied, same, warming]
    exact ⟨fun long => if_neg (Nat.ne_of_gt long), fun none => if_pos none, flag, starts⟩
  · subst faulted
    rw [f.run, applyReport_alarm (.inl run'), changeRun_run]
  · have applied : u.applyReport n x engine c = u := by
      unfold State.applyReport
      rcases off with rfl | rfl <;> rw [run']
    rw [f.run, applied, run']

/-! ### STARTING (R81 to R83) -/

/-- What follows the entry into WARMING in its event (R83). -/
theorem enterWarming_later (s : State) (n : SetNo) (c : Nat) (why : StateReason) :
    Works (s.changeRun n (.warming c) why) (s.enterWarming n c why) := by
  unfold State.enterWarming
  dsimp only
  have counted := (BodyStep.modHire n (s.changeRun n (.warming c) why) fun h => { h with starts := satAdd max64 h.starts 1 }).works
  generalize State.modHire _ n _ = w at counted ⊢
  split
  · exact counted.trans (.changeRun w n _ _ _)
  · exact counted

theorem enterWarming_stopCycle (s : State) (n : SetNo) (c : Nat) (why : StateReason) :
    ((s.enterWarming n c why).setRec n).stopCycle = (s.setRec n).stopCycle := (RunFrame.enterWarming n s c why).figures.1

theorem starting_warms {c : CycleNo} {attempt allowed load : Nat} {crank : Option Nat} {mark : Bool} (b : Begins n s u)
    (f : Ends n (u.applyReport n x .running c) t) (run : (s.setRec n).run = .starting attempt allowed crank mark)
    (goes : mark = false ∨ s.inService n = true) (loads : warmUpLoad x (s.setRec n).stopCycle c = load) :
    (0 < load → (t.setRec n).run = .warming load) ∧ (load = 0 → (t.setRec n).run = .online) ∧
      (t.setRec n).hire.starts = min (2 ^ 64 - 1) ((s.setRec n).hire.starts + 1) ∧
      (t.setRec n).stopCycle = (s.setRec n).stopCycle ∧
      Told s t (.setState n .starting .warming .running none s.engine.cycleNo) := by
  have applied : u.applyReport n x .running c = u.enterWarming n load .running := by
    have run' := b.run.trans run
    unfold State.applyReport
    rw [run']
    dsimp only
    unfold State.startSucceeds
    have stays : ¬ (mark && !u.inService n) = true := by
      rw [b.serves, Bool.and_eq_true, Bool.not_eq_true']
      rcases goes with clear | serves
      · exact fun h => absurd (h.1.symm.trans clear) nofun
      · exact fun h => absurd (serves.symm.trans h.2) nofun
    rw [if_neg stays, b.stopCycle, loads]
  obtain ⟨warming, hire, -⟩ := enterWarming_spec u n load .running
  have later := enterWarming_later u n load .running
  have told := told_change b (later.trans (applied ▸ f.works))
  have starts : (t.setRec n).hire.starts = min (2 ^ 64 - 1) ((s.setRec n).hire.starts + 1) := by
    rw [f.starts, applied, hire, b.starts]
  have cycle : (t.setRec n).stopCycle = (s.setRec n).stopCycle := by
    rw [f.stopCycle, applied, enterWarming_stopCycle, b.stopCycle]
  rw [run] at told
  rw [f.run, applied, warming]
  exact ⟨fun long => if_neg (Nat.ne_of_gt long), fun none => if_pos none, starts, cycle, told⟩

theorem starting_stops {c : CycleNo} {attempt allowed : Nat} {crank : Option Nat} (b : Begins n s u)
    (f : Ends n (u.applyReport n x .running c) t) (run : (s.setRec n).run = .starting attempt allowed crank true)
    (out : s.inService n = false) : (t.setRec n).run = .stopping ∧
      ((t.setRec n).due = some .stop ∨ (t.setRec n).place = .queued .stop) ∧
      (t.setRec n).hire.starts = (s.setRec n).hire.starts ∧ (t.setRec n).stopCycle = (s.setRec n).stopCycle ∧
      Told s t (.setState n .starting .stopping .running none s.engine.cycleNo) := by
  have applied : u.applyReport n x .running c = u.enterStopping n .running := by
    have run' := b.run.trans run
    unfold State.applyReport
    rw [run']
    dsimp only
    unfold State.startSucceeds
    exact if_pos (by rw [b.serves, out]; rfl)
  obtain ⟨stopping, asked, hire, -⟩ := enterStopping_idle (b.serves.trans out) .running
  have cycle := (RunFrame.enterStopping n u .running).figures.1
  have later : Works (u.changeRun n .stopping .running) (u.enterStopping n .running) := (BodyStep.makeDue _ n .stop).works
  have told := told_change b (later.trans (applied ▸ f.works))
  rw [run] at told
  rw [f.run, f.due, f.place, f.starts, f.stopCycle, applied, hire]
  exact ⟨stopping, asked, b.starts, cycle.trans b.stopCycle, told⟩

theorem warmUpLoad_eq {load : Nat} {stopCycle : Option CycleNo} {c : CycleNo}
    (h : ((∃ k, stopCycle = some k ∧ (c - k).toNat ≤ x.hotWindow) ∧ load = x.warmUpShort) ∨
      ((∀ k, stopCycle = some k → x.hotWindow < (c - k).toNat) ∧ load = x.warmUpLong)) : warmUpLoad x stopCycle c = load := by
  rcases h with ⟨⟨k, rfl, hot⟩, rfl⟩ | ⟨cold, rfl⟩
  · exact if_pos hot
  · cases stopCycle with
    | none => rfl
    | some k => exact if_neg (Nat.not_le.mpr (cold k rfl))

/-- A FAULTED report of a STARTING set (R81, R82). -/
theorem applyReport_faulted {c : CycleNo} {attempt allowed : Nat} {crank : Option Nat} {mark : Bool}
    (run : (u.setRec n).run = .starting attempt allowed crank mark) : u.applyReport n x .faulted c =
      if mark then u.changeRun n (.fault .setAlarm) .setAlarm none else u.endAttempt n := by
  unfold State.applyReport
  rw [run]
  rfl

theorem starting_reported {attempt allowed : Nat} {crank : Option Nat} {mark : Bool} (b : Begins n s u)
    (f : Ends n (u.applyReport n x engine s.engine.cycleNo) t) (entry : s.setEntry n = some x)
    (run : (s.setRec n).run = .starting attempt allowed crank mark) :
    StartReported s t n x engine attempt allowed mark ∧
      (engine = .stopped ∨ engine = .cranking → (t.setRec n).run = .starting attempt allowed crank mark) := by
  have run' := b.run.trans run
  have quiet (off : engine = .stopped ∨ engine = .cranking) : u.applyReport n x engine s.engine.cycleNo = u := by
    unfold State.applyReport
    rcases off with rfl | rfl <;> rw [run']
  refine ⟨⟨fun load running goes loads => ?_, fun running marked out => ?_, fun faulted marked => ?_,
    fun faulted clear left => ?_, fun faulted clear spent => ?_, ?_⟩, fun off => by rw [f.run, quiet off, run']⟩
  · subst running
    obtain ⟨warming, online, starts, -, told⟩ := starting_warms b f run goes (warmUpLoad_eq loads)
    exact ⟨warming, online, starts, told⟩
  · subst running marked
    obtain ⟨stopping, asked, starts, -, told⟩ := starting_stops b f run out
    exact ⟨stopping, asked, starts, told⟩
  · subst faulted marked
    have applied := applyReport_faulted (x := x) (c := s.engine.cycleNo) run'
    rw [if_pos rfl] at applied
    have told := told_change (t := t) b (run := .fault .setAlarm) (why := .setAlarm) (attempts := none) (applied ▸ f.works)
    rw [run] at told
    rw [f.run, applied, changeRun_run]
    exact ⟨rfl, told⟩
  · subst faulted clear
    have applied := applyReport_faulted (x := x) (c := s.engine.cycleNo) run'
    rw [if_neg Bool.false_ne_true] at applied
    obtain ⟨next, asked, -⟩ := (endAttempt_spec run').again rfl left
    rw [b.entry, entry] at next
    rw [f.run, f.due, f.place, applied]
    exact ⟨next, asked.imp_right And.left⟩
  · subst faulted clear
    have applied := applyReport_faulted (x := x) (c := s.engine.cycleNo) run'
    rw [if_neg Bool.false_ne_true, endAttempt_failed run' spent] at applied
    have told := told_change (t := t) b (run := .fault .failedStart) (why := .failedStart) (attempts := some attempt)
      (applied ▸ f.works)
    rw [run] at told
    rw [f.run, applied, changeRun_run]
    exact ⟨rfl, told⟩
  · have kept : ((u.applyReport n x engine s.engine.cycleNo).setRec n).stopCycle = (u.setRec n).stopCycle := by
      cases engine with
      | running =>
        have applied : u.applyReport n x .running s.engine.cycleNo = u.startSucceeds n x mark s.engine.cycleNo := by
          unfold State.applyReport
          rw [run']
        rw [applied]
        unfold State.startSucceeds
        split
        · exact (RunFrame.enterStopping n u _).figures.1
        · exact enterWarming_stopCycle ..
      | faulted =>
        rw [applyReport_faulted run']
        split
        · exact changeRun_stopCycle ..
        · exact (RunFrame.endAttempt n u).figures.1
      | stopped => rw [quiet (.inl rfl)]
      | cranking => rw [quiet (.inr rfl)]
    rw [f.stopCycle, kept, b.stopCycle]

/-! ### STOPPING and FAULT (R86, R87) -/

/-- A change to a run state that calls for no command leaves none due and none queued (R78). -/
theorem changeRun_dropped (s : State) (n : SetNo) {run : RunState} (calls : run.calledFor = none) (why : StateReason)
    (attempts : Option Nat) : ((s.changeRun n run why attempts).setRec n).due = none ∧
      ∀ c, ((s.changeRun n run why attempts).setRec n).place ≠ .queued c := by
  have read := State.modSet_read s n fun r => { r with run, overloadRun := 0 }
  have dropped : ((runSet s n run).setRec n).due = none ∧ ∀ c, ((runSet s n run).setRec n).place ≠ .queued c := by
    have entered : runSet s n run = (s.modSet n fun r => { r with run, overloadRun := 0 }).dropUncalled n := rfl
    rw [entered]
    generalize (s.modSet n fun r => { r with run, overloadRun := 0 }) = w at read
    have none (d : Option Code) : d.filter (fun c => some c = (w.setRec n).run.calledFor) = none := by
      rw [read, calls]
      cases d <;> simp
    unfold State.dropUncalled
    dsimp only
    rw [none]
    split
    next c queued =>
      rw [if_neg (by rw [read, calls]; nofun), State.modSet_read]
      exact ⟨rfl, nofun⟩
    next free =>
      rw [State.modSet_read]
      exact ⟨rfl, fun c queued => absurd (free.symm.trans queued) nofun⟩
    next sent =>
      rw [State.modSet_read]
      exact ⟨rfl, fun c queued => absurd (sent.symm.trans queued) nofun⟩
  rw [changeRun_eq]
  have kept := markKept_of_seqFrame (SeqFrame.tellSequencers
    ((runSet s n run).raise (.setState n (s.setRec n).run.name run.name why attempts s.engine.cycleNo)) n) n
  exact ⟨kept.due.trans dropped.1, fun c => by rw [kept.place]; exact dropped.2 c⟩

theorem stopping_reported (b : Begins n s u) (f : Ends n (u.applyReport n x engine s.engine.cycleNo) t)
    (run : (s.setRec n).run = .stopping) :
    (engine = .stopped → (t.setRec n).run = .stopped ∧ (t.setRec n).stopCycle = some s.engine.cycleNo ∧
      (t.setRec n).due = none ∧ (∀ c, (t.setRec n).place ≠ .queued c) ∧
      Told s t (.setState n .stopping .stopped .stopped none s.engine.cycleNo)) ∧
    (engine = .faulted → (t.setRec n).run = .fault .setAlarm ∧ (t.setRec n).stopCycle = (s.setRec n).stopCycle ∧
      Told s t (.setState n .stopping .fault .setAlarm none s.engine.cycleNo)) ∧
    (engine = .running ∨ engine = .cranking → (t.setRec n).run = .stopping) := by
  have run' := b.run.trans run
  refine ⟨fun stopped => ?_, fun faulted => ?_, fun on => ?_⟩
  · subst stopped
    have applied : u.applyReport n x .stopped s.engine.cycleNo =
        (u.modSet n fun r => { r with stopCycle := some s.engine.cycleNo }).changeRun n .stopped .stopped none := by
      unfold State.applyReport
      rw [run']
    have read := State.modSet_read u n fun r => { r with stopCycle := some s.engine.cycleNo }
    have notices : (u.modSet n fun r => { r with stopCycle := some s.engine.cycleNo }).port.notices = s.port.notices := b.notices
    have cycle : (u.modSet n fun r => { r with stopCycle := some s.engine.cycleNo }).engine.cycleNo = s.engine.cycleNo := b.cycle
    generalize (u.modSet n fun r => { r with stopCycle := some s.engine.cycleNo }) = w at applied read notices cycle
    have told := told_firstChange (t := t) (n := n) (run := .stopped) (why := .stopped) (attempts := none) notices (applied ▸ f.works)
    obtain ⟨due, place⟩ := changeRun_dropped w n (run := .stopped) rfl .stopped none
    have ran : (w.setRec n).run = .stopping := by rw [read]; exact run'
    rw [ran, cycle] at told
    rw [f.run, f.stopCycle, f.due, applied, changeRun_run, changeRun_stopCycle, read]
    refine ⟨rfl, rfl, due, fun c => ?_, told⟩
    rw [f.place, applied]
    exact place c
  · subst faulted
    have applied := applyReport_alarm (u := u) (n := n) (x := x) (c := s.engine.cycleNo) (.inr (.inl run'))
    have told := told_change (t := t) b (run := .fault .setAlarm) (why := .setAlarm) (attempts := none) (applied ▸ f.works)
    rw [run] at told
    rw [f.run, f.stopCycle, applied, changeRun_run, changeRun_stopCycle, b.stopCycle]
    exact ⟨rfl, rfl, told⟩
  · have applied : u.applyReport n x engine s.engine.cycleNo = u := by
      unfold State.applyReport
      rcases on with rfl | rfl <;> rw [run']
    rw [f.run, applied, run']

theorem fault_reported {c : CycleNo} {why : FaultReason} (b : Begins n s u) (f : Ends n (u.applyReport n x engine c) t)
    (run : (s.setRec n).run = .fault why) : (t.setRec n).run = .fault why ∧ (t.setRec n).stopCycle = (s.setRec n).stopCycle := by
  have run' := b.run.trans run
  have applied : u.applyReport n x engine c = u := by
    unfold State.applyReport
    rw [run']
  rw [f.run, f.stopCycle, applied, run', b.stopCycle]
  exact ⟨rfl, rfl⟩

/-! ### Notices that the run state raises -/

theorem spends_modHire (n : SetNo) (s : State) (f : Hire → Hire) : Spends 0 s (s.modHire n f) := spends_modSet n s _

theorem spends_enterWarming (s : State) (n : SetNo) (c : Nat) (why : StateReason) : Spends 2 s (s.enterWarming n c why) := by
  have changed := Spends.changeRun s n (.warming c) why none
  have counted := changed.trans (spends_modHire n (s.changeRun n (.warming c) why) fun h => { h with starts := satAdd max64 h.starts 1 })
  unfold State.enterWarming
  dsimp only
  generalize State.modHire _ n _ = w at counted ⊢
  split
  · exact counted.trans (.changeRun _ n _ _ _)
  · exact counted.mono (Nat.le_succ _)

theorem spends_setLocalStart (s : State) (n : SetNo) : Spends 1 s (s.setLocalStart n) := by
  have marked := spends_modSet n s fun r => { r with localStart := true }
  unfold State.setLocalStart
  split
  · exact spends_none s
  · exact marked.trans (.raise _ _)

theorem spends_unexpectedStop (s : State) (n : SetNo) (c : CycleNo) : Spends 1 s (s.unexpectedStop n c) := by
  have marked := spends_modSet n s fun r => { r with stopCycle := some c }
  unfold State.unexpectedStop State.enterFault
  generalize s.modSet n _ = w at marked ⊢
  exact (marked.trans (.changeRun w n _ _ _)).mono (by omega)

theorem spends_makeStop (s : State) (n : SetNo) : Spends 1 s (s.makeDue n .stop) := by
  have marked := spends_modSet n s fun r => { r with due := some .stop }
  unfold State.makeDue
  generalize s.modSet n _ = w at marked ⊢
  exact (marked.trans (spends_tryEnqueueSet w n)).mono (by omega)

/-- A change of run state is one notice, an entry into WARMING two at most, the LOCAL_START flag one (R78, R83, R97). -/
theorem spends_applyReport (s : State) (n : SetNo) (x : SetEntry) (engine : EngineState) (c : CycleNo) :
    Spends 3 s (s.applyReport n x engine c) := by
  have one {v : State} (h : Spends 1 s v) : Spends 3 s v := h.mono (by omega)
  unfold State.applyReport State.enterFault
  split
  case h_6 => exact (spends_enterWarming s n _ _).trans (spends_setLocalStart _ n)
  case h_10 =>
    unfold State.startSucceeds
    split
    · have stops := (spends_changeRun s n .stopping .running none).trans (spends_makeStop (s.changeRun n .stopping .running) n)
      exact stops.mono (by omega)
    · exact (spends_enterWarming s n _ _).mono (by omega)
  case h_11 =>
    split
    · exact one (spends_changeRun s n _ _ _)
    · exact one (spends_endAttempt s n)
  case h_14 => exact one ((spends_modSet n s _).trans (.changeRun _ n _ _ _))
  case h_2 | h_3 | h_4 | h_7 | h_15 | h_22 | h_23 | h_24 => exact one (spends_changeRun s n _ _ _)
  case h_25 | h_26 | h_27 | h_28 | h_29 | h_30 => exact one (spends_unexpectedStop s n c)
  all_goals exact spends_none s

/-! ### From the state that the report meets to the end of the slot -/

/-- The energy side of a report, by two states that have the same figures as those between which it stands. -/
theorem stepped_congr {w : State} (h : SetStepped v w n x engine power)
    (engines : v.engine.cycleNo = s.engine.cycleNo ∧ v.engine.holdInForce = s.engine.holdInForce ∧ v.engine.cycleLen = s.engine.cycleLen)
    (baseline : (v.setRec n).baseline = (s.setRec n).baseline)
    (hire : { (v.setRec n).hire with starts := 0 } = { (s.setRec n).hire with starts := 0 })
    (others : ∀ k, k ≠ n → (v.setRec k).hire = (s.setRec k).hire) (tanks : ∀ k, v.tank k = s.tank k)
    (sets : ∀ k, (t.setRec k).hire = (w.setRec k).hire)
    (tank : (t.tank n).book = (w.tank n).book ∧ (t.tank n).residue = (w.tank n).residue)
    (rest : ∀ k, k ≠ n → t.tank k = w.tank k) : SetStepped s t n x engine power := by
  obtain ⟨cycle, hold, len⟩ := engines
  obtain ⟨book, residue⟩ := tank
  have energy (b : SetBaseline) (p : Nat) : setEnergy v b p = setEnergy s b p := by
    unfold setEnergy
    rw [cycle, hold, len]
  have output := (congrArg Hire.outputMj hire :)
  have gap := (congrArg Hire.gap hire :)
  have clamped := (congrArg Hire.clamped hire :)
  have burnt := (congrArg Hire.burnt hire :)
  dsimp only at output gap clamped burnt
  refine ⟨fun first => ?_, fun b hb => ?_, fun b hb on within => ?_, fun off => ?_, fun k hk => ?_⟩
  · have := h.first (baseline.trans first)
    rw [sets, book, residue, ← tanks n, ← hire]
    exact this
  · have := h.output b (baseline.trans hb)
    rw [energy, cycle, hold, output, gap, clamped] at this
    rw [sets]
    exact this
  · have := h.burnt b (baseline.trans hb) on (by rw [tanks]; exact within)
    rw [energy, cycle, hold, len, burnt, tanks] at this
    rw [sets, book, residue]
    exact this
  · have := h.still off
    rw [tanks, burnt] at this
    rw [sets, book, residue]
    exact ⟨this.1, this.2.1, this.2.2⟩
  · have := h.others k hk
    rw [sets, rest k hk, this.1, this.2, others k hk, tanks k]
    exact ⟨rfl, rfl⟩

end

end Sys2Proof.SetReported
end

section
/-! SUPPORT. The whole slot of a SET report (R66 to R68, R71, R75, R77, R81 to R83, R86, R87, R90, R97, R101, R102, R106). -/

namespace Sys2Proof.SetSlots

open Sys2Proof Sys2Proof.Machine Sys2Proof.Stated Sys2Proof.StopAndClear Sys2Proof.Sequencing Sys2Proof.SetLoading
open Sys2Proof.MissedSlots Sys2Proof.LinkLoss Sys2Proof.BodySteps Sys2Proof.ReplySlots Sys2Proof.UnitLoading Sys2Proof.Slots
open Sys2Proof.Hearing Sys2Proof.OwnerSteps Sys2Proof.PlainSlots Sys2Proof.SetApplying Sys2Proof.SetReports Sys2Proof.SetReporting
open Sys2Proof.SetReported

section
variable {s t u v w z : State} {n : SetNo} {x : SetEntry} {engine : EngineState} {power sensor : Nat} {alarm : Byte} {a : Addr}
  {clock : Option Nat} {age : Nat} {leave : Bool}

/-- The report of a slot, stored (R75, R90). -/
def slotStored (s : State) (a : Addr) (clock : Option Nat) (age : Nat) (n : SetNo) (x : SetEntry) (engine : EngineState)
    (power sensor : Nat) (alarm : Byte) : State :=
  reportStored (slotHeard s a clock age) n x ⟨engine, min 30000 power, sensor, alarm, s.engine.cycleNo⟩

/-- What the stored report leaves as it was. -/
structure Stored (s u : State) (n : SetNo) (x : SetEntry) (r : SetReport) : Prop where
  set : u.setRec n = { s.setRec n with latest := some r, loadFraction := some (r.power * 100 / x.rating) }
  others : ∀ k, k ≠ n → u.setRec k = s.setRec k
  tanks : u.tanks = s.tanks
  meters : u.meters = s.meters
  points : u.points = s.points
  tables : u.tables = s.tables
  notices : u.port.notices = s.port.notices
  engine : ∃ links age slotsEnded fde, u.engine = { s.engine with links, age, slotsEnded, fde }

theorem slotStored_stored : Stored s (slotStored s a clock age n x engine power sensor alarm) n x
    ⟨engine, min 30000 power, sensor, alarm, s.engine.cycleNo⟩ where
  set := State.modSet_read (slotHeard s a clock age) n _
  others _ hk := State.modSet_other (slotHeard s a clock age) n _ hk
  tanks := rfl
  meters := rfl
  points := rfl
  tables := rfl
  notices := rfl
  engine := ⟨_, _, _, _, rfl⟩

theorem stored_begins {r : SetReport} (h : Stored s u n x r) : Begins n s u := by
  obtain ⟨links, age, ended, fde, engine⟩ := h.engine
  have connected (p : PointNo) : u.connectedSet p = s.connectedSet p :=
    connectedSet_congr h.tables (by rw [State.pointRec, h.points]; rfl)
  have serves : u.inService n = s.inService n := by
    unfold State.inService
    rw [h.set]
    simp only [connected]
  exact ⟨by rw [h.set], by rw [h.set], by rw [h.set], h.notices, by rw [engine], serves, congrArg (fun x => x.sets[n]) h.tables⟩

/-- A SET report from the state that stores it to the end of its slot: the run state, the integration, the sensor check. -/
structure SlotRun (u v w z t : State) (n : SetNo) (x : SetEntry) (engine : EngineState) (power sensor : Nat) (leave : Bool)
    (c : CycleNo) : Prop where
  applied : v = u.applyReport n x engine c
  integrated : w = v.integrateSet n x power engine
  checked : z = w.checkSensor n x sensor leave
  passed : ∃ links port, t = { z with engine := { z.engine with links }, port } ∧ port.notices = z.port.notices
  works : Works z t

section
variable {c : CycleNo} {r : SetReport} (h : SlotRun u v w z t n x engine power sensor leave c)
include h

theorem SlotRun.sets : t.sets = w.sets := by
  obtain ⟨links, port, rfl, -⟩ := h.passed
  exact h.checked ▸ (congrArg State.sets (SensorStep.checkSensor n w x sensor leave).frame :)

theorem SlotRun.ends : Ends n (u.applyReport n x engine c) t := by
  obtain ⟨hire, set, starts⟩ := (integrateSet_integrated v n x power engine).set
  have integrated := (BodyStep.integrateSet v n x power engine).works
  have checked := (BodyStep.checkSensor w n x sensor leave).works
  have read : t.setRec n = { v.setRec n with baseline := some (newBaseline v power), hire } := by
    rw [State.setRec, h.sets, h.integrated]
    exact set
  rw [← h.applied]
  refine ⟨by rw [read], by rw [read], by rw [read], by rw [read], by rw [read], by rw [read]; exact starts, ?_⟩
  rw [← h.integrated] at integrated
  rw [← h.checked] at checked
  exact (integrated.trans checked).trans h.works

theorem SlotRun.stored (stored : Stored s u n x r) :
    (t.setRec n).latest = some r ∧ (t.setRec n).loadFraction = some (r.power * 100 / x.rating) ∧
      (t.setRec n).baseline = some ⟨min 30000 power, s.engine.cycleNo, decide (30000 < power)⟩ := by
  have step := ReportStep.applyReport n u x engine c
  obtain ⟨hire, set, -⟩ := (integrateSet_integrated v n x power engine).set
  have read : t.setRec n = { v.setRec n with baseline := some (newBaseline v power), hire } := by
    rw [State.setRec, h.sets, h.integrated]
    exact set
  obtain ⟨links, age, ended, fde, engine⟩ := stored.engine
  have number : v.engine.cycleNo = s.engine.cycleNo := by
    rw [h.applied]
    exact (congrArg Engine.cycleNo step.engine :).trans (by rw [engine])
  have latest : (v.setRec n).latest = some r := by rw [h.applied, step.latest, stored.set]
  have fraction : (v.setRec n).loadFraction = some (r.power * 100 / x.rating) := by rw [h.applied, step.loadFraction, stored.set]
  rw [read]
  refine ⟨latest, fraction, ?_⟩
  rw [← number]
  rfl

theorem SlotRun.others (stored : Stored s u n x r) {k : SetNo} (hk : k ≠ n) :
    (t.setRec k).run = (s.setRec k).run ∧ (t.setRec k).hire = (s.setRec k).hire := by
  have step := (ReportStep.applyReport n u x engine c).others k hk
  rw [← h.applied, stored.others k hk] at step
  have read : t.setRec k = v.setRec k := by
    rw [State.setRec, h.sets, h.integrated]
    exact (integrateSet_integrated v n x power engine).sets k hk
  rw [read]
  exact ⟨(congrArg SetRec.run step :), (congrArg SetRec.hire step :)⟩

theorem SlotRun.stepped (stored : Stored s u n x r) : SetStepped s t n x engine power := by
  have step := ReportStep.applyReport n u x engine c
  rw [← h.applied] at step
  have done := integrateSet_integrated v n x power engine
  rw [← h.integrated] at done
  have sensed := SensorStep.checkSensor n w x sensor leave
  rw [← h.checked] at sensed
  obtain ⟨count, mark, tank⟩ := sensed.tank
  have tanks (k : SetNo) : t.tank k = z.tank k := by
    obtain ⟨links, port, rfl, -⟩ := h.passed
    rfl
  obtain ⟨links, age, ended, fde, started⟩ := stored.engine
  have engines : v.engine.cycleNo = s.engine.cycleNo ∧ v.engine.holdInForce = s.engine.holdInForce ∧
      v.engine.cycleLen = s.engine.cycleLen :=
    ⟨(congrArg Engine.cycleNo step.engine :).trans (by rw [started]), (congrArg Engine.holdInForce step.engine :).trans (by rw [started]),
      (congrArg Engine.cycleLen step.engine :).trans (by rw [started])⟩
  have before (k : SetNo) : v.tank k = s.tank k := by rw [State.tank, step.tanks, stored.tanks]; rfl
  have read (k : SetNo) : (t.setRec k).hire = (w.setRec k).hire := by rw [State.setRec, h.sets]; rfl
  refine stepped_congr done.stepped engines (step.baseline.trans (by rw [stored.set])) (step.hire.trans (by rw [stored.set])) ?_ before
    read ?_ ?_
  · intro k hk
    rw [(congrArg SetRec.hire (step.others k hk) :), stored.others k hk]
  · rw [tanks, tank]
    exact ⟨rfl, rfl⟩
  · intro k hk
    rw [tanks, sensed.tanks k hk]

theorem SlotRun.sensed {left : Prop} (stored : Stored s u n x r) (level : r.sensor = sensor)
    (leaving : leave = true ↔ left) : SensorChecked s t n x sensor left := by
  have step := ReportStep.applyReport n u x engine c
  have spends := spends_applyReport u n x engine c
  rw [← h.applied] at step spends
  have done := integrateSet_integrated v n x power engine
  rw [← h.integrated] at done
  have sensed := checkSensor_done (s := w) (n := n) (x := x) (sensor := sensor) leaving
  rw [← h.checked] at sensed
  have tank : t.tank n = z.tank n := by
    obtain ⟨links, port, rfl, -⟩ := h.passed
    rfl
  have due : t.due = z.due := by
    obtain ⟨links, port, rfl, -⟩ := h.passed
    rfl
  have last : Spends 0 z t := by
    obtain ⟨links, port, rfl, notices⟩ := h.passed
    exact .of_notices notices fun _ => rfl
  have first : Spends 0 s u := .of_notices stored.notices fun p => by rw [State.pointRec, stored.points]; rfl
  have before : v.tank n = s.tank n := by rw [State.tank, step.tanks, stored.tanks]; rfl
  have meters : w.meters = s.meters := (congrArg State.meters done.frame :).trans (step.meters.trans stored.meters)
  have sessions (m : MeterNo) : w.meter m = s.meter m := by rw [State.meter, meters]; rfl
  have count : (w.tank n).discCount = (s.tank n).discCount := by rw [done.discCount, before]
  obtain ⟨links, age, ended, fde, started⟩ := stored.engine
  have number : w.engine.cycleNo = s.engine.cycleNo :=
    (congrArg (fun x : State => x.engine.cycleNo) done.frame :).trans
      ((congrArg Engine.cycleNo step.engine :).trans (by rw [started]))
  have latest : (w.setRec n).latest.map SetReport.sensor = some sensor := by
    obtain ⟨hire, set, -⟩ := done.set
    rw [set]
    dsimp only
    rw [step.latest, stored.set, ← level]
    rfl
  have counted := sensed.counted
  have near := sensed.near
  have skipped := sensed.skipped
  simp only [sessions, count] at counted near skipped
  rw [← sensed.book] at counted near
  rw [latest, number] at counted
  refine ⟨fun skips => by rw [tank]; exact skipped skips, fun known idle below above => ?_, fun known idle outside => ?_⟩
  · rw [tank] at below above ⊢
    exact near known idle below above
  · rw [tank] at outside ⊢
    obtain ⟨next, leaves, sets⟩ := counted known idle outside
    refine ⟨next, fun many left => by rw [due]; exact leaves many left, fun many stays => ?_⟩
    obtain ⟨set, told⟩ := sets many stays
    refine ⟨set, fun clear within => ?_⟩
    obtain ⟨kept, burns⟩ := done.within (by rw [before]; exact within)
    have raised := told (by rw [kept, before]; exact clear)
    exact ((raised.after ((first.trans spends).trans burns)).before last).told (by omega)

end

/-- The slot of a SET report: what it stores, the run state, the integration and the sensor check. -/
theorem slotRun_of {deferred : List TimedEvent} {e : UnitEntry} (owner : e.owner = n.val + 1) (entry : s.setEntry n = some x)
    (enabled : x.enabled = true) (unit : x.unit = a) {v' : State} (hv : v' = (slotHeard s a clock age).handBody a e
      (.set engine power sensor alarm) fun n => deferred.contains (.discrepancy n)) {r : FieldReport}
    (ended : PlainEnd s v' t a e r) :
    ∃ v w, SlotRun (slotStored s a clock age n x engine power sensor alarm) v w v' t n x engine power sensor
      (deferred.contains (.discrepancy n)) s.engine.cycleNo := by
  have hand : v' = (slotHeard s a clock age).setReport a (n.val + 1) engine power sensor alarm
      fun n => deferred.contains (.discrepancy n) := by rw [← owner, hv]; rfl
  have entry' : (slotHeard s a clock age).setEntry n = some x := entry
  rw [setReport_eq entry' enabled unit] at hand
  exact ⟨_, _, rfl, rfl, hand, ended.rest, ended.works⟩

/-- Settles O29: the report is stored, and from there each part of the slot says what it leaves. -/
theorem setReportIsApplied : Obligations.SetReportIsApplied := by
  unfold Obligations.SetReportIsApplied
  intro a e n x r engine power sensor alarm received deferred s slot idle known valid body owner entry enabled unit
  obtain ⟨clock, age, run⟩ := exec_plainSlot slot idle known valid deferred
  rw [body] at run
  have ended := plainEnd_of (e := e) (r := r) (BodyStep.handBody (slotHeard s a clock age) a e (.set engine power sensor alarm)
    fun n => deferred.contains (.discrepancy n))
  obtain ⟨v, w, done⟩ := slotRun_of (deferred := deferred) owner entry enabled unit rfl ended
  have stored : Stored s _ n x ⟨engine, min 30000 power, sensor, alarm, s.engine.cycleNo⟩ :=
    slotStored_stored (a := a) (clock := clock) (age := age)
  have begins := stored_begins stored
  have ends := done.ends
  obtain ⟨latest, fraction, baseline⟩ := done.stored stored
  have checked := done.sensed stored rfl (left := .discrepancy n ∈ deferred) List.contains_iff_mem
  refine ⟨_, run, latest, fraction, baseline, ended.present, ended.misses, fun unseen => ?_, serving_reported begins ends,
    stopped_reported begins ends, fun attempt allowed crank mark starting => starting_reported begins ends entry starting,
    stopping_reported begins ends, fun why fault => fault_reported begins ends fault, fun k hk => (done.others stored hk).1,
    done.stepped stored, checked, ended.forwarded, ended.tables, ended.site, ended.pending⟩
  exact ends.run.trans (applyReport_unseen (begins.run.trans unseen))

end

end Sys2Proof.SetSlots
end

section
/-! SUPPORT. What a CHANGE report makes of the map and of the sequence of its point (R125, R126, R134, R137, R138). -/

namespace Sys2Proof.ChangeReports

open Sys2Proof Sys2Proof.Machine Sys2Proof.Stated Sys2Proof.StopAndClear Sys2Proof.Sequencing Sys2Proof.Ending
open Sys2Proof.StoppingCycles Sys2Proof.BodySteps Sys2Proof.Hearing Sys2Proof.OwnerSteps Sys2Proof.PlainSlots Sys2Proof.Replies
open Sys2Proof.Booking Sys2Proof.LinkLoss

section
variable {s t u w z : State} {a : Addr} {p : PointNo} {e : UnitEntry} {x : PointEntry} {q y : Sequence} {o : SeqOutcome} {manual : Option ManualPart}
  {position : ReportedPos} {selector : Selector}

theorem pos_eq (x : ReportedPos) : x.pos = mapped x := by cases x <;> rfl

/-! ### The map of a point (R125) -/

/-- The map of point `p` stays, and so does every other point. -/
structure MapKept (p : PointNo) (s t : State) : Prop where
  position : (t.pointRec p).position = (s.pointRec p).position
  selector : (t.pointRec p).selector = (s.pointRec p).selector
  others : ∀ k, k ≠ p → t.pointRec k = s.pointRec k

theorem MapKept.of_points (points : t.points = s.points) : MapKept p s t := by
  have same (k : PointNo) : t.pointRec k = s.pointRec k := by rw [State.pointRec, points]; rfl
  exact ⟨by rw [same], by rw [same], fun k _ => same k⟩

theorem MapKept.endSequence (p : PointNo) (s : State) (o : SeqOutcome) (manual : Option ManualPart) :
    MapKept p s (s.endSequence p o manual) := by
  cases live : (s.pointRec p).seq with
  | none =>
    rw [endSequence_idle live]
    exact .of_points rfl
  | some q =>
    have point : ((s.endSequence p o manual).pointRec p).selector = (s.pointRec p).selector := by
      rw [endSequence_eq live]
      split
      · exact (congrArg PointRec.selector (sequenceGone_point s p q o) :)
      · exact (congrArg PointRec.selector (sequenceGone_point s p q o) :)
    exact ⟨(NewsKeeps.endSequence s p o manual).positions p, point, (PointStep.endSequence p s o manual).others⟩

theorem enqueuePoint_selector (s : State) (p : PointNo) (code : Code) :
    ((s.enqueuePoint p code).pointRec p).selector = (s.pointRec p).selector := by
  unfold State.enqueuePoint
  split
  · rfl
  · split
    · rfl
    next enqueued =>
      obtain ⟨-, -, -, rfl⟩ := State.enqueue_eq_some.mp enqueued
      rw [State.modPoint_read]
      rfl

theorem MapKept.enterRecovering (live : (s.pointRec p).seq.isSome = true) (q : Sequence) (why : RecoveryReason) :
    MapKept p s (s.enterRecovering p q why) := by
  refine ⟨(NewsKeeps.enterRecovering s p q why).positions p, ?_, (PointStep.enterRecovering p live q why).others⟩
  by_cases back : Restorable s q
  · obtain ⟨code, close, online⟩ := restorable_iff.mp back
    have due : ((closeDue s p q why code).pointRec p).selector = (s.pointRec p).selector := by
      rw [closeDue, State.modPoint_read, recoveryStarted_point]
    rw [enterRecovering_close close online]
    split
    · rw [enqueuePoint_selector, due]
    · exact due
  · rw [enterRecovering_dark back, (MapKept.endSequence p _ .dark none).selector, recoveryStarted_point]

theorem MapKept.putSeq (live : (s.pointRec p).seq.isSome = true) (y : Sequence) : MapKept p s (s.putSeq p y) := by
  have read := State.modPoint_read s p fun r => { r with seq := some y }
  exact ⟨(congrArg PointRec.position read :), (congrArg PointRec.selector read :), (PointStep.putSeq p live y).others⟩

theorem MapKept.enterDead (live : (s.pointRec p).seq.isSome = true) (q : Sequence) (c : CycleNo) :
    MapKept p s (s.enterDead p q c) := .putSeq live _

theorem MapKept.endClosed (p : PointNo) (s : State) (q : Sequence) : MapKept p s (s.endClosed p q) := by
  unfold State.endClosed
  split
  · exact .endSequence p s _ none
  · exact .endSequence p s _ none
  · have counted := MapKept.endSequence p { s with freeCount := s.freeCount + 1 }
      (if Config.doneWithoutVerification s.freeCount then .done else .doneUnverified) none
    exact ⟨counted.position, counted.selector, counted.others⟩

/-! ### The report taken (R125) -/

/-- The state with the selector of a report. -/
def selected (s : State) (p : PointNo) (selector : Selector) : State := s.modPoint p fun r => { r with selector := some selector }

/-- The state with the map that a report gives. -/
def mapTaken (s : State) (p : PointNo) (position : ReportedPos) (selector : Selector) : State :=
  (selected s p selector).putPosition p (mapped position)

theorem selected_read (s : State) (p : PointNo) (selector : Selector) :
    (selected s p selector).pointRec p = { s.pointRec p with selector := some selector } := State.modPoint_read s p _

theorem mapTaken_read (s : State) (p : PointNo) (position : ReportedPos) (selector : Selector) :
    (mapTaken s p position selector).pointRec p = { s.pointRec p with position := mapped position, selector := some selector } := by
  have read := State.modPoint_read (selected s p selector) p fun r => { r with position := mapped position }
  rw [selected_read] at read
  exact read

theorem mapTaken_points (s : State) (p : PointNo) (position : ReportedPos) (selector : Selector) :
    (mapTaken s p position selector).points = (reported s p (mapped position) (some selector)).points := by
  have written : (mapTaken s p position selector).points = (s.points.set p { s.pointRec p with selector := some selector }).set p
      { (selected s p selector).pointRec p with position := mapped position } := rfl
  rw [written, selected_read, Vector.set_set]
  rfl

theorem selected_points (same : mapped position = (s.pointRec p).position) (selector : Selector) :
    (selected s p selector).points = (reported s p (mapped position) (some selector)).points := by
  have written : (selected s p selector).points = s.points.set p { s.pointRec p with selector := some selector } := rfl
  rw [written, same]
  rfl

/-- Where a report of the unit of a SWITCHED point goes. -/
theorem changeReport_eq {i j : SetNo} (switched : s.switched p = some (a, i, j)) (position : ReportedPos) (selector : Selector) :
    s.changeReport a (p.val + 1) position selector =
      if (s.pointRec p).position = mapped position then selected s p selector
      else if (s.pointRec p).position = .unknown then mapTaken s p position selector
      else if position = .fault then (selected s p selector).manualChange p position selector
      else (selected s p selector).positionChange p position selector := by
  have read := congrArg PointRec.position (selected_read s p selector)
  unfold State.changeReport
  rw [numbered_succ]
  dsimp only
  rw [switched]
  dsimp only
  rw [if_pos rfl]
  rw [selected] at read
  rw [read, pos_eq]
  rfl

/-! ### Manual operations and unit faults (R126) -/

/-- What a manual operation or a unit fault adds to its notice. -/
def manualPart (s : State) (p : PointNo) (position : ReportedPos) (selector : Selector) : ManualPart :=
  ⟨(s.pointRec p).position, position, selector⟩

theorem manualChange_live (live : (s.pointRec p).seq = some q) (position : ReportedPos) (selector : Selector) :
    (selected s p selector).manualChange p position selector = (mapTaken s p position selector).endSequence p
      (if position = .fault then .unitFault else .manual) (some (manualPart s p position selector)) := by
  have read := selected_read s p selector
  have seq : ((mapTaken s p position selector).pointRec p).seq = some q := by rw [mapTaken_read, live]
  unfold State.manualChange
  dsimp only
  rw [pos_eq, read]
  rw [mapTaken] at seq ⊢
  rw [seq]
  rfl

theorem manualChange_idle (idle : (s.pointRec p).seq = none) (position : ReportedPos) (selector : Selector) :
    (selected s p selector).manualChange p position selector = (mapTaken s p position selector).raise
      (.changeover ⟨p, if position = .fault then .unitFault else .manual, some (manualPart s p position selector), none,
        mapped position, s.engine.cycleNo⟩) := by
  have read := selected_read s p selector
  have seq : ((mapTaken s p position selector).pointRec p).seq = none := by rw [mapTaken_read, idle]
  unfold State.manualChange
  dsimp only
  rw [pos_eq, read]
  rw [mapTaken] at seq ⊢
  rw [seq]
  rfl

theorem positionChange_manual (h : ∀ q, (s.pointRec p).seq = some q → ¬ Awaited q position) (selector selector' : Selector) :
    (selected s p selector).positionChange p position selector' = (selected s p selector).manualChange p position selector' := by
  have read : ((selected s p selector).pointRec p).seq = (s.pointRec p).seq := by rw [selected_read]
  unfold State.positionChange
  rw [read, pos_eq]
  cases live : (s.pointRec p).seq with
  | none => rfl
  | some q =>
    have away := h q live
    unfold Awaited at away
    rw [not_or, not_or] at away
    obtain ⟨opening, closing, recovering⟩ := away
    dsimp only
    split
    next phase => exact if_neg fun opened => opening ⟨phase, opened⟩
    next phase => exact if_neg fun closed => closing ⟨phase, closed⟩
    next phase =>
      rw [if_neg fun closed => recovering ⟨phase, .inl closed⟩]
      refine if_neg fun back => recovering ⟨phase, .inr ⟨back.1, ?_⟩⟩
      exact Option.isSome_iff_ne_none.mp back.2
    · rfl
    · rfl

/-! ### The changes that a sequence awaits (R134, R137, R138) -/

section
variable (live : (s.pointRec p).seq = some q)
include live

theorem positionChange_live (selector : Selector) : (selected s p selector).positionChange p position selector =
    match q.phase with
    | .opening =>
      if position = .opened then
        match q.abort with
        | none => (mapTaken s p position selector).enterDead p q s.engine.cycleNo
        | some mark => (mapTaken s p position selector).enterRecovering p q mark.recovery
      else (selected s p selector).manualChange p position selector
    | .closing =>
      if mapped position = sidePos q.targetSide then (mapTaken s p position selector).endClosed p q
      else (selected s p selector).manualChange p position selector
    | .recovering =>
      if mapped position = sidePos q.targetSide then (mapTaken s p position selector).endClosed p q
      else if mapped position = q.originalPos ∧ q.originalSet.isSome then
        (mapTaken s p position selector).endSequence p (.recovered q.cause) none
      else (selected s p selector).manualChange p position selector
    | .preparing | .dead => (selected s p selector).manualChange p position selector := by
  have read : ((selected s p selector).pointRec p).seq = some q := by rw [selected_read, live]
  unfold State.positionChange
  rw [read, pos_eq] <;> rfl

theorem positionChange_dead (phase : q.phase = .opening) (opened : position = .opened) (fresh : q.abort = none)
    (selector : Selector) : (selected s p selector).positionChange p position selector =
      (mapTaken s p position selector).enterDead p q s.engine.cycleNo := by
  rw [positionChange_live live, phase]
  dsimp only
  rw [if_pos opened, fresh]

theorem positionChange_aborted {mark : AbortMark} (phase : q.phase = .opening) (opened : position = .opened)
    (marked : q.abort = some mark) (selector : Selector) : (selected s p selector).positionChange p position selector =
      (mapTaken s p position selector).enterRecovering p q mark.recovery := by
  rw [positionChange_live live, phase]
  dsimp only
  rw [if_pos opened, marked]

theorem positionChange_closed (phase : q.phase = .closing ∨ q.phase = .recovering)
    (closed : mapped position = sidePos q.targetSide) (selector : Selector) :
    (selected s p selector).positionChange p position selector = (mapTaken s p position selector).endClosed p q := by
  rw [positionChange_live live]
  rcases phase with phase | phase <;> rw [phase] <;> exact if_pos closed

theorem positionChange_back (phase : q.phase = .recovering) (away : mapped position ≠ sidePos q.targetSide)
    (back : mapped position = q.originalPos) (source : q.originalSet ≠ none) (selector : Selector) :
    (selected s p selector).positionChange p position selector =
      (mapTaken s p position selector).endSequence p (.recovered q.cause) none := by
  rw [positionChange_live live, phase]
  exact (if_neg away).trans (if_pos ⟨back, Option.isSome_iff_ne_none.mpr source⟩)

theorem endClosed_ended : (q.verification = some .verified → Ended s (s.endClosed p q) p q .done) ∧
    (q.verification = some .unverified → Ended s (s.endClosed p q) p q .doneUnverified) ∧
    (q.verification = none → Ended s (s.endClosed p q) p q .done ∨ Ended s (s.endClosed p q) p q .doneUnverified) := by
  refine ⟨fun verified => ?_, fun unverified => ?_, fun missing => ?_⟩
  · have ends : s.endClosed p q = s.endSequence p .done none := by rw [State.endClosed, verified]
    exact ends ▸ endSequence_ended live .done none nofun
  · have ends : s.endClosed p q = s.endSequence p .doneUnverified none := by rw [State.endClosed, unverified]
    exact ends ▸ endSequence_ended live .doneUnverified none nofun
  · have counted : Alike p { s with freeCount := s.freeCount + 1 } s := .of_points rfl rfl rfl rfl rfl
    have ends : s.endClosed p q = { s with freeCount := s.freeCount + 1 }.endSequence p
        (if Config.doneWithoutVerification s.freeCount then .done else .doneUnverified) none := by
      rw [State.endClosed, missing]
    have live' : (({ s with freeCount := s.freeCount + 1 } : State).pointRec p).seq = some q := live
    rw [ends]
    split
    · exact .inl (ended_alike (endSequence_ended live' .done none nofun) counted (Replies.Alike.refl p _))
    · exact .inr (ended_alike (endSequence_ended live' .doneUnverified none nofun) counted (Replies.Alike.refl p _))

end

/-! ### What every CHANGE report leaves of the map -/

theorem manualChange_kept (s : State) (p : PointNo) (position : ReportedPos) (selector : Selector) :
    MapKept p (mapTaken s p position selector) ((selected s p selector).manualChange p position selector) := by
  cases live : (s.pointRec p).seq with
  | none =>
    rw [manualChange_idle live]
    exact .of_points rfl
  | some q =>
    rw [manualChange_live live]
    exact .endSequence p _ _ _

theorem positionChange_kept (s : State) (p : PointNo) (position : ReportedPos) (selector : Selector) :
    MapKept p (mapTaken s p position selector) ((selected s p selector).positionChange p position selector) := by
  by_cases awaited : ∃ q, (s.pointRec p).seq = some q ∧ Awaited q position
  · obtain ⟨q, live, awaits⟩ := awaited
    have live' : ((mapTaken s p position selector).pointRec p).seq.isSome = true := by rw [mapTaken_read, live]; rfl
    rcases awaits with ⟨phase, opened⟩ | ⟨phase, closed⟩ | ⟨phase, closed | ⟨back, source⟩⟩
    · cases abort : q.abort with
      | none =>
        rw [positionChange_dead live phase opened abort]
        exact .enterDead live' q _
      | some mark =>
        rw [positionChange_aborted live phase opened abort]
        exact .enterRecovering live' q _
    · rw [positionChange_closed live (.inl phase) closed]
      exact .endClosed p _ q
    · rw [positionChange_closed live (.inr phase) closed]
      exact .endClosed p _ q
    · by_cases closed : mapped position = sidePos q.targetSide
      · rw [positionChange_closed live (.inr phase) closed]
        exact .endClosed p _ q
      · rw [positionChange_back live phase closed back source]
        exact .endSequence p _ _ none
  · rw [positionChange_manual fun q live awaits => awaited ⟨q, live, awaits⟩]
    exact manualChange_kept s p position selector

theorem changeReport_kept {i j : SetNo} (switched : s.switched p = some (a, i, j)) (position : ReportedPos) (selector : Selector) :
    MapKept p (mapTaken s p position selector) (s.changeReport a (p.val + 1) position selector) := by
  rw [changeReport_eq switched]
  split
  next same => exact .of_points ((selected_points same.symm selector).trans (mapTaken_points s p position selector).symm)
  · split
    · exact .of_points rfl
    · split
      · exact manualChange_kept s p position selector
      · exact positionChange_kept s p position selector

/-! ### The whole slot -/

/-- A report that is a unit fault or a manual operation (R126). -/
theorem changeReport_manual {i j : SetNo} (switched : s.switched p = some (a, i, j)) (selector : Selector)
    (moved : mapped position ≠ (s.pointRec p).position) (learnt : (s.pointRec p).position ≠ .unknown)
    (h : (position = .fault ∧ o = .unitFault) ∨
      (position ≠ .fault ∧ o = .manual ∧ ∀ q, (s.pointRec p).seq = some q → ¬ Awaited q position)) :
    s.changeReport a (p.val + 1) position selector = (selected s p selector).manualChange p position selector ∧
      o = if position = .fault then .unitFault else .manual := by
  rw [changeReport_eq switched, if_neg (Ne.symm moved), if_neg learnt]
  rcases h with ⟨fault, outcome⟩ | ⟨known, outcome, away⟩
  · rw [if_pos fault, if_pos fault]
    exact ⟨rfl, outcome⟩
  · rw [if_neg known, if_neg known, positionChange_manual away]
    exact ⟨rfl, outcome⟩

theorem changeReport_moved {i j : SetNo} (switched : s.switched p = some (a, i, j)) (selector : Selector)
    (moved : mapped position ≠ (s.pointRec p).position) (learnt : (s.pointRec p).position ≠ .unknown) (known : position ≠ .fault) :
    s.changeReport a (p.val + 1) position selector = (selected s p selector).positionChange p position selector := by
  rw [changeReport_eq switched, if_neg (Ne.symm moved), if_neg learnt, if_neg known]

/-- The sequence that a report moves on has the point of the report. -/
theorem enterDead_seq (entry : s.pointEntry p = some x) (q : Sequence) (c : CycleNo) : ((s.enterDead p q c).pointRec p).seq =
    some { q with phase := .dead, counter := .dead x.deadTime, openCycle := some c } := by
  unfold State.enterDead State.putSeq
  rw [State.modPoint_read, entry]
  rfl

/-- The changes that a sequence awaits, each by its phase, from the state before the report to the one that it leaves. -/
theorem awaited_done (live : (s.pointRec p).seq = some q) (entry : s.pointEntry p = some x) (selector : Selector) :
    let t := (selected s p selector).positionChange p position selector
    let w := mapTaken s p position selector
    (q.phase = .opening → position = .opened →
      (q.abort = none → (t.pointRec p).seq =
        some { q with phase := .dead, counter := .dead x.deadTime, openCycle := some s.engine.cycleNo }) ∧
      (∀ mark, q.abort = some mark →
        let back := { q with phase := .recovering, recovery := some (recoveryOf mark), counter := .none }
        (Restorable s q → (t.pointRec p).seq = some back) ∧ (¬ Restorable s q → Ended w t p back .dark))) ∧
    (q.phase = .closing ∨ q.phase = .recovering → mapped position = sidePos q.targetSide →
      (q.verification = some .verified → Ended w t p q .done) ∧ (q.verification = some .unverified → Ended w t p q .doneUnverified) ∧
      (q.verification = none → Ended w t p q .done ∨ Ended w t p q .doneUnverified)) ∧
    (q.phase = .recovering → mapped position ≠ sidePos q.targetSide → mapped position = q.originalPos → q.originalSet ≠ none →
      Ended w t p q (.recovered q.cause)) := by
  have live' : ((mapTaken s p position selector).pointRec p).seq = some q := by rw [mapTaken_read, live]
  have entry' : (mapTaken s p position selector).pointEntry p = some x := entry
  refine ⟨fun phase opened => ?_, fun phase closed => ?_, fun phase away back source => ?_⟩
  · refine ⟨fun fresh => ?_, fun mark marked => ?_⟩
    · rw [positionChange_dead live phase opened fresh]
      exact enterDead_seq entry' q _
    · have reason : mark.recovery = recoveryOf mark := by cases mark <;> rfl
      rw [positionChange_aborted live phase opened marked, ← reason]
      exact ⟨fun restores => enterRecovering_seq (s := mapTaken s p position selector) restores mark.recovery,
        fun lost => enterRecovering_ended (s := mapTaken s p position selector) lost mark.recovery⟩
  · rw [positionChange_closed live phase closed]
    exact endClosed_ended live'
  · rw [positionChange_back live phase away back source]
    exact endSequence_ended live' _ none nofun

/-- What the rest of a slot leaves of what a CHANGE report made. -/
structure SlotEnds (s y z t : State) (p : PointNo) : Prop where
  begins : y.points = s.points ∧ y.sets = s.sets ∧ y.engine.queue = s.engine.queue ∧ y.port.notices = s.port.notices ∧
    y.engine.cycleNo = s.engine.cycleNo
  points : t.points = z.points
  sets : t.sets = z.sets
  queue : t.engine.queue = z.engine.queue
  notices : t.port.notices = z.port.notices
  cycle : t.engine.cycleNo = z.engine.cycleNo

theorem SlotEnds.ended {v : State} (h : SlotEnds s v z t p) (ended : EndedBy (mapTaken v p position selector) z p q o manual) :
    EndedBy (reported s p (mapped position) (some selector)) t p q o manual := by
  obtain ⟨points, sets, queue, notices, cycle⟩ := h.begins
  have same : v.pointRec p = s.pointRec p := by rw [State.pointRec, points]; rfl
  have taken : (reported s p (mapped position) (some selector)).points = (mapTaken v p position selector).points := by
    rw [mapTaken_points, reported, reported, points, same]
  have before : Alike p (mapTaken v p position selector) (reported s p (mapped position) (some selector)) :=
    .of_points taken sets.symm queue.symm notices.symm cycle.symm
  exact ended_alike ended before (.of_points h.points h.sets h.queue h.notices h.cycle)

/-- Settles O31, by the map of the point and the phase of its sequence. -/
theorem changeReportIsApplied : Obligations.ChangeReportIsApplied := by
  unfold Obligations.ChangeReportIsApplied
  intro a e p x i j r position selector received deferred s slot idle known valid body owner entry switched
  dsimp only
  obtain ⟨clock, age, run⟩ := exec_plainSlot slot idle known valid deferred
  have begins : ∃ y, y = slotHeard s a clock age ∧ y.points = s.points ∧ y.sets = s.sets ∧ y.engine.queue = s.engine.queue ∧
      y.port.notices = s.port.notices ∧ y.engine.cycleNo = s.engine.cycleNo ∧ y.switched p = some (a, i, j) ∧ y.pointEntry p = some x ∧
      y.tanks = s.tanks ∧ y.meters = s.meters ∧ y.feeders = s.feeders := ⟨_, rfl, rfl, rfl, rfl, rfl, rfl, switched, entry, rfl, rfl, rfl⟩
  obtain ⟨y, hy, points, sets, queue, notices, cycle, switched', entry', tanks, meters, feeders⟩ := begins
  have handed : (slotHeard s a clock age).handBody a e r.body (fun n => deferred.contains (.discrepancy n)) =
      y.changeReport a (p.val + 1) position selector := by rw [body, ← owner, hy]; rfl
  have step := BodyStep.changeReport y a (p.val + 1) position selector
  rw [hy] at step
  have ended := plainEnd_of (e := e) (r := r) step
  rw [handed] at run
  rw [← hy] at ended
  clear hy handed step
  have point (k : PointNo) : y.pointRec k = s.pointRec k := by rw [State.pointRec, points]; rfl
  have online (n : SetNo) : Online y n ↔ Online s n := by rw [Online, Online, State.setRec, sets]; rfl
  have restorable (q : Sequence) : Restorable y q ↔ Restorable s q := by simp only [Restorable, online]
  have kept := changeReport_kept switched' position selector
  have frame := SeqFrame.changeReport y a (p.val + 1) position selector
  have whole := changeReport_eq switched' position selector
  have moves := changeReport_moved (position := position) switched' selector
  have manual (o : SeqOutcome) := changeReport_manual (o := o) (position := position) switched' selector
  have awaits (q : Sequence) (live : (y.pointRec p).seq = some q) := awaited_done (position := position) live entry' selector
  simp only [point, restorable, cycle] at whole moves manual awaits
  obtain ⟨links, port, rest, told⟩ := ended.rest
  generalize y.changeReport a (p.val + 1) position selector = z at run ended kept frame whole moves manual rest told
  generalize (z.forward a e r.raw).startTx = t at run ended rest
  have ends : SlotEnds s y z t p := by
    rw [rest]
    exact ⟨⟨points, sets, queue, notices, cycle⟩, rfl, rfl, rfl, told, rfl⟩
  have map (k : PointNo) : t.pointRec k = z.pointRec k := by rw [State.pointRec, ends.points]; rfl
  have taken : (reported y p (mapped position) (some selector)).points = (reported s p (mapped position) (some selector)).points := by
    rw [reported, reported, points, point]
  refine ⟨t, run, ended.present, ended.misses, ended.forwarded, ?_, ?_, fun k hk => ?_, fun quiet => ?_,
    fun o moved learnt why => ⟨fun idle => ?_, fun q live => ?_⟩, fun q moved learnt fault live => ?_, ended.tables, ended.site, ?_, ?_,
    ended.schedule, ended.tariff, ?_, ended.pending⟩
  · rw [map, kept.selector, mapTaken_read]
  · rw [map, kept.position, mapTaken_read]
  · have other : (mapTaken y p position selector).pointRec k = y.pointRec k :=
      (State.modPoint_other _ p _ hk).trans (State.modPoint_other y p _ hk)
    rw [map, kept.others k hk, other, point]
  · have quiet' : z.points = (reported y p (mapped position) (some selector)).points ∧ z.engine.queue = y.engine.queue ∧
        z.sets = y.sets ∧ z.port.notices = y.port.notices := by
      rw [whole]
      by_cases same : (s.pointRec p).position = mapped position
      · rw [if_pos same]
        exact ⟨selected_points (by rw [point, same]) selector, rfl, rfl, rfl⟩
      · rw [if_neg same, if_pos (quiet.resolve_left (Ne.symm same))]
        exact ⟨mapTaken_points y p position selector, rfl, rfl, rfl⟩
    obtain ⟨zPoints, zQueue, zSets, zNotices⟩ := quiet'
    exact ⟨(ends.points.trans zPoints).trans taken, (ends.queue.trans zQueue).trans queue, (ends.sets.trans zSets).trans sets,
      (ends.notices.trans zNotices).trans notices⟩
  · obtain ⟨changed, outcome⟩ := manual o moved learnt why
    have idle' := manualChange_idle (s := y) (by rw [point]; exact idle) position selector
    rw [← changed, ← outcome, manualPart, point, cycle] at idle'
    refine ⟨ends.points.trans ?_, ?_⟩
    · rw [idle', ← taken]
      exact mapTaken_points y p position selector
    · have first : (mapTaken y p position selector).port.notices = s.port.notices := notices
      exact told_first first (idle' ▸ ended.works)
  · obtain ⟨changed, outcome⟩ := manual o moved learnt why
    have ends' := manualChange_live (s := y) (by rw [point]; exact live) position selector
    rw [← changed, ← outcome, manualPart, point] at ends'
    have live' : ((mapTaken y p position selector).pointRec p).seq = some q := by rw [mapTaken_read, point, live]
    have restarts : o ≠ .restart := by
      rw [outcome]
      split <;> nofun
    exact ends.ended (ends' ▸ endSequence_ended live' o _ restarts)
  · obtain ⟨opening, closing, recovering⟩ := awaits q live
    rw [← moves moved learnt fault] at opening closing recovering
    refine ⟨fun phase opened => ?_, fun phase closed => ?_, fun phase away back source => ends.ended (recovering phase away back source)⟩
    · obtain ⟨fresh, marked⟩ := opening phase opened
      rw [map]
      refine ⟨fresh, fun mark abort => ?_⟩
      obtain ⟨restores, lost⟩ := marked mark abort
      exact ⟨restores, fun dark => ends.ended (lost dark)⟩
    · obtain ⟨verified, unverified, missing⟩ := closing phase closed
      exact ⟨fun h => ends.ended (verified h), fun h => ends.ended (unverified h),
        fun h => (missing h).imp (ends.ended ·) (ends.ended ·)⟩
  · rw [rest]
    exact frame.tanks.trans tanks
  · rw [rest]
    exact frame.meters.trans meters
  · rw [rest]
    exact frame.feeders.trans feeders

end

end Sys2Proof.ChangeReports
end

section
/-! SUPPORT. A FUEL report that reaches a session: the meter's record (R109), and the requests of an IDLE session (R109, R118). -/

namespace Sys2Proof.FuelReports

open Sys2Proof Sys2Proof.Machine Sys2Proof.Stated Sys2Proof.StopAndClear Sys2Proof.Sequencing Sys2Proof.Booking
open Sys2Proof.LinkLoss Sys2Proof.BodySteps Sys2Proof.Sessions

section
variable {s t u v w : State} {a : Addr} {m : MeterNo} {n : SetNo} {f : FuelBody} {x : Session} {k : Nat}

/-! ### The meter's record (R109) -/

/-- The state with the record of a meter. -/
def withMeter (s : State) (m : MeterNo) (r : MeterRec) : State := { s with meters := s.meters.set m r }

theorem withMeter_read (s : State) (m : MeterNo) (r : MeterRec) : (withMeter s m r).meter m = r := by simp [withMeter, State.meter]

theorem withMeter_other (s : State) {m k : MeterNo} (r : MeterRec) (h : k ≠ m) : (withMeter s m r).meter k = s.meter k := by
  simp [withMeter, State.meter, Fin.val_ne_of_ne h.symm]

theorem withMeter_same (s : State) (m : MeterNo) : withMeter s m (s.meter m) = s := by
  have same : s.meters.set m (s.meter m) = s.meters := Vector.set_getElem_self ..
  rw [withMeter, same]

theorem modMeter_eq (s : State) (m : MeterNo) (f : MeterRec → MeterRec) : s.modMeter m f = withMeter s m (f (s.meter m)) := rfl

theorem withMeter_withMeter (s : State) (m : MeterNo) (r r' : MeterRec) : withMeter (withMeter s m r) m r' = withMeter s m r' := by
  simp [withMeter]

/-- The state in which the session finds a report. -/
def heard (s : State) (m : MeterNo) (f : FuelBody) : State := withMeter s m (seen s m f)

theorem heard_read (s : State) (m : MeterNo) (f : FuelBody) : (heard s m f).meter m = seen s m f := withMeter_read s m _

theorem fuelReport_eq (s : State) (a : Addr) (m : MeterNo) (f : FuelBody) : s.fuelReport a (m.val + 1) f =
    match (s.meter m).session with
    | none => (heard s m f).idleReport m a f
    | some x =>
      match x.phase with
      | .granting => heard s m f
      | .dispensing => (heard s m f).dispensingReport m a x f
      | .ticketing _ buffer => (heard s m f).ticketingReport m a x buffer f := by
  have hears : (if f.state = .request then s else s.modMeter m fun r => { r with requestMark := none }) = heard s m f := by
    unfold heard seen
    split
    · exact (withMeter_same s m).symm
    · rfl
  have session : ((heard s m f).meter m).session = (s.meter m).session := by rw [heard_read]; rfl
  unfold State.fuelReport
  rw [numbered_succ]
  dsimp only
  rw [hears, session] <;> rfl

/-! ### Commands of a meter (R32, R108) -/

theorem holdsFor_iff {o : Origin} : s.engine.holdsFor o = false ↔
    (∀ c ∈ s.engine.queue, c.origin ≠ o) ∧ ∀ q, s.engine.outstanding = some q → q.command.origin ≠ o := by
  cases outstanding : s.engine.outstanding <;> simp [Engine.holdsFor, outstanding]

/-- The state in which a command of a meter has joined the queue (R32, R108). -/
def fuelQueued (s : State) (m : MeterNo) (a : Addr) (code : Code) (args : List Byte) : State :=
  { s with
    engine := { s.engine with queue := s.engine.queue ++ [⟨a, code, args, .fuel m⟩] }
    meters := s.meters.set m { s.meter m with place := .queued code } }

theorem enqueueFuel_room (room : MeterRoom s m) (a : Addr) (code : Code) (args : List Byte) :
    s.enqueueFuel m a code args = some (fuelQueued s m a code args) := by
  obtain ⟨short, free⟩ := room
  have joins : s.enqueue ⟨a, code, args, .fuel m⟩ =
      some { s with engine := { s.engine with queue := s.engine.queue ++ [⟨a, code, args, .fuel m⟩] } } :=
    State.enqueue_eq_some.mpr ⟨short, nofun, fun _ => holdsFor_iff.mpr free, rfl⟩
  rw [State.enqueueFuel, joins]
  rfl

theorem enqueueFuel_full (full : ¬ MeterRoom s m) (a : Addr) (code : Code) (args : List Byte) :
    s.enqueueFuel m a code args = none := by
  have refuses : s.enqueue ⟨a, code, args, .fuel m⟩ = none := by
    rw [Option.eq_none_iff_forall_ne_some]
    intro t joins
    obtain ⟨short, -, free, -⟩ := State.enqueue_eq_some.mp joins
    exact full ⟨short, holdsFor_iff.mp (free rfl)⟩
  rw [State.enqueueFuel, refuses]
  rfl

/-! ### What a REQUEST is answered (R109) -/

theorem otherSession_iff : s.otherSession m n = true ↔ ∃ j x, j ≠ m ∧ (s.meter j).session = some x ∧ x.set = n := by
  simp [State.otherSession, allMeters, Option.any_eq_true]

theorem not_hired (h : ∀ n, ¬ Hired s k n) : s.requestDenial m k = some .notHired := by
  unfold State.requestDenial
  split
  · rfl
  next n number =>
    refine if_pos ?_
    rw [Bool.not_eq_true', Bool.eq_false_iff]
    intro enabled
    obtain ⟨x, entry, on⟩ := (Option.any_eq_true ..).mp enabled
    exact h n ⟨numbered_eq_some.mp number, x, entry, on⟩

/-- The denial of a request that names an enabled set, by its two later tests. -/
theorem requestDenial_hired (h : Hired s k n) : s.requestDenial m k =
    if s.otherSession m n then some .setBusy
    else if (s.tank n).capacity - (s.tank n).book < s.site.values.minDelivery then some .noRoom else none := by
  obtain ⟨rfl, x, entry, enabled⟩ := h
  unfold State.requestDenial
  rw [numbered_succ]
  dsimp only
  rw [entry]
  exact if_neg (by rw [Option.any_some, enabled]; decide)

theorem requestDenial_of {why : Option DenyReason} (h : Denial s m k why) : s.requestDenial m k = why := by
  cases h with
  | notHired unknown => exact not_hired unknown
  | setBusy n hired busy => rw [requestDenial_hired hired, if_pos (otherSession_iff.mpr busy)]
  | noRoom n hired idle full =>
    rw [requestDenial_hired hired, if_neg fun busy => ?_, if_pos full]
    obtain ⟨j, x, other, session, set⟩ := otherSession_iff.mp busy
    exact idle j x other session set
  | none n hired idle room =>
    rw [requestDenial_hired hired, if_neg fun busy => ?_, if_neg (Nat.not_lt.mpr room)]
    obtain ⟨j, x, other, session, set⟩ := otherSession_iff.mp busy
    exact idle j x other session set

/-- What a denial reads of a state. -/
theorem requestDenial_congr (others : ∀ j, j ≠ m → (t.meter j).session = (s.meter j).session) (tables : t.tables = s.tables)
    (tanks : t.tanks = s.tanks) (site : t.site = s.site) (k : Nat) : t.requestDenial m k = s.requestDenial m k := by
  have busy (n : SetNo) : t.otherSession m n = s.otherSession m n := by
    rw [Bool.eq_iff_iff, otherSession_iff, otherSession_iff]
    refine exists_congr fun j => exists_congr fun x => and_congr_right fun other => ?_
    rw [others j other]
  have entry (n : SetNo) : t.setEntry n = s.setEntry n := by rw [State.setEntry, tables]; rfl
  have tank (n : SetNo) : t.tank n = s.tank n := by rw [State.tank, tanks]; rfl
  unfold State.requestDenial
  cases numbered 8 k with
  | none => rfl
  | some n =>
    dsimp only
    rw [entry, busy, tank, site]

/-! ### A request taken (R109) -/

/-- The session that a permitted request opens (R109). -/
def permittedSession (s : State) (n : SetNo) : Session :=
  ⟨.granting, n, (s.tank n).capacity - (s.tank n).book, 0, 0, false⟩

theorem takeRequest_waits (h : (s.meter m).place ≠ .free ∨ (s.meter m).requestMark = some k) : s.takeRequest m a k = s := by
  unfold State.takeRequest
  refine if_neg ?_
  rw [Bool.and_eq_true, decide_eq_true_eq, decide_eq_true_eq]
  exact fun new => h.elim (fun taken => taken new.1) fun same => new.2 same

theorem takeRequest_full (full : ¬ MeterRoom s m) : s.takeRequest m a k = s := by
  unfold State.takeRequest State.permit State.deny
  dsimp only
  split
  · split
    · rw [enqueueFuel_full full]
    · rw [enqueueFuel_full full]
    · rfl
  · rfl

section
variable (free : (s.meter m).place = .free) (new : (s.meter m).requestMark ≠ some k) (room : MeterRoom s m)
include free new room

theorem takeRequest_denied {why : DenyReason} (denied : s.requestDenial m k = some why) : s.takeRequest m a k =
    (withMeter (fuelQueued s m a .deny [denialByte why]) m
      { s.meter m with place := .queued .deny, requestMark := some k }).raise
        (.delivery ⟨m, k, .denied, 0, none, some why, none, none⟩) := by
  have read : (fuelQueued s m a .deny [denialByte why]).meter m = { s.meter m with place := .queued .deny } := by
    simp [fuelQueued, State.meter]
  unfold State.takeRequest
  dsimp only
  rw [if_pos (by simp [free, new]), denied]
  dsimp only
  have bytes : s.deny m a k why = match s.enqueueFuel m a .deny [denialByte why] with
      | none => s
      | some s => (s.modMeter m fun r => { r with requestMark := some k }).raise
          (.delivery ⟨m, k, .denied, 0, none, some why, none, none⟩) := by cases why <;> rfl
  rw [bytes, enqueueFuel_room room]
  dsimp only
  rw [modMeter_eq, read]

theorem takeRequest_permitted (hired : Hired s k n) (permitted : s.requestDenial m k = none) : s.takeRequest m a k =
    withMeter (fuelQueued s m a .permit [BitVec.ofNat 8 k, BitVec.ofNat 8 (((s.tank n).capacity - (s.tank n).book) / 256),
        BitVec.ofNat 8 ((s.tank n).capacity - (s.tank n).book)]) m
      { s.meter m with place := .queued .permit, session := some (permittedSession s n), requestMark := some k } := by
  obtain ⟨rfl, -⟩ := hired
  have bytes : beBytes 1 (n.val + 1) ++ beBytes 2 ((s.tank n).capacity - (s.tank n).book) =
      [BitVec.ofNat 8 (n.val + 1), BitVec.ofNat 8 (((s.tank n).capacity - (s.tank n).book) / 256),
        BitVec.ofNat 8 ((s.tank n).capacity - (s.tank n).book)] := by simp [beBytes]
  unfold State.takeRequest
  dsimp only
  rw [if_pos (by simp [free, new]), permitted, numbered_succ]
  dsimp only
  unfold State.permit
  dsimp only
  rw [enqueueFuel_room room, bytes]
  dsimp only
  rw [modMeter_eq]
  have read (args : List Byte) : (fuelQueued s m a .permit args).meter m = { s.meter m with place := .queued .permit } := by
    simp [fuelQueued, State.meter]
  rw [read]
  rfl

end

/-- What a report to meter `m` leaves alone. -/
structure MeterFrame (m : MeterNo) (s t : State) : Prop where
  meters : ∀ k, k ≠ m → t.meter k = s.meter k
  acks : ∀ k, k ≠ m → t.engine.acks[k] = s.engine.acks[k]
  points : t.points = s.points
  feeders : t.feeders = s.feeders
  limitFlags : t.limitFlags = s.limitFlags

theorem MeterFrame.refl (m : MeterNo) (s : State) : MeterFrame m s s := ⟨fun _ _ => rfl, fun _ _ => rfl, rfl, rfl, rfl⟩

theorem MeterFrame.trans (h : MeterFrame m s t) (k : MeterFrame m t u) : MeterFrame m s u :=
  ⟨fun i hi => (k.meters i hi).trans (h.meters i hi), fun i hi => (k.acks i hi).trans (h.acks i hi), k.points.trans h.points,
    k.feeders.trans h.feeders, k.limitFlags.trans h.limitFlags⟩

theorem MeterFrame.withMeter (m : MeterNo) (s : State) (r : MeterRec) : MeterFrame m s (withMeter s m r) :=
  ⟨fun _ hk => withMeter_other s r hk, fun _ _ => rfl, rfl, rfl, rfl⟩

theorem MeterFrame.of_meters (meters : ∀ k, k ≠ m → t.meter k = s.meter k) (acks : t.engine.acks = s.engine.acks)
    (points : t.points = s.points) (feeders : t.feeders = s.feeders) (limitFlags : t.limitFlags = s.limitFlags) : MeterFrame m s t :=
  ⟨meters, fun _ _ => by rw [acks], points, feeders, limitFlags⟩

theorem fuelQueued_other (s : State) (a : Addr) (code : Code) (args : List Byte) {m k : MeterNo} (h : k ≠ m) :
    (fuelQueued s m a code args).meter k = s.meter k := withMeter_other s _ h

/-- What taking a request leaves of the acknowledgements and of the owners. -/
theorem takeRequest_rest (s : State) (m : MeterNo) (a : Addr) (k : Nat) : MeterFrame m s (s.takeRequest m a k) ∧
    (s.takeRequest m a k).engine.acks = s.engine.acks ∧ (s.takeRequest m a k).tanks = s.tanks ∧
    (s.takeRequest m a k).sets = s.sets := by
  by_cases waits : (s.meter m).place ≠ .free ∨ (s.meter m).requestMark = some k
  · rw [takeRequest_waits waits]
    exact ⟨.refl m s, rfl, rfl, rfl⟩
  · rw [not_or, not_not] at waits
    obtain ⟨free, new⟩ := waits
    by_cases room : MeterRoom s m
    · have written (code : Code) (args : List Byte) (r : MeterRec) : MeterFrame m s (withMeter (fuelQueued s m a code args) m r) :=
        .of_meters (fun k hk => (withMeter_other _ r hk).trans (fuelQueued_other s a code args hk)) rfl rfl rfl rfl
      cases denial : s.requestDenial m k with
      | some why =>
        rw [takeRequest_denied free new room denial]
        have other := written .deny [denialByte why] { s.meter m with place := .queued .deny, requestMark := some k }
        exact ⟨⟨other.meters, other.acks, other.points, other.feeders, other.limitFlags⟩, rfl, rfl, rfl⟩
      | none =>
        by_cases hired : ∃ n, Hired s k n
        · obtain ⟨n, hired⟩ := hired
          rw [takeRequest_permitted free new room hired denial]
          exact ⟨written .., rfl, rfl, rfl⟩
        · exact absurd ((not_hired (m := m) (not_exists.mp hired)).symm.trans denial) nofun
    · rw [takeRequest_full room]
      exact ⟨.refl m s, rfl, rfl, rfl⟩

/-! ### A report to an IDLE session (R109, R118) -/

/-- The acknowledgements after a report to an IDLE session: the last completed chunk is acknowledged again (R118). -/
def idleAcks (s : State) (a : Addr) (m : MeterNo) (f : FuelBody) : Vector (Option Ack) 2 :=
  match f.chunk with
  | some (i, _) => if (s.meter m).lastChunk = some i then s.engine.acks.set m (some ⟨a, i⟩) else s.engine.acks
  | none => s.engine.acks

/-- The state of a report to an IDLE session with its acknowledgement. -/
def idleAcked (s : State) (a : Addr) (m : MeterNo) (f : FuelBody) : State :=
  { heard s m f with engine := { s.engine with acks := idleAcks s a m f } }

/-- The state in which a request of an IDLE session is taken. -/
def idleHeard (s : State) (a : Addr) (m : MeterNo) (f : FuelBody) : State :=
  withMeter { s with engine := { s.engine with acks := idleAcks s a m f } } m
    { seen s m f with lastChunk := if f.state = .ticket then (s.meter m).lastChunk else none }

theorem idleReport_eq (s : State) (a : Addr) (m : MeterNo) (f : FuelBody) : (heard s m f).idleReport m a f =
    if f.state = .request then (idleHeard s a m f).takeRequest m a f.requested else idleHeard s a m f := by
  have last : ((heard s m f).meter m).lastChunk = (s.meter m).lastChunk := by rw [heard_read]; rfl
  have acks : (match f.chunk with
      | some (chunk, _) => if (s.meter m).lastChunk = some chunk then (heard s m f).askAck m a chunk else heard s m f
      | none => heard s m f) = idleAcked s a m f := by
    unfold idleAcked idleAcks
    cases f.chunk with
    | none => rfl
    | some c =>
      obtain ⟨i, bytes⟩ := c
      dsimp only
      split <;> rfl
  have cleared : (if f.state = .ticket then idleAcked s a m f
      else (idleAcked s a m f).modMeter m fun r => { r with lastChunk := none }) = idleHeard s a m f := by
    have read : (idleAcked s a m f).meter m = seen s m f := heard_read s m f
    unfold idleHeard
    split
    next ticket => rfl
    · rw [modMeter_eq, read]
      exact withMeter_withMeter { s with engine := { s.engine with acks := idleAcks s a m f } } m _ _
  unfold State.idleReport
  dsimp only
  rw [last]
  exact (congrArg (fun v : State => if f.state = .request then State.takeRequest v m a f.requested else v)
    ((congrArg (fun v : State => if f.state = .ticket then v else v.modMeter m fun r => { r with lastChunk := none }) acks).trans cleared) :)

theorem idleReported (idle : (s.meter m).session = none) (a : Addr) (f : FuelBody) :
    IdleReported s (s.fuelReport a (m.val + 1) f) a m f ∧ MeterFrame m s (s.fuelReport a (m.val + 1) f) := by
  have report := fuelReport_eq s a m f
  rw [idle] at report
  dsimp only at report
  rw [idleReport_eq] at report
  have read : (idleHeard s a m f).meter m =
      { seen s m f with lastChunk := if f.state = .ticket then (s.meter m).lastChunk else none } := withMeter_read _ m _
  have other (k : MeterNo) (hk : k ≠ m) : (idleHeard s a m f).meter k = s.meter k :=
    withMeter_other { s with engine := { s.engine with acks := idleAcks s a m f } } _ hk
  obtain ⟨frame, acks, tanks, sets⟩ := takeRequest_rest (idleHeard s a m f) m a f.requested
  have left : MeterFrame m (idleHeard s a m f) (s.fuelReport a (m.val + 1) f) ∧
      (s.fuelReport a (m.val + 1) f).engine.acks = idleAcks s a m f ∧ (s.fuelReport a (m.val + 1) f).tanks = s.tanks ∧
      (s.fuelReport a (m.val + 1) f).sets = s.sets := by
    rw [report]
    split
    · exact ⟨frame, acks, tanks, sets⟩
    · exact ⟨.refl m _, rfl, rfl, rfl⟩
  obtain ⟨frame, acks, tanks, sets⟩ := left
  have begun : MeterFrame m s (idleHeard s a m f) := by
    refine ⟨other, fun k hk => ?_, rfl, rfl, rfl⟩
    show (idleAcks s a m f)[k] = s.engine.acks[k]
    unfold idleAcks
    split
    · split
      · simp [Fin.val_ne_of_ne hk.symm]
      · rfl
    · rfl
  have request (asks : f.state = .request) : s.fuelReport a (m.val + 1) f = (idleHeard s a m f).takeRequest m a f.requested ∧
      (idleHeard s a m f).meter m = { s.meter m with lastChunk := none } := by
    rw [report, if_pos asks, read, seen, if_pos asks, asks]
    exact ⟨rfl, rfl⟩
  have roomed : MeterRoom (idleHeard s a m f) m ↔ MeterRoom s m := Iff.rfl
  have hired (n : SetNo) : Hired (idleHeard s a m f) f.requested n ↔ Hired s f.requested n := Iff.rfl
  have answers (why : Option DenyReason) (h : Denial s m f.requested why) : (idleHeard s a m f).requestDenial m f.requested = why :=
    (requestDenial_congr (s := s) (t := idleHeard s a m f) (fun j hj => by rw [other j hj]) rfl rfl rfl _).trans (requestDenial_of h)
  refine ⟨⟨fun i bytes chunk same => ?_, fun new => ?_, fun stays => ?_, fun why asks free new room denied => ?_,
    fun n asks free new room named permitted => ?_, tanks, sets⟩, begun.trans frame⟩
  · have again : idleAcks s a m f = s.engine.acks.set m (some ⟨a, i⟩) := by
      unfold idleAcks
      rw [chunk]
      exact if_pos same
    rw [acks, again]
    simp
  · rw [acks]
    unfold idleAcks
    split
    next i bytes chunk => exact if_neg (new i bytes chunk)
    · rfl
  · by_cases asks : f.state = .request
    · obtain ⟨taken, read'⟩ := request asks
      have same : (idleHeard s a m f).takeRequest m a f.requested = idleHeard s a m f := by
        rcases stays with quiet | place | mark | full
        · exact absurd asks quiet
        · exact takeRequest_waits (.inl (by rw [read']; exact place))
        · exact takeRequest_waits (.inr (by rw [read']; exact mark))
        · exact takeRequest_full full
      rw [taken, same, read]
      exact ⟨rfl, rfl⟩
    · rw [report, if_neg asks, read]
      exact ⟨rfl, rfl⟩
  · obtain ⟨taken, read'⟩ := request asks
    have denies := takeRequest_denied (a := a) (by rw [read']; exact free) (by rw [read']; exact new) (roomed.mpr room)
      (answers _ denied)
    have notices : (withMeter (fuelQueued (idleHeard s a m f) m a .deny [denialByte why]) m
        { (idleHeard s a m f).meter m with place := .queued .deny, requestMark := some f.requested }).port.notices =
          s.port.notices := rfl
    have row := withMeter_read (fuelQueued (idleHeard s a m f) m a .deny [denialByte why]) m
      { (idleHeard s a m f).meter m with place := .queued .deny, requestMark := some f.requested }
    rw [taken, denies]
    refine ⟨?_, rfl, told_first notices (.refl _)⟩
    refine Eq.trans row ?_
    rw [read']
  · obtain ⟨taken, read'⟩ := request asks
    have permits := takeRequest_permitted (a := a) (by rw [read']; exact free) (by rw [read']; exact new) (roomed.mpr room)
      ((hired n).mpr named) (answers none permitted)
    rw [taken, permits, withMeter_read, read']
    exact ⟨rfl, rfl⟩

end

end Sys2Proof.FuelReports
end

section
/-! SUPPORT. A FUEL report to a session in DISPENSING or TICKETING (R111 to R114, R116, R117). -/

namespace Sys2Proof.Deliveries

open Sys2Proof Sys2Proof.Machine Sys2Proof.Stated Sys2Proof.StopAndClear Sys2Proof.Sequencing Sys2Proof.Booking
open Sys2Proof.LinkLoss Sys2Proof.BodySteps Sys2Proof.Sessions Sys2Proof.FuelReports Sys2Proof.SetLoading

section
variable {s t u v w z : State} {a : Addr} {m : MeterNo} {n : SetNo} {f : FuelBody} {x : Session} {k : Nat} {buffer : TicketBuffer}

/-! ### What a report leaves of the other meters -/

theorem frame_endSession (m : MeterNo) (s : State) (d : SessionEnd) : MeterFrame m s (s.endSession m d) ∧
    (s.endSession m d).engine.acks = s.engine.acks := by
  cases session : (s.meter m).session with
  | none =>
    have idle : s.endSession m d = s := by rw [State.endSession, session]
    rw [idle]
    exact ⟨.refl m s, rfl⟩
  | some x =>
    have others (r : MeterRec) (k : MeterNo) (hk : k ≠ m) : (s.meters.set m r)[k] = s.meter k := withMeter_other s r hk
    by_cases plain : x.phase = .granting ∨ d.result = .complete
    · rw [endSession_plain session plain]
      exact ⟨.of_meters (others _) rfl rfl rfl rfl, rfl⟩
    · obtain ⟨delivering, cut⟩ := not_or.mp plain
      rw [endSession_live session delivering cut]
      exact ⟨.of_meters (others _) rfl rfl rfl rfl, rfl⟩

/-- What a change of a book leaves of the state beside its tank, its set and the notices. -/
theorem changeBook_rest (s : State) (n : SetNo) (d : Int) : (s.changeBook n d).meters = s.meters ∧
    (s.changeBook n d).engine = s.engine ∧ (s.changeBook n d).points = s.points ∧ (s.changeBook n d).feeders = s.feeders ∧
    (s.changeBook n d).limitFlags = s.limitFlags ∧ (s.changeBook n d).tickets = s.tickets ∧ (s.changeBook n d).site = s.site := by
  have frame := (TankStep.changeBook n s d).frame
  exact ⟨(congrArg State.meters frame :), (congrArg State.engine frame :), (congrArg State.points frame :),
    (congrArg State.feeders frame :), (congrArg State.limitFlags frame :), (congrArg State.tickets frame :),
    (congrArg State.site frame :)⟩

theorem MeterFrame.changeBook (m : MeterNo) (s : State) (n : SetNo) (d : Int) : MeterFrame m s (s.changeBook n d) := by
  obtain ⟨meters, engine, points, feeders, limitFlags, -, -⟩ := changeBook_rest s n d
  exact .of_meters (fun k _ => by rw [State.meter, meters]; rfl) (by rw [engine]) points feeders limitFlags

theorem frame_askAck (m : MeterNo) (s : State) (a : Addr) (i : Byte) : MeterFrame m s (s.askAck m a i) := by
  refine ⟨fun _ _ => rfl, fun k hk => ?_, rfl, rfl, rfl⟩
  show (s.engine.acks.set m (some ⟨a, i⟩))[k] = s.engine.acks[k]
  simp [Fin.val_ne_of_ne hk.symm]

theorem frame_bookDelivery (m : MeterNo) (s : State) (x : Session) (volume : Nat) : MeterFrame m s (s.bookDelivery m x volume) := by
  unfold State.bookDelivery
  split
  · exact (MeterFrame.changeBook m s x.set _).trans (.withMeter m _ _)
  · exact .refl m s

theorem enterTicketing_eq (s : State) (m : MeterNo) : s.enterTicketing m = withMeter (s.withdraw (.fuel m)) m
    { s.meter m with
      place := (s.meter m).place.unqueue, due := false
      session := (s.meter m).session.map fun x =>
        { x with cancel := false, phase := .ticketing (some s.site.values.ticketWait) none } } := by
  have dropped : s.dropMeterCommand m =
      withMeter (s.withdraw (.fuel m)) m { s.meter m with place := (s.meter m).place.unqueue, due := false } := rfl
  unfold State.enterTicketing
  rw [modMeter_eq, dropped, withMeter_read]
  exact withMeter_withMeter (s.withdraw (.fuel m)) m _ _

theorem frame_enterTicketing (m : MeterNo) (s : State) : MeterFrame m s (s.enterTicketing m) := by
  rw [enterTicketing_eq]
  exact .of_meters (fun k hk => withMeter_other (s.withdraw (.fuel m)) _ hk) rfl rfl rfl rfl

/-- The state in which a ticket taken ends its session (R116). -/
def ticketBooked (s : State) (m : MeterNo) (x : Session) (y : Ticket) : State :=
  { (s.changeBook x.set ((y.volume : Int) - x.live)).addDelivered x.set y.volume with
    tickets := s.tickets ++ [⟨y, m, x.live, (y.volume : Int) - x.live⟩] }

theorem takeTicket_eq (s : State) (m : MeterNo) (x : Session) (y : Ticket) (i : Byte) : s.takeTicket m x y i =
    (ticketBooked s m x y).endSession m
      { result := .complete, ticket := some ⟨y.number, y.volume, (y.volume : Int) - x.live⟩, lastChunk := some i } := by
  obtain ⟨-, -, -, -, -, tickets, -⟩ := changeBook_rest s x.set ((y.volume : Int) - x.live)
  have kept : ((s.changeBook x.set ((y.volume : Int) - x.live)).addDelivered x.set y.volume).tickets = s.tickets := tickets
  unfold State.takeTicket ticketBooked
  dsimp only
  rw [kept]

theorem frame_delivered (m : MeterNo) (s : State) (n : SetNo) (volume : Nat) (tickets : List TicketRecord) :
    MeterFrame m s { s.addDelivered n volume with tickets } := ⟨fun _ _ => rfl, fun _ _ => rfl, rfl, rfl, rfl⟩

theorem frame_ticketBooked (m : MeterNo) (s : State) (x : Session) (y : Ticket) : MeterFrame m s (ticketBooked s m x y) := by
  have changed := MeterFrame.changeBook m s x.set ((y.volume : Int) - x.live)
  unfold ticketBooked
  generalize s.changeBook x.set ((y.volume : Int) - x.live) = v at changed ⊢
  exact changed.trans (frame_delivered m v x.set y.volume _)

theorem ticketBooked_engine (s : State) (m : MeterNo) (x : Session) (y : Ticket) : (ticketBooked s m x y).engine = s.engine := by
  have engine := (changeBook_rest s x.set ((y.volume : Int) - x.live)).2.1
  unfold ticketBooked
  generalize s.changeBook x.set ((y.volume : Int) - x.live) = v at engine ⊢
  exact engine

theorem frame_acceptChunk (m : MeterNo) (s : State) (a : Addr) (x : Session) (b : TicketBuffer) :
    MeterFrame m s (s.acceptChunk m a x b) ∧ (s.acceptChunk m a x b).engine.acks[m] = some ⟨a, b.lastChunk⟩ := by
  have asked := frame_askAck m s a b.lastChunk
  have ack : (s.askAck m a b.lastChunk).engine.acks[m] = some ⟨a, b.lastChunk⟩ := by simp [State.askAck]
  unfold State.acceptChunk
  dsimp only
  generalize s.askAck m a b.lastChunk = v at asked ack
  split
  · exact ⟨asked.trans (.withMeter m v _), ack⟩
  · split
    next y _ =>
      have booked := frame_ticketBooked m v x y
      have engine := ticketBooked_engine v m x y
      rw [takeTicket_eq]
      generalize ticketBooked v m x y = w at booked engine
      obtain ⟨ended, acks⟩ := frame_endSession m w
        { result := .complete, ticket := some ⟨y.number, y.volume, (y.volume : Int) - x.live⟩, lastChunk := some b.lastChunk }
      exact ⟨(asked.trans booked).trans ended, (congrArg (fun acks : Vector (Option Ack) 2 => acks[m]) (acks.trans (congrArg Engine.acks engine))).trans ack⟩
    · obtain ⟨ended, acks⟩ := frame_endSession m v { result := .noTicket }
      exact ⟨asked.trans ended, (congrArg (fun acks : Vector (Option Ack) 2 => acks[m]) acks).trans ack⟩

theorem frame_ticketChunk (m : MeterNo) (s : State) (a : Addr) (x : Session) (buffer : Option TicketBuffer) (i : Byte)
    (bytes : List Byte) : MeterFrame m s (s.ticketChunk m a x buffer i bytes) := by
  unfold State.ticketChunk State.firstChunk
  split
  · split
    · split
      · exact (frame_endSession m s _).1
      · split
        · exact .withMeter m s _
        · split
          · exact (frame_acceptChunk m s a x _).1
          · exact (frame_endSession m s _).1
    · exact (frame_endSession m s _).1
  · split
    · exact (frame_acceptChunk m s a x _).1
    · split
      · exact frame_askAck m s a i
      · exact (frame_endSession m s _).1

theorem frame_ticketingReport (m : MeterNo) (s : State) (a : Addr) (x : Session) (buffer : Option TicketBuffer) (f : FuelBody) :
    MeterFrame m s (s.ticketingReport m a x buffer f) := by
  unfold State.ticketingReport
  split
  · exact frame_ticketChunk m s a x buffer _ _
  · split
    · exact (frame_endSession m s _).1
    · exact (frame_endSession m s _).1
    all_goals exact .refl m s

theorem frame_dispensingReport (m : MeterNo) (s : State) (a : Addr) (x : Session) (f : FuelBody) :
    MeterFrame m s (s.dispensingReport m a x f) := by
  have booked := frame_bookDelivery m s x f.volume
  unfold State.dispensingReport
  dsimp only
  generalize s.bookDelivery m x f.volume = v at booked
  refine booked.trans ?_
  split
  · exact .refl m v
  · exact frame_enterTicketing m v
  · split
    · exact (frame_enterTicketing m v).trans (frame_ticketChunk m _ a _ _ _ _)
    · exact frame_enterTicketing m v
  · exact (frame_endSession m v _).1
  · exact (frame_endSession m v _).1

theorem frame_fuelReport (m : MeterNo) (s : State) (a : Addr) (f : FuelBody) : MeterFrame m s (s.fuelReport a (m.val + 1) f) := by
  have hears : MeterFrame m s (heard s m f) := .withMeter m s _
  cases session : (s.meter m).session with
  | none => exact (idleReported session a f).2
  | some x =>
    rw [fuelReport_eq, session]
    dsimp only
    split
    · exact hears
    · exact hears.trans (frame_dispensingReport m _ a x f)
    · exact hears.trans (frame_ticketingReport m _ a x _ f)

/-! ### The end of a session, between states with the same books -/

/-- What a report to a session reads of a state and leaves in it. -/
structure SameBooks (s t : State) : Prop where
  meters : t.meters = s.meters
  tanks : t.tanks = s.tanks
  sets : t.sets = s.sets
  queue : t.engine.queue = s.engine.queue
  notices : t.port.notices = s.port.notices
  tables : t.tables = s.tables
  site : t.site = s.site
  rest : t.tickets = s.tickets ∧ t.points = s.points ∧ t.tariff = s.tariff ∧ t.feeders = s.feeders ∧ t.schedule = s.schedule

theorem SameBooks.refl (s : State) : SameBooks s s := ⟨rfl, rfl, rfl, rfl, rfl, rfl, rfl, rfl, rfl, rfl, rfl, rfl⟩

section
variable (h : SameBooks s t)
include h

theorem SameBooks.meter (m : MeterNo) : t.meter m = s.meter m := by rw [State.meter, h.meters]; rfl

theorem SameBooks.tank (n : SetNo) : t.tank n = s.tank n := by rw [State.tank, h.tanks]; rfl

theorem SameBooks.setRec (n : SetNo) : t.setRec n = s.setRec n := by rw [State.setRec, h.sets]; rfl

end

theorem told_same {body : NoticeBody} (h : Told w z body) (before : SameBooks w s) (after : SameBooks z t) : Told s t body :=
  StoppingCycles.told_alike h before.notices after.notices

theorem sessionEnded_same {result : DeliveryResult} (h : SessionEnded w z m x result) (before : SameBooks w s) (after : SameBooks z t)
    (billing : t.billing = s.billing) : SessionEnded s t m x result where
  meter := by rw [after.meter, before.meter]; exact h.meter
  others k hk := by rw [after.meter, before.meter]; exact h.others k hk
  withdrawn c hc := by
    rw [before.queue]
    exact h.withdrawn c (after.queue ▸ hc)
  tank := by rw [after.tank, before.tank]; exact h.tank
  tanks n hn := by rw [after.tank, before.tank]; exact h.tanks n hn
  hire := by rw [after.setRec, before.setRec]; exact h.hire
  sets n hn := by rw [after.setRec, before.setRec]; exact h.sets n hn
  told := told_same h.told before after
  rest := by
    obtain ⟨tables, site, tickets, points, -, tariff, feeders, schedule⟩ := h.rest
    obtain ⟨tickets', points', tariff', feeders', schedule'⟩ := before.rest
    obtain ⟨tickets'', points'', tariff'', feeders'', schedule''⟩ := after.rest
    exact ⟨(after.tables.trans tables).trans before.tables.symm, (after.site.trans site).trans before.site.symm,
      (tickets''.trans tickets).trans tickets'.symm, (points''.trans points).trans points'.symm, billing,
      (tariff''.trans tariff).trans tariff'.symm, (feeders''.trans feeders).trans feeders'.symm,
      (schedule''.trans schedule).trans schedule'.symm⟩

/-! ### The volume booked (R111) -/

/-- The booking of a report's volume. -/
structure Booked (s t : State) (m : MeterNo) (x : Session) (volume : Nat) : Prop where
  meter : t.meter m = { s.meter m with session := some (dispensed x volume) }
  engine : t.engine = s.engine
  site : t.site = s.site
  delivered : (t.tank x.set).delivered = (s.tank x.set).delivered
  none : volume ≤ x.highWater → t = s
  tank : x.highWater < volume → (s.tank x.set).book ≤ (s.tank x.set).capacity →
    (t.tank x.set).book = min (s.tank x.set).capacity ((s.tank x.set).book + (volume - x.highWater)) ∧
      ((s.tank x.set).capacity < (s.tank x.set).book + (volume - x.highWater) → (t.tank x.set).discrepancy = true ∧
        (t.tank x.set).adjustments = max (-(2 ^ 63)) (min (2 ^ 63 - 1) ((s.tank x.set).adjustments +
          ((s.tank x.set).capacity - ((s.tank x.set).book + (volume - x.highWater) : Nat) : Int))))
  spends : Spends 3 s t

theorem bookDelivery_booked (session : (s.meter m).session = some x) (volume : Nat) :
    Booked s (s.bookDelivery m x volume) m x volume := by
  by_cases more : x.highWater < volume
  · have grown : dispensed x volume = { x with live := x.live + (volume - x.highWater), highWater := volume } := if_pos more
    have books : s.bookDelivery m x volume = withMeter (s.changeBook x.set ((volume - x.highWater : Nat) : Int)) m
        { (s.changeBook x.set ((volume - x.highWater : Nat) : Int)).meter m with session := some (dispensed x volume) } := by
      rw [grown]
      exact if_pos more
    obtain ⟨low, reserve, tank⟩ := changeBook_tank s x.set ((volume - x.highWater : Nat) : Int)
    obtain ⟨meters, engine, points, -, -, -, site⟩ := changeBook_rest s x.set ((volume - x.highWater : Nat) : Int)
    have spends := spends_of_tankStep (TankStep.changeBook x.set s ((volume - x.highWater : Nat) : Int))
    have same : (s.changeBook x.set ((volume - x.highWater : Nat) : Int)).meter m = s.meter m := by
      rw [State.meter, meters]
      rfl
    rw [books, same]
    generalize s.changeBook x.set ((volume - x.highWater : Nat) : Int) = v at tank meters engine site spends points
    have after : (withMeter v m { s.meter m with session := some (dispensed x volume) }).tank x.set = v.tank x.set := rfl
    have written : Spends 0 v (withMeter v m { s.meter m with session := some (dispensed x volume) }) := .of_notices rfl fun _ => rfl
    refine ⟨withMeter_read v m _, engine, site, by rw [after, tank], fun few => absurd more (Nat.not_lt.mpr few), fun _ within => ?_,
      spends.trans written⟩
    have asked : askedLevel s x.set ((volume - x.highWater : Nat) : Int) =
        ((s.tank x.set).book + (volume - x.highWater) : Nat) := by rw [askedLevel]; omega
    rw [after, tank]
    dsimp only
    rw [storedLevel, asked]
    generalize (s.tank x.set).book + (volume - x.highWater) = level
    refine ⟨by omega, fun excess => ⟨?_, ?_⟩⟩
    · rw [Bool.or_eq_true]
      exact .inr (decide_eq_true (by omega))
    · have stored : max 0 (min ((s.tank x.set).capacity : Int) (level : Int)) = (s.tank x.set).capacity := by omega
      rw [stored, if_neg (by omega)]
      rfl
  · have flat : dispensed x volume = x := if_neg more
    have books : s.bookDelivery m x volume = s := if_neg more
    have same : s.meter m = { s.meter m with session := some (dispensed x volume) } := by rw [flat, ← session]
    rw [books]
    exact ⟨same, rfl, rfl, rfl, fun _ => rfl, fun more' => absurd more' more, (Spends.refl s).mono (Nat.zero_le _)⟩

/-! ### DISPENSING (R111, R112) -/

theorem dispensingReported (session : (s.meter m).session = some x) (phase : x.phase = .dispensing) (a : Addr) (f : FuelBody) :
    DispensingReported s (s.fuelReport a (m.val + 1) f) m x f := by
  have read := heard_read s m f
  have session' : ((heard s m f).meter m).session = some x := by rw [read]; exact session
  have booked := bookDelivery_booked session' f.volume
  have report : s.fuelReport a (m.val + 1) f = (heard s m f).dispensingReport m a x f := by
    rw [fuelReport_eq, session]
    dsimp only
    rw [phase]
  have begun : Spends 0 s (heard s m f) := .of_notices rfl fun _ => rfl
  unfold State.dispensingReport at report
  dsimp only at report
  have flat (few : f.volume ≤ x.highWater) : (heard s m f).bookDelivery m x f.volume = heard s m f := booked.none few
  have books : SameBooks (heard s m f) (heard s m f) := .refl _
  generalize s.fuelReport a (m.val + 1) f = t at report
  generalize (heard s m f).bookDelivery m x f.volume = v at booked report flat
  have row : (v.meter m).session = some (dispensed x f.volume) := by rw [booked.meter]
  have opened : (v.enterTicketing m).meter m = { v.meter m with
      place := (v.meter m).place.unqueue, due := false
      session := some { dispensed x f.volume with cancel := false, phase := .ticketing (some s.site.values.ticketWait) none } } := by
    have site : v.site = s.site := booked.site
    rw [enterTicketing_eq, withMeter_read, row, site]
    rfl
  have queue : v.engine.queue = s.engine.queue := congrArg Engine.queue booked.engine
  have tanks (h : f.state = .dispensing ∨ f.state = .ended) : t.tanks = v.tanks ∧ t.sets = v.sets := by
    rcases h with state | state
    · rw [report, state]
      exact ⟨rfl, rfl⟩
    · rw [report, state]
      dsimp only
      rw [enterTicketing_eq]
      exact ⟨rfl, rfl⟩
  refine ⟨fun more within state => ?_, fun few state => ?_, fun state => ?_, fun state => ?_, fun state => ?_⟩
  · have tank : t.tank x.set = v.tank x.set := by rw [State.tank, (tanks state).1]; rfl
    dsimp only
    rw [tank]
    exact booked.tank more within
  · obtain ⟨tanks, sets⟩ := tanks state
    rw [tanks, sets, flat few]
    exact ⟨rfl, rfl⟩
  · rw [report, state]
    dsimp only
    rw [booked.meter, read]
    exact ⟨rfl, queue⟩
  · have ends : t = v.enterTicketing m := by
      rcases state with state | ⟨state, none⟩
      · rw [report, state]
      · rw [report, state]
        dsimp only
        rw [none]
        split
        next found => exact absurd found nofun
        · rfl
    rw [ends, opened, booked.meter, read]
    refine ⟨rfl, fun c hc => ?_⟩
    rw [enterTicketing_eq] at hc
    obtain ⟨queued, other⟩ := mem_withdrawn (s := v) hc
    exact ⟨queue ▸ queued, other⟩
  · have ends : t = v.endSession m { result := .noTicket } := by rcases state with state | state <;> rw [report, state]
    have delivering : (dispensed x f.volume).phase ≠ .granting := by
      unfold dispensed
      split <;> rw [phase] <;> nofun
    have set : (dispensed x f.volume).set = x.set := by
      unfold dispensed
      split <;> rfl
    have ended := sessionEnded_endSession row delivering (result := .noTicket) nofun
    have gone := endSession_gone row { result := .noTicket }
    have told : Told s (v.endSession m { result := .noTicket })
        (endedBody m (dispensed x f.volume) { result := .noTicket }) :=
      (gone.told.after (begun.trans booked.spends)).told (by omega)
    have tank := congrArg Tank.delivered ended.tank
    rw [set, booked.delivered] at tank
    rw [endedBody, set] at told
    rw [ends]
    refine ⟨congrArg MeterRec.session ended.meter, congrArg MeterRec.promoted ended.meter, tank, told, fun few => ?_⟩
    have ended' := sessionEnded_endSession session' (by rw [phase]; nofun) (result := .noTicket) nofun
    rw [flat few]
    exact sessionEnded_same ended' ⟨rfl, rfl, rfl, rfl, rfl, rfl, rfl, rfl, rfl, rfl, rfl, rfl⟩ (.refl _) rfl

end

end Sys2Proof.Deliveries
end

section
/-! SUPPORT. The ticket of a delivery, chunk by chunk (R113, R114, R116); and the whole slot of a FUEL report (R109 to R118). -/

namespace Sys2Proof.TicketChunks

open Sys2Proof Sys2Proof.Machine Sys2Proof.Stated Sys2Proof.StopAndClear Sys2Proof.Sequencing Sys2Proof.Booking
open Sys2Proof.LinkLoss Sys2Proof.BodySteps Sys2Proof.Sessions Sys2Proof.FuelReports Sys2Proof.SetLoading Sys2Proof.Deliveries
open Sys2Proof.PlainSlots Sys2Proof.Slots

section
variable {s t u v w z : State} {a : Addr} {m : MeterNo} {n : SetNo} {f : FuelBody} {x : Session} {k : Nat} {buffer : TicketBuffer}

/-! ### A ticket taken (R116) -/

/-- What the booking of a ticket leaves for the end of its session. -/
structure TicketTaken (s t : State) (m : MeterNo) (x : Session) (y : Ticket) : Prop where
  meters : t.meters = s.meters
  tickets : t.tickets = s.tickets ++ [⟨y, m, x.live, (y.volume : Int) - x.live⟩]
  book : ((t.tank x.set).book : Int) =
    max 0 (min ((s.tank x.set).capacity : Int) ((s.tank x.set).book + ((y.volume : Int) - x.live)))
  delivered : (t.tank x.set).delivered = min (2 ^ 64 - 1) ((s.tank x.set).delivered + y.volume)
  hire : (t.setRec x.set).hire.delivered = min (2 ^ 64 - 1) ((s.setRec x.set).hire.delivered + y.volume)
  spends : Spends 3 s t

theorem addDelivered_tank (s : State) (n : SetNo) (volume : Nat) : (s.addDelivered n volume).tank n =
    { s.tank n with delivered := min (2 ^ 64 - 1) ((s.tank n).delivered + volume) } := by
  simp [State.addDelivered, satAdd, max64]

theorem addDelivered_hire (s : State) (n : SetNo) (volume : Nat) : ((s.addDelivered n volume).setRec n).hire.delivered =
    min (2 ^ 64 - 1) ((s.setRec n).hire.delivered + volume) := by
  simp [State.addDelivered, State.modHire, satAdd, max64]

theorem ticketBooked_taken (s : State) (m : MeterNo) (x : Session) (y : Ticket) : TicketTaken s (ticketBooked s m x y) m x y := by
  obtain ⟨low, reserve, tank⟩ := changeBook_tank s x.set ((y.volume : Int) - x.live)
  have step := TankStep.changeBook x.set s ((y.volume : Int) - x.live)
  obtain ⟨meters, -⟩ := changeBook_rest s x.set ((y.volume : Int) - x.live)
  obtain ⟨adjustments, set⟩ := step.set
  have spends := spends_of_tankStep step
  unfold ticketBooked
  generalize s.changeBook x.set ((y.volume : Int) - x.live) = v at tank meters set spends
  have tank' := addDelivered_tank v x.set y.volume
  have hire := addDelivered_hire v x.set y.volume
  have added : Spends 0 v { v.addDelivered x.set y.volume with
      tickets := s.tickets ++ [⟨y, m, x.live, (y.volume : Int) - x.live⟩] } := .of_notices rfl fun _ => rfl
  have meters' : (v.addDelivered x.set y.volume).meters = v.meters := rfl
  rw [tank] at tank'
  rw [set] at hire
  generalize v.addDelivered x.set y.volume = w at tank' hire added meters'
  have read : ({ w with tickets := s.tickets ++ [⟨y, m, x.live, (y.volume : Int) - x.live⟩] } : State).tank x.set = w.tank x.set := rfl
  refine ⟨meters'.trans meters, rfl, ?_, ?_, hire, spends.trans added⟩
  · rw [read, tank']
    dsimp only
    rw [storedLevel, askedLevel]
    omega
  · rw [read, tank']

/-- The state with the acknowledgement of a chunk due (R113). -/
theorem askAck_books (s : State) (m : MeterNo) (a : Addr) (i : Byte) : SameBooks s (s.askAck m a i) :=
  ⟨rfl, rfl, rfl, rfl, rfl, rfl, rfl, rfl, rfl, rfl, rfl, rfl⟩

theorem atMeter_books (s t : State) (m : MeterNo) (f : FuelBody) : SameBooks (heard s m f) (atMeter s t m f) :=
  ⟨rfl, rfl, rfl, rfl, rfl, rfl, rfl, rfl, rfl, rfl, rfl, rfl⟩

/-- The end NO_TICKET of a session that a report has reached. -/
theorem noTicket_ended (session : (s.meter m).session = some x) (delivering : x.phase ≠ .granting) (f : FuelBody) :
    SessionEnded (atMeter s ((heard s m f).endSession m { result := .noTicket }) m f)
      ((heard s m f).endSession m { result := .noTicket }) m x .noTicket := by
  have session' : ((heard s m f).meter m).session = some x := by rw [heard_read]; exact session
  have ended := sessionEnded_endSession session' delivering (result := .noTicket) nofun
  have billing : ((heard s m f).endSession m { result := .noTicket }).billing = s.billing := by
    obtain ⟨-, -, -, -, billing, -⟩ := ended.rest
    exact billing
  exact sessionEnded_same ended (atMeter_books s _ m f) (.refl _) rfl

theorem acceptChunk_accepted (session : (s.meter m).session = some x) (delivering : x.phase ≠ .granting) (a : Addr) (f : FuelBody)
    (buffer : TicketBuffer) : ChunkAccepted s ((heard s m f).acceptChunk m a x buffer) a m x f buffer := by
  have read : ((heard s m f).askAck m a buffer.lastChunk).meter m = seen s m f := heard_read s m f
  have session' : (((heard s m f).askAck m a buffer.lastChunk).meter m).session = some x := by rw [read]; exact session
  have books := askAck_books (heard s m f) m a buffer.lastChunk
  refine ⟨(frame_acceptChunk m (heard s m f) a x buffer).2, fun short => ?_, fun y long parsed own => ?_, fun long unreadable => ?_⟩
  · have parts : (heard s m f).acceptChunk m a x buffer = ((heard s m f).askAck m a buffer.lastChunk).putTicketing m x
        (some s.site.values.ticketWait) (some buffer) := if_pos short
    rw [parts]
    refine ⟨?_, rfl, rfl, rfl⟩
    rw [State.putTicketing, State.modMeter_read, read]
  · have takes : (heard s m f).acceptChunk m a x buffer = (ticketBooked ((heard s m f).askAck m a buffer.lastChunk) m x y).endSession m
        { result := .complete, ticket := some ⟨y.number, y.volume, (y.volume : Int) - x.live⟩, lastChunk := some buffer.lastChunk } := by
      have readable : readableTicket x buffer = some y := by
        rw [readableTicket, parsed]
        exact Option.filter_eq_some_iff.mpr ⟨rfl, decide_eq_true own⟩
      unfold State.acceptChunk
      dsimp only
      rw [if_neg (Nat.not_lt.mpr long), readable]
      dsimp only
      rw [takeTicket_eq]
    have taken := ticketBooked_taken ((heard s m f).askAck m a buffer.lastChunk) m x y
    have begun : Spends 0 s ((heard s m f).askAck m a buffer.lastChunk) := .of_notices rfl fun _ => rfl
    have same (k : SetNo) : ((heard s m f).askAck m a buffer.lastChunk).tank k = s.tank k ∧
        ((heard s m f).askAck m a buffer.lastChunk).setRec k = s.setRec k ∧
        ((heard s m f).askAck m a buffer.lastChunk).tickets = s.tickets := ⟨rfl, rfl, rfl⟩
    obtain ⟨tank, set, tickets⟩ := same x.set
    rw [takes]
    generalize (heard s m f).askAck m a buffer.lastChunk = v at read session' taken begun tank set tickets
    have booked := taken.spends
    obtain ⟨meters, held, book, delivered, hire, -⟩ := taken
    rw [tank] at book delivered
    rw [set] at hire
    rw [tickets] at held
    generalize ticketBooked v m x y = w at meters held book delivered hire booked
    have row : w.meter m = seen s m f := by rw [State.meter, meters]; exact read
    have live : (w.meter m).session = some x := by rw [row]; exact session
    have told := (endSession_gone live
      { result := .complete, ticket := some ⟨y.number, y.volume, (y.volume : Int) - x.live⟩, lastChunk := some buffer.lastChunk }).told
    have raised := (told.after (begun.trans booked)).told (by omega)
    have ends := endSession_plain live (.inr rfl)
      (d := { result := .complete, ticket := some ⟨y.number, y.volume, (y.volume : Int) - x.live⟩, lastChunk := some buffer.lastChunk })
    generalize hz : w.endSession m
      { result := .complete, ticket := some ⟨y.number, y.volume, (y.volume : Int) - x.live⟩, lastChunk := some buffer.lastChunk } = z
      at raised ends
    have zTank : z.tank x.set = { w.tank x.set with discCount := 0 } := by rw [ends]; simp [State.tank]
    have zMeter : z.meter m = endedMeter (w.meter m) (some buffer.lastChunk) := by rw [ends]; simp [State.meter]
    have zTickets : z.tickets = w.tickets := by rw [ends]; rfl
    have zSets : z.setRec x.set = w.setRec x.set := by rw [ends]; rfl
    rw [zTank, zMeter, zTickets, zSets, row]
    exact ⟨rfl, held, book, delivered, rfl, hire, raised⟩
  · have ends : (heard s m f).acceptChunk m a x buffer =
        ((heard s m f).askAck m a buffer.lastChunk).endSession m { result := .noTicket } := by
      have unread : readableTicket x buffer = none := by
        rw [readableTicket, Option.filter_eq_none_iff]
        intro y parsed own
        exact unreadable y parsed (of_decide_eq_true own)
      unfold State.acceptChunk
      dsimp only
      rw [if_neg (Nat.not_lt.mpr long), unread]
    have ended := sessionEnded_endSession session' delivering (result := .noTicket) nofun
    have billing : (((heard s m f).askAck m a buffer.lastChunk).endSession m { result := .noTicket }).billing = s.billing := by
      obtain ⟨-, -, -, -, billing, -⟩ := ended.rest
      exact billing
    rw [ends]
    exact sessionEnded_same ended ⟨rfl, rfl, rfl, rfl, rfl, rfl, rfl, rfl, rfl, rfl, rfl, rfl⟩ (.refl _) rfl

/-! ### Chunk by chunk (R113, R114) -/

theorem placeFree_iff : (heard s m f).placeFree = true ↔ placesTaken s < 16 := by
  have claims (k : MeterNo) : ((heard s m f).meter k).session = (s.meter k).session := by
    by_cases own : k = m
    · subst own
      rw [heard_read]
      rfl
    · rw [heard, withMeter_other s _ own]
  have claimed : (heard s m f).placesClaimed = (allMeters.filter fun m =>
      match (s.meter m).session.map Session.phase with
      | some (.ticketing _ (some _)) => true
      | _ => false).length := by
    unfold State.placesClaimed
    refine congrArg List.length (List.filter_congr fun k _ => ?_)
    rw [claims]
    cases (s.meter k).session with
    | none => rfl
    | some y =>
      obtain ⟨phase, -⟩ := y
      cases phase with
      | granting => rfl
      | dispensing => rfl
      | ticketing wait buffer => cases buffer <;> rfl
  have tickets : (heard s m f).tickets = s.tickets := rfl
  rw [State.placeFree, decide_eq_true_eq, claimed, tickets]
  rfl

theorem ticketingReported (session : (s.meter m).session = some x) {wait : Option Nat} {buffer : Option TicketBuffer}
    (phase : x.phase = .ticketing wait buffer) (a : Addr) (f : FuelBody) :
    TicketingReported s (s.fuelReport a (m.val + 1) f) a m x buffer f := by
  have read := heard_read s m f
  have delivering : x.phase ≠ .granting := by rw [phase]; nofun
  have ended := noTicket_ended session delivering f
  have accepted := acceptChunk_accepted session delivering a f
  have report : s.fuelReport a (m.val + 1) f = (heard s m f).ticketingReport m a x buffer f := by
    rw [fuelReport_eq, session]
    dsimp only
    rw [phase]
  have chunk (i : Byte) (bytes : List Byte) (h : f.chunk = some (i, bytes)) :
      s.fuelReport a (m.val + 1) f = (heard s m f).ticketChunk m a x buffer i bytes := by
    rw [report]
    unfold State.ticketingReport
    rw [h]
  have firsts (bytes : List Byte) (h : f.chunk = some (0, bytes)) (none : buffer = none) :
      s.fuelReport a (m.val + 1) f = (heard s m f).firstChunk m a x bytes := by
    rw [chunk 0 bytes h, none]
    unfold State.ticketChunk
    dsimp only
    exact if_pos rfl
  refine ⟨fun none => ⟨fun state => ?_, fun idle request => ?_⟩, fun i bytes h none bad => ?_, fun bytes h none some full => ?_,
    fun b bytes h none free => ⟨fun length => ?_, fun length => ?_⟩, fun i bytes y h held => ⟨fun next => ?_, fun again => ?_, fun other skips => ?_⟩⟩
  · have ends : s.fuelReport a (m.val + 1) f = (heard s m f).endSession m { result := .noTicket } := by
      rw [report]
      unfold State.ticketingReport
      rcases state with state | state <;> rw [none, state]
    rw [ends]
    exact ended
  · have stays : s.fuelReport a (m.val + 1) f = heard s m f := by
      rw [report]
      unfold State.ticketingReport
      rw [none]
      dsimp only
      split
      next state => exact absurd state idle
      next state => exact absurd state request
      all_goals rfl
    rw [stays, read]
    exact ⟨rfl, rfl⟩
  · have ends : s.fuelReport a (m.val + 1) f = (heard s m f).endSession m { result := .noTicket } := by
      rw [chunk i bytes h, none]
      unfold State.ticketChunk
      dsimp only
      split
      next zero =>
        have empty := bad.resolve_left (not_not_intro zero)
        rw [empty]
        rfl
      · rfl
    rw [ends]
    exact ended
  · have holds : s.fuelReport a (m.val + 1) f = (heard s m f).putTicketing m x Option.none Option.none := by
      rw [firsts bytes h none]
      unfold State.firstChunk
      cases bytes with
      | nil => exact absurd rfl some
      | cons b rest =>
        refine if_pos ?_
        rw [Bool.not_eq_true', Bool.eq_false_iff]
        exact fun free => absurd (placeFree_iff.mp free) (Nat.not_lt.mpr full)
    rw [holds, State.putTicketing, State.modMeter_read, read]
    exact ⟨rfl, rfl⟩
  · have accepts : s.fuelReport a (m.val + 1) f = (heard s m f).acceptChunk m a x ⟨b :: bytes, b.toNat, 0⟩ := by
      rw [firsts _ h none]
      unfold State.firstChunk
      dsimp only
      rw [placeFree_iff.mpr free, if_neg (by decide), if_pos length]
    rw [accepts]
    exact accepted _
  · have ends : s.fuelReport a (m.val + 1) f = (heard s m f).endSession m { result := .noTicket } := by
      rw [firsts _ h none]
      unfold State.firstChunk
      dsimp only
      rw [placeFree_iff.mpr free, if_neg (by decide), if_neg (by omega)]
    rw [ends]
    exact ended
  · have accepts : s.fuelReport a (m.val + 1) f = (heard s m f).acceptChunk m a x ⟨y.bytes ++ bytes, y.length, i⟩ := by
      rw [chunk i bytes h, held]
      exact if_pos next
    rw [accepts]
    exact accepted _
  · have asks : s.fuelReport a (m.val + 1) f = (heard s m f).askAck m a i := by
      rw [chunk i bytes h, held]
      exact (if_neg (by rw [again]; omega)).trans (if_pos again)
    have ack : ((heard s m f).askAck m a i).engine.acks[m] = some ⟨a, i⟩ := by simp [State.askAck]
    rw [asks]
    exact ⟨ack, read⟩
  · have ends : s.fuelReport a (m.val + 1) f = (heard s m f).endSession m { result := .noTicket } := by
      rw [chunk i bytes h, held]
      exact (if_neg skips).trans (if_neg other)
    rw [ends]
    exact ended

/-! ### The whole slot, by the state of the session -/

theorem denial_congr {t : State} {why : Option DenyReason} (tables : t.tables = s.tables) (tanks : t.tanks = s.tanks)
    (meters : t.meters = s.meters) (site : t.site = s.site) (h : Denial s m k why) : Denial t m k why := by
  have hired (n : SetNo) : Hired t k n ↔ Hired s k n := by rw [Hired, Hired, State.setEntry, tables]; rfl
  have tank (n : SetNo) : t.tank n = s.tank n := by rw [State.tank, tanks]; rfl
  have meter (j : MeterNo) : t.meter j = s.meter j := by rw [State.meter, meters]; rfl
  cases h with
  | notHired unknown => exact .notHired fun n known => unknown n ((hired n).mp known)
  | setBusy n named busy =>
    obtain ⟨j, x, other, session, set⟩ := busy
    exact .setBusy n ((hired n).mpr named) ⟨j, x, other, by rw [meter]; exact session, set⟩
  | noRoom n named idle full =>
    exact .noRoom n ((hired n).mpr named) (fun j x other session => idle j x other (by rw [← meter]; exact session))
      (by rw [tank, site]; exact full)
  | none n named idle room =>
    exact .none n ((hired n).mpr named) (fun j x other session => idle j x other (by rw [← meter]; exact session))
      (by rw [tank, site]; exact room)

/-- What the slot leaves around the report of a meter. -/
structure Around (s v z t : State) : Prop where
  before : SameBooks v s
  after : SameBooks z t
  outstanding : v.engine.outstanding = s.engine.outstanding
  asked : v.engine.acks = s.engine.acks
  acks : t.engine.acks = z.engine.acks

section
variable (h : Around s v z t)
include h

theorem Around.idle (r : IdleReported v z a m f) : IdleReported s t a m f := by
  have meter := h.before.meter m
  have room : MeterRoom s m ↔ MeterRoom v m := by rw [MeterRoom, MeterRoom, h.before.queue, h.outstanding]
  have hired (n : SetNo) : Hired s f.requested n ↔ Hired v f.requested n := by
    rw [Hired, Hired, State.setEntry, h.before.tables]
    rfl
  have denial (why : Option DenyReason) (d : Denial s m f.requested why) : Denial v m f.requested why :=
    denial_congr h.before.tables.symm h.before.tanks.symm h.before.meters.symm h.before.site.symm d
  have noted : seen s m f = seen v m f := by rw [seen, seen, meter]
  refine ⟨fun i bytes chunk same => ?_, fun new => ?_, fun stays => ?_, fun why asks free new roomy denied => ?_,
    fun n asks free new roomy named permitted => ?_, ?_⟩
  · exact (congrArg (fun acks : Vector (Option Ack) 2 => acks[m]) h.acks).trans (r.again i bytes chunk (meter ▸ same))
  · exact (h.acks.trans (r.quiet fun i bytes chunk => meter ▸ new i bytes chunk)).trans h.asked
  · rw [h.after.meter, h.after.queue, h.before.queue, meter, noted]
    rw [meter, room] at stays
    exact r.other stays
  · rw [meter] at free new
    obtain ⟨row, queue, told⟩ := r.denied why asks free new (room.mp roomy) (denial _ denied)
    rw [h.after.meter, h.after.queue, h.before.queue, meter]
    exact ⟨row, queue, told_same told h.before h.after⟩
  · rw [meter] at free new
    have done := r.permitted n asks free new (room.mp roomy) ((hired n).mp named) (denial _ permitted)
    rw [h.after.meter, h.after.queue, h.before.queue, meter, h.before.tank]
    exact done
  · obtain ⟨tanks, sets⟩ := r.tanks
    exact ⟨(h.after.tanks.trans tanks).trans h.before.tanks.symm, (h.after.sets.trans sets).trans h.before.sets.symm⟩

theorem Around.ended {result : DeliveryResult} (r : SessionEnded (atMeter v z m f) z m x result) :
    SessionEnded (atMeter s t m f) t m x result := by
  have noted : seen s m f = seen v m f := by rw [seen, seen, h.before.meter]
  have meters : (atMeter s t m f).meters = (atMeter v z m f).meters := by
    show s.meters.set m (seen s m f) = v.meters.set m (seen v m f)
    rw [noted, h.before.meters]
  obtain ⟨tickets, points, tariff, feeders, schedule⟩ := h.before.rest
  exact sessionEnded_same r ⟨meters, h.before.tanks, h.before.sets, h.before.queue, h.before.notices, h.before.tables, h.before.site,
    tickets, points, tariff, feeders, schedule⟩ h.after rfl

theorem Around.dispensing (r : DispensingReported v z m x f) : DispensingReported s t m x f := by
  have meter := h.before.meter m
  have noted : seen s m f = seen v m f := by rw [seen, seen, meter]
  refine ⟨fun more within state => ?_, fun few state => ?_, fun state => ?_, fun state => ?_, fun state => ?_⟩
  · rw [h.before.tank] at within
    rw [h.after.tank, h.before.tank]
    exact r.booked more within state
  · obtain ⟨tanks, sets⟩ := r.unbooked few state
    exact ⟨(h.after.tanks.trans tanks).trans h.before.tanks.symm, (h.after.sets.trans sets).trans h.before.sets.symm⟩
  · rw [h.after.meter, h.after.queue, h.before.queue, noted]
    exact r.dispensing state
  · rw [h.after.meter, h.after.queue, h.before.queue, noted, meter, h.before.site]
    exact r.ended state
  · obtain ⟨session, promoted, delivered, told, ended⟩ := r.gone state
    rw [h.after.meter, h.after.tank, h.before.tank]
    exact ⟨session, promoted, delivered, told_same told h.before h.after, fun few => h.ended (ended few)⟩

theorem Around.accepted {buffer : TicketBuffer} (r : ChunkAccepted v z a m x f buffer) : ChunkAccepted s t a m x f buffer := by
  have meter := h.before.meter m
  have noted : seen s m f = seen v m f := by rw [seen, seen, meter]
  obtain ⟨tickets, -⟩ := h.before.rest
  obtain ⟨tickets', -⟩ := h.after.rest
  refine ⟨?_, fun short => ?_, fun y long parsed own => ?_, fun long unreadable => h.ended (r.unreadable long unreadable)⟩
  · exact (congrArg (fun acks : Vector (Option Ack) 2 => acks[m]) h.acks).trans r.ack
  · rw [h.after.meter, h.after.tanks, h.after.sets, h.before.tanks, h.before.sets, tickets, tickets', noted, h.before.site]
    exact r.part short
  · obtain ⟨row, held, book, delivered, count, hire, told⟩ := r.complete y long parsed own
    rw [h.after.meter, h.after.tank, h.after.setRec, h.before.tank, h.before.setRec, tickets, tickets', noted, meter]
    exact ⟨row, held, book, delivered, count, hire, told_same told h.before h.after⟩

theorem Around.ticketing {buffer : Option TicketBuffer} (r : TicketingReported v z a m x buffer f) :
    TicketingReported s t a m x buffer f := by
  have meter := h.before.meter
  have noted : seen s m f = seen v m f := by rw [seen, seen, meter]
  obtain ⟨tickets, -⟩ := h.before.rest
  have places : placesTaken s = placesTaken v := by simp only [placesTaken, tickets, meter]
  have acks : t.engine.acks[m] = z.engine.acks[m] := congrArg (fun acks : Vector (Option Ack) 2 => acks[m]) h.acks
  refine ⟨fun none => ?_, fun i bytes chunk none bad => h.ended (r.early i bytes chunk none bad), fun bytes chunk none some full => ?_,
    fun b bytes chunk none free => ?_, fun i bytes y chunk held => ?_⟩
  · obtain ⟨ends, stays⟩ := r.chunkless none
    rw [h.after.meter, h.acks, ← h.asked, noted]
    exact ⟨fun state => h.ended (ends state), stays⟩
  · rw [places] at full
    rw [h.after.meter, h.acks, ← h.asked, noted]
    exact r.held bytes chunk none some full
  · rw [places] at free
    obtain ⟨accepts, ends⟩ := r.first b bytes chunk none free
    exact ⟨fun length => h.accepted (accepts length), fun length => h.ended (ends length)⟩
  · obtain ⟨accepts, again, ends⟩ := r.next i bytes y chunk held
    rw [h.after.meter, noted, acks]
    exact ⟨fun next => h.accepted (accepts next), again, fun other skips => h.ended (ends other skips)⟩

end

/-- What O32 says of a report by the state of its session. -/
theorem fuelSlot (a : Addr) (e : UnitEntry) (m : MeterNo) (r : FieldReport) (f : FuelBody) (received : SlotInput)
    (deferred : List TimedEvent) (s : State) (slot : SlotOf s a e) (idle : s.engine.outstanding = none)
    (known : (s.link a).state ≠ some .lost) (valid : ValidFrom a e received r) (body : r.body = .fuel f) (owner : e.owner = m.val + 1) :
    ∃ t, exec (.slotEnd received deferred) s = .next t ∧
      (t.link a).state = some .present ∧ (t.link a).misses = 0 ∧ Forwarded s t a e r ∧
      ((s.meter m).session = none → IdleReported s t a m f) ∧
      (∀ x, (s.meter m).session = some x →
        (x.phase = .granting → t.meter m = seen s m f ∧ t.engine.queue = s.engine.queue ∧ t.tanks = s.tanks ∧
          t.engine.acks = s.engine.acks) ∧
        (x.phase = .dispensing → DispensingReported s t m x f) ∧
        (∀ wait buffer, x.phase = .ticketing wait buffer → TicketingReported s t a m x buffer f)) ∧
      (∀ k, k ≠ m → t.meter k = s.meter k ∧ t.engine.acks[k] = s.engine.acks[k]) ∧
      t.tables = s.tables ∧ t.site = s.site ∧ t.points = s.points ∧ t.schedule = s.schedule ∧
      t.tariff = s.tariff ∧ t.feeders = s.feeders ∧ t.limitFlags = s.limitFlags ∧ t.pending = s.pending := by
  obtain ⟨clock, age, run⟩ := exec_plainSlot slot idle known valid deferred
  have begins : ∃ y, y = slotHeard s a clock age ∧ SameBooks y s ∧ y.engine.outstanding = s.engine.outstanding ∧
      y.engine.acks = s.engine.acks ∧ y.limitFlags = s.limitFlags :=
    ⟨_, rfl, ⟨rfl, rfl, rfl, rfl, rfl, rfl, rfl, rfl, rfl, rfl, rfl, rfl⟩, rfl, rfl, rfl⟩
  obtain ⟨y, hy, before, outstanding, asked, limits⟩ := begins
  have handed : (slotHeard s a clock age).handBody a e r.body (fun n => deferred.contains (.discrepancy n)) =
      y.fuelReport a (m.val + 1) f := by rw [body, ← owner, hy]; rfl
  have step := BodyStep.fuelReport y a (m.val + 1) f
  rw [hy] at step
  have ended := plainEnd_of (e := e) (r := r) step
  rw [handed] at run
  rw [← hy] at ended
  clear hy handed step
  have meter := before.meter m
  have frame := frame_fuelReport m y a f
  have quiet (h : (y.meter m).session = none) := (idleReported h a f).1
  have delivers (x : Session) (h : (y.meter m).session = some x) (phase : x.phase = .dispensing) := dispensingReported h phase a f
  have chunks (x : Session) (h : (y.meter m).session = some x) (wait : Option Nat) (buffer : Option TicketBuffer)
    (phase : x.phase = .ticketing wait buffer) := ticketingReported h phase a f
  have waits (x : Session) (h : (y.meter m).session = some x) (phase : x.phase = .granting) :
      y.fuelReport a (m.val + 1) f = heard y m f := by
    rw [fuelReport_eq, h]
    dsimp only
    rw [phase]
  obtain ⟨links, port, rest, told⟩ := ended.rest
  generalize y.fuelReport a (m.val + 1) f = z at run ended frame quiet delivers chunks waits rest told
  generalize (z.forward a e r.raw).startTx = t at run ended rest
  have after : SameBooks z t := by
    rw [rest]
    exact ⟨rfl, rfl, rfl, rfl, told, rfl, rfl, rfl, rfl, rfl, rfl, rfl⟩
  have acks : t.engine.acks = z.engine.acks := by rw [rest]
  have limited : t.limitFlags = z.limitFlags := by rw [rest]
  have around : Around s y z t := ⟨before, after, outstanding, asked, acks⟩
  obtain ⟨-, points, -, feeders, -⟩ := before.rest
  obtain ⟨-, points', -, feeders', -⟩ := after.rest
  rw [← meter] at quiet delivers chunks waits
  refine ⟨t, run, ended.present, ended.misses, ended.forwarded, fun none => around.idle (quiet none), fun x session =>
    ⟨fun phase => ?_, fun phase => around.dispensing (delivers x session phase),
      fun wait buffer phase => around.ticketing (chunks x session wait buffer phase)⟩, fun k hk => ⟨?_, ?_⟩, ended.tables, ended.site,
    (points'.trans frame.points).trans points.symm, ended.schedule, ended.tariff, (feeders'.trans frame.feeders).trans feeders.symm,
    (limited.trans frame.limitFlags).trans limits, ended.pending⟩
  · have same := waits x session phase
    rw [after.meter, after.queue, after.tanks, acks, same, heard_read, seen, seen, meter]
    exact ⟨rfl, before.queue.symm, before.tanks.symm, asked⟩
  · rw [after.meter, frame.meters k hk, ← before.meter]
  · exact ((congrArg (fun acks : Vector (Option Ack) 2 => acks[k]) acks).trans (frame.acks k hk)).trans
      (congrArg (fun acks : Vector (Option Ack) 2 => acks[k]) asked)

/-! ### A TICKET with a chunk in DISPENSING: as in TICKETING, once the volume is booked (R112) -/

/-- The state with the clock, the engine and the meters of another: a change of a book touches none of them. -/
def placed (v s : State) : State := { s with billing := v.billing, engine := v.engine, meters := v.meters }

theorem setDiscrepancy_placed (cycle : v.engine.cycleNo = s.engine.cycleNo) (n : SetNo) (d : Option Int) (sensor : Option Nat) :
    (placed v s).setDiscrepancy n d sensor = placed v (s.setDiscrepancy n d sensor) := by
  have number : (placed v s).engine.cycleNo = s.engine.cycleNo := cycle
  unfold State.setDiscrepancy
  dsimp only
  rw [number]
  have tank : (placed v s).tank n = s.tank n := rfl
  rw [tank]
  by_cases marked : (s.tank n).discrepancy = true
  · rw [if_pos marked, if_pos marked]
  · rw [if_neg marked, if_neg marked]
    rfl

theorem flagTest_placed (cycle : v.engine.cycleNo = s.engine.cycleNo) (n : SetNo) (fires : Bool) (mark : Tank → Tank) (flag : SetFlag) :
    TankSet.flagTest (placed v s) n fires mark flag = placed v (TankSet.flagTest s n fires mark flag) := by
  have number : (placed v s).engine.cycleNo = s.engine.cycleNo := cycle
  unfold TankSet.flagTest
  rw [number]
  cases fires <;> rfl

theorem testThresholds_placed (cycle : v.engine.cycleNo = s.engine.cycleNo) (n : SetNo) :
    (placed v s).testThresholds n = placed v (s.testThresholds n) := by
  have low (e : SetEntry) : (placed v s).testLow n e = placed v (s.testLow n e) := flagTest_placed cycle n _ _ _
  have reserve {u : State} (e : SetEntry) (cycle : v.engine.cycleNo = u.engine.cycleNo) :
      (placed v u).testReserve n e = placed v (u.testReserve n e) := flagTest_placed cycle n _ _ _
  have kept (e : SetEntry) : (s.testLow n e).engine = s.engine :=
    (congrArg State.engine (TankStep.flagTest n s (lowMet e (s.tank n) && !(s.tank n).low) (fun t => { t with low := true }) .low).frame :)
  have entry : (placed v s).setEntry n = s.setEntry n := rfl
  unfold State.testThresholds
  rw [entry]
  split
  · rfl
  next e _ => rw [low, reserve e (cycle.trans (congrArg Engine.cycleNo (kept e).symm))]

theorem changeBook_placed (cycle : v.engine.cycleNo = s.engine.cycleNo) (n : SetNo) (d : Int) :
    (placed v s).changeBook n d = placed v (s.changeBook n d) := by
  have taken : levelTaken (placed v s) n d = placed v (levelTaken s n d) := by
    have adjusted : adjustmentUnless ((placed v s).modTank n fun t => { t with book := (storedLevel s n d).toNat }) n
        (storedLevel s n d = askedLevel s n d) (storedLevel s n d - askedLevel s n d) =
        placed v (adjustmentUnless (s.modTank n fun t => { t with book := (storedLevel s n d).toNat }) n
          (storedLevel s n d = askedLevel s n d) (storedLevel s n d - askedLevel s n d)) := by
      unfold adjustmentUnless
      split <;> rfl
    have kept : (adjustmentUnless (s.modTank n fun t => { t with book := (storedLevel s n d).toNat }) n
        (storedLevel s n d = askedLevel s n d) (storedLevel s n d - askedLevel s n d)).engine = s.engine :=
      (congrArg State.engine (TankStep.adjustmentUnless n (s.modTank n fun t => { t with book := (storedLevel s n d).toNat })
        (storedLevel s n d = askedLevel s n d) (storedLevel s n d - askedLevel s n d)).frame :)
    have same : levelTaken (placed v s) n d = discrepancyIf (adjustmentUnless
        ((placed v s).modTank n fun t => { t with book := (storedLevel s n d).toNat }) n
        (storedLevel s n d = askedLevel s n d) (storedLevel s n d - askedLevel s n d)) n
        (((s.tank n).capacity : Int) < askedLevel s n d) (storedLevel s n d - askedLevel s n d) := rfl
    rw [same, adjusted, levelTaken]
    generalize adjustmentUnless (s.modTank n fun t => { t with book := (storedLevel s n d).toNat }) n
      (storedLevel s n d = askedLevel s n d) (storedLevel s n d - askedLevel s n d) = w at kept
    unfold discrepancyIf
    split
    · exact setDiscrepancy_placed (cycle.trans (congrArg Engine.cycleNo kept.symm)) n _ _
    · rfl
  have step : TankStep 1 n s (levelTaken s n d) := by
    have stored := TankStep.modTank n s fun t => { t with book := (storedLevel s n d).toNat }
    have adjusted := TankStep.adjustmentUnless n (s.modTank n fun t => { t with book := (storedLevel s n d).toNat })
      (storedLevel s n d = askedLevel s n d) (storedLevel s n d - askedLevel s n d)
    exact (stored.trans adjusted).trans (TankStep.discrepancyIf n _ (((s.tank n).capacity : Int) < askedLevel s n d) _)
  have kept : (levelTaken s n d).engine = s.engine := (congrArg State.engine step.frame :)
  rw [changeBook_eq, changeBook_eq, taken, testThresholds_placed (cycle.trans (congrArg Engine.cycleNo kept.symm))]

/-- The state in which a report meets its session, by the state before the slot. -/
def ticketHeard (s : State) (a : Addr) (clock : Option Nat) (age : Nat) (m : MeterNo) (f : FuelBody) : State :=
  heard (slotHeard s a clock age) m f

theorem ticketHeard_withMeter (ticket : f.state = .ticket) (s : State) (a : Addr) (clock : Option Nat) (age : Nat) (r : MeterRec) :
    ticketHeard (withMeter s m r) a clock age m f = withMeter (slotHeard s a clock age) m { r with requestMark := none } := by
  have row : (slotHeard (withMeter s m r) a clock age).meter m = r := withMeter_read s m r
  have noted : seen (slotHeard (withMeter s m r) a clock age) m f = { r with requestMark := none } := by
    rw [seen, row, ticket]
    rfl
  rw [ticketHeard, heard, noted]
  exact withMeter_withMeter (slotHeard s a clock age) m r _

theorem bookDelivery_heard (ticket : f.state = .ticket) (s : State) (a : Addr) (clock : Option Nat) (age : Nat) (x : Session)
    (volume : Nat) : (ticketHeard s a clock age m f).bookDelivery m x volume =
      ticketHeard (s.bookDelivery m x volume) a clock age m f := by
  by_cases more : x.highWater < volume
  · have same : ticketHeard s a clock age m f = placed (ticketHeard s a clock age m f) s := rfl
    have left : (ticketHeard s a clock age m f).bookDelivery m x volume =
        ((ticketHeard s a clock age m f).changeBook x.set ((volume - x.highWater : Nat) : Int)).modMeter m fun r =>
          { r with session := some { x with live := x.live + (volume - x.highWater), highWater := volume } } := if_pos more
    have right : s.bookDelivery m x volume = (s.changeBook x.set ((volume - x.highWater : Nat) : Int)).modMeter m fun r =>
          { r with session := some { x with live := x.live + (volume - x.highWater), highWater := volume } } := if_pos more
    have changed := changeBook_placed (v := ticketHeard s a clock age m f) (s := s) rfl x.set ((volume - x.highWater : Nat) : Int)
    have frame := (TankStep.changeBook x.set s ((volume - x.highWater : Nat) : Int)).frame
    rw [← same] at changed
    rw [left, right, changed, modMeter_eq, modMeter_eq]
    generalize s.changeBook x.set ((volume - x.highWater : Nat) : Int) = w at frame
    have form : w = { s with tanks := w.tanks, sets := w.sets, port := w.port } :=
      (congrArg (fun t : State => { t with tanks := w.tanks, sets := w.sets, port := w.port }) frame :)
    generalize w.tanks = tanks at form
    generalize w.sets = sets at form
    generalize w.port = port at form
    subst form
    have row : (placed (ticketHeard s a clock age m f) { s with tanks, sets, port }).meter m = { s.meter m with requestMark := none } := by
      have read := heard_read (slotHeard s a clock age) m f
      rw [seen, ticket] at read
      exact read
    have base : placed (ticketHeard s a clock age m f) { s with tanks, sets, port } =
        withMeter (slotHeard { s with tanks, sets, port } a clock age) m (seen s m f) := rfl
    rw [row, ticketHeard_withMeter ticket, base, withMeter_withMeter]
    rfl
  · have left : (ticketHeard s a clock age m f).bookDelivery m x volume = ticketHeard s a clock age m f := if_neg more
    have right : s.bookDelivery m x volume = s := if_neg more
    rw [left, right]

theorem enterTicketing_heard (ticket : f.state = .ticket) (s : State) (a : Addr) (clock : Option Nat) (age : Nat) :
    (ticketHeard s a clock age m f).enterTicketing m = ticketHeard (s.enterTicketing m) a clock age m f := by
  have row : (ticketHeard s a clock age m f).meter m = { s.meter m with requestMark := none } := by
    have read := heard_read (slotHeard s a clock age) m f
    rw [seen, ticket] at read
    exact read
  have base : (ticketHeard s a clock age m f).withdraw (.fuel m) =
      withMeter (slotHeard (s.withdraw (.fuel m)) a clock age) m (seen s m f) := rfl
  rw [enterTicketing_eq, enterTicketing_eq, ticketHeard_withMeter ticket, row, base, withMeter_withMeter]
  rfl

/-- What the state in which a ticket may open keeps of the state before. -/
structure Opened (s t : State) : Prop where
  engine : { t.engine with queue := s.engine.queue } = s.engine
  billing : t.billing = s.billing
  tables : t.tables = s.tables
  due : t.due = s.due

theorem enterTicketing_opened (s : State) (m : MeterNo) (x : Session) (volume : Nat) :
    Opened s ((s.bookDelivery m x volume).enterTicketing m) := by
  have books : Opened s (s.bookDelivery m x volume) := by
    unfold State.bookDelivery
    split
    · have frame := (TankStep.changeBook x.set s ((volume - x.highWater : Nat) : Int)).frame
      exact ⟨by rw [State.modMeter_engine, (congrArg State.engine frame :)], (congrArg State.billing frame :),
        (congrArg State.tables frame :), (congrArg State.due frame :)⟩
    · exact ⟨rfl, rfl, rfl, rfl⟩
  rw [enterTicketing_eq]
  generalize s.bookDelivery m x volume = v at books ⊢
  exact ⟨books.engine, books.billing, books.tables, books.due⟩

theorem slotMoment_opened (h : Opened s t) : (slotMoment t).billing.clock = (slotMoment s).billing.clock ∧
    (slotMoment t).engine.age = (slotMoment s).engine.age := by
  have running : t.engine.running = s.engine.running := (congrArg Engine.running h.engine :)
  have slots : t.engine.slotsEnded = s.engine.slotsEnded := (congrArg Engine.slotsEnded h.engine :)
  have age : t.engine.age = s.engine.age := (congrArg Engine.age h.engine :)
  unfold slotMoment State.bringTo State.advance
  rw [running, slots, age, h.billing]
  split
  · exact ⟨rfl, rfl⟩
  · exact ⟨congrArg Billing.clock h.billing, age⟩

theorem slotOf_opened {e : UnitEntry} (h : Opened s t) (slot : SlotOf s a e) : SlotOf t a e where
  running := (congrArg Engine.running h.engine :).trans slot.running
  owner := by
    rw [(congrArg Engine.slots h.engine :), (congrArg Engine.slotsEnded h.engine :)]
    exact slot.owner
  entry := by
    rw [State.unitEntry, h.tables]
    exact slot.entry
  enabled := slot.enabled
  kept := by
    rw [(congrArg Engine.outstanding h.engine :)]
    exact slot.kept
  settled := h.due.trans slot.settled

/-- A TICKET with a chunk opens TICKETING, and its chunk acts there (R112, R113). -/
theorem ticket_as_ticketing (a : Addr) (e : UnitEntry) (m : MeterNo) (x : Session) (r : FieldReport) (f : FuelBody)
    (received : SlotInput) (deferred : List TimedEvent) (s : State) (slot : SlotOf s a e) (idle : s.engine.outstanding = none)
    (known : (s.link a).state ≠ some .lost) (valid : ValidFrom a e received r) (body : r.body = .fuel f) (owner : e.owner = m.val + 1)
    (session : (s.meter m).session = some x) (phase : x.phase = .dispensing) (ticket : f.state = .ticket) (chunk : f.chunk ≠ none) :
    exec (.slotEnd received deferred) s =
      exec (.slotEnd received deferred) ((s.bookDelivery m x f.volume).enterTicketing m) := by
  obtain ⟨⟨i, bytes⟩, chunk⟩ := Option.ne_none_iff_exists'.mp chunk
  have opened := enterTicketing_opened s m x f.volume
  obtain ⟨clocks, ages⟩ := slotMoment_opened opened
  have link : ((s.bookDelivery m x f.volume).enterTicketing m).link a = s.link a :=
    congrArg (fun links : Vector LinkRec 63 => links[a]) (congrArg Engine.links opened.engine :)
  have left := exec_plainSlot_at slot idle known valid deferred
  have right := exec_plainSlot_at (slotOf_opened opened slot) ((congrArg Engine.outstanding opened.engine :).trans idle)
    (by rw [link]; exact known) valid deferred
  rw [clocks, ages] at right
  generalize (slotMoment s).billing.clock = clock at left right
  generalize (slotMoment s).engine.age = age at left right
  have hand (v : State) : v.handBody a e r.body (fun n => deferred.contains (.discrepancy n)) = v.fuelReport a (m.val + 1) f := by
    rw [body, ← owner]
    rfl
  have booked := bookDelivery_booked session f.volume
  have row : (((s.bookDelivery m x f.volume).enterTicketing m).meter m).session = some { dispensed x f.volume with
      cancel := false, phase := .ticketing (some (s.bookDelivery m x f.volume).site.values.ticketWait) none } := by
    rw [enterTicketing_eq, withMeter_read, booked.meter]
    rfl
  have heardRow : ((ticketHeard ((s.bookDelivery m x f.volume).enterTicketing m) a clock age m f).meter m).session =
      (((s.bookDelivery m x f.volume).enterTicketing m).meter m).session := by
    rw [ticketHeard, heard_read]
    rfl
  have dispenses : (slotHeard s a clock age).fuelReport a (m.val + 1) f =
      (ticketHeard ((s.bookDelivery m x f.volume).enterTicketing m) a clock age m f).ticketChunk m a { dispensed x f.volume with
        cancel := false, phase := .ticketing (some (s.bookDelivery m x f.volume).site.values.ticketWait) none } none i bytes := by
    have session' : ((slotHeard s a clock age).meter m).session = some x := session
    rw [fuelReport_eq, session']
    dsimp only
    rw [phase]
    dsimp only
    unfold State.dispensingReport
    rw [ticket]
    dsimp only
    rw [← ticketHeard, bookDelivery_heard ticket, enterTicketing_heard ticket, heardRow, row, chunk]
  have tickets : (slotHeard ((s.bookDelivery m x f.volume).enterTicketing m) a clock age).fuelReport a (m.val + 1) f =
      (ticketHeard ((s.bookDelivery m x f.volume).enterTicketing m) a clock age m f).ticketChunk m a { dispensed x f.volume with
        cancel := false, phase := .ticketing (some (s.bookDelivery m x f.volume).site.values.ticketWait) none } none i bytes := by
    have session' : ((slotHeard ((s.bookDelivery m x f.volume).enterTicketing m) a clock age).meter m).session = _ := row
    rw [fuelReport_eq, session']
    dsimp only
    unfold State.ticketingReport
    rw [chunk]
    rfl
  rw [left, right, hand, hand, dispenses, tickets]

/-- Settles O32, by the state of the session. -/
theorem fuelReportIsApplied : Obligations.FuelReportIsApplied := ⟨fuelSlot, ticket_as_ticketing⟩

end

end Sys2Proof.TicketChunks
end

section
/-! SUPPORT. What the outcomes and the marks of a slot leave for the energy of its report: the positions of the points, and the metered energy of
the sets (R62, R63). -/

namespace Sys2Proof.Attachments

open Sys2Proof Sys2Proof.Machine Sys2Proof.Stated Sys2Proof.StopAndClear Sys2Proof.Sequencing Sys2Proof.SetLoading
open Sys2Proof.Sessions Sys2Proof.Slots Sys2Proof.Hearing Sys2Proof.Replies Sys2Proof.LinkLoss Sys2Proof.OwnerSteps

/-- The positions of the points and the metered energy of the sets stay. -/
structure Attached (s t : State) : Prop where
  positions : ∀ p, (t.pointRec p).position = (s.pointRec p).position
  metered : ∀ n, (t.setRec n).hire.meteredMj = (s.setRec n).hire.meteredMj

section
variable {s t u : State} {n : SetNo} {p : PointNo} {m : MeterNo} {a : Addr} {k : Nat}

theorem Attached.refl (s : State) : Attached s s := ⟨fun _ => rfl, fun _ => rfl⟩

theorem Attached.trans (h : Attached s t) (k : Attached t u) : Attached s u :=
  ⟨fun p => (k.positions p).trans (h.positions p), fun n => (k.metered n).trans (h.metered n)⟩

theorem Attached.of_same (points : t.points = s.points) (sets : t.sets = s.sets) : Attached s t :=
  ⟨fun p => by rw [State.pointRec, points]; rfl, fun n => by rw [State.setRec, sets]; rfl⟩

theorem Attached.of_run (frame : RunFrame n s t) (news : NewsKeeps k s t) : Attached s t := by
  refine ⟨news.positions, fun i => ?_⟩
  by_cases own : i = n
  · subst own
    obtain ⟨-, -, -, -, -, -, hire⟩ := frame.figures
    exact (congrArg Hire.meteredMj hire :)
  · exact (congrArg (fun r : SetRec => r.hire.meteredMj) (frame.others i own) :)

theorem Attached.of_seq (frame : SeqFrame s t) (positions : ∀ p, (t.pointRec p).position = (s.pointRec p).position) : Attached s t :=
  ⟨positions, fun n => (congrArg (fun r : SetRec => r.hire.meteredMj) (frame.sets n) :)⟩

theorem Attached.modSet (n : SetNo) (s : State) {f : SetRec → SetRec}
    (h : ∀ r, (f r).hire.meteredMj = r.hire.meteredMj := by intro _; rfl) : Attached s (s.modSet n f) := by
  refine ⟨fun _ => rfl, fun i => ?_⟩
  by_cases own : i = n
  · subst own
    rw [State.modSet_read, h]
  · rw [State.modSet_other s n f own]

theorem Attached.enqueue {c : Command} (h : s.enqueue c = some t) : Attached s t := by
  obtain ⟨-, -, -, rfl⟩ := State.enqueue_eq_some.mp h
  exact .of_same rfl rfl

theorem Attached.forEach {α : Type} {f : α → State → State} (h : ∀ x s, Attached s (f x s)) (xs : List α) (s : State) :
    Attached s (forEach xs f s) := forEach_rel Attached.refl Attached.trans (fun x _ s => h x s) s

/-! ### Sets -/

theorem Attached.changeRun (n : SetNo) (s : State) (run : RunState) (why : StateReason) (attempts : Option Nat) :
    Attached s (s.changeRun n run why attempts) := .of_run (.changeRun n s run why attempts) (.changeRun s n run why attempts)

theorem Attached.tellSequencers (s : State) (n : SetNo) : Attached s (s.tellSequencers n) :=
  .of_seq (.tellSequencers s n) (NewsKeeps.tellSequencers s n).positions

theorem Attached.tryEnqueueSet (s : State) (n : SetNo) : Attached s (s.tryEnqueueSet n) := by
  unfold State.tryEnqueueSet
  dsimp only
  split
  · split
    · exact (Attached.modSet n s).trans (.changeRun n _ _ _ _)
    · split
      · exact .refl s
      · split
        · exact .refl s
        next h => exact (Attached.enqueue h).trans (.modSet n _)
  · exact .refl s

theorem Attached.makeDue (s : State) (n : SetNo) (code : Code) : Attached s (s.makeDue n code) :=
  (Attached.modSet n s).trans (.tryEnqueueSet _ n)

theorem Attached.endAttempt (s : State) (n : SetNo) : Attached s (s.endAttempt n) := by
  unfold State.endAttempt
  split
  · split
    · exact .changeRun n s _ _ _
    · split
      · exact (Attached.modSet n s).trans (.makeDue _ n _)
      · exact .changeRun n s _ _ _
  · exact .refl s

theorem Attached.setOutcome (s : State) (n : SetNo) (code : Code) (o : CommandOutcome) : Attached s (s.setOutcome n code o) := by
  unfold State.setOutcome
  dsimp only
  have free := Attached.modSet n s (f := fun r => { r with place := .free })
  generalize (s.modSet n fun r => { r with place := .free }) = t at free ⊢
  refine free.trans ?_
  split
  · exact .refl t
  · split
    · unfold State.startOutcome
      split
      · exact .modSet n t (by intro r; split <;> rfl)
      · exact .endAttempt t n
      · exact .endAttempt t n
      · exact .endAttempt t n
      · exact .modSet n t
    · unfold State.stopOutcome
      split
      · exact .refl t
      · exact .changeRun n t _ _ _
      · exact .changeRun n t _ _ _
      · exact .changeRun n t _ _ _
      · exact .modSet n t

theorem Attached.setMark (s : State) (n : SetNo) (mark : Bool) : Attached s (s.setMark n mark) := by
  unfold State.setMark
  split
  · exact .refl s
  · exact (Attached.modSet n s).trans (.tellSequencers _ n)

theorem Attached.clearMark (s : State) (n : SetNo) : Attached s (s.clearMark n) := by
  unfold State.clearMark
  split
  · exact (Attached.setMark s n false).trans (.tryEnqueueSet _ n)
  · exact .refl s

/-! ### Meters -/

theorem Attached.endSession (s : State) (m : MeterNo) (d : SessionEnd) : Attached s (s.endSession m d) := by
  cases session : (s.meter m).session with
  | none =>
    have idle : s.endSession m d = s := by rw [State.endSession, session]
    rw [idle]
    exact .refl s
  | some x =>
    by_cases plain : x.phase = .granting ∨ d.result = .complete
    · rw [endSession_plain session plain]
      exact .of_same rfl rfl
    · obtain ⟨delivering, cut⟩ := not_or.mp plain
      rw [endSession_live session delivering cut]
      have credited := Attached.modSet x.set s (f := fun r =>
        { r with hire := { r.hire with delivered := min (2 ^ 64 - 1) ((s.setRec x.set).hire.delivered + x.live) } })
      exact ⟨fun _ => rfl, credited.metered⟩

theorem Attached.meterOutcome (s : State) (m : MeterNo) (code : Code) (o : CommandOutcome) : Attached s (s.meterOutcome m code o) := by
  unfold State.meterOutcome
  dsimp only
  have free : Attached s (s.modMeter m fun r => { r with place := .free }) := .of_same rfl rfl
  generalize (s.modMeter m fun r => { r with place := .free }) = t at free ⊢
  refine free.trans ?_
  split
  · exact .refl t
  · split
    · split
      · unfold State.permitOutcome
        split
        · exact .of_same rfl rfl
        · exact .endSession t m _
        · split
          · exact .endSession t m _
          · exact .endSession t m _
        · exact .endSession t m _
        · exact .endSession t m _
      · exact .refl t
    · split
      · unfold State.revokeOutcome
        split
        · exact .endSession t m _
        all_goals exact .endSession t m _
      · exact .refl t
    · exact .refl t

/-! ### Outcomes of any origin, and a unit heard -/

theorem Attached.giveOutcome (s : State) (c : Command) (o : CommandOutcome) : Attached s (s.giveOutcome c o) := by
  unfold State.giveOutcome
  split
  · exact .of_same rfl rfl
  · exact .setOutcome s _ _ _
  · exact .of_seq (.pointOutcome s _ _ _) (positions_pointOutcome s _ _ _)
  · exact .meterOutcome s _ _ _

theorem Attached.resume (s : State) (o : Origin) : Attached s (s.resume o) := by
  cases o with
  | office tag => exact .refl s
  | sets n => exact .tryEnqueueSet s n
  | changeover p => exact .of_seq (.tryEnqueuePoint s p) (NewsKeeps.tryEnqueuePoint s p).positions
  | fuel m =>
    rcases tryEnqueueMeter_spec s m with same | ⟨a, -, queued⟩
    · rw [State.resume, same]
      exact .refl s
    · rw [State.resume, queued]
      exact .of_same rfl rfl

theorem Attached.returnOutcome (s : State) (c : Command) (o : CommandOutcome) : Attached s (s.returnOutcome c o) :=
  (Attached.giveOutcome s c o).trans (.resume _ c.origin)

theorem Attached.answered (s : State) (isReply : Bool) (r : FieldReport) : Attached s (answered s isReply r) := by
  unfold Hearing.answered
  split
  · cases outstanding : s.engine.outstanding with
    | none =>
      have idle : s.endOutstanding r.answer.outcome = s := by rw [State.endOutstanding, outstanding]
      rw [idle]
      exact .refl s
    | some q =>
      rw [endOutstanding_of outstanding]
      have cleared : Attached s (s.putOutstanding none) := .of_same rfl rfl
      exact cleared.trans (.returnOutcome _ q.command _)
  · exact .refl s

theorem Attached.linkUp (s : State) (a : Addr) : Attached s (s.linkUp a) := by
  have heard : Attached s (linkHeard s a) := .of_same rfl rfl
  by_cases lost : (s.link a).state = some .lost
  · have told : Attached (linkHeard s a) ((linkHeard s a).raise (.unitLink a .present 0)) := .of_same rfl rfl
    rw [linkUp_lost lost]
    exact (heard.trans told).trans (.forEach (fun n s => .clearMark s n) _ _)
  · rw [linkUp_known lost]
    exact heard

theorem connectedSet_attached (h : Attached s t) (tables : t.tables = s.tables) (p : PointNo) : t.connectedSet p = s.connectedSet p :=
  connectedSet_congr tables (h.positions p)

end

end Sys2Proof.Attachments
end

section
/-! SUPPORT. The energy of a board's report: what each feeder's step adds to its account and to the set side (R48, R50, R59 to R64). -/

namespace Sys2Proof.BoardEnergy

open Sys2Proof Sys2Proof.Machine Sys2Proof.Stated Sys2Proof.Reads Sys2Proof.Stepping Sys2Proof.Attachments

/-- What some steps add to the accounts, with their marks, and to the set side. -/
structure Shares where
  account : AccountNo → Nat
  estimated : AccountNo → Prop
  clamped : AccountNo → Prop
  gap : AccountNo → Prop
  metered : SetNo → Nat
  unattributed : Nat

/-- No step. -/
def Shares.none : Shares := ⟨fun _ => 0, fun _ => False, fun _ => False, fun _ => False, fun _ => 0, 0⟩

/-- The steps of one and of another. -/
def Shares.both (x y : Shares) : Shares :=
  ⟨fun k => x.account k + y.account k, fun k => x.estimated k ∨ y.estimated k, fun k => x.clamped k ∨ y.clamped k,
    fun k => x.gap k ∨ y.gap k, fun n => x.metered n + y.metered n, x.unattributed + y.unattributed⟩

/-- The state after some steps have been handed on, by the state before (R61 to R64). -/
structure Handed (x : Shares) (s t : State) : Prop where
  opens : ∀ k, OpenFor t k ↔ OpenFor s k
  account : ∀ k, OpenFor s k → (t.account k).accumulator = (s.account k).accumulator + x.account k
  estimated : ∀ k, OpenFor s k → ((t.account k).marks.estimated = true ↔ (s.account k).marks.estimated = true ∨ x.estimated k)
  clamped : ∀ k, OpenFor s k → ((t.account k).marks.clamped = true ↔ (s.account k).marks.clamped = true ∨ x.clamped k)
  gap : ∀ k, OpenFor s k → ((t.account k).marks.gap = true ↔ (s.account k).marks.gap = true ∨ x.gap k)
  closed : ∀ k, ¬ OpenFor s k → t.account k = s.account k
  metered : ∀ n, (s.setRec n).hire.meteredMj ≤ max64 →
    (t.setRec n).hire.meteredMj = min max64 ((s.setRec n).hire.meteredMj + x.metered n)
  unattributed : s.unattributed ≤ max64 → t.unattributed = min max64 (s.unattributed + x.unattributed)

section
variable {x y : Shares} {s t u : State} {k : AccountNo} {n : SetNo} {f : FeederNo} {a : Addr} {samples : List BoardSample}
  {e : FeederEntry}

/-- Nothing that a step is read from or handed to is touched. -/
structure Untouched (s t : State) : Prop where
  tables : t.tables = s.tables
  site : t.site = s.site
  billing : { t.billing with clock := s.billing.clock } = s.billing
  unattributed : t.unattributed = s.unattributed
  metered : ∀ n, (t.setRec n).hire.meteredMj = (s.setRec n).hire.meteredMj

theorem Untouched.opens (h : Untouched s t) (k : AccountNo) : OpenFor t k ↔ OpenFor s k := by
  rw [OpenFor, OpenFor, h.site, (congrArg Billing.interval h.billing :), State.accountEntry, h.tables]
  rfl

theorem Untouched.account (h : Untouched s t) (k : AccountNo) : t.account k = s.account k := by
  rw [State.account, (congrArg Billing.accounts h.billing :)]
  rfl

theorem Handed.of_untouched (h : Untouched s t) : Handed .none s t := by
  refine ⟨h.opens, fun k _ => by rw [h.account]; rfl, fun k _ => by rw [h.account]; exact (or_iff_left not_false).symm,
    fun k _ => by rw [h.account]; exact (or_iff_left not_false).symm, fun k _ => by rw [h.account]; exact (or_iff_left not_false).symm,
    fun k _ => h.account k, fun n few => ?_, fun few => ?_⟩
  · rw [h.metered]
    exact (Nat.min_eq_right few).symm
  · rw [h.unattributed]
    exact (Nat.min_eq_right few).symm

theorem Handed.trans (h : Handed x s t) (k : Handed y t u) : Handed (x.both y) s u where
  opens i := (k.opens i).trans (h.opens i)
  account i isOpen := by
    rw [k.account i ((h.opens i).mpr isOpen), h.account i isOpen]
    exact Nat.add_assoc ..
  estimated i isOpen := (k.estimated i ((h.opens i).mpr isOpen)).trans ((or_congr_left (h.estimated i isOpen)).trans or_assoc)
  clamped i isOpen := (k.clamped i ((h.opens i).mpr isOpen)).trans ((or_congr_left (h.clamped i isOpen)).trans or_assoc)
  gap i isOpen := (k.gap i ((h.opens i).mpr isOpen)).trans ((or_congr_left (h.gap i isOpen)).trans or_assoc)
  closed i isClosed := (k.closed i (mt (h.opens i).mp isClosed)).trans (h.closed i isClosed)
  metered n few := by
    have first := h.metered n few
    have second := k.metered n (first ▸ Nat.min_le_left ..)
    have sum : (x.both y).metered n = x.metered n + y.metered n := rfl
    rw [second, first, sum]
    generalize max64 = most
    omega
  unattributed few := by
    have first := h.unattributed few
    have second := k.unattributed (first ▸ Nat.min_le_left ..)
    have sum : (x.both y).unattributed = x.unattributed + y.unattributed := rfl
    rw [second, first, sum]
    generalize max64 = most
    omega

theorem none_both (x : Shares) : Shares.none.both x = x := by
  simp [Shares.none, Shares.both]

theorem both_none (x : Shares) : x.both .none = x := by
  simp [Shares.none, Shares.both]

theorem Handed.after (h : Handed x t u) (untouched : Untouched s t) : Handed x s u := by
  have both := (Handed.of_untouched untouched).trans h
  rwa [none_both] at both

theorem Handed.before (h : Handed x s t) (untouched : Untouched t u) : Handed x s u := by
  have both := h.trans (.of_untouched untouched)
  rwa [both_none] at both

/-! ### One step (R61 to R63) -/

/-- The share of a step. -/
def stepShare (x : FeederStep) : Shares where
  account k := if x.account = k then x.energy else 0
  estimated k := x.account = k ∧ x.estimated = true
  clamped k := x.account = k ∧ x.clamped = true
  gap _ := False
  metered n := if x.endSet.or x.startSet = some n then x.energy else 0
  unattributed := if x.endSet.or x.startSet = none then x.energy else 0

theorem handStep_handed (s : State) (x : FeederStep) : Handed (stepShare x) s (s.handStep x) := by
  have frame := StepFrame.handStep s x
  have opens (k : AccountNo) : OpenFor (s.handStep x) k ↔ OpenFor s k := by
    rw [OpenFor, OpenFor, frame.site, (congrArg Billing.interval frame.billing :), State.accountEntry, frame.tables]
    rfl
  have own (isOpen : OpenFor s x.account) := handStep_open (s := s) (x := x) (intervalOpen_iff.mpr isOpen)
  have other (k : AccountNo) (h : k = x.account → ¬ OpenFor s k) : (s.handStep x).account k = s.account k :=
    handStep_account fun same => Bool.eq_false_iff.mpr (mt intervalOpen_iff.mp (h same))
  refine ⟨opens, fun k isOpen => ?_, fun k isOpen => ?_, fun k isOpen => ?_, fun k isOpen => ?_, fun k isClosed => other k fun _ => isClosed,
    fun n few => ?_, fun few => ?_⟩
  · by_cases same : x.account = k
    · subst same
      have share : (stepShare x).account x.account = x.energy := if_pos rfl
      rw [own isOpen, share]
    · have share : (stepShare x).account k = 0 := if_neg same
      rw [other k fun h => absurd h.symm same, share]
      rfl
  · by_cases same : x.account = k
    · subst same
      rw [own isOpen, Marks.addStep, Bool.or_eq_true]
      exact or_congr_right (and_iff_right rfl).symm
    · rw [other k fun h => absurd h.symm same]
      exact (or_iff_left fun share => same share.1).symm
  · by_cases same : x.account = k
    · subst same
      rw [own isOpen, Marks.addStep, Bool.or_eq_true]
      exact or_congr_right (and_iff_right rfl).symm
    · rw [other k fun h => absurd h.symm same]
      exact (or_iff_left fun share => same share.1).symm
  · refine Iff.trans ?_ (or_iff_left not_false).symm
    by_cases same : x.account = k
    · subst same
      rw [own isOpen]
      exact Iff.rfl
    · rw [other k fun h => absurd h.symm same]
  · cases side : x.endSet.or x.startSet with
    | none =>
      have share : (stepShare x).metered n = 0 := by simp [stepShare, side]
      have same : (s.handStep x).setRec n = s.setRec n := by rw [State.setRec, (handStep_unattributed side).1]; rfl
      rw [same, share]
      exact (Nat.min_eq_right few).symm
    | some i =>
      obtain ⟨set, sets, -⟩ := handStep_set side
      by_cases same : n = i
      · subst same
        have share : (stepShare x).metered n = x.energy := by simp [stepShare, side]
        rw [set, share]
        rfl
      · have share : (stepShare x).metered n = 0 := by
          have apart : i ≠ n := Ne.symm same
          simp [stepShare, side, apart]
        rw [sets n same, share]
        exact (Nat.min_eq_right few).symm
  · cases side : x.endSet.or x.startSet with
    | none =>
      have share : (stepShare x).unattributed = x.energy := by simp [stepShare, side]
      rw [(handStep_unattributed side).2, share]
      rfl
    | some i =>
      have share : (stepShare x).unattributed = 0 := by simp [stepShare, side]
      obtain ⟨-, -, same⟩ := handStep_set side
      rw [same, share]
      exact (Nat.min_eq_right few).symm

/-- The share of a return from STALE (R50). -/
def gapShare (k : AccountNo) : Shares := { Shares.none with gap := fun i => i = k }

theorem reportGap_handed (s : State) (k : AccountNo) : Handed (gapShare k) s (s.reportGap k) := by
  unfold State.reportGap
  split
  next isOpen =>
    have opens (i : AccountNo) : OpenFor (s.modAccount k fun r => { r with marks := { r.marks with gap := true } }) i ↔ OpenFor s i :=
      Iff.rfl
    have read := State.modAccount_read s k fun r => { r with marks := { r.marks with gap := true } }
    have other (i : AccountNo) (h : i ≠ k) := State.modAccount_other s k (fun r => { r with marks := { r.marks with gap := true } }) h
    have rest : (s.modAccount k fun r => { r with marks := { r.marks with gap := true } }).sets = s.sets ∧
        (s.modAccount k fun r => { r with marks := { r.marks with gap := true } }).unattributed = s.unattributed := ⟨rfl, rfl⟩
    generalize (s.modAccount k fun r => { r with marks := { r.marks with gap := true } }) = t at opens read other rest
    obtain ⟨sets, unattributed⟩ := rest
    have kept (i : AccountNo) : (t.account i).accumulator = (s.account i).accumulator ∧
        (t.account i).marks.estimated = (s.account i).marks.estimated ∧ (t.account i).marks.clamped = (s.account i).marks.clamped := by
      by_cases same : i = k
      · subst same
        rw [read]
        exact ⟨rfl, rfl, rfl⟩
      · rw [other i same]
        exact ⟨rfl, rfl, rfl⟩
    refine ⟨opens, fun i _ => (kept i).1, fun i _ => by rw [(kept i).2.1]; exact (or_iff_left not_false).symm,
      fun i _ => by rw [(kept i).2.2]; exact (or_iff_left not_false).symm, fun i _ => ?_, fun i isClosed => ?_, fun n few => ?_, fun few => ?_⟩
    · by_cases same : i = k
      · subst same
        rw [read]
        exact iff_of_true rfl (.inr rfl)
      · rw [other i same]
        exact (or_iff_left same).symm
    · refine other i fun same => isClosed ?_
      rw [same]
      exact intervalOpen_iff.mp isOpen
    · rw [State.setRec, sets]
      exact (Nat.min_eq_right few).symm
    · rw [unattributed]
      exact (Nat.min_eq_right few).symm
  next isClosed =>
    have none := Handed.of_untouched (s := s) (t := s) ⟨rfl, rfl, rfl, rfl, fun _ => rfl⟩
    refine ⟨none.opens, none.account, none.estimated, none.clamped, fun i isOpen => ?_, none.closed, none.metered, none.unattributed⟩
    refine (or_iff_left fun same : i = k => isClosed ?_).symm
    rw [← same]
    exact intervalOpen_iff.mpr isOpen

/-! ### A feeder's share of a report (R43, R48, R50) -/

/-- What a feeder hands on in a report of its board. -/
def feederShare (s : State) (a : Addr) (samples : List BoardSample) (f : FeederNo) : Shares where
  account k := if (stepOf s a samples f).any fun y => y.1.account = k then stepEnergy s (stepOf s a samples f) else 0
  estimated k := ∃ x, stepOf s a samples f = some x ∧ x.1.account = k ∧ (s.feederRec f).state = .held
  clamped k := ∃ x, stepOf s a samples f = some x ∧ x.1.account = k ∧
    (x.2.1.clamped = true ∨ 60000 < x.2.2.power ∨ x.2.2.status = .overrange)
  gap k := ∃ e y, s.feederEntry f = some e ∧ e.board = a ∧ e.account = k ∧ (s.feederRec f).state = .stale ∧
    samples.find? (fun y => y.position = e.position) = some y ∧ y.status ≠ .fault
  metered n := if stepSet s (stepOf s a samples f) = some n then stepEnergy s (stepOf s a samples f) else 0
  unattributed := if (stepOf s a samples f).isSome && stepSet s (stepOf s a samples f) = none then stepEnergy s (stepOf s a samples f) else 0

/-- A feeder that makes no step and does not return from STALE hands on nothing. -/
theorem feederShare_none (step : stepOf s a samples f = none)
    (gap : ∀ e y, s.feederEntry f = some e → e.board = a → (s.feederRec f).state = .stale →
      samples.find? (fun y => y.position = e.position) = some y → y.status = .fault) : feederShare s a samples f = .none := by
  have gapless : (fun k => ∃ e y, s.feederEntry f = some e ∧ e.board = a ∧ e.account = k ∧ (s.feederRec f).state = .stale ∧
      samples.find? (fun y => y.position = e.position) = some y ∧ y.status ≠ .fault) = fun _ : AccountNo => False :=
    funext fun k => eq_false fun ⟨e, y, entry, board, _, stale, found, valid⟩ => valid (gap e y entry board stale found)
  unfold feederShare
  rw [step, gapless]
  simp [Shares.none, stepSet]

/-- The step of a feeder in LIVE or HELD with a valid sample. -/
theorem stepOf_some {b : Baseline} {y : BoardSample} (entry : s.feederEntry f = some e) (board : e.board = a)
    (state : (s.feederRec f).state = .live ∨ (s.feederRec f).state = .held) (baseline : (s.feederRec f).baseline = some b)
    (found : samples.find? (fun y => y.position = e.position) = some y) (valid : y.status ≠ .fault) :
    stepOf s a samples f = some (e, b, y) := by
  have kept : ((samples.find? fun y => y.position = e.position).filter fun y => e.board = a && y.status ≠ .fault) = some y := by
    rw [found]
    exact Option.filter_eq_some_iff.mpr ⟨rfl, by simp [board, valid]⟩
  unfold stepOf
  rw [entry, baseline]
  rcases state with state | state
  · rw [state]
    dsimp only
    rw [kept]
    rfl
  · rw [state]
    dsimp only
    rw [kept]
    rfl

/-- What a step rests on. -/
theorem stepOf_eq_some {x : FeederEntry × Baseline × BoardSample} (h : stepOf s a samples f = some x) :
    s.feederEntry f = some x.1 ∧ x.1.board = a ∧ ((s.feederRec f).state = .live ∨ (s.feederRec f).state = .held) ∧
      (s.feederRec f).baseline = some x.2.1 ∧ samples.find? (fun y => y.position = x.1.position) = some x.2.2 ∧
      x.2.2.status ≠ .fault := by
  have parts (e : FeederEntry) (b : Baseline)
      (h : (((samples.find? fun y => y.position = e.position).filter fun y => e.board = a && y.status ≠ .fault).map
        fun y => (e, b, y)) = some x) : e = x.1 ∧ b = x.2.1 ∧ x.1.board = a ∧
          samples.find? (fun y => y.position = x.1.position) = some x.2.2 ∧ x.2.2.status ≠ .fault := by
    obtain ⟨y, kept, rfl⟩ := Option.map_eq_some_iff.mp h
    obtain ⟨found, valid⟩ := Option.filter_eq_some_iff.mp kept
    simp only [Bool.and_eq_true, decide_eq_true_eq] at valid
    exact ⟨rfl, rfl, valid.1, found, valid.2⟩
  unfold stepOf at h
  split at h
  next e b entry state baseline =>
    obtain ⟨rfl, rfl, board, found, valid⟩ := parts e b h
    exact ⟨entry, board, .inl state, baseline, found, valid⟩
  next e b entry state baseline =>
    obtain ⟨rfl, rfl, board, found, valid⟩ := parts e b h
    exact ⟨entry, board, .inr state, baseline, found, valid⟩
  · exact absurd h nofun

end

end Sys2Proof.BoardEnergy
end

section
/-! SUPPORT. The visit of one feeder of a reporting board: its miss or its sample, its window, its step (R43 to R45, R47, R48, R50, R52, R53). -/

namespace Sys2Proof.BoardVisits

open Sys2Proof Sys2Proof.Machine Sys2Proof.Stated Sys2Proof.Reads Sys2Proof.Stepping Sys2Proof.BoardEnergy Sys2Proof.Sequencing
open Sys2Proof.OwnerSteps Sys2Proof.LinkLoss Sys2Proof.StopAndClear

/-- A notice of something other than this feeder's window. -/
def Elsewhere (p : FeederNo) (body : NoticeBody) : Prop :=
  ∀ a position mode low high current cycle, body ≠ .feederLimit p a position mode low high current cycle

/-- What the visits of other feeders leave of a feeder, and of what its step is read from. -/
structure Aside (p : FeederNo) (s t : State) : Prop where
  tables : t.tables = s.tables
  engine : t.engine = s.engine
  points : t.points = s.points
  record : t.feederRec p = s.feederRec p
  flag : t.limitFlag p = s.limitFlag p
  notices : ∀ x ∈ t.port.notices, x ∈ s.port.notices ∨ Elsewhere p x.body

section
variable {s t u v : State} {f p : FeederNo} {e : FeederEntry} {a : Addr} {y : BoardSample} {samples : List BoardSample}
  {current : Nat}

theorem Aside.refl (p : FeederNo) (s : State) : Aside p s s := ⟨rfl, rfl, rfl, rfl, rfl, fun _ h => .inl h⟩

theorem Aside.trans (h : Aside p s t) (k : Aside p t u) : Aside p s u where
  tables := k.tables.trans h.tables
  engine := k.engine.trans h.engine
  points := k.points.trans h.points
  record := k.record.trans h.record
  flag := k.flag.trans h.flag
  notices x hx := (k.notices x hx).elim (h.notices x) .inr

theorem Aside.modFeeder (other : p ≠ f) (s : State) (g : FeederRec → FeederRec) : Aside p s (s.modFeeder f g) :=
  ⟨rfl, rfl, rfl, State.modFeeder_other s f g other, rfl, fun _ h => .inl h⟩

theorem Aside.setBaseline (other : p ≠ f) (s : State) (e : FeederEntry) (x : Sample) : Aside p s (s.setBaseline f e x) := by
  unfold State.setBaseline
  exact .modFeeder other s _

theorem Aside.of_step (h : StepFrame s t) : Aside p s t := by
  refine ⟨h.tables, h.engine, h.points, ?_, ?_, fun x hx => .inl (h.port ▸ hx)⟩
  · rw [State.feederRec, h.feeders]
    rfl
  · rw [State.limitFlag, h.limitFlags]
    rfl

/-! ### The window (R52, R53) -/

/-- The notice of a window that is met. -/
def limitBody (s : State) (f : FeederNo) (e : FeederEntry) (current : Nat) : NoticeBody :=
  .feederLimit f e.board e.position e.mode e.low e.high current s.engine.cycleNo

theorem windowMet_iff {mode : WindowMode} {low high current : Nat} :
    windowMet mode low high current = true ↔ WindowMet mode low high current := by
  cases mode <;> simp [windowMet, WindowMet]

theorem testWindow_met (met : WindowMet e.mode e.low e.high current) (clear : s.limitFlag f = false) :
    s.testWindow f e current = (s.putLimitFlag f true).raise (limitBody s f e current) :=
  if_pos (by rw [windowMet_iff.mpr met, clear]; rfl)

theorem testWindow_unmet (h : ¬ WindowMet e.mode e.low e.high current ∨ s.limitFlag f = true) :
    s.testWindow f e current = s := by
  refine if_neg fun both => ?_
  obtain ⟨met, clear⟩ := (Bool.and_eq_true ..).mp both
  rcases h with unmet | set
  · exact unmet (windowMet_iff.mp met)
  · rw [set] at clear
    exact absurd clear (by decide)

theorem met_or_not (s : State) (f : FeederNo) (e : FeederEntry) (current : Nat) :
    (WindowMet e.mode e.low e.high current ∧ s.limitFlag f = false) ∨
      (¬ WindowMet e.mode e.low e.high current ∨ s.limitFlag f = true) := by
  cases s.limitFlag f
  · exact (Classical.em _).imp (fun met => ⟨met, rfl⟩) .inl
  · exact .inr (.inr rfl)

/-- What a window test does beside the flag and the notices. -/
structure Tested (s t : State) (f : FeederNo) (e : FeederEntry) (current : Nat) : Prop where
  untouched : Untouched s t
  engine : t.engine = s.engine
  points : t.points = s.points
  feeders : t.feeders = s.feeders
  flag : t.limitFlag f = true ↔ s.limitFlag f = true ∨ WindowMet e.mode e.low e.high current
  others : ∀ p, p ≠ f → t.limitFlag p = s.limitFlag p
  notices : ∀ x ∈ t.port.notices, x ∈ s.port.notices ∨ x.body = limitBody s f e current
  spends : Spends 1 s t

theorem testWindow_tested (s : State) (f : FeederNo) (e : FeederEntry) (current : Nat) :
    Tested s (s.testWindow f e current) f e current := by
  rcases met_or_not s f e current with ⟨met, clear⟩ | unmet
  · rw [testWindow_met met clear]
    have put : Spends 0 s (s.putLimitFlag f true) := .of_notices rfl fun _ => rfl
    refine ⟨⟨rfl, rfl, rfl, rfl, fun _ => rfl⟩, rfl, rfl, rfl, ?_, fun p other => ?_, fun x hx => mem_raise hx,
      (put.trans (.raise _ _)).mono (Nat.le_refl 1)⟩
    · exact iff_of_true (State.putLimitFlag_read s f true :) (.inr met)
    · exact (State.putLimitFlag_other s f true other :)
  · rw [testWindow_unmet unmet]
    refine ⟨⟨rfl, rfl, rfl, rfl, fun _ => rfl⟩, rfl, rfl, rfl, ?_, fun _ _ => rfl, fun _ hx => .inl hx,
      (Spends.refl s).mono (Nat.zero_le 1)⟩
    exact ⟨.inl, fun h => h.elim id fun met => unmet.resolve_left (not_not_intro met)⟩

theorem elsewhere_limit (other : p ≠ f) : Elsewhere p (limitBody s f e current) := by
  intro _ _ _ _ _ _ _ same
  injection same with named
  exact other named.symm

theorem aside_testWindow (other : p ≠ f) (s : State) (e : FeederEntry) (current : Nat) : Aside p s (s.testWindow f e current) := by
  have tested := testWindow_tested s f e current
  refine ⟨tested.untouched.tables, tested.engine, tested.points, ?_, tested.others p other,
    fun x hx => (tested.notices x hx).imp_right fun own : x.body = _ => own ▸ elsewhere_limit other⟩
  rw [State.feederRec, tested.feeders]
  rfl

/-! ### A sample (R47, R48, R50) -/

/-- The step that a sample hands on, by the feeder's record before. -/
def handedOn (r : FeederRec) (s : State) (f : FeederNo) (e : FeederEntry) (x : Sample) : State :=
  match r.state, r.baseline with
  | .live, some b => s.handStep (s.sampleStep f e r.state b x)
  | .held, some b => s.handStep (s.sampleStep f e r.state b x)
  | .stale, _ => s.reportGap e.account
  | _, _ => s

theorem takeSample_eq (s : State) (f : FeederNo) (e : FeederEntry) (x : Sample) :
    s.takeSample f e x = (handedOn (s.feederRec f) (s.testWindow f e x.current) f e x).setBaseline f e x := rfl

theorem StepFrame.reportGap (s : State) (k : AccountNo) : StepFrame s (s.reportGap k) := by
  unfold State.reportGap
  split
  · exact .modAccount s k _
  · exact .refl s

theorem handedOn_frame (r : FeederRec) (s : State) (f : FeederNo) (e : FeederEntry) (x : Sample) : StepFrame s (handedOn r s f e x) := by
  unfold handedOn
  split
  · exact .handStep _ _
  · exact .handStep _ _
  · exact StepFrame.reportGap _ _
  · exact .refl _

/-- The visits of a report, by the sample found. -/
theorem feederOfReport_missing (entry : s.feederEntry f = some e) (none : samples.find? (fun x => x.position = e.position) = none) :
    s.feederOfReport samples f = s.missPoll f .missing := by
  unfold State.feederOfReport
  rw [entry]
  dsimp only
  rw [none]

theorem feederOfReport_fault (entry : s.feederEntry f = some e) (found : samples.find? (fun x => x.position = e.position) = some y)
    (fault : y.status = .fault) : s.feederOfReport samples f = s.missPoll f .fault := by
  unfold State.feederOfReport
  rw [entry]
  dsimp only
  rw [found]
  exact if_pos fault

theorem feederOfReport_valid (entry : s.feederEntry f = some e) (found : samples.find? (fun x => x.position = e.position) = some y)
    (valid : y.status ≠ .fault) : s.feederOfReport samples f = s.takeSample f e (prepareSample y s.engine.cycleNo) := by
  unfold State.feederOfReport
  rw [entry]
  dsimp only
  rw [found]
  exact if_neg valid

theorem feederOfReport_unloaded (entry : s.feederEntry f = none) : s.feederOfReport samples f = s := by
  unfold State.feederOfReport
  rw [entry]

/-- The cases of a visit. -/
theorem visit_cases (s : State) (samples : List BoardSample) (f : FeederNo) : s.feederOfReport samples f = s ∨
    (∃ status, s.feederOfReport samples f = s.missPoll f status) ∨
      ∃ e x, s.feederOfReport samples f = s.takeSample f e x := by
  cases entry : s.feederEntry f with
  | none => exact .inl (feederOfReport_unloaded entry)
  | some e =>
    refine .inr ?_
    cases found : samples.find? (fun x => x.position = e.position) with
    | none => exact .inl ⟨_, feederOfReport_missing entry found⟩
    | some y =>
      by_cases fault : y.status = .fault
      · exact .inl ⟨_, feederOfReport_fault entry found fault⟩
      · exact .inr ⟨e, _, feederOfReport_valid entry found fault⟩

theorem aside_visit (other : p ≠ f) (s : State) (samples : List BoardSample) : Aside p s (s.feederOfReport samples f) := by
  rcases visit_cases s samples f with same | ⟨status, missed⟩ | ⟨e, x, taken⟩
  · rw [same]
    exact .refl p s
  · rw [missed]
    exact .modFeeder other s _
  · rw [taken, takeSample_eq]
    exact ((aside_testWindow other s e x.current).trans (.of_step (handedOn_frame (s.feederRec f) _ f e x))).trans
      (.setBaseline other _ e x)

theorem spends_step (h : StepFrame s t) : Spends 0 s t :=
  .of_notices (congrArg Port.notices h.port :) fun p => by rw [State.pointRec, h.points]; rfl

theorem spends_modFeeder (s : State) (f : FeederNo) (g : FeederRec → FeederRec) : Spends 0 s (s.modFeeder f g) :=
  .of_notices rfl fun _ => rfl

theorem spends_visit (s : State) (samples : List BoardSample) (f : FeederNo) : Spends 1 s (s.feederOfReport samples f) := by
  rcases visit_cases s samples f with same | ⟨status, missed⟩ | ⟨e, x, taken⟩
  · rw [same]
    exact (Spends.refl s).mono (Nat.zero_le 1)
  · rw [missed]
    exact (spends_modFeeder s f _).mono (Nat.zero_le 1)
  · rw [taken, takeSample_eq]
    exact (((testWindow_tested s f e x.current).spends.trans (spends_step (handedOn_frame (s.feederRec f) _ f e x))).trans
      (spends_modFeeder _ f _)).mono (Nat.le_refl 1)

/-! ### The visit of the feeder itself -/

/-- The visit of a feeder with a valid sample. -/
structure Sampled (s t : State) (f : FeederNo) (e : FeederEntry) (y : BoardSample) : Prop where
  state : (t.feederRec f).state = .live
  latest : (t.feederRec f).latest = some ⟨min 60000 y.power, y.current, y.voltage, decide (y.status = .overrange),
    decide (60000 < y.power) || decide (y.status = .overrange), s.engine.cycleNo⟩
  baseline : (t.feederRec f).baseline = some ⟨min 60000 y.power, s.engine.cycleNo,
    decide (60000 < y.power) || decide (y.status = .overrange), s.connectedSet e.point⟩
  status : (t.feederRec f).status = if y.status = .overrange then .overrange else .ok
  flag : t.limitFlag f = true ↔ s.limitFlag f = true ∨ WindowMet e.mode e.low e.high y.current
  told : WindowMet e.mode e.low e.high y.current → s.limitFlag f = false → Raises 0 s t (limitBody s f e y.current)
  quiet : ¬ WindowMet e.mode e.low e.high y.current ∨ s.limitFlag f = true → t.port.notices = s.port.notices

theorem takeSample_sampled (s : State) (f : FeederNo) (e : FeederEntry) (y : BoardSample) :
    Sampled s (s.takeSample f e (prepareSample y s.engine.cycleNo)) f e y := by
  rw [takeSample_eq]
  have tested := testWindow_tested s f e (prepareSample y s.engine.cycleNo).current
  have met := testWindow_met (s := s) (f := f) (e := e) (current := (prepareSample y s.engine.cycleNo).current)
  have unmet := testWindow_unmet (s := s) (f := f) (e := e) (current := (prepareSample y s.engine.cycleNo).current)
  generalize s.testWindow f e (prepareSample y s.engine.cycleNo).current = u at tested met unmet
  have frame := handedOn_frame (s.feederRec f) u f e (prepareSample y s.engine.cycleNo)
  generalize handedOn (s.feederRec f) u f e (prepareSample y s.engine.cycleNo) = v at frame
  have connected : v.connectedSet e.point = s.connectedSet e.point := by
    refine connectedSet_congr (frame.tables.trans tested.untouched.tables) ?_
    rw [State.pointRec, frame.points, tested.points]
    rfl
  have read : (v.setBaseline f e (prepareSample y s.engine.cycleNo)).feederRec f = _ := State.modFeeder_read v f _
  have flag : (v.setBaseline f e (prepareSample y s.engine.cycleNo)).limitFlag f = u.limitFlag f := by
    have same : (v.setBaseline f e (prepareSample y s.engine.cycleNo)).limitFlag f = v.limitFlag f := rfl
    rw [same, State.limitFlag, frame.limitFlags]
    rfl
  have later : Spends 0 u (v.setBaseline f e (prepareSample y s.engine.cycleNo)) :=
    (spends_step frame).trans (spends_modFeeder v f _)
  have notices : (v.setBaseline f e (prepareSample y s.engine.cycleNo)).port.notices = u.port.notices :=
    (congrArg Port.notices frame.port :)
  generalize v.setBaseline f e (prepareSample y s.engine.cycleNo) = t at read flag later notices
  refine ⟨by rw [read], by rw [read]; rfl, by rw [read, connected]; rfl, ?_, ?_, fun window clear => ?_, fun none => ?_⟩
  · rw [read]
    show (if decide (y.status = .overrange) = true then FeederStatus.overrange else .ok) = _
    simp only [decide_eq_true_eq]
  · rw [flag]
    exact tested.flag
  · have put : Spends 0 s (s.putLimitFlag f true) := .of_notices rfl fun _ => rfl
    rw [met window clear] at later
    exact ((raises_raise _ _).after put).before later
  · rw [notices, unmet none]

end

end Sys2Proof.BoardVisits
end

section
/-! SUPPORT. The walk over a reporting board's feeders: what all their steps together add (R48, R50, R59 to R64). -/

namespace Sys2Proof.BoardWalks

open Sys2Proof Sys2Proof.Machine Sys2Proof.Stated Sys2Proof.Stepping Sys2Proof.BoardEnergy Sys2Proof.Sequencing
open Sys2Proof.BoardVisits Sys2Proof.StopAndClear Sys2Proof.LinkLoss

/-- What a feeder's step is read from. -/
structure Readable (s v : State) (f : FeederNo) : Prop where
  tables : v.tables = s.tables
  record : v.feederRec f = s.feederRec f
  cycleNo : v.engine.cycleNo = s.engine.cycleNo
  cycleLen : v.engine.cycleLen = s.engine.cycleLen
  connected : ∀ p, v.connectedSet p = s.connectedSet p

section
variable {s t u v : State} {f p : FeederNo} {e : FeederEntry} {a : Addr} {y : BoardSample} {b : Baseline}
  {samples : List BoardSample}

theorem Readable.refl (s : State) (f : FeederNo) : Readable s s f := ⟨rfl, rfl, rfl, rfl, fun _ => rfl⟩

theorem Readable.aside (h : Readable s u p) (k : Aside p u v) : Readable s v p where
  tables := k.tables.trans h.tables
  record := k.record.trans h.record
  cycleNo := (congrArg Engine.cycleNo k.engine).trans h.cycleNo
  cycleLen := (congrArg Engine.cycleLen k.engine).trans h.cycleLen
  connected i := (connectedSet_congr k.tables (by rw [State.pointRec, k.points]; rfl)).trans (h.connected i)

theorem Readable.entry (h : Readable s v f) : v.feederEntry f = s.feederEntry f := by
  rw [State.feederEntry, h.tables]
  rfl

theorem Readable.share (h : Readable s v f) (a : Addr) (samples : List BoardSample) :
    feederShare v a samples f = feederShare s a samples f := by
  have step : stepOf v a samples f = stepOf s a samples f := by
    unfold stepOf
    rw [h.entry, h.record]
  have energy (x : Option (FeederEntry × Baseline × BoardSample)) : stepEnergy v x = stepEnergy s x := by
    unfold stepEnergy
    rw [h.cycleNo, h.cycleLen]
  have side (x : Option (FeederEntry × Baseline × BoardSample)) : stepSet v x = stepSet s x := by
    unfold stepSet
    simp only [h.connected]
  unfold feederShare
  simp only [step, energy, side, h.record, h.entry]

/-! ### One visit -/

/-- The step that a sample makes, as the report's vocabulary gives it. -/
theorem share_of_step (step : stepOf s a samples f = some (e, b, y)) (engine : u.engine = s.engine)
    (connected : u.connectedSet e.point = s.connectedSet e.point) :
    stepShare (u.sampleStep f e (s.feederRec f).state b (prepareSample y s.engine.cycleNo)) = feederShare s a samples f := by
  have energy : (u.sampleStep f e (s.feederRec f).state b (prepareSample y s.engine.cycleNo)).energy =
      stepEnergy s (some (e, b, y)) := by
    rw [FeederStep.energy]
    show _ * 5 * _ * u.engine.cycleLen = _
    rw [engine]
    rfl
  have side : (u.sampleStep f e (s.feederRec f).state b (prepareSample y s.engine.cycleNo)).endSet.or
      (u.sampleStep f e (s.feederRec f).state b (prepareSample y s.engine.cycleNo)).startSet = stepSet s (some (e, b, y)) := by
    show (u.connectedSet e.point).or b.connected = _
    rw [connected]
    rfl
  have gapless : (fun k => ∃ e y, s.feederEntry f = some e ∧ e.board = a ∧ e.account = k ∧ (s.feederRec f).state = .stale ∧
      samples.find? (fun y => y.position = e.position) = some y ∧ y.status ≠ .fault) = fun _ : AccountNo => False := by
    refine funext fun k => eq_false fun ⟨_, _, _, _, _, stale, _⟩ => ?_
    obtain ⟨-, -, state, -⟩ := stepOf_eq_some step
    rcases state with state | state
    · exact absurd (state.symm.trans stale) nofun
    · exact absurd (state.symm.trans stale) nofun
  unfold stepShare feederShare
  rw [energy, side, step, gapless]
  simp [State.sampleStep, prepareSample]
  exact funext fun k => if_congr Iff.rfl rfl rfl

/-- A feeder in STALE that returns. -/
theorem share_of_gap (entry : s.feederEntry f = some e) (board : e.board = a) (stale : (s.feederRec f).state = .stale)
    (found : samples.find? (fun y => y.position = e.position) = some y) (valid : y.status ≠ .fault) :
    gapShare e.account = feederShare s a samples f := by
  have still : stepOf s a samples f = none := by
    refine Option.eq_none_iff_forall_ne_some.mpr fun x step => ?_
    obtain ⟨-, -, state, -⟩ := stepOf_eq_some step
    rcases state with state | state
    · exact absurd (state.symm.trans stale) nofun
    · exact absurd (state.symm.trans stale) nofun
  have gap : (fun k => ∃ e y, s.feederEntry f = some e ∧ e.board = a ∧ e.account = k ∧ (s.feederRec f).state = .stale ∧
      samples.find? (fun y => y.position = e.position) = some y ∧ y.status ≠ .fault) = fun k : AccountNo => k = e.account := by
    refine funext fun k => propext ⟨fun ⟨i, _, named, _, own, _⟩ => ?_, fun own => ⟨e, y, entry, board, own.symm, stale, found, valid⟩⟩
    rw [← own, Option.some.inj (entry.symm.trans named)]
  unfold gapShare feederShare
  rw [still, gap]
  simp [Shares.none, stepSet]

theorem untouched_modFeeder (s : State) (f : FeederNo) (g : FeederRec → FeederRec) : Untouched s (s.modFeeder f g) :=
  ⟨rfl, rfl, rfl, rfl, fun _ => rfl⟩

/-- A valid sample's step goes on by the feeder's share. -/
theorem handedOn_handed (entry : s.feederEntry f = some e) (board : e.board = a)
    (found : samples.find? (fun y => y.position = e.position) = some y) (valid : y.status ≠ .fault) (engine : u.engine = s.engine)
    (connected : u.connectedSet e.point = s.connectedSet e.point) :
    Handed (feederShare s a samples f) u (handedOn (s.feederRec f) u f e (prepareSample y s.engine.cycleNo)) := by
  have still (h : ∀ x, stepOf s a samples f ≠ some x) (fresh : (s.feederRec f).state ≠ .stale) :
      Handed (feederShare s a samples f) u u := by
    rw [feederShare_none (Option.eq_none_iff_forall_ne_some.mpr h) fun _ _ _ _ stale _ => absurd stale fresh]
    exact .of_untouched ⟨rfl, rfl, rfl, rfl, fun _ => rfl⟩
  have stepped (b : Baseline) (state : (s.feederRec f).state = .live ∨ (s.feederRec f).state = .held)
      (baseline : (s.feederRec f).baseline = some b) : Handed (feederShare s a samples f) u
        (u.handStep (u.sampleStep f e (s.feederRec f).state b (prepareSample y s.engine.cycleNo))) := by
    rw [← share_of_step (stepOf_some entry board state baseline found valid) engine connected]
    exact handStep_handed u _
  unfold handedOn
  split
  next b state baseline => exact stepped b (.inl state) baseline
  next b state baseline => exact stepped b (.inr state) baseline
  next stale =>
    rw [← share_of_gap entry board stale found valid]
    exact reportGap_handed u _
  next stale live held =>
    refine still (fun x step => ?_) stale
    obtain ⟨-, -, state, baseline, -⟩ := stepOf_eq_some step
    rcases state with state | state
    · exact live _ state baseline
    · exact held _ state baseline

theorem visit_handed (entry : s.feederEntry f = some e) (board : e.board = a) :
    Handed (feederShare s a samples f) s (s.feederOfReport samples f) := by
  have missed (status : FeederStatus) (invalid : ∀ y, samples.find? (fun y => y.position = e.position) = some y → y.status = .fault) :
      Handed (feederShare s a samples f) s (s.missPoll f status) := by
    have loaded (z : FeederEntry) (named : s.feederEntry f = some z) : z = e := Option.some.inj (named.symm.trans entry)
    rw [feederShare_none]
    · exact .of_untouched (untouched_modFeeder s f _)
    · refine Option.eq_none_iff_forall_ne_some.mpr fun x step => ?_
      obtain ⟨named, -, -, -, found, valid⟩ := stepOf_eq_some step
      rw [loaded _ named] at found
      exact valid (invalid _ found)
    · intro z y named _ _ found
      rw [loaded z named] at found
      exact invalid y found
  cases found : samples.find? (fun y => y.position = e.position) with
  | none =>
    rw [feederOfReport_missing entry found]
    exact missed _ fun y hy => absurd (found.symm.trans hy) nofun
  | some y =>
    by_cases fault : y.status = .fault
    · rw [feederOfReport_fault entry found fault]
      exact missed _ fun z hz => Option.some.inj (found.symm.trans hz) ▸ fault
    · rw [feederOfReport_valid entry found fault, takeSample_eq]
      have tested := testWindow_tested s f e (prepareSample y s.engine.cycleNo).current
      generalize s.testWindow f e (prepareSample y s.engine.cycleNo).current = u at tested
      have connected : u.connectedSet e.point = s.connectedSet e.point :=
        connectedSet_congr tested.untouched.tables (by rw [State.pointRec, tested.points]; rfl)
      have handed := (handedOn_handed entry board found fault tested.engine connected).after tested.untouched
      unfold State.setBaseline
      exact handed.before (untouched_modFeeder _ f _)

/-! ### The walk -/

/-- The shares of a list of feeders. -/
def sumShares (s : State) (a : Addr) (samples : List BoardSample) : List FeederNo → Shares
  | [] => .none
  | f :: fs => (feederShare s a samples f).both (sumShares s a samples fs)

theorem share_away (away : (s.feederEntry f).any (fun e => e.board = a) = false) : feederShare s a samples f = .none := by
  have nowhere (e : FeederEntry) (entry : s.feederEntry f = some e) : e.board ≠ a := fun board => by
    rw [entry, Option.any_some, board, decide_eq_true rfl] at away
    exact absurd away (by decide)
  refine feederShare_none (Option.eq_none_iff_forall_ne_some.mpr fun x step => ?_) fun e y entry board => absurd board (nowhere e entry)
  obtain ⟨entry, board, -⟩ := stepOf_eq_some step
  exact nowhere _ entry board

theorem walk_handed (samples : List BoardSample) (xs : List FeederNo) (nodup : xs.Nodup) (v : State) (readable : ∀ f ∈ xs, Readable s v f) :
    Handed (sumShares s a samples xs) v
      (forEach (xs.filter fun f => (s.feederEntry f).any fun e => e.board = a) (fun f s => s.feederOfReport samples f) v) := by
  induction xs generalizing v with
  | nil => exact .of_untouched ⟨rfl, rfl, rfl, rfl, fun _ => rfl⟩
  | cons f fs ih =>
    obtain ⟨fresh, rest⟩ := List.nodup_cons.mp nodup
    rw [sumShares, List.filter_cons]
    split
    next on =>
      obtain ⟨e, entry, board⟩ := (Option.any_eq_true _ _).mp on
      have own := readable f List.mem_cons_self
      have visit := visit_handed (samples := samples) (own.entry.trans entry) (of_decide_eq_true board)
      rw [own.share] at visit
      rw [forEach_cons]
      refine visit.trans (ih rest _ fun g hg => ?_)
      exact (readable g (List.mem_cons_of_mem f hg)).aside (aside_visit (fun same : g = f => fresh (same ▸ hg)) v samples)
    next off =>
      rw [share_away (Bool.eq_false_iff.mpr off), none_both]
      exact ih rest v fun g hg => readable g (List.mem_cons_of_mem f hg)

theorem boardReport_handed (v : State) (a : Addr) (samples : List BoardSample) :
    Handed (sumShares v a samples allFeeders) v (v.boardReport a samples) :=
  walk_handed samples allFeeders (List.nodup_finRange 32) v fun f _ => .refl v f

/-! ### The sums -/

theorem sum_filter_map {α β : Type} (xs : List α) (g : α → β) (keep : β → Bool) (value : β → Nat) :
    ((((xs.map g).filter keep).map value).sum) = (xs.map fun x => if keep (g x) then value (g x) else 0).sum := by
  induction xs with
  | nil => rfl
  | cons x xs ih =>
    rw [List.map_cons, List.filter_cons, List.map_cons, List.sum_cons, ← ih]
    split
    · exact List.sum_cons
    · exact (Nat.zero_add _).symm

theorem sumShares_account (s : State) (a : Addr) (samples : List BoardSample) (xs : List FeederNo) (k : AccountNo) :
    (sumShares s a samples xs).account k =
      (((xs.map fun f => stepOf s a samples f).filter fun x => x.any fun y => y.1.account = k).map (stepEnergy s)).sum := by
  rw [sum_filter_map]
  induction xs with
  | nil => rfl
  | cons f fs ih => exact congrArg _ ih

theorem sumShares_metered (s : State) (a : Addr) (samples : List BoardSample) (xs : List FeederNo) (n : SetNo) :
    (sumShares s a samples xs).metered n =
      (((xs.map fun f => stepOf s a samples f).filter fun x => stepSet s x = some n).map (stepEnergy s)).sum := by
  rw [sum_filter_map]
  induction xs with
  | nil => rfl
  | cons f fs ih =>
    rw [List.map_cons, List.sum_cons, ← ih]
    simp [sumShares, Shares.both, feederShare]

theorem sumShares_unattributed (s : State) (a : Addr) (samples : List BoardSample) (xs : List FeederNo) :
    (sumShares s a samples xs).unattributed =
      (((xs.map fun f => stepOf s a samples f).filter fun x => x.isSome && stepSet s x = none).map (stepEnergy s)).sum := by
  rw [sum_filter_map]
  induction xs with
  | nil => rfl
  | cons f fs ih => exact congrArg _ ih

/-- A mark that some step leaves. -/
theorem sumShares_marks (s : State) (a : Addr) (samples : List BoardSample) (xs : List FeederNo) (k : AccountNo) :
    ((sumShares s a samples xs).estimated k ↔ ∃ f ∈ xs, (feederShare s a samples f).estimated k) ∧
      ((sumShares s a samples xs).clamped k ↔ ∃ f ∈ xs, (feederShare s a samples f).clamped k) ∧
      ((sumShares s a samples xs).gap k ↔ ∃ f ∈ xs, (feederShare s a samples f).gap k) := by
  induction xs with
  | nil => exact ⟨⟨False.elim, nofun⟩, ⟨False.elim, nofun⟩, ⟨False.elim, nofun⟩⟩
  | cons f fs ih =>
    obtain ⟨estimated, clamped, gap⟩ := ih
    simp only [List.mem_cons, exists_eq_or_imp]
    exact ⟨or_congr_right estimated, or_congr_right clamped, or_congr_right gap⟩

/-- The walk's energy, as the vocabulary says it. -/
theorem stepped_of (h : Handed (sumShares s a samples allFeeders) s t) : BoardStepped s t a samples := by
  have marks := sumShares_marks s a samples allFeeders
  have any (P : FeederNo → Prop) : (∃ f ∈ allFeeders, P f) ↔ ∃ f, P f :=
    exists_congr fun f => and_iff_right (List.mem_finRange f)
  refine ⟨fun k isOpen => ?_, fun k isOpen => ?_, fun k isOpen => ?_, fun k isOpen => ?_, h.closed, fun n few => ?_, fun few => ?_⟩
  · rw [h.account k isOpen, sumShares_account]
  · obtain ⟨own, -, -⟩ := marks k
    exact (h.estimated k isOpen).trans (or_congr_right (own.trans (any _)))
  · obtain ⟨-, own, -⟩ := marks k
    exact (h.clamped k isOpen).trans (or_congr_right (own.trans (any _)))
  · obtain ⟨-, -, own⟩ := marks k
    exact (h.gap k isOpen).trans (or_congr_right (own.trans (any _)))
  · have few : (s.setRec n).hire.meteredMj ≤ max64 := few
    rw [← sumShares_metered]
    exact h.metered n few
  · have few : s.unattributed ≤ max64 := few
    rw [← sumShares_unattributed]
    exact h.unattributed few

end

end Sys2Proof.BoardWalks
end

section
/-! SUPPORT. The whole slot of a BOARD report (R31, R43 to R45, R47, R48, R50, R52, R53, R59 to R64). -/

namespace Sys2Proof.BoardReports

open Sys2Proof Sys2Proof.Machine Sys2Proof.Stated Sys2Proof.StopAndClear Sys2Proof.Sequencing Sys2Proof.OwnerSteps
open Sys2Proof.UnitLoading Sys2Proof.LinkLoss Sys2Proof.BodySteps Sys2Proof.Slots Sys2Proof.Hearing Sys2Proof.Replies
open Sys2Proof.Attachments Sys2Proof.BoardEnergy Sys2Proof.BoardVisits Sys2Proof.BoardWalks

section
variable {s t u v w z : State} {f g p : FeederNo} {e : FeederEntry} {a : Addr} {y : BoardSample} {samples : List BoardSample}
  {r : FieldReport} {clock : Option Nat} {age : Nat} {isReply : Bool}

/-! ### The state that meets the body -/

/-- What the link and the command's outcome leave for the feeders of a report. -/
structure Met (s u : State) (a : Addr) : Prop where
  untouched : Untouched s u
  pending : u.pending = s.pending
  feeders : u.feeders = s.feeders
  limitFlags : u.limitFlags = s.limitFlags
  cycleNo : u.engine.cycleNo = s.engine.cycleNo
  cycleLen : u.engine.cycleLen = s.engine.cycleLen
  attached : Attached s u
  forward : (u.link a).forward = (s.link a).forward
  copies : u.port.copies = s.port.copies
  copyDrops : u.port.copyDrops = s.port.copyDrops
  notices : ∀ x ∈ u.port.notices, x ∈ s.port.notices ∨ Unlimited x.body

theorem Met.trans (h : Met s t a) (k : Met t u a) : Met s u a where
  untouched := ⟨k.untouched.tables.trans h.untouched.tables, k.untouched.site.trans h.untouched.site,
    (congrArg (fun x : Billing => { x with clock := s.billing.clock }) k.untouched.billing :).trans h.untouched.billing,
    k.untouched.unattributed.trans h.untouched.unattributed, fun n => (k.untouched.metered n).trans (h.untouched.metered n)⟩
  pending := k.pending.trans h.pending
  feeders := k.feeders.trans h.feeders
  limitFlags := k.limitFlags.trans h.limitFlags
  cycleNo := k.cycleNo.trans h.cycleNo
  cycleLen := k.cycleLen.trans h.cycleLen
  attached := h.attached.trans k.attached
  forward := k.forward.trans h.forward
  copies := k.copies.trans h.copies
  copyDrops := k.copyDrops.trans h.copyDrops
  notices x hx := (k.notices x hx).elim (h.notices x) .inr

theorem Met.of_owner (h : OwnerStep s t) (attached : Attached s t) : Met s t a where
  untouched := ⟨h.tables, h.site, by rw [h.billing], h.unattributed, attached.metered⟩
  pending := h.pending
  feeders := h.feeders
  limitFlags := h.limitFlags
  cycleNo := (congrArg Engine.cycleNo h.engine :)
  cycleLen := (congrArg Engine.cycleLen h.engine :)
  attached := attached
  forward := (congrArg LinkRec.forward (link_of_ownerStep h a) :)
  copies := (congrArg Port.copies h.port :)
  copyDrops := (congrArg Port.copyDrops h.port :)
  notices := h.unlimited

theorem met_begun (s : State) (a : Addr) (clock : Option Nat) (age : Nat) : Met s (slotBegun s clock age) a :=
  ⟨⟨rfl, rfl, rfl, rfl, fun _ => rfl⟩, rfl, rfl, rfl, rfl, rfl, .of_same rfl rfl, rfl, rfl, rfl, fun _ h => .inl h⟩

theorem met_heard (s : State) (a : Addr) : Met s (linkHeard s a) a :=
  ⟨⟨rfl, rfl, rfl, rfl, fun _ => rfl⟩, rfl, rfl, rfl, rfl, rfl, .of_same rfl rfl,
    (congrArg LinkRec.forward (State.modLink_read s a fun l => { l with state := some .present, misses := 0 }) :), rfl, rfl,
    fun _ h => .inl h⟩

theorem met_putOutstanding (s : State) (a : Addr) (q : Option Outstanding) : Met s (s.putOutstanding q) a :=
  ⟨⟨rfl, rfl, rfl, rfl, fun _ => rfl⟩, rfl, rfl, rfl, rfl, rfl, .of_same rfl rfl, rfl, rfl, rfl, fun _ h => .inl h⟩

theorem met_linkUp (s : State) (a : Addr) : Met s (s.linkUp a) a := by
  by_cases lost : (s.link a).state = some .lost
  · have cleared : OwnerStep (linkHeard s a) (s.linkUp a) := by
      rw [linkUp_lost lost]
      exact (OwnerStep.raise _ _).trans (.forEach _ (fun n _ s => .clearMark s n) _)
    have attached : Attached (linkHeard s a) (s.linkUp a) := by
      rw [linkUp_lost lost]
      have told : Attached (linkHeard s a) ((linkHeard s a).raise (.unitLink a .present 0)) := .of_same rfl rfl
      exact told.trans (.forEach (fun n s => .clearMark s n) _ _)
    exact (met_heard s a).trans (.of_owner cleared attached)
  · rw [linkUp_known lost]
    exact met_heard s a

theorem met_answered (s : State) (a : Addr) (isReply : Bool) (r : FieldReport) : Met s (answered s isReply r) a := by
  unfold Hearing.answered
  split
  · cases outstanding : s.engine.outstanding with
    | none =>
      have idle : s.endOutstanding r.answer.outcome = s := by rw [State.endOutstanding, outstanding]
      rw [idle]
      exact .of_owner (.refl s) (.refl s)
    | some q =>
      rw [endOutstanding_of outstanding]
      exact (met_putOutstanding s a none).trans (.of_owner (.returnOutcome _ q.command _) (.returnOutcome _ q.command _))
  · exact .of_owner (.refl s) (.refl s)

theorem met_slot (s : State) (a : Addr) (clock : Option Nat) (age : Nat) (isReply : Bool) (r : FieldReport) :
    Met s (answered ((slotBegun s clock age).linkUp a) isReply r) a :=
  ((met_begun s a clock age).trans (met_linkUp _ a)).trans (met_answered _ a isReply r)

theorem Met.readable (h : Met s u a) (f : FeederNo) : Readable s u f where
  tables := h.untouched.tables
  record := by rw [State.feederRec, h.feeders]; rfl
  cycleNo := h.cycleNo
  cycleLen := h.cycleLen
  connected := connectedSet_attached h.attached h.untouched.tables

theorem Met.limitFlag (h : Met s u a) (f : FeederNo) : u.limitFlag f = s.limitFlag f := by
  rw [State.limitFlag, h.limitFlags]
  rfl

theorem Met.elsewhere (h : Met s u a) (p : FeederNo) : ∀ x ∈ u.port.notices, x ∈ s.port.notices ∨ Elsewhere p x.body :=
  fun x hx => (h.notices x hx).imp_right fun unlimited => unlimited p

theorem sumShares_congr (h : ∀ f, Readable s u f) (a : Addr) (samples : List BoardSample) (xs : List FeederNo) :
    sumShares u a samples xs = sumShares s a samples xs := by
  induction xs with
  | nil => rfl
  | cons f fs ih => rw [sumShares, sumShares, (h f).share, ih]

theorem Met.stepped (h : Met s u a) (samples : List BoardSample) : Handed (sumShares s a samples allFeeders) s (u.boardReport a samples) := by
  rw [← sumShares_congr h.readable]
  exact (boardReport_handed u a samples).after h.untouched

/-! ### One feeder of the board -/

/-- The visit of one feeder in the walk of its board. -/
structure VisitedAt (v u t : State) (f : FeederNo) (samples : List BoardSample) (visits : Nat) : Prop where
  before : Aside f v u
  after : Aside f (u.feederOfReport samples f) t
  spends : ∃ i j, Spends i v u ∧ Spends j (u.feederOfReport samples f) t ∧ i + j + 1 = visits

theorem boardReport_visit (mem : f ∈ v.boardFeeders a) :
    ∃ u, VisitedAt v u (v.boardReport a samples) f samples (v.boardFeeders a).length := by
  have nodup : (v.boardFeeders a).Nodup := (List.nodup_finRange 32).filter _
  unfold State.boardReport
  generalize v.boardFeeders a = xs at mem nodup
  obtain ⟨before, after, rfl⟩ := List.append_of_mem mem
  obtain ⟨fresh, -⟩ := List.nodup_cons.mp (List.nodup_middle.mp nodup)
  have aside (ys : List FeederNo) (within : ∀ g ∈ ys, g ∈ before ++ after) (u : State) :
      Aside f u (forEach ys (fun f s => s.feederOfReport samples f) u) :=
    forEach_rel (.refl f) .trans (fun g hg s => aside_visit (fun same : f = g => fresh (same ▸ within g hg)) s samples) u
  have spends (ys : List FeederNo) (u : State) : Spends ys.length u (forEach ys (fun f s => s.feederOfReport samples f) u) :=
    (Spends.forEach (fun f s => spends_visit s samples f) ys u).mono (Nat.le_of_eq (Nat.mul_one _))
  rw [forEach_append, forEach_cons]
  refine ⟨_, aside before (fun g hg => List.mem_append_left _ hg) v, aside after (fun g hg => List.mem_append_right _ hg) _, _, _,
    spends before v, spends after _, ?_⟩
  rw [List.length_append, List.length_cons]
  omega

theorem boardReport_away (away : ∀ z, v.feederEntry g = some z → z.board ≠ a) : Aside g v (v.boardReport a samples) := by
  have apart (f : FeederNo) (hf : f ∈ v.boardFeeders a) : g ≠ f := fun same => by
    obtain ⟨z, entry, board⟩ := mem_boardFeeders.mp hf
    exact away z (same ▸ entry) board
  exact forEach_rel (.refl g) .trans (fun f hf s => aside_visit (apart f hf) s samples) v

/-- The state before a slot, the state in which the visit of one feeder finds it, and the state at the slot's end. -/
structure SlotVisit (s v u t : State) (f : FeederNo) (e : FeederEntry) (samples : List BoardSample) (visits : Nat) : Prop where
  readable : Readable s u f
  flag : u.limitFlag f = s.limitFlag f
  entry : u.feederEntry f = some e
  known : ∀ x ∈ u.port.notices, x ∈ s.port.notices ∨ Elsewhere f x.body
  after : Aside f (u.feederOfReport samples f) t
  spends : ∃ i j, Spends i v u ∧ Spends j (u.feederOfReport samples f) t ∧ i + j + 1 = visits

theorem slotVisit_of (met : Met s v a) (entry : s.feederEntry f = some e) (board : e.board = a) :
    ∃ u, SlotVisit s v u (v.boardReport a samples) f e samples (v.boardFeeders a).length := by
  have read := met.readable f
  obtain ⟨u, visit⟩ := boardReport_visit (samples := samples) (mem_boardFeeders.mpr ⟨e, read.entry.trans entry, board⟩)
  have here := read.aside visit.before
  exact ⟨u, here, visit.before.flag.trans (met.limitFlag f), here.entry.trans entry,
    fun x hx => (visit.before.notices x hx).elim (met.elsewhere f x) .inr, visit.after, visit.spends⟩

section
variable {visits : Nat} (h : SlotVisit s v u t f e samples visits)
include h

theorem SlotVisit.sampled (found : samples.find? (fun y => y.position = e.position) = some y) (valid : y.status ≠ .fault) :
    Sampled u (u.feederOfReport samples f) f e y := by
  rw [feederOfReport_valid h.entry found valid]
  exact takeSample_sampled u f e y

/-- The record and the flag of a feeder with a valid sample. -/
theorem SlotVisit.record (found : samples.find? (fun y => y.position = e.position) = some y) (valid : y.status ≠ .fault) :
    (t.feederRec f).state = .live ∧
      (t.feederRec f).latest = some ⟨min 60000 y.power, y.current, y.voltage, decide (y.status = .overrange),
        decide (60000 < y.power) || decide (y.status = .overrange), s.engine.cycleNo⟩ ∧
      (t.feederRec f).baseline = some ⟨min 60000 y.power, s.engine.cycleNo,
        decide (60000 < y.power) || decide (y.status = .overrange), s.connectedSet e.point⟩ ∧
      (t.feederRec f).status = (if y.status = .overrange then .overrange else .ok) ∧
      (t.limitFlag f = true ↔ s.limitFlag f = true ∨ WindowMet e.mode e.low e.high y.current) := by
  have sampled := h.sampled found valid
  have latest := sampled.latest
  have baseline := sampled.baseline
  have flag := sampled.flag
  rw [h.readable.cycleNo] at latest baseline
  rw [h.readable.connected] at baseline
  rw [h.flag, ← h.after.flag] at flag
  rw [h.after.record]
  exact ⟨sampled.state, latest, baseline, sampled.status, flag⟩

theorem SlotVisit.missed {status : FeederStatus} (taken : u.feederOfReport samples f = u.missPoll f status) :
    t.feederRec f = { s.feederRec f with
      state := if (s.feederRec f).state = .live then .held else (s.feederRec f).state
      status } ∧ t.limitFlag f = s.limitFlag f := by
  have after := h.after
  rw [taken] at after
  have read : (u.missPoll f status).feederRec f = _ := State.modFeeder_read u f _
  refine ⟨?_, after.flag.trans h.flag⟩
  rw [after.record, read, h.readable.record]

theorem SlotVisit.told (found : samples.find? (fun y => y.position = e.position) = some y) (valid : y.status ≠ .fault)
    (window : WindowMet e.mode e.low e.high y.current) (clear : s.limitFlag f = false) (few : visits ≤ 4) (begun : Spends 0 s v)
    (later : Spends 0 t z) : Told s z (.feederLimit f e.board e.position e.mode e.low e.high y.current s.engine.cycleNo) := by
  have raises := (h.sampled found valid).told window (h.flag.trans clear)
  obtain ⟨i, j, before, after, total⟩ := h.spends
  have whole := ((raises.after (begun.trans before)).before after).before later
  rw [limitBody, h.readable.cycleNo] at whole
  exact whole.told (by omega)

theorem SlotVisit.quiet (found : samples.find? (fun y => y.position = e.position) = some y) (valid : y.status ≠ .fault)
    (unmet : ¬ WindowMet e.mode e.low e.high y.current ∨ s.limitFlag f = true) :
    ∀ x ∈ t.port.notices, x ∈ s.port.notices ∨ Elsewhere f x.body := by
  intro x hx
  rcases h.after.notices x hx with mem | new
  · rw [(h.sampled found valid).quiet (unmet.imp_right h.flag.trans)] at mem
    exact h.known x mem
  · exact .inr new

end

/-! ### The end of the slot -/

theorem spends_met (idle : s.engine.outstanding = none) (known : (s.link a).state ≠ some .lost) (clock : Option Nat) (age : Nat)
    (r : FieldReport) : Spends 0 s (answered ((slotBegun s clock age).linkUp a) s.engine.atReplySlot r) := by
  have reply : s.engine.atReplySlot = false := by simp [Engine.atReplySlot, idle]
  have up : (slotBegun s clock age).linkUp a = linkHeard (slotBegun s clock age) a := linkUp_known known
  rw [reply, up]
  exact .of_notices rfl fun _ => rfl

/-- Settles O30: the walk of the board, seen at the feeder it visits, at the feeders it does not, and in the sum of its steps. -/
theorem boardReportIsApplied : Obligations.BoardReportIsApplied := by
  intro a e f x r samples received deferred s slot valid body entry board
  obtain ⟨clock, age, run⟩ := exec_validSlot slot valid deferred
  rw [validSlot_eq, body] at run
  have met := met_slot s a clock age s.engine.atReplySlot r
  have begun := fun idle known => spends_met (s := s) (a := a) idle known clock age r
  generalize answered ((slotBegun s clock age).linkUp a) s.engine.atReplySlot r = v at run met begun
  have handed : (v.handBody a e (.board samples) fun n => deferred.contains (.discrepancy n)) = v.boardReport a samples := rfl
  rw [handed] at run
  have few : v.boardFeeders a = allFeeders.filter fun g => (s.feederEntry g).any fun z => z.board = a := by
    unfold State.boardFeeders
    simp only [State.feederEntry, met.untouched.tables]
  have away := fun g apart => boardReport_away (v := v) (g := g) (a := a) (samples := samples) apart
  have stepped := met.stepped samples
  have step := BodyStep.boardReport v a samples
  obtain ⟨u, visit⟩ := slotVisit_of (samples := samples) met entry board
  generalize v.boardReport a samples = w at run away stepped step visit
  have forwarded := forwarded_of (s := s) (e := e) (r := r)
    ((congrArg LinkRec.forward (link_of_bodyStep step a)).trans met.forward)
    ((congrArg Port.copies step.port :).trans met.copies) ((congrArg Port.copyDrops step.port :).trans met.copyDrops)
    ((congrArg Engine.cycleNo step.engine :).trans met.cycleNo)
  obtain ⟨passed, -⟩ := forward_passed w a e r.raw
  generalize (w.forward a e r.raw).startTx = t at run forwarded passed
  have notices := passed.notices
  obtain ⟨links, port, rfl⟩ := passed.rest
  refine ⟨_, run, fun y found fair => ?_, fun y found fault => visit.missed (feederOfReport_fault visit.entry found fault),
    fun none => visit.missed (feederOfReport_missing visit.entry none), fun g apart => ?_, ?_, forwarded,
    step.tables.trans met.untouched.tables, step.site.trans met.untouched.site, step.pending.trans met.pending⟩
  · obtain ⟨state, latest, baseline, status, flag⟩ := visit.record found fair
    refine ⟨state, latest, baseline, status, flag, fun window clear idle known short => ?_, fun unmet => ?_⟩
    · rw [← few] at short
      have told := visit.told found fair window clear short (begun idle known) (z := { w with engine := { w.engine with links }, port })
        (.of_notices notices fun _ => rfl)
      rwa [board] at told
    · have quiet := visit.quiet found fair unmet
      rw [← notices] at quiet
      exact quiet
  · have aside := away g fun z named => apart z ((met.readable g).entry.symm.trans named)
    exact ⟨aside.record.trans (met.readable g).record, aside.flag.trans (met.limitFlag g)⟩
  · exact stepped_of (stepped.before ⟨rfl, rfl, rfl, rfl, fun _ => rfl⟩)

end

end Sys2Proof.BoardReports
end

section
/-! SUPPORT. The command queue while the internal originators alone join it: which origins a step can queue a command of, and that none has
two (R32, R33). -/

namespace Sys2Proof.Queueing

open Sys2Proof Sys2Proof.Machine Sys2Proof.Stated Sys2Proof.Sequencing Sys2Proof.StopAndClear Sys2Proof.Sessions

/-- No command of the office is queued, and no origin has two. -/
def Distinct (s : State) : Prop :=
  s.engine.outstanding = none ∧ (s.engine.queue.map Command.origin).Nodup ∧ ∀ c ∈ s.engine.queue, ∀ tag, c.origin ≠ .office tag

/-- The origins whose commands a step can queue satisfy `P`, and a point's is SWITCHED; no origin comes to have two. -/
structure Queues (P : Origin → Prop) (s t : State) : Prop where
  tables : t.tables = s.tables
  joins : ∀ c ∈ t.engine.queue, c ∈ s.engine.queue ∨ (P c.origin ∧ ∀ p, c.origin = .changeover p → s.switched p ≠ none)
  distinct : Distinct s → Distinct t

section
variable {P : Origin → Prop} {s t u : State} {p : PointNo} {n : SetNo} {m : MeterNo}

theorem Queues.refl (s : State) : Queues P s s := ⟨rfl, fun _ h => .inl h, id⟩

theorem switched_tables (h : t.tables = s.tables) (p : PointNo) : t.switched p = s.switched p := by
  unfold State.switched State.pointEntry
  rw [h]

theorem Queues.trans (h : Queues P s t) (k : Queues P t u) : Queues P s u where
  tables := k.tables.trans h.tables
  joins c hc := (k.joins c hc).elim (h.joins c) fun ⟨own, loaded⟩ =>
    .inr ⟨own, fun p origin => switched_tables h.tables p ▸ loaded p origin⟩
  distinct d := k.distinct (h.distinct d)

theorem Queues.forEach {α : Type} {f : α → State → State} (xs : List α) (h : ∀ x ∈ xs, ∀ s, Queues P s (f x s)) (s : State) :
    Queues P s (forEach xs f s) := forEach_rel Queues.refl Queues.trans h s

/-- What touches neither the tables nor the engine queues nothing. -/
theorem Queues.of_engine (tables : t.tables = s.tables) (engine : t.engine = s.engine) : Queues P s t :=
  ⟨tables, fun _ hc => .inl (engine ▸ hc), fun d => by rw [Distinct, engine]; exact d⟩

theorem Queues.withdraw (s : State) (o : Origin) : Queues P s (s.withdraw o) := by
  refine ⟨rfl, fun c hc => .inl (mem_withdrawn hc).1, fun ⟨outstanding, distinct, internal⟩ => ⟨outstanding, ?_, fun c hc =>
    internal c (mem_withdrawn hc).1⟩⟩
  exact distinct.sublist (List.filter_sublist.map _)

theorem Queues.enqueue {c : Command} (h : s.enqueue c = some t) (own : P c.origin) (internal : ∀ tag, c.origin ≠ .office tag)
    (loaded : ∀ p, c.origin = .changeover p → s.switched p ≠ none) : Queues P s t := by
  have office : c.isOffice = false := by
    unfold Command.isOffice
    split
    next tag origin => exact absurd origin (internal tag)
    all_goals rfl
  obtain ⟨-, -, fresh, rfl⟩ := State.enqueue_eq_some.mp h
  have fresh := fresh office
  unfold Engine.holdsFor at fresh
  obtain ⟨unqueued, -⟩ := (Bool.or_eq_false_iff ..).mp fresh
  refine ⟨rfl, fun x hx => ?_, fun ⟨outstanding, distinct, others⟩ => ⟨outstanding, ?_, fun x hx => ?_⟩⟩
  · rcases List.mem_append.mp hx with old | new
    · exact .inl old
    · rw [List.mem_singleton.mp new]
      exact .inr ⟨own, loaded⟩
  · rw [List.map_append, List.map_singleton]
    refine List.nodup_append.mpr ⟨distinct, List.nodup_singleton _, fun o mem y hy => ?_⟩
    obtain ⟨x, hx, rfl⟩ := List.mem_map.mp mem
    have apart := List.any_eq_false.mp unqueued x hx
    rw [List.mem_singleton.mp hy]
    exact fun same => apart (decide_eq_true same)
  · rcases List.mem_append.mp hx with old | new
    · exact others x old
    · rw [List.mem_singleton.mp new]
      exact internal

/-! ### Sequencers -/

section
variable (own : ∀ p, P (.changeover p))
include own

theorem Queues.enqueuePoint (s : State) (p : PointNo) (code : Code) : Queues P s (s.enqueuePoint p code) := by
  unfold State.enqueuePoint
  split
  · exact .refl s
  next loaded =>
    split
    · exact .refl s
    next queued =>
      have switched : s.switched p ≠ none := by
        rw [loaded]
        nofun
      refine (Queues.enqueue queued (own p) nofun fun k origin => ?_).trans (.of_engine rfl rfl)
      injection origin with same
      exact same ▸ switched

omit own in
theorem Queues.dropPointCommand (s : State) (p : PointNo) : Queues P s (s.dropPointCommand p) :=
  (Queues.withdraw s _).trans (.of_engine rfl rfl)

omit own in
theorem Queues.endSequence (s : State) (p : PointNo) (o : SeqOutcome) (manual : Option ManualPart) :
    Queues P s (s.endSequence p o manual) := by
  cases h : (s.pointRec p).seq with
  | none =>
    rw [endSequence_idle h]
    exact .refl s
  | some q =>
    rw [endSequence_eq h]
    exact (Queues.dropPointCommand s p).trans (.of_engine rfl rfl)

theorem Queues.enqueueRecovery (s : State) (p : PointNo) (q : Sequence) (code : Code) : Queues P s (s.enqueueRecovery p q code) := by
  unfold State.enqueueRecovery
  split
  · exact .enqueuePoint own s p code
  · exact .endSequence s p _ _

theorem Queues.enterRecovering (s : State) (p : PointNo) (q : Sequence) (why : RecoveryReason) :
    Queues P s (s.enterRecovering p q why) := by
  have entered (y : Sequence) : Queues P s ((s.dropPointCommand p).putSeq p y) :=
    (Queues.dropPointCommand s p).trans (.of_engine rfl rfl)
  unfold State.enterRecovering
  dsimp only
  split
  · split
    · have due (y : Sequence) (c : Code) : Queues P s (((s.dropPointCommand p).putSeq p y).modPoint p fun r => { r with due := some c }) :=
        (entered y).trans (.of_engine rfl rfl)
      split
      · exact (due _ _).trans (.enqueueRecovery own _ p _ _)
      · exact due _ _
    · exact (entered _).trans (.endSequence _ p _ _)
  · exact (entered _).trans (.endSequence _ p _ _)

theorem Queues.tryEnqueuePoint (s : State) (p : PointNo) : Queues P s (s.tryEnqueuePoint p) := by
  unfold State.tryEnqueuePoint
  dsimp only
  split
  · split
    · split
      · exact .enqueuePoint own s p _
      · exact .enterRecovering own s p _ _
    · exact .enqueueRecovery own s p _ _
    all_goals exact .enqueuePoint own s p _
  · exact .refl s

theorem Queues.proceed (s : State) (p : PointNo) (q : Sequence) : Queues P s (s.proceed p q) := by
  unfold State.proceed
  split
  · exact .of_engine rfl rfl
  · have asked (f : PointRec → PointRec) : Queues P s (s.modPoint p f) := .of_engine rfl rfl
    exact (asked _).trans (.tryEnqueuePoint own _ p)

theorem Queues.seqNews (s : State) (n : SetNo) (p : PointNo) : Queues P s (s.seqNews n p) := by
  have same : Queues P s s := .refl s
  have gone (o : SeqOutcome) : Queues P s (s.endSequence p o none) := .endSequence s p o none
  have back (q : Sequence) : Queues P s (s.enterRecovering p q .targetFault) := .enterRecovering own s p q .targetFault
  unfold State.seqNews
  split
  · exact same
  · dsimp only
    split
    · split
      · split
        · exact .proceed own s p _
        · split
          · exact same
          · exact same
          · exact gone _
      · split
        · exact same
        · split
          · exact gone _
          · exact .of_engine rfl rfl
      · split
        · exact same
        · exact back _
      · split
        · exact same
        · exact back _
      · exact same
    · split
      · split
        · exact same
        · exact gone _
      · exact same

theorem Queues.tellSequencers (s : State) (n : SetNo) : Queues P s (s.tellSequencers n) :=
  .forEach allPoints (fun p _ s => .seqNews own s n p) s

/-! ### Sets -/

omit own in
theorem Queues.dropUncalled (s : State) (n : SetNo) : Queues P s (s.dropUncalled n) := by
  unfold State.dropUncalled
  dsimp only
  split
  · split
    · exact .of_engine rfl rfl
    · exact (Queues.withdraw s _).trans (.of_engine rfl rfl)
  all_goals exact .of_engine rfl rfl

theorem Queues.changeRun (s : State) (n : SetNo) (run : RunState) (why : StateReason) (attempts : Option Nat) :
    Queues P s (s.changeRun n run why attempts) := by
  rw [changeRun_eq]
  have written : Queues P s (s.modSet n fun r => { r with run, overloadRun := 0 }) := .of_engine rfl rfl
  have set : Queues P s (runSet s n run) := written.trans (.dropUncalled _ n)
  generalize runSet s n run = t at set ⊢
  have told (body : NoticeBody) : Queues P t (t.raise body) := .of_engine rfl rfl
  exact (set.trans (told _)).trans (.tellSequencers own _ n)

theorem Queues.tryEnqueueSet (here : P (.sets n)) (s : State) : Queues P s (s.tryEnqueueSet n) := by
  unfold State.tryEnqueueSet
  dsimp only
  split
  · split
    · have cleared : Queues P s (s.modSet n fun r => { r with due := none }) := .of_engine rfl rfl
      generalize s.modSet n (fun r => { r with due := none }) = t at cleared ⊢
      exact cleared.trans (.changeRun own t n _ _ _)
    · split
      · exact .refl s
      · split
        · exact .refl s
        next queued => exact (Queues.enqueue queued here nofun nofun).trans (.of_engine rfl rfl)
  · exact .refl s

theorem Queues.setMark (s : State) (n : SetNo) (mark : Bool) : Queues P s (s.setMark n mark) := by
  unfold State.setMark
  split
  · exact .refl s
  · exact .trans (t := s.modSet n fun r => { r with unreachable := mark, overloadRun := if mark then 0 else r.overloadRun })
      (.of_engine rfl rfl) (.tellSequencers own _ n)

theorem Queues.clearMark (here : P (.sets n)) (s : State) : Queues P s (s.clearMark n) := by
  unfold State.clearMark
  split
  · exact (Queues.setMark own s n false).trans (.tryEnqueueSet own here _)
  · exact .refl s

end

/-! ### Meters -/

theorem Queues.endSession (s : State) (m : MeterNo) (d : SessionEnd) : Queues P s (s.endSession m d) := by
  cases session : (s.meter m).session with
  | none =>
    have idle : s.endSession m d = s := by rw [State.endSession, session]
    rw [idle]
    exact .refl s
  | some x =>
    have withdrawn := Queues.withdraw (P := P) s (.fuel m)
    by_cases plain : x.phase = .granting ∨ d.result = .complete
    · rw [endSession_plain session plain]
      exact withdrawn.trans (.of_engine rfl rfl)
    · obtain ⟨delivering, cut⟩ := not_or.mp plain
      rw [endSession_live session delivering cut]
      exact withdrawn.trans (.of_engine rfl rfl)

theorem Queues.tryEnqueueMeter (here : P (.fuel m)) (s : State) : Queues P s (s.tryEnqueueMeter m) := by
  unfold State.tryEnqueueMeter State.enqueueFuel
  dsimp only
  split
  · split
    · exact .refl s
    next queued =>
      obtain ⟨v, joined, rfl⟩ := Option.map_eq_some_iff.mp queued
      exact (Queues.enqueue joined here nofun nofun).trans (.of_engine rfl rfl)
  · exact .refl s

theorem Queues.resume {o : Origin} (own : ∀ p, P (.changeover p)) (here : P o) (s : State) : Queues P s (s.resume o) := by
  cases o with
  | office tag => exact .refl s
  | sets n => exact .tryEnqueueSet own here s
  | changeover p => exact .tryEnqueuePoint own s p
  | fuel m => exact .tryEnqueueMeter here s

/-! ### Room (R32) -/

/-- The originators that hold one command each. -/
def internals : List Origin := allSets.map .sets ++ allPoints.map .changeover ++ allMeters.map .fuel

theorem mem_internals {o : Origin} (internal : ∀ tag, o ≠ .office tag) : o ∈ internals := by
  unfold internals
  rw [List.mem_append, List.mem_append]
  cases o with
  | office tag => exact absurd rfl (internal tag)
  | sets n => exact .inl (.inl (List.mem_map_of_mem (List.mem_finRange n)))
  | changeover p => exact .inl (.inr (List.mem_map_of_mem (List.mem_finRange p)))
  | fuel m => exact .inr (List.mem_map_of_mem (List.mem_finRange m))

/-- A queue of internal originators alone has room for each of them that has no command in it. -/
theorem enqueue_distinct {c : Command} (distinct : Distinct s) (internal : ∀ tag, c.origin ≠ .office tag)
    (fresh : ∀ x ∈ s.engine.queue, x.origin ≠ c.origin) :
    s.enqueue c = some { s with engine := { s.engine with queue := s.engine.queue ++ [c] } } := by
  obtain ⟨outstanding, nodup, others⟩ := distinct
  have few : (s.engine.queue.map Command.origin).length ≤ internals.length :=
    (nodup.subperm fun o mem => by
      obtain ⟨x, hx, rfl⟩ := List.mem_map.mp mem
      exact mem_internals (others x hx)).length_le
  have most : internals.length = 22 := rfl
  rw [List.length_map, most] at few
  refine State.enqueue_eq_some.mpr ⟨by omega, fun office => ?_, fun _ => ?_, rfl⟩
  · unfold Command.isOffice at office
    split at office
    next tag origin => exact absurd origin (internal tag)
    all_goals exact absurd office Bool.false_ne_true
  · unfold Engine.holdsFor
    rw [outstanding]
    refine (Bool.or_eq_false_iff ..).mpr ⟨List.any_eq_false.mpr fun x hx same => ?_, rfl⟩
    exact fresh x hx (of_decide_eq_true same)

end

end Sys2Proof.Queueing
end

section
/-! SUPPORT. FIELD RESTART step by step (R40), and what every one of its steps keeps. -/

namespace Sys2Proof.Restarts

open Sys2Proof Sys2Proof.Machine Sys2Proof.Stated Sys2Proof.ClearFlags Sys2Proof.Walks

/-- The engine's lines of a state are changed, its commands, its cycle number and its run are not. -/
def LineOnly (s t : State) : Prop :=
  ∃ engine, t = { s with engine } ∧ engine.queue = s.engine.queue ∧ engine.outstanding = s.engine.outstanding ∧
    engine.cycleNo = s.engine.cycleNo ∧ engine.running = s.engine.running

/-- The cycle abandoned and every command out of the engine (R40, steps 1 and 2). -/
def idled (s : State) : State :=
  { s with engine := { s.engine with slots := [], slotsEnded := 0, header := none, fde := false, outstanding := none, queue := [] } }

/-- The outcomes returned (step 3). -/
def given (s : State) : State := forEach (endedByRestart s) (fun c s => s.giveOutcome c .restart) (idled s)

/-- The links of the state after step 4. -/
def absentLinks (s : State) : Vector LinkRec 63 :=
  Vector.ofFn fun a => if s.enabledUnit a then { s.link a with state := some .absent, misses := 0 } else s.link a

/-- No acknowledgement waits, and every enabled unit is ABSENT (step 4). -/
def unlinked (s : State) : State :=
  { s with engine := { s.engine with acks := Vector.replicate 2 none, lastAcked := none, links := absentLinks s } }

/-- The marks cleared (step 5). -/
def unmarked (s : State) : State := (unlinked (given s)).clearMarks (endedByRestart s)

/-- The poll pointer at 0 (step 6). -/
def repolled (s : State) : State := { unmarked s with engine := { (unmarked s).engine with pollPointer := 0 } }

/-- The positions and the sequences gone (step 7). -/
def forgotten (s : State) : State := (repolled s).restartPoints

section
variable {s t v : State} {a : Addr} {R : State → State → Prop}

theorem linksAbsent_eq (s : State) : s.linksAbsent = { s with engine := { s.engine with links := absentLinks s } } := by
  refine (forEach_put_all (fun links => { s with engine := { s.engine with links } })
    (fun a l => if s.enabledUnit a then { l with state := some .absent, misses := 0 } else l) (fun a v => ?_) s.engine.links).trans rfl
  have enabled : ({ s with engine := { s.engine with links := v } } : State).enabledUnit a = s.enabledUnit a := rfl
  simp only [enabled]
  split
  · rfl
  · simp

theorem fieldRestart_eq (s : State) : s.fieldRestart = forEach (endedByRestart s) (fun c s => s.resume c.origin) (forgotten s) := by
  have absent : ({ given s with engine := { (given s).engine with acks := Vector.replicate 2 none, lastAcked := none } } :
      State).linksAbsent = unlinked (given s) := linksAbsent_eq _
  rw [forgotten, repolled, unmarked, ← absent]
  rfl

theorem unlinked_link (s : State) (a : Addr) : (unlinked s).link a =
    if s.enabledUnit a then { s.link a with state := some .absent, misses := 0 } else s.link a := Vector.getElem_ofFn _

theorem lineOnly_unlinked (s : State) : LineOnly s (unlinked s) := ⟨_, rfl, rfl, rfl, rfl, rfl⟩

theorem lineOnly_repolled (s : State) : LineOnly (unmarked s) (repolled s) := ⟨_, rfl, rfl, rfl, rfl, rfl⟩

/-! ### What every step keeps -/

section
variable (refl : ∀ s, R s s) (trans : ∀ {a b c}, R a b → R b c → R a c)
include refl trans

theorem given_rel (give : ∀ c ∈ endedByRestart s, ∀ v, R v (v.giveOutcome c .restart)) : R (idled s) (given s) :=
  forEach_rel refl trans give _

theorem unmarked_rel (mark : ∀ n v, R v (v.setMark n false)) (clear : ∀ n v, R v (v.clearMark n)) :
    R (unlinked (given s)) (unmarked s) := by
  refine forEach_rel refl trans (fun n _ v => ?_) _
  split
  · exact mark n v
  · exact clear n v

theorem forgotten_rel (forget : ∀ p v, R v (v.forgetPosition p .restart)) : R (repolled s) (forgotten s) := by
  refine forEach_rel refl trans (fun p _ v => ?_) _
  split
  · exact forget p v
  · exact refl v

theorem resumed_rel (resume : ∀ c ∈ endedByRestart s, ∀ v, R v (v.resume c.origin)) : R (forgotten s) s.fieldRestart := by
  rw [fieldRestart_eq]
  exact forEach_rel refl trans resume _

/-- From the marks on. -/
theorem late_rel (line : ∀ v w, LineOnly v w → R v w) (mark : ∀ n v, R v (v.setMark n false)) (clear : ∀ n v, R v (v.clearMark n))
    (forget : ∀ p v, R v (v.forgetPosition p .restart)) (resume : ∀ c ∈ endedByRestart s, ∀ v, R v (v.resume c.origin)) :
    R (given s) s.fieldRestart :=
  trans (line _ _ (lineOnly_unlinked _)) (trans (unmarked_rel refl trans mark clear) (trans (line _ _ (lineOnly_repolled s))
    (trans (forgotten_rel refl trans forget) (resumed_rel refl trans resume))))

end

end

end Sys2Proof.Restarts
end

section
/-! SUPPORT. The RESTART of a command at each origin (R40, R81, R86, R110, R119, R134, R137, R138). -/

namespace Sys2Proof.RestartOutcomes

open Sys2Proof Sys2Proof.Machine Sys2Proof.Stated Sys2Proof.Sequencing Sys2Proof.Outcomes Sys2Proof.Queueing Sys2Proof.Ending

section
variable {s t u v : State} {n k : SetNo} {p : PointNo} {m : MeterNo} {c : Command} {code : Code} {P : Origin → Prop}

/-! ### Sets -/

/-- What is due of a set after the RESTART of a command with a code (R78, R81, R86). -/
def takenDue (r : SetRec) (code : Code) : Option Code :=
  if r.due.isSome || r.run.calledFor ≠ some code then r.due else some code

theorem modSet_modSet (s : State) (n : SetNo) (f g : SetRec → SetRec) : (s.modSet n f).modSet n g = s.modSet n fun r => g (f r) := by
  simp [State.modSet, State.putSet, State.setRec]

theorem calledFor_start {r : RunState} : r.calledFor = some .start → code = .stop → r.calledFor ≠ some code := by
  intro called stop
  rw [called, stop]
  nofun

theorem calledFor_cases {r : RunState} (called : r.calledFor = some code) : code = .start ∨ code = .stop := by
  cases r with
  | starting => exact .inl (Option.some.inj called).symm
  | stopping => exact .inr (Option.some.inj called).symm
  | offline | unseen | stopped | warming | online | cooling | fault => cases called

theorem setOutcome_restart (s : State) (n : SetNo) (code : Code) : s.setOutcome n code .restart =
    s.modSet n fun r => { r with place := .free, due := takenDue r code } := by
  have read := setFreed_read s n
  have entered : s.setOutcome n code .restart =
      if ((setFreed s n).setRec n).due.isSome || ((setFreed s n).setRec n).run.calledFor ≠ some code then setFreed s n
      else if code = .start then (setFreed s n).startOutcome n .restart else (setFreed s n).stopOutcome n .restart := rfl
  rw [entered, read]
  by_cases waits : ((s.setRec n).due.isSome || (s.setRec n).run.calledFor ≠ some code) = true
  · have same : takenDue (s.setRec n) code = (s.setRec n).due := if_pos waits
    rw [if_pos waits]
    show s.putSet n { s.setRec n with place := .free } =
      s.putSet n { s.setRec n with place := .free, due := takenDue (s.setRec n) code }
    rw [same]
  · have taken : takenDue (s.setRec n) code = some code := if_neg waits
    have both (y : Option Code) : (setFreed s n).modSet n (fun r => { r with due := y }) =
        s.putSet n { s.setRec n with place := .free, due := y } := modSet_modSet s n _ _
    rw [if_neg waits]
    obtain ⟨-, calls⟩ := (Bool.or_eq_false_iff ..).mp (Bool.eq_false_iff.mpr waits)
    rcases calledFor_cases (not_not.mp (of_decide_eq_false calls)) with start | stop
    · subst start
      exact (both (some .start)).trans (by rw [State.modSet, taken])
    · subst stop
      exact (both (some .stop)).trans (by rw [State.modSet, taken])

/-! ### Points -/

theorem pointOutcome_restart (s : State) (p : PointNo) (code : Code) :
    (∃ q, (s.pointRec p).seq = some q ∧ awaitedCode q = some code ∧ (s.pointRec p).due = none ∧
      s.pointOutcome p code .restart = (freed s p).endSequence p .restart none) ∨
    ((∀ q, (s.pointRec p).seq = some q → (s.pointRec p).due = none → awaitedCode q ≠ some code) ∧
      s.pointOutcome p code .restart = freed s p) := by
  have entered : s.pointOutcome p code .restart =
      match ((freed s p).pointRec p).seq with
      | some q => if q.awaits = some code && ((freed s p).pointRec p).due = none then (freed s p).applySeqOutcome p q .restart else freed s p
      | none => freed s p := rfl
  have seq : ((freed s p).pointRec p).seq = (s.pointRec p).seq := by rw [freed_read]
  have due : ((freed s p).pointRec p).due = (s.pointRec p).due := by rw [freed_read]
  have ended (q : Sequence) : (freed s p).applySeqOutcome p q .restart = (freed s p).endSequence p .restart none := rfl
  rw [seq, due] at entered
  generalize freed s p = v at entered ended
  rw [entered]
  cases live : (s.pointRec p).seq with
  | none => exact .inr ⟨fun _ absent => (by cases absent), rfl⟩
  | some q =>
    by_cases waits : awaitedCode q = some code ∧ (s.pointRec p).due = none
    · refine .inl ⟨q, rfl, waits.1, waits.2, (if_pos ?_).trans (ended q)⟩
      rw [awaits_eq, waits.1, waits.2]
      simp
    · refine .inr ⟨fun y same due awaited => waits ⟨Option.some.inj same ▸ awaited, due⟩, if_neg fun both => waits ?_⟩
      obtain ⟨awaited, due⟩ := (Bool.and_eq_true ..).mp both
      exact ⟨awaits_eq q ▸ of_decide_eq_true awaited, of_decide_eq_true due⟩

/-! ### Meters -/

/-- The RESTART of a command with a code ends a session (R110, R119). -/
def RestartEnds (x : Session) (due : Bool) (code : Code) : Prop :=
  (x.phase = .granting ∧ code = .permit) ∨ (x.phase = .dispensing ∧ code = .revoke ∧ x.cancel = true ∧ due = false)

theorem meterOutcome_restart (s : State) (m : MeterNo) (code : Code) :
    (∃ x, (s.meter m).session = some x ∧ RestartEnds x (s.meter m).due code ∧
      s.meterOutcome m code .restart = (meterFreed s m).endSession m { result := .restart }) ∨
    ((∀ x, (s.meter m).session = some x → ¬ RestartEnds x (s.meter m).due code) ∧ s.meterOutcome m code .restart = meterFreed s m) := by
  have read := meterFreed_read s m
  cases session : (s.meter m).session with
  | none =>
    refine .inr ⟨nofun, ?_⟩
    have idle : ((meterFreed s m).meter m).session = none := by rw [read]; exact session
    have entered : s.meterOutcome m code .restart = match ((meterFreed s m).meter m).session with
      | none => meterFreed s m
      | some x => match x.phase with
        | .granting => if code = .permit then (meterFreed s m).permitOutcome m x .restart else meterFreed s m
        | .dispensing => if code = .revoke && x.cancel && !((meterFreed s m).meter m).due then
            (meterFreed s m).revokeOutcome m .restart else meterFreed s m
        | .ticketing _ _ => meterFreed s m := rfl
    rw [entered, idle]
  | some x =>
    have eq := meterOutcome_eq (code := code) session .restart
    rw [eq]
    cases phase : x.phase with
    | granting =>
      by_cases permit : code = .permit
      · exact .inl ⟨x, rfl, .inl ⟨phase, permit⟩, if_pos permit⟩
      · refine .inr ⟨fun y same ends => ?_, if_neg permit⟩
        rw [← Option.some.inj same, RestartEnds, phase] at ends
        rcases ends with ⟨-, code⟩ | ⟨wrong, -⟩
        · exact permit code
        · cases wrong
    | dispensing =>
      by_cases revoke : code = .revoke ∧ x.cancel = true ∧ (s.meter m).due = false
      · refine .inl ⟨x, rfl, .inr ⟨phase, revoke⟩, if_pos ?_⟩
        obtain ⟨code, cancel, due⟩ := revoke
        rw [code, cancel, due]
        rfl
      · refine .inr ⟨fun y same ends => ?_, if_neg fun all => revoke ?_⟩
        · rw [← Option.some.inj same, RestartEnds, phase] at ends
          rcases ends with ⟨wrong, -⟩ | ⟨-, now⟩
          · cases wrong
          · exact revoke now
        · simpa [and_assoc] using all
    | ticketing wait buffer =>
      refine .inr ⟨fun y same ends => ?_, rfl⟩
      rw [← Option.some.inj same, RestartEnds, phase] at ends
      rcases ends with ⟨wrong, -⟩ | ⟨wrong, -⟩
      · cases wrong
      · cases wrong

/-! ### The command queue -/

theorem queues_giveOutcome (s : State) (c : Command) : Queues P s (s.giveOutcome c .restart) := by
  unfold State.giveOutcome
  split
  · exact .of_engine rfl rfl
  · rw [setOutcome_restart]
    exact .of_engine rfl rfl
  next p _ =>
    have free : Queues P s (freed s p) := .of_engine rfl rfl
    rcases pointOutcome_restart s p c.code with ⟨q, -, -, -, ended⟩ | ⟨-, same⟩
    · rw [ended]
      exact free.trans (.endSequence _ p _ _)
    · rw [same]
      exact free
  next m _ =>
    have free : Queues P s (meterFreed s m) := .of_engine rfl rfl
    rcases meterOutcome_restart s m c.code with ⟨x, -, -, ended⟩ | ⟨-, same⟩
    · rw [ended]
      exact free.trans (.endSession _ m _)
    · rw [same]
      exact free

theorem queues_forgetPosition (s : State) (p : PointNo) (o : SeqOutcome) : Queues P s (s.forgetPosition p o) := by
  have unlearnt : Queues P s (s.modPoint p fun r => { r with position := .unknown, selector := none }) := .of_engine rfl rfl
  exact unlearnt.trans (.endSequence _ p _ _)

end

end Sys2Proof.RestartOutcomes
end

section
/-! SUPPORT. What FIELD RESTART does at one set (R40, R78, R79, R81, R86, R89). -/

namespace Sys2Proof.RestartSets

open Sys2Proof Sys2Proof.Machine Sys2Proof.Stated Sys2Proof.StopAndClear Sys2Proof.Sequencing Sys2Proof.SetLoading
open Sys2Proof.Sessions Sys2Proof.Outcomes Sys2Proof.Queueing Sys2Proof.Restarts Sys2Proof.RestartOutcomes Sys2Proof.ReplySlots
open Sys2Proof.UnitLoading Sys2Proof.LinkLoss

/-- Nothing is done at set `n`: its run state, its command and its mark stay, it is not reserved, and no command of it is queued. -/
structure Aloof (n : SetNo) (s t : State) : Prop where
  waits : WaitKept n s t
  mark : (t.setRec n).unreachable = (s.setRec n).unreachable
  free : (s.setRec n).reservations = [] → (t.setRec n).reservations = []
  queues : Queues (· ≠ .sets n) s t

section
variable {s t u v : State} {n k : SetNo} {p : PointNo} {m : MeterNo} {c : Command} {code : Code} {o : Origin}

theorem Aloof.refl (n : SetNo) (s : State) : Aloof n s s := ⟨.refl n s, rfl, id, .refl s⟩

theorem Aloof.trans (h : Aloof n s t) (k : Aloof n t u) : Aloof n s u :=
  ⟨h.waits.trans k.waits, k.mark.trans h.mark, k.free ∘ h.free, h.queues.trans k.queues⟩

theorem Aloof.of_reserved (h : { t.setRec n with reservations := [] } = { s.setRec n with reservations := [] })
    (free : (s.setRec n).reservations = [] → (t.setRec n).reservations = []) (queues : Queues (· ≠ .sets n) s t) : Aloof n s t :=
  ⟨.of_reserved h, (congrArg SetRec.unreachable h :), free, queues⟩

theorem Aloof.of_sets (sets : t.sets = s.sets) (queues : Queues (· ≠ .sets n) s t) : Aloof n s t := by
  have read : t.setRec n = s.setRec n := by rw [State.setRec, sets]; rfl
  exact .of_reserved (by rw [read]) (by rw [read]; exact id) queues

theorem Aloof.modSet (other : n ≠ k) (s : State) (f : SetRec → SetRec) : Aloof n s (s.modSet k f) := by
  have read := State.modSet_other s k f other
  exact .of_reserved (by rw [read]) (by rw [read]; exact id) (.of_engine rfl rfl)

theorem apart : ∀ p, (Origin.changeover p : Origin) ≠ .sets n := by nofun

theorem Aloof.tellSequencers (n : SetNo) (s : State) (k : SetNo) : Aloof n s (s.tellSequencers k) :=
  .of_reserved ((SeqFrame.tellSequencers s k).sets n) ((NewsKeeps.tellSequencers s k).reservations n) (.tellSequencers apart s k)

theorem Aloof.endSequence (n : SetNo) (s : State) (p : PointNo) (o : SeqOutcome) (manual : Option ManualPart) :
    Aloof n s (s.endSequence p o manual) :=
  .of_reserved ((SeqFrame.endSequence s p o manual).sets n) ((NewsKeeps.endSequence s p o manual).reservations n)
    (.endSequence s p o manual)

theorem Aloof.tryEnqueuePoint (n : SetNo) (s : State) (p : PointNo) : Aloof n s (s.tryEnqueuePoint p) :=
  .of_reserved ((SeqFrame.tryEnqueuePoint s p).sets n) ((NewsKeeps.tryEnqueuePoint s p).reservations n) (.tryEnqueuePoint apart s p)

theorem Aloof.changeRun (other : n ≠ k) (s : State) (run : RunState) (why : StateReason) (attempts : Option Nat) :
    Aloof n s (s.changeRun k run why attempts) :=
  .of_reserved ((RunFrame.changeRun k s run why attempts).others n other) ((NewsKeeps.changeRun s k run why attempts).reservations n)
    (.changeRun apart s k run why attempts)

theorem sets_apart (other : n ≠ k) : Origin.sets k ≠ .sets n := fun same => by
  injection same with same
  exact other same.symm

/-- A set's try to enqueue reserves no set and moves no point. -/
theorem newsKeeps_tryEnqueueSet (s : State) (k : SetNo) : ∃ j, NewsKeeps j s (s.tryEnqueueSet k) := by
  unfold State.tryEnqueueSet
  dsimp only
  split
  · split
    · have cleared : NewsKeeps 0 s (s.modSet k fun r => { r with due := none }) := .modSet s k
      generalize s.modSet k (fun r => { r with due := none }) = t at cleared ⊢
      exact ⟨_, cleared.trans (.changeRun t k _ _ _)⟩
    · split
      · exact ⟨_, .refl s⟩
      · split
        · exact ⟨_, .refl s⟩
        next queued => exact ⟨_, (NewsKeeps.enqueue queued).trans (.modSet _ k)⟩
  · exact ⟨_, .refl s⟩

theorem newsKeeps_setMark (s : State) (k : SetNo) (mark : Bool) : ∃ j, NewsKeeps j s (s.setMark k mark) := by
  by_cases same : (s.setRec k).unreachable = mark
  · rw [setMark_same same]
    exact ⟨_, .refl s⟩
  · have written : NewsKeeps 0 s (marked s k mark) := .modSet s k
    rw [setMark_changed same]
    exact ⟨_, written.trans (.tellSequencers _ k)⟩

theorem Aloof.tryEnqueueSet (other : n ≠ k) (s : State) : Aloof n s (s.tryEnqueueSet k) := by
  obtain ⟨j, news⟩ := newsKeeps_tryEnqueueSet s k
  have queues := Queues.tryEnqueueSet (P := (· ≠ .sets n)) apart (sets_apart other) s
  exact .of_reserved ((RunFrame.tryEnqueueSet k s).others n other) (news.reservations n) queues

theorem Aloof.setMark (other : n ≠ k) (s : State) (mark : Bool) : Aloof n s (s.setMark k mark) := by
  by_cases same : (s.setRec k).unreachable = mark
  · rw [setMark_same same]
    exact .refl n s
  · rw [setMark_changed same]
    exact (Aloof.modSet other s _).trans (.tellSequencers n _ k)

theorem Aloof.clearMark (other : n ≠ k) (s : State) : Aloof n s (s.clearMark k) := by
  unfold State.clearMark
  split
  · exact (Aloof.setMark other s false).trans (.tryEnqueueSet other _)
  · exact .refl n s

theorem Aloof.forgetPosition (n : SetNo) (s : State) (p : PointNo) (o : SeqOutcome) : Aloof n s (s.forgetPosition p o) := by
  have unlearnt : Aloof n s (s.modPoint p fun r => { r with position := .unknown, selector := none }) := .of_sets rfl (.of_engine rfl rfl)
  exact unlearnt.trans (.endSequence n _ p _ _)

theorem Aloof.line (n : SetNo) (h : LineOnly s t) : Aloof n s t := by
  obtain ⟨engine, rfl, queue, outstanding, -⟩ := h
  refine .of_sets rfl ⟨rfl, fun c hc => .inl (queue ▸ hc), fun d => ?_⟩
  rw [Distinct, queue, outstanding]
  exact d

theorem endSession_hire (s : State) (m : MeterNo) (d : SessionEnd) (n : SetNo) :
    ∃ hire, (s.endSession m d).setRec n = { s.setRec n with hire } := by
  cases session : (s.meter m).session with
  | none =>
    have idle : s.endSession m d = s := by rw [State.endSession, session]
    rw [idle]
    exact ⟨_, rfl⟩
  | some x =>
    by_cases plain : x.phase = .granting ∨ d.result = .complete
    · rw [endSession_plain session plain]
      exact ⟨_, rfl⟩
    · obtain ⟨delivering, cut⟩ := not_or.mp plain
      rw [endSession_live session delivering cut]
      have read := State.modSet_read s x.set (fun r =>
        { r with hire := { r.hire with delivered := min (2 ^ 64 - 1) ((s.setRec x.set).hire.delivered + x.live) } })
      by_cases same : n = x.set
      · subst same
        exact ⟨_, read⟩
      · exact ⟨(s.setRec n).hire, (State.modSet_other s x.set (fun r =>
          { r with hire := { r.hire with delivered := min (2 ^ 64 - 1) ((s.setRec x.set).hire.delivered + x.live) } }) same :)⟩

theorem Aloof.endSession (n : SetNo) (s : State) (m : MeterNo) (d : SessionEnd) : Aloof n s (s.endSession m d) := by
  obtain ⟨hire, read⟩ := endSession_hire s m d n
  refine ⟨⟨by rw [read], by rw [read], by rw [read], by rw [read]⟩, by rw [read], by rw [read]; exact id, .endSession s m d⟩

theorem Aloof.giveOutcome (other : c.origin ≠ .sets n) (s : State) : Aloof n s (s.giveOutcome c .restart) := by
  unfold State.giveOutcome
  split
  · exact .of_sets rfl (.of_engine rfl rfl)
  next k origin =>
    rw [setOutcome_restart]
    refine .modSet (fun same => other ?_) s _
    rw [origin, same]
  next p _ =>
    have free : Aloof n s (freed s p) := .of_sets rfl (.of_engine rfl rfl)
    rcases pointOutcome_restart s p c.code with ⟨q, -, -, -, ended⟩ | ⟨-, same⟩
    · rw [ended]
      exact free.trans (.endSequence n _ p _ _)
    · rw [same]
      exact free
  next m _ =>
    have free : Aloof n s (meterFreed s m) := .of_sets rfl (.of_engine rfl rfl)
    rcases meterOutcome_restart s m c.code with ⟨x, -, -, ended⟩ | ⟨-, same⟩
    · rw [ended]
      exact free.trans (.endSession n _ m _)
    · rw [same]
      exact free

theorem Aloof.resume (other : o ≠ .sets n) (s : State) : Aloof n s (s.resume o) := by
  cases o with
  | office tag => exact .refl n s
  | sets k => exact .tryEnqueueSet (fun same => other (by rw [same])) s
  | changeover p => exact .tryEnqueuePoint n s p
  | fuel m =>
    have queues := Queues.tryEnqueueMeter (P := (· ≠ .sets n)) (m := m) nofun s
    refine .of_sets ?_ queues
    rcases tryEnqueueMeter_spec s m with same | ⟨a, -, queued⟩
    · rw [State.resume, same]
    · rw [State.resume, queued]

/-! ### The walk of the marks -/

/-- The visit of a set in the walk that clears the marks. -/
def markVisit (cs : List Command) (n : SetNo) (s : State) : State :=
  if restartedSet cs n then s.setMark n false else s.clearMark n

theorem clearMarks_eq (s : State) (cs : List Command) : s.clearMarks cs = forEach allSets (markVisit cs) s := rfl

theorem aloof_markVisit (other : k ≠ n) (cs : List Command) (s : State) : Aloof n s (markVisit cs k s) := by
  unfold markVisit
  split
  · exact .setMark (Ne.symm other) s false
  · exact .clearMark (Ne.symm other) s

theorem unmarked_at (s : State) (n : SetNo) : ∃ u, Aloof n (unlinked (given s)) u ∧
    Aloof n (markVisit (endedByRestart s) n u) (unmarked s) := by
  rw [unmarked, clearMarks_eq]
  exact forEach_at (.refl n) .trans (fun k other v => aloof_markVisit other _ v) (List.nodup_finRange 8) (List.mem_finRange n) _

theorem aloof_forgotten (s : State) (n : SetNo) : Aloof n (unmarked s) (forgotten s) :=
  (Aloof.line n (lineOnly_repolled s)).trans (forgotten_rel (.refl n) .trans fun p v => .forgetPosition n v p _)

theorem restartedSet_iff {cs : List Command} : restartedSet cs n = true ↔ ∃ c ∈ cs, c.origin = .sets n := by
  unfold restartedSet
  rw [List.any_eq_true]
  exact exists_congr fun c => and_congr_right fun _ => decide_eq_true_iff

end

end Sys2Proof.RestartSets
end

section
/-! SUPPORT. The notices that a FIELD RESTART can raise: one for each command it ends, for each sequence in flight, and for each set with a command
due (R40, R191). -/

namespace Sys2Proof.RestartNotices

open Sys2Proof Sys2Proof.Machine Sys2Proof.Stated Sys2Proof.StopAndClear Sys2Proof.Sequencing Sys2Proof.SetLoading
open Sys2Proof.LinkLoss Sys2Proof.MissedSlots Sys2Proof.Outcomes Sys2Proof.Restarts Sys2Proof.RestartOutcomes Sys2Proof.Queueing
open Sys2Proof.Starting Sys2Proof.RunCounters Sys2Proof.RestartSets Sys2Proof.Sessions

/-- The sets with a command due. -/
def owing (s : State) : Finset SetNo := Finset.univ.filter fun n => (s.setRec n).due.isSome = true

/-- The notices queued, and those that the sequences in flight and the commands due can still raise. -/
def load (s : State) : Nat := weight s + (owing s).card

/-- Beside those, at most `k` notices are raised: while there is room for so many, none is displaced. -/
def Pays (k : Nat) (s t : State) : Prop :=
  load s + k ≤ 32 → s.port.notices <+: t.port.notices ∧ load t ≤ load s + k

/-- One of them says so. -/
def News (k : Nat) (s t : State) (body : NoticeBody) : Prop :=
  load s + k ≤ 32 → (s.port.notices <+: t.port.notices ∧ load t ≤ load s + k) ∧ ∃ x ∈ t.port.notices, x.body = body

section
variable {i j k : Nat} {s t u v : State} {n : SetNo} {p : PointNo} {m : MeterNo} {c : Command} {o : Origin} {body : NoticeBody}

theorem Pays.refl (s : State) : Pays 0 s s := fun _ => ⟨List.prefix_rfl, Nat.le_refl _⟩

theorem Pays.mono (h : Pays j s t) (le : j ≤ k) : Pays k s t := fun room => by
  obtain ⟨kept, most⟩ := h (by omega)
  exact ⟨kept, by omega⟩

theorem Pays.trans (h : Pays j s t) (h' : Pays k t u) : Pays (j + k) s u := fun room => by
  obtain ⟨kept, most⟩ := h (by omega)
  obtain ⟨kept', most'⟩ := h' (by omega)
  exact ⟨kept.trans kept', by omega⟩

theorem News.pays (h : News k s t body) : Pays k s t := fun room => (h room).1

theorem News.mono (h : News j s t body) (le : j ≤ k) : News k s t body := fun room => by
  obtain ⟨⟨kept, most⟩, raised⟩ := h (by omega)
  exact ⟨⟨kept, by omega⟩, raised⟩

theorem News.after (h : News k t u body) (earlier : Pays j s t) : News (j + k) s u body := fun room => by
  obtain ⟨kept, most⟩ := earlier (by omega)
  obtain ⟨⟨kept', most'⟩, raised⟩ := h (by omega)
  exact ⟨⟨kept.trans kept', by omega⟩, raised⟩

theorem News.before (h : News j s t body) (later : Pays k t u) : News (j + k) s u body := fun room => by
  obtain ⟨⟨kept, most⟩, x, mem, same⟩ := h (by omega)
  obtain ⟨kept', most'⟩ := later (by omega)
  exact ⟨⟨kept.trans kept', by omega⟩, x, kept'.mem mem, same⟩

/-- A step that raises at most `i` notices, some of them for commands that are due no more. -/
theorem Pays.of_spends (h : Spends i s t) (dues : (owing t).card + i ≤ (owing s).card + k) : Pays k s t := fun room => by
  unfold load at *
  obtain ⟨kept, most⟩ := h (by omega)
  exact ⟨kept, by omega⟩

theorem News.of_raises (h : Raises i s t body) (spends : Spends (i + 1) s t) (dues : (owing t).card + (i + 1) ≤ (owing s).card + k) :
    News k s t body := fun room => by
  refine ⟨Pays.of_spends spends dues room, h.queued s t 0 0 (.refl s) (.refl t) ?_⟩
  unfold load at room
  omega

theorem mem_owing : n ∈ owing s ↔ (s.setRec n).due.isSome = true := by simp [owing]

theorem owing_le (h : ∀ n, (t.setRec n).due.isSome = true → (s.setRec n).due.isSome = true) : (owing t).card ≤ (owing s).card :=
  Finset.card_le_card fun n mem => mem_owing.mpr (h n (mem_owing.mp mem))

theorem owing_gain (n : SetNo) (h : ∀ k, k ≠ n → (t.setRec k).due.isSome = true → (s.setRec k).due.isSome = true) :
    (owing t).card ≤ (owing s).card + 1 := by
  refine (Finset.card_le_card fun k mem => ?_).trans (Finset.card_insert_le n (owing s))
  by_cases same : k = n
  · exact Finset.mem_insert.mpr (.inl same)
  · exact Finset.mem_insert.mpr (.inr (mem_owing.mpr (h k same (mem_owing.mp mem))))

theorem owing_drop (h : ∀ k, k ≠ n → (t.setRec k).due.isSome = true → (s.setRec k).due.isSome = true)
    (due : (s.setRec n).due.isSome = true) (gone : (t.setRec n).due = none) : (owing t).card + 1 ≤ (owing s).card := by
  have fewer : owing t ⊆ (owing s).erase n := fun k mem => by
    have still := mem_owing.mp mem
    have other : k ≠ n := fun same => by
      rw [same, gone] at still
      cases still
    exact Finset.mem_erase.mpr ⟨other, mem_owing.mpr (h k other still)⟩
  have count := Finset.card_erase_add_one (mem_owing.mpr due)
  have le := Finset.card_le_card fewer
  omega

theorem owing_most (s : State) : (owing s).card ≤ 8 := (Finset.card_le_univ _).trans (Fintype.card_fin 8).le

/-- A step that touches no set. -/
theorem Pays.of_sets (h : Spends k s t) (sets : ∀ n, (t.setRec n).due = (s.setRec n).due) : Pays k s t :=
  .of_spends h (Nat.add_le_add_right (owing_le fun n => by rw [sets n]; exact id) k)

theorem Pays.forEach {α : Type} {f : α → State → State} {xs : List α} (h : ∀ x ∈ xs, ∀ s, Pays 0 s (f x s)) (s : State) :
    Pays 0 s (forEach xs f s) := forEach_rel Pays.refl (fun h h' => h.trans h') h s

/-! ### The steps -/

theorem due_of_seqFrame (h : SeqFrame s t) (n : SetNo) : (t.setRec n).due = (s.setRec n).due := (congrArg SetRec.due (h.sets n) :)

theorem pays_tellSequencers (s : State) (n : SetNo) : Pays 0 s (s.tellSequencers n) :=
  .of_sets (.tellSequencers s n) (due_of_seqFrame (.tellSequencers s n))

theorem pays_endSequence (s : State) (p : PointNo) (o : SeqOutcome) (manual : Option ManualPart) : Pays 0 s (s.endSequence p o manual) :=
  .of_sets (PointStep.endSequence p s o manual).spends (due_of_seqFrame (.endSequence s p o manual))

theorem pays_tryEnqueuePoint (s : State) (p : PointNo) : Pays 0 s (s.tryEnqueuePoint p) :=
  .of_sets (PointStep.tryEnqueuePoint p s).spends (due_of_seqFrame (.tryEnqueuePoint s p))

theorem pays_forgetPosition (s : State) (p : PointNo) (o : SeqOutcome) : Pays 0 s (s.forgetPosition p o) :=
  .of_sets (PointStep.forgetPosition p s o).spends (due_of_seqFrame (.forgetPosition s p o))

theorem pays_setMark (s : State) (n : SetNo) (mark : Bool) : Pays 0 s (s.setMark n mark) := by
  refine .of_sets (spends_setMark n s mark) fun k => ?_
  by_cases same : k = n
  · subst same
    exact (setMark_kept s k mark).due
  · exact (Aloof.setMark same s mark).waits.due

theorem pays_tryEnqueueSet (s : State) (n : SetNo) : Pays 0 s (s.tryEnqueueSet n) := by
  have others (k : SetNo) (other : k ≠ n) (due : ((s.tryEnqueueSet n).setRec k).due.isSome = true) : (s.setRec k).due.isSome = true := by
    rwa [← (Aloof.tryEnqueueSet other s).waits.due]
  cases due : (s.setRec n).due with
  | none =>
    rw [tryEnqueueSet_idle due]
    exact .refl s
  | some code =>
    by_cases serves : code = .stop → s.inService n = false
    · rcases tryEnqueueSet_due due serves with same | ⟨e, -, -, queued⟩
      · rw [same]
        exact .refl s
      · have read := commandQueued_read s n e.unit code
        rw [queued] at others ⊢
        have quiet : Spends 0 s (commandQueued s n e.unit code) := .of_notices rfl fun _ => rfl
        have gone : ((commandQueued s n e.unit code).setRec n).due = none := by rw [read]
        have drop := owing_drop others (by rw [due]; rfl) gone
        exact .of_spends quiet (by omega)
    · obtain ⟨stop, served⟩ := Classical.not_imp.mp serves
      subst stop
      by_cases ready : (s.setRec n).place = .free ∧ (s.setRec n).unreachable = false
      · have back := tryEnqueueSet_inService due ready.1 ready.2 (Bool.eq_true_of_not_eq_false served)
        have cleared := spends_modSet n s fun r => { r with due := none }
        have none : ((s.modSet n fun r => { r with due := none }).setRec n).due = none := by rw [State.modSet_read]
        rw [back] at others ⊢
        generalize (s.modSet n fun r => { r with due := Option.none }) = t at others cleared none ⊢
        have gone := changeRun_due t n .online .inService Option.none none
        exact .of_spends (cleared.trans (spends_changeRun t n _ _ _)) (Nat.le_trans (owing_drop others (by rw [due]; rfl) gone)
          (Nat.le_refl _))
      · have waits : s.tryEnqueueSet n = s := by
          unfold State.tryEnqueueSet
          dsimp only
          split
          next place mark => exact absurd ⟨place, mark⟩ ready
          · rfl
        rw [waits]
        exact .refl s

theorem pays_clearMark (s : State) (n : SetNo) : Pays 0 s (s.clearMark n) := by
  unfold State.clearMark
  split
  · exact (pays_setMark s n false).trans (pays_tryEnqueueSet _ n)
  · exact .refl s

theorem pays_line (h : LineOnly s t) : Pays 0 s t := by
  obtain ⟨engine, rfl, -⟩ := h
  exact .of_sets (.of_notices rfl fun _ => rfl) fun _ => rfl

theorem pays_resume (s : State) (o : Origin) : Pays 0 s (s.resume o) := by
  cases o with
  | office tag => exact .refl s
  | sets n => exact pays_tryEnqueueSet s n
  | changeover p => exact pays_tryEnqueuePoint s p
  | fuel m =>
    rcases tryEnqueueMeter_spec s m with same | ⟨a, -, queued⟩
    · rw [State.resume, same]
      exact .refl s
    · rw [State.resume, queued]
      exact .of_sets (.of_notices rfl fun _ => rfl) fun _ => rfl

theorem pays_endSession (s : State) (m : MeterNo) (d : SessionEnd) : Pays 1 s (s.endSession m d) :=
  .of_sets (spends_endSession s m d) fun n => by
    obtain ⟨hire, read⟩ := endSession_hire s m d n
    rw [read]

theorem pays_giveOutcome (s : State) (c : Command) : Pays 1 s (s.giveOutcome c .restart) := by
  unfold State.giveOutcome
  split
  · exact .of_sets (.raise s _) fun _ => rfl
  next n _ =>
    rw [setOutcome_restart]
    refine .of_spends (spends_modSet n s _) (owing_gain n fun k other => ?_)
    rw [State.modSet_other s n _ other]
    exact id
  next p _ =>
    have free : Pays 0 s (freed s p) := .of_sets (PointStep.modPoint p s (f := fun r => { r with place := .free }) rfl).spends fun _ => rfl
    rcases pointOutcome_restart s p c.code with ⟨q, -, -, -, ended⟩ | ⟨-, same⟩
    · rw [ended]
      exact (free.trans (pays_endSequence _ p _ _)).mono (Nat.zero_le 1)
    · rw [same]
      exact free.mono (Nat.zero_le 1)
  next m _ =>
    have free : Pays 0 s (meterFreed s m) := .of_sets (spends_modMeter m s _) fun _ => rfl
    rcases meterOutcome_restart s m c.code with ⟨x, -, -, ended⟩ | ⟨-, same⟩
    · rw [ended]
      exact (free.trans (pays_endSession _ m _)).mono (Nat.le_refl 1)
    · rw [same]
      exact free.mono (Nat.zero_le 1)

theorem pays_given (cs : List Command) (s : State) : Pays cs.length s (forEach cs (fun c s => s.giveOutcome c .restart) s) := by
  induction cs generalizing s with
  | nil => exact .refl s
  | cons c cs ih =>
    rw [forEach_cons]
    exact ((pays_giveOutcome s c).trans (ih _)).mono (by rw [List.length_cons]; omega)

theorem pays_late (s : State) : Pays 0 (given s) s.fieldRestart :=
  late_rel .refl (fun h k => h.trans k) (fun _ _ => pays_line) (fun n v => pays_setMark v n false) (fun n v => pays_clearMark v n)
    (fun p v => pays_forgetPosition v p _) fun c _ v => pays_resume v c.origin

/-! ### The notices themselves -/

theorem news_office {tag : Byte} (origin : c.origin = .office tag) (s : State) :
    News 1 s (s.giveOutcome c .restart) (.commandResult tag c.target c.code .restart s.engine.cycleNo) := by
  have raised : s.giveOutcome c .restart = s.raise (.commandResult tag c.target c.code .restart s.engine.cycleNo) := by
    unfold State.giveOutcome
    rw [origin]
  rw [raised]
  exact .of_raises (raises_raise s _) (.raise s _) (Nat.le_refl _)

theorem news_endSession {x : Session} (session : (s.meter m).session = some x) (d : SessionEnd) :
    News 1 s (s.endSession m d) (endedBody m x d) := by
  have dues := owing_le (s := s) (t := s.endSession m d) fun n => by
    obtain ⟨hire, read⟩ := endSession_hire s m d n
    rw [read]
    exact id
  exact .of_raises (endSession_gone session d).told (spends_endSession s m d) (by omega)

theorem flying_pos (live : (s.pointRec p).seq.isSome = true) : 0 < flying s :=
  List.length_pos_of_mem (List.mem_filter.mpr ⟨List.mem_finRange p, live⟩)

/-- The notice of a sequence that ends RESTART carries the position UNKNOWN (log entry 43). -/
theorem news_endSequence {q : Sequence} (live : (s.pointRec p).seq = some q) :
    News 0 s (s.endSequence p .restart none) (endNotice s p q .restart none .unknown) := fun room => by
  refine ⟨pays_endSequence s p _ _ room, ?_⟩
  have flies := flying_pos (s := s) (p := p) (by rw [live]; rfl)
  have notices : (s.endSequence p .restart none).port.notices =
      (s.port.raise false (endNotice s p q .restart none .unknown)).notices := by
    rw [endSequence_eq live, if_pos rfl]
    rfl
  rw [notices, Port.raise_room (by unfold load weight at room; omega)]
  exact ⟨_, List.mem_append_right _ (List.mem_singleton_self _), rfl⟩

/-- A set that comes back ONLINE says so (R76, R79). -/
theorem news_online (due : (s.setRec n).due = some .stop) (place : (s.setRec n).place = .free)
    (reach : (s.setRec n).unreachable = false) (serves : s.inService n = true) :
    News 0 s (s.tryEnqueueSet n) (.setState n (s.setRec n).run.name .online .inService none s.engine.cycleNo) := by
  have others (k : SetNo) (other : k ≠ n) (due : ((s.tryEnqueueSet n).setRec k).due.isSome = true) : (s.setRec k).due.isSome = true := by
    rwa [← (Aloof.tryEnqueueSet other s).waits.due]
  rw [tryEnqueueSet_inService due place reach serves] at others ⊢
  have cleared := spends_modSet n s fun r => { r with due := none }
  have read : (s.modSet n fun r => { r with due := none }).setRec n = { s.setRec n with due := none } := State.modSet_read s n _
  have cycle : (s.modSet n fun r => { r with due := none }).engine.cycleNo = s.engine.cycleNo := rfl
  generalize (s.modSet n fun r => { r with due := none }) = t at others cleared read cycle ⊢
  have gone := changeRun_due t n .online .inService none (by rw [read])
  have raises := (raises_changeRun t n .online .inService none).after cleared
  rw [read, cycle] at raises
  exact .of_raises raises (cleared.trans (spends_changeRun t n _ _ _)) (owing_drop others (by rw [due]; rfl) gone)

/-- A notice of the restart, in the words of the statement. -/
theorem told_of_news (news : News (endedByRestart s).length (idled s) t body) : ToldAtRestart s t body := fun short => by
  have flies := flying_le (idled s)
  have owes := owing_most (idled s)
  have commands : (endedByRestart s).length ≤ s.engine.queue.length + 1 := by
    unfold endedByRestart
    cases s.engine.outstanding <;> simp
  have notices : (idled s).port.notices = s.port.notices := rfl
  refine (news ?_).2
  unfold load weight
  rw [notices]
  omega

end

end Sys2Proof.RestartNotices
end

section
/-! SUPPORT. What FIELD RESTART does at one point (R40, R130, R131, R142). -/

namespace Sys2Proof.RestartPoints

open Sys2Proof Sys2Proof.Machine Sys2Proof.Stated Sys2Proof.StopAndClear Sys2Proof.Sequencing Sys2Proof.SetLoading
open Sys2Proof.Outcomes Sys2Proof.Restarts Sys2Proof.RestartOutcomes Sys2Proof.RestartSets Sys2Proof.RestartNotices
open Sys2Proof.Sessions Sys2Proof.Ending Sys2Proof.OwnerSteps Sys2Proof.LinkLoss Sys2Proof.UnitLoading Sys2Proof.Starting

/-- A point with no sequence in flight is left alone, and no set comes to be reserved for it; and no command of it comes to be queued beside a
sequence in flight. -/
structure Rest (p : PointNo) (s t : State) : Prop where
  idle : (s.pointRec p).seq = none → t.pointRec p = s.pointRec p ∧
    ∀ n, ∀ x ∈ (t.setRec n).reservations, x.point = p → x ∈ (s.setRec n).reservations
  owned : Owned p s → Owned p t

section
variable {s t u v w : State} {n : SetNo} {p k : PointNo} {m : MeterNo} {c : Command} {o : Origin} {q : Sequence}

theorem Rest.refl (p : PointNo) (s : State) : Rest p s s := ⟨fun _ => ⟨rfl, fun _ _ h _ => h⟩, id⟩

theorem Rest.trans (h : Rest p s t) (k : Rest p t u) : Rest p s u := by
  refine ⟨fun idle => ?_, k.owned ∘ h.owned⟩
  obtain ⟨same, reserved⟩ := h.idle idle
  obtain ⟨same', reserved'⟩ := k.idle (same ▸ idle)
  exact ⟨same'.trans same, fun n x mem own => reserved n x (reserved' n x mem own) own⟩

theorem Rest.forEach {α : Type} {f : α → State → State} {xs : List α} (h : ∀ x ∈ xs, ∀ s, Rest p s (f x s)) (s : State) :
    Rest p s (forEach xs f s) := forEach_rel (.refl p) .trans h s

theorem Rest.of_same (points : t.points = s.points) (reservations : ∀ n, (t.setRec n).reservations = (s.setRec n).reservations)
    (queue : ∀ c ∈ t.engine.queue, c ∈ s.engine.queue ∨ c.origin ≠ .changeover p := by exact fun _ h => .inl h) : Rest p s t := by
  have same : t.pointRec p = s.pointRec p := by rw [State.pointRec, points]; rfl
  refine ⟨fun _ => ⟨same, fun n x mem _ => reservations n ▸ mem⟩, fun own c hc origin => ?_⟩
  rw [same]
  exact own c ((queue c hc).resolve_right (not_not_intro origin)) origin

theorem Rest.modSet (n : SetNo) (s : State) {f : SetRec → SetRec} (h : ∀ r, (f r).reservations = r.reservations := by intro _; rfl) :
    Rest p s (s.modSet n f) :=
  .of_same rfl fun k => by
    by_cases same : k = n
    · subst same
      rw [State.modSet_read, h]
    · rw [State.modSet_other s n f same]

/-- A step of another sequencer. -/
theorem Rest.of_step (other : p ≠ k) (h : PointStep k s t) : Rest p s t := by
  have same := h.others p other
  refine ⟨fun _ => ⟨same, fun n x mem own => ?_⟩, fun owned c hc origin => ?_⟩
  · have kept : x ∈ (t.setRec n).reservations.filter fun x => x.point ≠ k :=
      List.mem_filter.mpr ⟨mem, decide_eq_true (own ▸ other)⟩
    rw [h.reservations n] at kept
    exact (List.mem_filter.mp kept).1
  · have apart : c.origin ≠ .changeover k := fun same => by
      injection origin.symm.trans same with both
      exact other both
    have kept : c ∈ t.engine.queue.filter fun c => c.origin ≠ .changeover k := List.mem_filter.mpr ⟨hc, decide_eq_true apart⟩
    rw [h.queue] at kept
    rw [same]
    exact owned c (List.mem_filter.mp kept).1 origin

/-- A step of any sequencer that does nothing without a sequence in flight. -/
theorem Rest.of_own (h : PointStep k s t) (idle : (s.pointRec k).seq = none → t = s) : Rest p s t := by
  by_cases other : p = k
  · subst other
    exact ⟨fun none => by rw [idle none]; exact ⟨rfl, fun _ _ mem _ => mem⟩, h.owned⟩
  · exact .of_step other h

theorem Rest.seqNews (s : State) (n : SetNo) (k : PointNo) : Rest p s (s.seqNews n k) := by
  refine .of_own (.seqNews s n k) fun idle => ?_
  unfold State.seqNews
  rw [idle]

theorem Rest.tellSequencers (s : State) (n : SetNo) : Rest p s (s.tellSequencers n) :=
  .forEach (fun k _ s => .seqNews s n k) s

theorem Rest.endSequence (s : State) (k : PointNo) (o : SeqOutcome) (manual : Option ManualPart) :
    Rest p s (s.endSequence k o manual) := .of_own (.endSequence k s o manual) fun idle => endSequence_idle idle o manual

theorem Rest.tryEnqueuePoint (s : State) (k : PointNo) : Rest p s (s.tryEnqueuePoint k) :=
  .of_own (.tryEnqueuePoint k s) tryEnqueuePoint_idle

theorem Rest.changeRun (s : State) (n : SetNo) (run : RunState) (why : StateReason) (attempts : Option Nat) :
    Rest p s (s.changeRun n run why attempts) := by
  have set : Rest p s (runSet s n run) := by
    have written : Rest p s (s.modSet n fun r => { r with run, overloadRun := 0 }) := .modSet n s
    unfold runSet
    generalize s.modSet n (fun r => { r with run, overloadRun := 0 }) = t at written ⊢
    refine written.trans ?_
    unfold State.dropUncalled
    dsimp only
    split
    · split
      · exact .modSet n t
      · have withdrawn : Rest p t (t.withdraw (.sets n)) := .of_same rfl (fun _ => rfl) fun _ h => .inl (mem_withdrawn h).1
        exact withdrawn.trans (.modSet n _)
    all_goals exact .modSet n t
  rw [changeRun_eq]
  generalize runSet s n run = t at set ⊢
  have told (body : NoticeBody) : Rest p t (t.raise body) := .of_same rfl fun _ => rfl
  exact (set.trans (told _)).trans (.tellSequencers _ n)

/-- A command of another origin joins the queue. -/
theorem Rest.joined (other : c.origin ≠ .changeover p) (points : t.points = s.points)
    (reservations : ∀ n, (t.setRec n).reservations = (s.setRec n).reservations) (queue : t.engine.queue = s.engine.queue ++ [c]) :
    Rest p s t := by
  refine .of_same points reservations fun x hx => ?_
  rw [queue] at hx
  rcases List.mem_append.mp hx with old | new
  · exact .inl old
  · exact .inr (List.mem_singleton.mp new ▸ other)

theorem Rest.enqueue (h : s.enqueue c = some t) (other : c.origin ≠ .changeover p) : Rest p s t := by
  obtain ⟨-, -, -, rfl⟩ := State.enqueue_eq_some.mp h
  exact .joined other rfl (fun _ => rfl) rfl

theorem Rest.tryEnqueueSet (s : State) (n : SetNo) : Rest p s (s.tryEnqueueSet n) := by
  unfold State.tryEnqueueSet
  dsimp only
  split
  · split
    · have cleared : Rest p s (s.modSet n fun r => { r with due := none }) := .modSet n s
      generalize s.modSet n (fun r => { r with due := none }) = t at cleared ⊢
      exact cleared.trans (.changeRun t n _ _ _)
    · split
      · exact .refl p s
      · split
        · exact .refl p s
        next queued => exact (Rest.enqueue queued nofun).trans (.modSet n _)
  · exact .refl p s

theorem Rest.setMark (s : State) (n : SetNo) (mark : Bool) : Rest p s (s.setMark n mark) := by
  by_cases same : (s.setRec n).unreachable = mark
  · rw [setMark_same same]
    exact .refl p s
  · rw [setMark_changed same]
    exact (Rest.modSet n s).trans (.tellSequencers _ n)

theorem Rest.clearMark (s : State) (n : SetNo) : Rest p s (s.clearMark n) := by
  unfold State.clearMark
  split
  · exact (Rest.setMark s n false).trans (.tryEnqueueSet _ n)
  · exact .refl p s

theorem Rest.line (h : LineOnly s t) : Rest p s t := by
  obtain ⟨engine, rfl, queue, -⟩ := h
  exact .of_same rfl (fun _ => rfl) fun c hc => .inl (queue ▸ hc)

theorem Rest.tryEnqueueMeter (s : State) (m : MeterNo) : Rest p s (s.tryEnqueueMeter m) := by
  rcases tryEnqueueMeter_spec s m with same | ⟨a, -, queued⟩
  · rw [same]
    exact .refl p s
  · rw [queued]
    exact .joined (c := ⟨a, .revoke, [], .fuel m⟩) nofun rfl (fun _ => rfl) rfl

theorem Rest.resume (s : State) (o : Origin) : Rest p s (s.resume o) := by
  cases o with
  | office tag => exact .refl p s
  | sets n => exact .tryEnqueueSet s n
  | changeover k => exact .tryEnqueuePoint s k
  | fuel m => exact .tryEnqueueMeter s m

theorem endSession_points (s : State) (m : MeterNo) (d : SessionEnd) : (s.endSession m d).points = s.points := by
  cases session : (s.meter m).session with
  | none =>
    unfold State.endSession
    rw [session]
  | some x =>
    by_cases plain : x.phase = .granting ∨ d.result = .complete
    · rw [endSession_plain session plain]
      rfl
    · obtain ⟨delivering, cut⟩ := not_or.mp plain
      rw [endSession_live session delivering cut]
      rfl

theorem Rest.endSession (s : State) (m : MeterNo) (d : SessionEnd) : Rest p s (s.endSession m d) := by
  have queues := Queueing.Queues.endSession (P := fun _ => False) s m d
  refine .of_same (endSession_points s m d) (fun n => ?_) fun c hc => (queues.joins c hc).imp_right fun h => h.1.elim
  obtain ⟨hire, read⟩ := endSession_hire s m d n
  rw [read]

/-- The RESTART of a command of another origin. -/
theorem Rest.giveOutcome (other : c.origin ≠ .changeover p) (s : State) : Rest p s (s.giveOutcome c .restart) := by
  unfold State.giveOutcome
  split
  · exact .of_same rfl fun _ => rfl
  · rw [setOutcome_restart]
    exact .modSet _ s
  next k origin => exact .of_step (fun same => other (by rw [origin, same])) (PointStep.pointOutcome k s _ _)
  next m _ =>
    have free : Rest p s (meterFreed s m) := .of_same rfl fun _ => rfl
    rcases meterOutcome_restart s m c.code with ⟨x, -, -, ended⟩ | ⟨-, same⟩
    · rw [ended]
      exact free.trans (.endSession _ m _)
    · rw [same]
      exact free

/-! ### A sequence that has ended RESTART -/

/-- What the RESTART of a sequence leaves of its point, by the point's record before. -/
structure Done (r : PointRec) (p : PointNo) (q : Sequence) (cycle : CycleNo) (t : State) : Prop where
  idle : (t.pointRec p).seq = none
  last : (t.pointRec p).lastOutcome = some ⟨.restart, q.cause, cycle⟩
  blocked : (t.pointRec p).autoBlocked = true ↔ r.autoBlocked = true ∨ autoCause q.cause
  due : (t.pointRec p).due = none
  place : ∀ c, (t.pointRec p).place ≠ .queued c
  released : ∀ x ∈ (t.setRec q.targetSet).reservations, x.point ≠ p

variable {r : PointRec} {cycle : CycleNo}

theorem unqueue_ne (x : Place) (c : Code) : x.unqueue ≠ .queued c := by
  cases x <;> nofun

theorem endSequence_done (live : (s.pointRec p).seq = some q) (blocked : (s.pointRec p).autoBlocked = r.autoBlocked)
    (number : s.engine.cycleNo = cycle) : Done r p q cycle (s.endSequence p .restart none) := by
  have point := sequenceGone_point s p q .restart
  have set := sequenceGone_set s p q .restart q.targetSet
  have auto : blocksPoint .restart q.cause = true ↔ autoCause q.cause :=
    blocksPoint_iff.trans ⟨fun h => (h.resolve_left nofun).1, fun h => .inr ⟨h, nofun, nofun, nofun⟩⟩
  rw [if_pos rfl] at set
  rw [endedPoint, blocked, number] at point
  rw [endSequence_eq live]
  refine
    { idle := (congrArg PointRec.seq point :)
      last := (congrArg PointRec.lastOutcome point :)
      blocked := ?_
      due := (congrArg PointRec.due point :)
      place := fun c queued => unqueue_ne _ c ((congrArg PointRec.place point :).symm.trans queued)
      released := fun x mem => ?_ }
  · have blocks : ((sequenceGone s p q .restart).pointRec p).autoBlocked = (r.autoBlocked || blocksPoint .restart q.cause) :=
      (congrArg PointRec.autoBlocked point :)
    change ((sequenceGone s p q .restart).pointRec p).autoBlocked = true ↔ _
    rw [blocks, Bool.or_eq_true, auto]
  · change x ∈ ((sequenceGone s p q .restart).setRec q.targetSet).reservations at mem
    rw [set] at mem
    exact of_decide_eq_true (List.mem_filter.mp mem).2

theorem Done.rest (h : Done r p q cycle s) (k : Rest p s t) : Done r p q cycle t := by
  obtain ⟨same, reserved⟩ := k.idle h.idle
  exact ⟨by rw [same]; exact h.idle, by rw [same]; exact h.last, by rw [same]; exact h.blocked, by rw [same]; exact h.due,
    by rw [same]; exact h.place, fun x mem own => h.released x (reserved _ x mem own) own⟩

theorem freed_step (s : State) (p : PointNo) : PointStep p s (freed s p) :=
  .modPoint p s (f := fun r => { r with place := .free }) rfl

theorem Done.freed (h : Done r p q cycle s) : Done r p q cycle (freed s p) := by
  have read := freed_read s p
  exact ⟨by rw [read]; exact h.idle, by rw [read]; exact h.last, by rw [read]; exact h.blocked, by rw [read]; exact h.due,
    by rw [read]; nofun, h.released⟩

theorem giveOutcome_point (origin : c.origin = .changeover p) (s : State) : s.giveOutcome c .restart = s.pointOutcome p c.code .restart := by
  unfold State.giveOutcome
  rw [origin]

theorem Done.give (h : Done r p q cycle s) (c : Command) : Done r p q cycle (s.giveOutcome c .restart) := by
  by_cases own : c.origin = .changeover p
  · rw [giveOutcome_point own]
    rcases pointOutcome_restart s p c.code with ⟨y, live, -⟩ | ⟨-, same⟩
    · exact absurd (live.symm.trans h.idle) nofun
    · rw [same]
      exact h.freed
  · exact h.rest (.giveOutcome own s)

/-- The position and the selector of a point forgotten. -/
def unlearnt (s : State) (p : PointNo) : State := s.modPoint p fun r => { r with position := .unknown, selector := none }

theorem unlearnt_read (s : State) (p : PointNo) :
    (unlearnt s p).pointRec p = { s.pointRec p with position := .unknown, selector := none } := State.modPoint_read s p _

theorem forgetPosition_eq (s : State) (p : PointNo) (o : SeqOutcome) : s.forgetPosition p o = (unlearnt s p).endSequence p o none := rfl

theorem Rest.forgetPosition (other : p ≠ k) (s : State) (o : SeqOutcome) : Rest p s (s.forgetPosition k o) :=
  .of_step other ((PointStep.modPoint k s (f := fun r => { r with position := .unknown, selector := none }) rfl).trans
    (.endSequence k _ o none))

theorem Done.forget (h : Done r p q cycle s) (k : PointNo) : Done r p q cycle (s.forgetPosition k .restart) := by
  by_cases own : p = k
  · subst own
    have read := unlearnt_read s p
    have idle : ((unlearnt s p).pointRec p).seq = none := by rw [read]; exact h.idle
    rw [forgetPosition_eq, endSequence_idle idle]
    exact ⟨idle, by rw [read]; exact h.last, by rw [read]; exact h.blocked, by rw [read]; exact h.due, by rw [read]; exact h.place,
      h.released⟩
  · exact h.rest (.forgetPosition own s _)

/-- From the marks on, a sequence that has ended stays so. -/
theorem Done.late (h : Done r p q cycle (given s)) : Done r p q cycle s.fieldRestart :=
  late_rel (R := fun v w => Done r p q cycle v → Done r p q cycle w) (fun _ => id) (fun h k => k ∘ h)
    (fun _ _ line done => done.rest (.line line)) (fun n v done => done.rest (.setMark v n false))
    (fun n v done => done.rest (.clearMark v n)) (fun k _ done => done.forget k) (fun c _ v done => done.rest (.resume v c.origin)) h

/-! ### A sequence still in flight -/

/-- The sequence of the point is in flight as it was. -/
structure Flying (r : PointRec) (p : PointNo) (q : Sequence) (cycle : CycleNo) (t : State) : Prop where
  live : (t.pointRec p).seq = some q
  due : (t.pointRec p).due = r.due
  blocked : (t.pointRec p).autoBlocked = r.autoBlocked
  cycle : t.engine.cycleNo = cycle

theorem Flying.same (h : Flying r p q cycle s) (same : t.pointRec p = s.pointRec p) (number : t.engine.cycleNo = s.engine.cycleNo) :
    Flying r p q cycle t :=
  ⟨by rw [same]; exact h.live, by rw [same]; exact h.due, by rw [same]; exact h.blocked, number.trans h.cycle⟩

theorem Flying.done (h : Flying r p q cycle s) : Done r p q cycle (s.endSequence p .restart none) := endSequence_done h.live h.blocked h.cycle

theorem endNotice_cycle (h : t.engine.cycleNo = s.engine.cycleNo) (p : PointNo) (q : Sequence) (o : SeqOutcome)
    (manual : Option ManualPart) (position : SwPos) : endNotice t p q o manual position = endNotice s p q o manual position := by
  unfold endNotice
  rw [h]

theorem Flying.news (h : Flying r p q s.engine.cycleNo v) :
    News 0 v (v.endSequence p .restart none) (endNotice s p q .restart none .unknown) := by
  rw [← endNotice_cycle h.cycle]
  exact news_endSequence h.live

theorem giveOutcome_other (other : c.origin ≠ .changeover p) (s : State) : (s.giveOutcome c .restart).pointRec p = s.pointRec p := by
  unfold State.giveOutcome
  split
  · rfl
  · rw [setOutcome_restart]
    rfl
  next k origin => exact (PointStep.pointOutcome k s _ _).others p fun same => other (by rw [origin, same])
  next m _ =>
    rcases meterOutcome_restart s m c.code with ⟨x, -, -, ended⟩ | ⟨-, same⟩
    · rw [ended, State.pointRec, endSession_points]
      rfl
    · rw [same]
      rfl

theorem cycleNo_giveOutcome (s : State) (c : Command) : (s.giveOutcome c .restart).engine.cycleNo = s.engine.cycleNo :=
  (congrArg Engine.cycleNo (OwnerStep.giveOutcome s c .restart).engine :)

end

end Sys2Proof.RestartPoints
end

section
/-! SUPPORT. The sequences and positions at the end of a FIELD RESTART (R40, R130, R131, R142). -/

namespace Sys2Proof.RestartFates

open Sys2Proof Sys2Proof.Machine Sys2Proof.Stated Sys2Proof.StopAndClear Sys2Proof.Sequencing Sys2Proof.SetLoading
open Sys2Proof.Outcomes Sys2Proof.Restarts Sys2Proof.RestartOutcomes Sys2Proof.RestartSets Sys2Proof.RestartNotices
open Sys2Proof.RestartPoints Sys2Proof.Sessions Sys2Proof.Ending Sys2Proof.OwnerSteps Sys2Proof.LinkLoss Sys2Proof.UnitLoading
open Sys2Proof.Attachments Sys2Proof.Queueing Sys2Proof.Reads

section
variable {s t u v w : State} {n : SetNo} {p k : PointNo} {m : MeterNo} {c : Command} {o : Origin} {q : Sequence} {r : PointRec}

/-! ### While the outcomes return (R40, R132) -/

/-- A sequence ended RESTART, its notice among at most `i` others. -/
def Gone (s : State) (p : PointNo) (q : Sequence) (i : Nat) (v w : State) : Prop :=
  Done (s.pointRec p) p q s.engine.cycleNo w ∧ News i v w (endNotice s p q .restart none .unknown)

/-- The RESTART of one command leaves a sequence in flight, or ends it where its phase waits for it. -/
theorem give_fate (h : Flying (s.pointRec p) p q s.engine.cycleNo v) (c : Command) :
    Gone s p q 1 v (v.giveOutcome c .restart) ∨
      ((c.origin = .changeover p → (s.pointRec p).due = none → awaitedCode q ≠ some c.code) ∧
        Flying (s.pointRec p) p q s.engine.cycleNo (v.giveOutcome c .restart)) := by
  by_cases own : c.origin = .changeover p
  · have read := freed_read v p
    have free : Flying (s.pointRec p) p q s.engine.cycleNo (freed v p) :=
      ⟨by rw [read]; exact h.live, by rw [read]; exact h.due, by rw [read]; exact h.blocked, h.cycle⟩
    rw [giveOutcome_point own]
    rcases pointOutcome_restart v p c.code with ⟨y, -, -, -, ended⟩ | ⟨waits, same⟩
    · rw [ended]
      have freeing : Pays 0 v (freed v p) := .of_sets (freed_step v p).spends fun _ => rfl
      exact .inl ⟨free.done, (free.news.after freeing).mono (Nat.zero_le 1)⟩
    · rw [same]
      exact .inr ⟨fun _ due => waits q h.live (h.due.trans due), free⟩
  · exact .inr ⟨fun origin => absurd origin own, h.same (giveOutcome_other own v) (cycleNo_giveOutcome v c)⟩

theorem Gone.given (h : Gone s p q 1 v w) (cs : List Command) :
    Gone s p q (1 + cs.length) v (forEach cs (fun c s => s.giveOutcome c .restart) w) := by
  obtain ⟨done, news⟩ := h
  exact ⟨forEach_keeps _ (fun c _ u done => done.give c) done, news.before (pays_given cs w)⟩

/-- All the outcomes returned: the sequence is in flight still, or has ended. -/
theorem given_fate (cs : List Command) (h : Flying (s.pointRec p) p q s.engine.cycleNo v) :
    Gone s p q cs.length v (forEach cs (fun c s => s.giveOutcome c .restart) v) ∨
      ((∀ c ∈ cs, c.origin = .changeover p → (s.pointRec p).due = none → awaitedCode q ≠ some c.code) ∧
        Flying (s.pointRec p) p q s.engine.cycleNo (forEach cs (fun c s => s.giveOutcome c .restart) v)) := by
  induction cs generalizing v with
  | nil => exact .inr ⟨nofun, h⟩
  | cons c cs ih =>
    rw [forEach_cons, List.length_cons]
    rcases give_fate h c with gone | ⟨waits, flies⟩
    · have ended := gone.given cs
      rw [Nat.add_comm] at ended
      exact .inl ended
    · rcases ih flies with ⟨done, news⟩ | ⟨rest, flies⟩
      · exact .inl ⟨done, (news.after (pays_giveOutcome v c)).mono (by omega)⟩
      · exact .inr ⟨List.forall_mem_cons.mpr ⟨waits, rest⟩, flies⟩

/-! ### News of other sets -/

/-- What a set that the sequence does not wait for does to its point. -/
def Untold (n : SetNo) (p : PointNo) (q : Sequence) (v w : State) : Prop :=
  (v.pointRec p).seq = some q → q.targetSet ≠ n → q.originalSet ≠ some n → w.pointRec p = v.pointRec p

theorem Untold.refl (v : State) : Untold n p q v v := fun _ _ _ => rfl

theorem Untold.trans (h : Untold n p q u v) (k : Untold n p q v w) : Untold n p q u w := fun live target original => by
  have same := h live target original
  exact (k (same ▸ live) target original).trans same

theorem Untold.of_points (points : w.points = v.points) : Untold n p q v w := fun _ _ _ => by
  rw [State.pointRec, points]
  rfl

theorem Untold.seqNews (v : State) (n : SetNo) (k : PointNo) : Untold n p q v (v.seqNews n k) := fun live target original => by
  by_cases other : p = k
  · subst other
    have still : v.seqNews n p = v := by
      unfold State.seqNews
      rw [live]
      dsimp only
      rw [if_neg target, if_neg (by simp [original])]
    rw [still]
  · exact (PointStep.seqNews v n k).others p other

theorem Untold.tellSequencers (v : State) (n : SetNo) : Untold n p q v (v.tellSequencers n) :=
  forEach_rel Untold.refl Untold.trans (fun k _ v => .seqNews v n k) v

theorem dropUncalled_points (v : State) (n : SetNo) : (v.dropUncalled n).points = v.points := by
  unfold State.dropUncalled
  dsimp only
  split
  · split <;> rfl
  all_goals rfl

theorem Untold.changeRun (v : State) (n : SetNo) (run : RunState) (why : StateReason) (attempts : Option Nat) :
    Untold n p q v (v.changeRun n run why attempts) := by
  have set : (runSet v n run).points = v.points := dropUncalled_points _ n
  rw [changeRun_eq]
  generalize runSet v n run = w at set ⊢
  have told (body : NoticeBody) : (w.raise body).points = v.points := set
  exact Untold.trans (.of_points (told _)) (.tellSequencers _ n)

theorem Untold.tryEnqueueSet (v : State) (n : SetNo) : Untold n p q v (v.tryEnqueueSet n) := by
  unfold State.tryEnqueueSet
  dsimp only
  split
  · split
    · have cleared : Untold n p q v (v.modSet n fun r => { r with due := none }) := .of_points rfl
      generalize v.modSet n (fun r => { r with due := none }) = w at cleared ⊢
      exact cleared.trans (.changeRun w n _ _ _)
    · split
      · exact .refl v
      · split
        · exact .refl v
        next queued =>
          obtain ⟨-, -, -, rfl⟩ := State.enqueue_eq_some.mp queued
          exact .of_points rfl
  · exact .refl v

theorem Untold.setMark (v : State) (n : SetNo) (mark : Bool) : Untold n p q v (v.setMark n mark) := by
  by_cases same : (v.setRec n).unreachable = mark
  · rw [setMark_same same]
    exact .refl v
  · have written : Untold n p q v (marked v n mark) := .of_points rfl
    rw [setMark_changed same]
    exact written.trans (.tellSequencers _ n)

theorem Untold.clearMark (v : State) (n : SetNo) : Untold n p q v (v.clearMark n) := by
  unfold State.clearMark
  split
  · exact (Untold.setMark v n false).trans (.tryEnqueueSet _ n)
  · exact .refl v

/-- The sets that a sequence waits for are reachable. -/
def Clear (q : Sequence) (v : State) : Prop :=
  (v.setRec q.targetSet).unreachable = false ∧ ∀ n, q.originalSet = some n → (v.setRec n).unreachable = false

theorem markVisit_clear (h : (v.setRec n).unreachable = false) (cs : List Command) : markVisit cs n v = v := by
  unfold markVisit
  split
  · exact setMark_same h
  · unfold State.clearMark
    rw [h]
    rfl

theorem markVisit_mark (cs : List Command) (n k : SetNo) (v : State) (h : (v.setRec k).unreachable = false) :
    ((markVisit cs n v).setRec k).unreachable = false := by
  by_cases own : k = n
  · subst own
    rw [markVisit_clear h]
    exact h
  · exact (aloof_markVisit (Ne.symm own) cs v).mark.trans h

theorem cycleNo_owner (h : OwnerStep v w) : w.engine.cycleNo = v.engine.cycleNo := (congrArg Engine.cycleNo h.engine :)

theorem owner_markVisit (cs : List Command) (n : SetNo) (v : State) : OwnerStep v (markVisit cs n v) := by
  unfold markVisit
  split
  · exact .setMark v n false
  · exact .clearMark v n

theorem Flying.markVisit (h : Flying r p q (v.engine.cycleNo) v) (clear : Clear q v) (cs : List Command) (n : SetNo) :
    Flying r p q v.engine.cycleNo (markVisit cs n v) ∧ Clear q (markVisit cs n v) := by
  refine ⟨?_, markVisit_mark cs n _ v clear.1, fun k original => markVisit_mark cs n k v (clear.2 k original)⟩
  by_cases waits : q.targetSet = n ∨ q.originalSet = some n
  · have reach : (v.setRec n).unreachable = false := waits.elim (fun target => target ▸ clear.1) (clear.2 n)
    rw [markVisit_clear reach]
    exact h
  · obtain ⟨target, original⟩ := not_or.mp waits
    refine h.same ?_ (cycleNo_owner (owner_markVisit cs n v))
    unfold RestartSets.markVisit
    split
    · exact Untold.setMark v n false h.live target original
    · exact Untold.clearMark v n h.live target original

theorem unmarked_flying {cycle : CycleNo} (cs : List Command) (xs : List SetNo) (h : Flying r p q cycle v) (clear : Clear q v) :
    Flying r p q cycle (forEach xs (RestartSets.markVisit cs) v) ∧ Clear q (forEach xs (RestartSets.markVisit cs) v) := by
  induction xs generalizing v with
  | nil => exact ⟨h, clear⟩
  | cons n xs ih =>
    rw [forEach_cons]
    have number := h.cycle
    subst number
    obtain ⟨flies, still⟩ := Flying.markVisit h clear cs n
    exact ih flies still

/-! ### The walk of the points -/

/-- The visit of a point by FIELD RESTART. -/
def pointVisit (p : PointNo) (v : State) : State := if (v.switched p).isSome then v.forgetPosition p .restart else v

theorem restartPoints_eq (v : State) : v.restartPoints = forEach allPoints pointVisit v := rfl

/-- What the visits of other points leave of a point. -/
structure Passing (p : PointNo) (v w : State) : Prop where
  point : w.pointRec p = v.pointRec p
  rest : Rest p v w
  tables : w.tables = v.tables
  cycleNo : w.engine.cycleNo = v.engine.cycleNo
  pays : Pays 0 v w

theorem Passing.refl (p : PointNo) (v : State) : Passing p v v := ⟨rfl, .refl p v, rfl, rfl, .refl v⟩

theorem Passing.trans (h : Passing p u v) (k : Passing p v w) : Passing p u w :=
  ⟨k.point.trans h.point, h.rest.trans k.rest, k.tables.trans h.tables, k.cycleNo.trans h.cycleNo, h.pays.trans k.pays⟩

theorem pointVisit_passing (other : k ≠ p) (v : State) : Passing p v (pointVisit k v) := by
  unfold pointVisit
  split
  · have step := PointStep.forgetPosition k v .restart
    have frame := SeqFrame.forgetPosition v k .restart
    exact ⟨step.others p (Ne.symm other), .forgetPosition (Ne.symm other) v _, frame.tables, (congrArg Engine.cycleNo frame.engine :),
      pays_forgetPosition v k _⟩
  · exact .refl p v

theorem restartPoints_at (v : State) (p : PointNo) : ∃ u, Passing p v u ∧ Passing p (pointVisit p u) v.restartPoints := by
  rw [restartPoints_eq]
  exact forEach_at (.refl p) .trans (fun k other v => pointVisit_passing other v) (List.nodup_finRange 12) (List.mem_finRange p) v

theorem forgetPosition_point (v : State) (p : PointNo) : ((v.forgetPosition p .restart).pointRec p).position = .unknown ∧
    ((v.forgetPosition p .restart).pointRec p).selector = none ∧ ((v.forgetPosition p .restart).pointRec p).seq = none := by
  have read := unlearnt_read v p
  rw [forgetPosition_eq]
  cases live : ((unlearnt v p).pointRec p).seq with
  | none =>
    rw [endSequence_idle live]
    exact ⟨by rw [read], by rw [read], live⟩
  | some q =>
    have point := sequenceGone_point (unlearnt v p) p q .restart
    rw [read] at point
    rw [endSequence_eq live]
    exact ⟨(congrArg PointRec.position point :), (congrArg PointRec.selector point :), (congrArg PointRec.seq point :)⟩

/-- A SWITCHED point is forgotten (R142). -/
theorem forgotten_point (loaded : v.switched p ≠ none) : (v.restartPoints.pointRec p).position = .unknown ∧
    (v.restartPoints.pointRec p).selector = none ∧ (v.restartPoints.pointRec p).seq = none := by
  obtain ⟨u, before, after⟩ := restartPoints_at v p
  have visit : pointVisit p u = u.forgetPosition p .restart :=
    if_pos (by rw [switched_tables before.tables]; exact Option.isSome_iff_ne_none.mpr loaded)
  rw [after.point, visit]
  exact forgetPosition_point u p

/-- Another point keeps its position. -/
theorem fixed_point (fixed : v.switched p = none) : v.restartPoints.pointRec p = v.pointRec p := by
  obtain ⟨u, before, after⟩ := restartPoints_at v p
  have visit : pointVisit p u = u := if_neg (by rw [switched_tables before.tables, fixed]; nofun)
  rw [after.point, visit, before.point]

/-- A sequence in flight at the walk of the points ends in it. -/
theorem restartPoints_gone (loaded : v.switched p ≠ none) (h : Flying (s.pointRec p) p q s.engine.cycleNo v) : Gone s p q 0 v v.restartPoints := by
  obtain ⟨u, before, after⟩ := restartPoints_at v p
  have visit : pointVisit p u = (unlearnt u p).endSequence p .restart none :=
    if_pos (by rw [switched_tables before.tables]; exact Option.isSome_iff_ne_none.mpr loaded)
  have here := h.same before.point before.cycleNo
  have read := unlearnt_read u p
  have flies : Flying (s.pointRec p) p q s.engine.cycleNo (unlearnt u p) :=
    ⟨by rw [read]; exact here.live, by rw [read]; exact here.due, by rw [read]; exact here.blocked, here.cycle⟩
  have quiet : Pays 0 u (unlearnt u p) :=
    .of_sets (PointStep.modPoint p u (f := fun r => { r with position := .unknown, selector := none }) rfl).spends fun _ => rfl
  rw [visit] at after
  exact ⟨flies.done.rest after.rest, ((flies.news.after quiet).after before.pays).before after.pays⟩

end

end Sys2Proof.RestartFates
end

section
/-! SUPPORT. The points and the command queue after a FIELD RESTART (R32, R40, R131, R142). -/

namespace Sys2Proof.RestartedPoints

open Sys2Proof Sys2Proof.Machine Sys2Proof.Stated Sys2Proof.StopAndClear Sys2Proof.Sequencing Sys2Proof.SetLoading
open Sys2Proof.Outcomes Sys2Proof.Restarts Sys2Proof.RestartOutcomes Sys2Proof.RestartSets Sys2Proof.RestartNotices
open Sys2Proof.RestartPoints Sys2Proof.RestartFates Sys2Proof.OwnerSteps Sys2Proof.UnitLoading Sys2Proof.Attachments Sys2Proof.Queueing
open Sys2Proof.Reads Sys2Proof.LinkLoss

section
variable {s t u v w : State} {n : SetNo} {p : PointNo} {c : Command} {o : Origin} {q : Sequence} {P : Origin → Prop}

theorem setOutcome_at (v : State) (n k : SetNo) (code : Code) : ((v.setOutcome n code .restart).setRec k).unreachable = (v.setRec k).unreachable := by
  rw [setOutcome_restart]
  by_cases own : k = n
  · subst own
    rw [State.modSet_read]
  · rw [State.modSet_other v n _ own]

theorem giveOutcome_set (origin : c.origin = .sets n) (v : State) : v.giveOutcome c .restart = v.setOutcome n c.code .restart := by
  unfold State.giveOutcome
  rw [origin]

/-- The marks stay while the outcomes return. -/
theorem given_mark (s : State) (n : SetNo) : ((given s).setRec n).unreachable = (s.setRec n).unreachable := by
  refine given_rel (R := fun v w => (w.setRec n).unreachable = (v.setRec n).unreachable) (fun _ => rfl) (fun h k => k.trans h) fun c _ v => ?_
  by_cases own : c.origin = .sets n
  · rw [giveOutcome_set own]
    exact setOutcome_at v n n c.code
  · exact (Aloof.giveOutcome own v).mark

/-! ### What all the steps keep -/

theorem queues_restart (s : State) : Queues (fun _ => True) (idled s) s.fieldRestart := by
  have line {v w : State} (h : LineOnly v w) : Queues (fun _ => True) v w := by
    obtain ⟨engine, rfl, queue, outstanding, -⟩ := h
    refine ⟨rfl, fun c hc => .inl (queue ▸ hc), fun d => ?_⟩
    rw [Distinct, queue, outstanding]
    exact d
  have outcomes : Queues (fun _ => True) (idled s) (given s) := given_rel .refl .trans fun c _ v => queues_giveOutcome v c
  have later : Queues (fun _ => True) (given s) s.fieldRestart := late_rel .refl .trans (fun _ _ => line)
    (fun n v => .setMark (fun _ => trivial) v n false) (fun n v => .clearMark (fun _ => trivial) trivial v)
    (fun p v => queues_forgetPosition v p _) fun c _ v => .resume (fun _ => trivial) trivial v
  exact outcomes.trans later

theorem distinct_restart (s : State) : Distinct s.fieldRestart :=
  (queues_restart s).distinct ⟨rfl, List.nodup_nil, nofun⟩

theorem rest_resumed (s : State) (p : PointNo) : Rest p (forgotten s) s.fieldRestart :=
  resumed_rel (.refl p) .trans fun c _ v => .resume v c.origin

theorem owned_restart (s : State) (p : PointNo) : Owned p s.fieldRestart := by
  have step {v w : State} (h : Rest p v w) : Owned p v → Owned p w := h.owned
  have outcomes : Owned p (idled s) → Owned p (given s) := by
    refine given_rel (R := fun v w => Owned p v → Owned p w) (fun _ => id) (fun h k => k ∘ h) fun c _ v owned => ?_
    by_cases own : c.origin = .changeover p
    · rw [giveOutcome_point own]
      exact (PointStep.pointOutcome p v _ _).owned owned
    · exact (Rest.giveOutcome own v).owned owned
  have later : Owned p (given s) → Owned p s.fieldRestart := by
    refine late_rel (R := fun v w => Owned p v → Owned p w) (fun _ => id) (fun h k => k ∘ h) (fun _ _ h => step (.line h))
      (fun n v => step (.setMark v n false)) (fun n v => step (.clearMark v n)) (fun k v owned => ?_)
      fun c _ v => step (.resume v c.origin)
    by_cases own : p = k
    · subst own
      exact (PointStep.forgetPosition p v _).owned owned
    · exact (Rest.forgetPosition own v _).owned owned
  exact later (outcomes fun c hc => absurd hc List.not_mem_nil)

theorem tables_forgotten (s : State) : (repolled s).tables = s.tables := by
  have keeps {v w : State} (h : OwnerStep v w) : w.tables = v.tables := h.tables
  have outcomes : (given s).tables = (idled s).tables :=
    given_rel (R := fun v w => w.tables = v.tables) (fun _ => rfl) (fun h k => k.trans h) fun c _ v => keeps (.giveOutcome v c _)
  have marks : (unmarked s).tables = (unlinked (given s)).tables :=
    unmarked_rel (R := fun v w => w.tables = v.tables) (fun _ => rfl) (fun h k => k.trans h) (fun n v => keeps (.setMark v n false))
      fun n v => keeps (.clearMark v n)
  exact marks.trans outcomes

theorem attached_repolled (s : State) : Attached s (repolled s) := by
  have outcomes : Attached (idled s) (given s) := given_rel .refl .trans fun c _ v => .giveOutcome v c _
  have marks : Attached (unlinked (given s)) (unmarked s) :=
    unmarked_rel .refl .trans (fun n v => .setMark v n false) fun n v => .clearMark v n
  have start : Attached s (idled s) := .of_same rfl rfl
  have line : Attached (given s) (unlinked (given s)) := .of_same rfl rfl
  have pointer : Attached (unmarked s) (repolled s) := .of_same rfl rfl
  exact (((start.trans outcomes).trans line).trans marks).trans pointer

/-! ### The points -/

/-- A SWITCHED point is UNKNOWN with no sequence in flight. -/
theorem switched_point (loaded : s.switched p ≠ none) : (s.fieldRestart.pointRec p).position = .unknown ∧
    (s.fieldRestart.pointRec p).selector = none ∧ (s.fieldRestart.pointRec p).seq = none := by
  have gone := forgotten_point (v := repolled s) (p := p) (by rw [switched_tables (tables_forgotten s)]; exact loaded)
  have same : s.fieldRestart.pointRec p = (repolled s).restartPoints.pointRec p := ((rest_resumed s p).idle gone.2.2).1
  rw [same]
  exact gone

/-- Another point keeps its position. -/
theorem fixed_position (fixed : s.switched p = none) : (s.fieldRestart.pointRec p).position = (s.pointRec p).position := by
  have kept := fixed_point (v := repolled s) (p := p) (by rw [switched_tables (tables_forgotten s)]; exact fixed)
  have resumed : Attached (forgotten s) s.fieldRestart := resumed_rel .refl .trans fun c _ v => .resume v c.origin
  exact (resumed.positions p).trans ((congrArg PointRec.position kept).trans ((attached_repolled s).positions p))

/-- No command of the office and none of a sequencer is queued. -/
theorem queued_internal (mem : c ∈ s.fieldRestart.engine.queue) : (∃ n, c.origin = .sets n) ∨ ∃ m, c.origin = .fuel m := by
  obtain ⟨-, -, internal⟩ := distinct_restart s
  obtain ⟨-, loaded⟩ := ((queues_restart s).joins c mem).resolve_left List.not_mem_nil
  cases origin : c.origin with
  | office tag => exact absurd origin (internal c mem tag)
  | sets n => exact .inl ⟨n, rfl⟩
  | fuel m => exact .inr ⟨m, rfl⟩
  | changeover p =>
    have live := owned_restart s p c mem origin
    have gone := (switched_point (s := s) (loaded p origin)).2.2
    rw [gone] at live
    cases live

/-! ### The sequences -/

theorem pays_unmarked (s : State) : Pays 0 (given s) (repolled s) := by
  have marks : Pays 0 (unlinked (given s)) (unmarked s) :=
    unmarked_rel .refl (fun h k => h.trans k) (fun n v => pays_setMark v n false) fun n v => pays_clearMark v n
  exact ((pays_line (lineOnly_unlinked (given s))).trans marks).trans (pays_line (lineOnly_repolled s))

theorem restarted_of_done (done : Done (s.pointRec p) p q s.engine.cycleNo s.fieldRestart)
    (news : News (endedByRestart s).length (idled s) s.fieldRestart (endNotice s p q .restart none .unknown)) :
    PointRestarted s s.fieldRestart p q :=
  ⟨done.last, done.blocked, ⟨done.due, done.place⟩, done.released, told_of_news news⟩

/-- The end of a sequence in a FIELD RESTART (R40, R142). -/
theorem pointRestarted (loaded : s.switched p ≠ none) (live : (s.pointRec p).seq = some q)
    (waits : ((s.pointRec p).due = none ∧ ∃ c ∈ endedByRestart s, c.origin = .changeover p ∧ awaitedCode q = some c.code) ∨
      ((s.setRec q.targetSet).unreachable = false ∧ ∀ n, q.originalSet = some n → (s.setRec n).unreachable = false)) :
    PointRestarted s s.fieldRestart p q := by
  have flies : Flying (s.pointRec p) p q s.engine.cycleNo (idled s) := ⟨live, rfl, rfl, rfl⟩
  rcases given_fate (endedByRestart s) flies with ⟨done, news⟩ | ⟨unasked, flies⟩
  · exact restarted_of_done done.late (news.before (pays_late s))
  · rcases waits with ⟨due, c, mem, origin, awaited⟩ | clear
    · exact absurd awaited (unasked c mem origin due)
    · have flies : Flying (s.pointRec p) p q s.engine.cycleNo (unlinked (given s)) := flies.same (t := unlinked (given s)) rfl rfl
      have clear : Clear q (unlinked (given s)) := by
        refine ⟨(given_mark s _).trans clear.1, fun n original => (given_mark s n).trans (clear.2 n original)⟩
      obtain ⟨flies, -⟩ := unmarked_flying (endedByRestart s) allSets flies clear
      have flies : Flying (s.pointRec p) p q s.engine.cycleNo (repolled s) := flies.same (t := repolled s) rfl rfl
      have switched : (repolled s).switched p ≠ none := by
        rw [switched_tables (tables_forgotten s)]
        exact loaded
      obtain ⟨done, news⟩ := restartPoints_gone switched flies
      have resumed : Pays 0 (forgotten s) s.fieldRestart := resumed_rel .refl (fun h k => h.trans k) fun c _ v => pays_resume v c.origin
      refine restarted_of_done (done.rest (rest_resumed s p)) ?_
      exact ((news.after ((pays_given _ (idled s)).trans (pays_unmarked s))).before resumed)

end

end Sys2Proof.RestartedPoints
end

section
/-! SUPPORT. The sets after a FIELD RESTART (R40, R78, R79, R81, R86, R89, R98). -/

namespace Sys2Proof.RestartedSets

open Sys2Proof Sys2Proof.Machine Sys2Proof.Stated Sys2Proof.StopAndClear Sys2Proof.Sequencing Sys2Proof.SetLoading
open Sys2Proof.Outcomes Sys2Proof.Restarts Sys2Proof.RestartOutcomes Sys2Proof.RestartSets Sys2Proof.RestartNotices
open Sys2Proof.RestartPoints Sys2Proof.RestartFates Sys2Proof.RestartedPoints Sys2Proof.OwnerSteps Sys2Proof.UnitLoading
open Sys2Proof.Attachments Sys2Proof.Queueing Sys2Proof.Reads Sys2Proof.ReplySlots Sys2Proof.Starting
open Sys2Proof.RunCounters

/-- A set whose command waits to be enqueued, but for its mark. -/
structure Called (n : SetNo) (code : Code) (run : RunState) (v : State) : Prop where
  run : (v.setRec n).run = run
  place : (v.setRec n).place = .free
  due : (v.setRec n).due = some code
  entry : v.setEntry n ≠ none
  distinct : Distinct v
  unqueued : ∀ c ∈ v.engine.queue, c.origin ≠ .sets n

/-- A set whose command has been enqueued. -/
structure Asked (n : SetNo) (code : Code) (run : RunState) (v : State) : Prop where
  run : (v.setRec n).run = run
  place : (v.setRec n).place = .queued code
  due : (v.setRec n).due = none

section
variable {s t u v w : State} {n : SetNo} {p : PointNo} {c : Command} {code : Code} {run : RunState} {cs : List Command}

theorem Called.aloof (h : Called n code run v) (k : Aloof n v w) : Called n code run w where
  run := k.waits.run.trans h.run
  place := k.waits.place.trans h.place
  due := k.waits.due.trans h.due
  entry := by
    rw [State.setEntry, k.queues.tables]
    exact h.entry
  distinct := k.queues.distinct h.distinct
  unqueued c hc origin := by
    rcases k.queues.joins c hc with old | ⟨other, -⟩
    · exact h.unqueued c old origin
    · exact other origin

theorem Asked.aloof (h : Asked n code run v) (k : Aloof n v w) : Asked n code run w :=
  ⟨k.waits.run.trans h.run, k.waits.place.trans h.place, k.waits.due.trans h.due⟩

/-- A command that may join the queue does (R32, R78). -/
theorem Called.asked (h : Called n code run v) (reach : (v.setRec n).unreachable = false)
    (idle : code = .stop → v.inService n = false) : Asked n code run (v.tryEnqueueSet n) := by
  obtain ⟨e, entry⟩ := Option.ne_none_iff_exists'.mp h.entry
  have queued : v.tryEnqueueSet n = commandQueued v n e.unit code := by
    have joined := enqueue_distinct (c := ⟨e.unit, code, [], .sets n⟩) h.distinct nofun h.unqueued
    have serves : ¬ (decide (code = .stop) && v.inService n) = true := fun both => by
      obtain ⟨stop, serves⟩ := (Bool.and_eq_true ..).mp both
      rw [idle (of_decide_eq_true stop)] at serves
      cases serves
    unfold State.tryEnqueueSet
    dsimp only
    rw [h.due, h.place, reach]
    dsimp only
    rw [if_neg serves, entry]
    dsimp only
    rw [joined]
    rfl
  have read := commandQueued_read v n e.unit code
  rw [queued]
  exact ⟨by rw [read]; exact h.run, by rw [read], by rw [read]⟩

/-! ### The outcomes -/

/-- What the outcomes do to a set whose run state calls for a command. -/
structure Taking (n : SetNo) (code : Code) (v w : State) : Prop where
  run : (v.setRec n).run.calledFor = some code → (w.setRec n).run = (v.setRec n).run
  due : (v.setRec n).run.calledFor = some code → (w.setRec n).due = (v.setRec n).due ∨ (w.setRec n).due = some code
  place : (v.setRec n).place = .free → (w.setRec n).place = .free

theorem Taking.refl (v : State) : Taking n code v v := ⟨fun _ => rfl, fun _ => .inl rfl, id⟩

theorem Taking.trans (h : Taking n code u v) (k : Taking n code v w) : Taking n code u w := by
  refine ⟨fun called => ?_, fun called => ?_, k.place ∘ h.place⟩
  · have same := h.run called
    exact (k.run (same ▸ called)).trans same
  · rcases k.due (h.run called ▸ called) with same | taken
    · exact (h.due called).imp same.trans same.trans
    · exact .inr taken

/-- The RESTART of a command of the set leaves a command due where its run state waits for it. -/
theorem restarted_read (origin : c.origin = .sets n) (v : State) :
    (v.giveOutcome c .restart).setRec n = { v.setRec n with place := .free, due := takenDue (v.setRec n) c.code } := by
  rw [giveOutcome_set origin, setOutcome_restart, State.modSet_read]

theorem takenDue_cases {r : SetRec} (called : r.run.calledFor = some code) (d : Code) :
    takenDue r d = r.due ∨ takenDue r d = some code := by
  unfold takenDue
  split
  · exact .inl rfl
  next waits =>
    obtain ⟨-, same⟩ := (Bool.or_eq_false_iff ..).mp (Bool.eq_false_iff.mpr waits)
    exact .inr ((not_not.mp (of_decide_eq_false same)).symm.trans called)

theorem Taking.give (c : Command) (v : State) : Taking n code v (v.giveOutcome c .restart) := by
  by_cases own : c.origin = .sets n
  · have read := restarted_read own v
    exact ⟨fun _ => by rw [read], fun called => by rw [read]; exact takenDue_cases called c.code, fun _ => by rw [read]⟩
  · have waits := (Aloof.giveOutcome own v).waits
    exact ⟨fun _ => waits.run, fun _ => .inl waits.due, waits.place.trans⟩

/-- The state after the outcomes, at a set that one of them reaches. -/
theorem given_called (mem : c ∈ endedByRestart s) (origin : c.origin = .sets n) (entry : s.setEntry n ≠ none)
    (called : (s.setRec n).run.calledFor = some code)
    (waits : (s.setRec n).due = some code ∨ ((s.setRec n).due = none ∧ c.code = code)) :
    Called n code (s.setRec n).run (given s) := by
  have queues : Queues (fun _ => False) (idled s) (given s) := given_rel .refl .trans fun c _ v => queues_giveOutcome v c
  have loaded : (given s).setEntry n = s.setEntry n := by
    rw [State.setEntry, queues.tables]
    rfl
  obtain ⟨before, after, split⟩ := List.append_of_mem mem
  have walks (xs : List Command) (u : State) : Taking n code u (forEach xs (fun c s => s.giveOutcome c .restart) u) :=
    forEach_rel Taking.refl Taking.trans (fun c _ v => .give c v) u
  have parts : given s = forEach after (fun c s => s.giveOutcome c .restart)
      ((forEach before (fun c s => s.giveOutcome c .restart) (idled s)).giveOutcome c .restart) := by
    rw [given, split, forEach_append, forEach_cons]
  have first := walks before (idled s)
  generalize forEach before (fun c s => s.giveOutcome c .restart) (idled s) = u at parts first
  have same : (u.setRec n).run = (s.setRec n).run := first.run called
  have due : (u.setRec n).due = (s.setRec n).due ∨ (u.setRec n).due = some code := first.due called
  have read := restarted_read origin u
  have taken : ((u.giveOutcome c .restart).setRec n).due = some code := by
    rw [read]
    show takenDue (u.setRec n) c.code = some code
    unfold takenDue
    rcases waits with asked | ⟨unasked, own⟩
    · have held : (u.setRec n).due = some code := due.elim (fun h => h.trans asked) id
      rw [held]
      rfl
    · rcases due with kept | held
      · rw [kept, unasked, same, called, own]
        simp
      · rw [held]
        rfl
  have here : ((u.giveOutcome c .restart).setRec n).run = (s.setRec n).run := by rw [read]; exact same
  have free : ((u.giveOutcome c .restart).setRec n).place = .free := by rw [read]
  have last := walks after (u.giveOutcome c .restart)
  rw [← parts] at last
  refine ⟨(last.run (here ▸ called)).trans here, last.place free, ?_, loaded ▸ entry, queues.distinct ⟨rfl, List.nodup_nil, nofun⟩,
    fun x hx => ?_⟩
  · exact (last.due (here ▸ called)).elim (fun h => h.trans taken) id
  · exact absurd ((queues.joins x hx).resolve_right fun h => h.1) List.not_mem_nil

/-! ### The marks -/

theorem aloof_unlinked (s : State) (n : SetNo) : Aloof n (given s) (unlinked (given s)) := .line n (lineOnly_unlinked _)

theorem Called.setMark (h : Called n code run v) : Called n code run (v.setMark n false) := by
  have kept := setMark_kept v n false
  have queues := Queues.setMark (P := (· ≠ Origin.sets n)) (fun _ => nofun) v n false
  have entry : (v.setMark n false).setEntry n = v.setEntry n := by
    rw [State.setEntry, queues.tables]
    rfl
  refine ⟨kept.run.trans h.run, kept.place.trans h.place, kept.due.trans h.due, entry ▸ h.entry, queues.distinct h.distinct,
    fun c hc origin => ?_⟩
  rcases queues.joins c hc with old | ⟨other, -⟩
  · exact h.unqueued c old origin
  · exact other origin

/-- A set of a command that ended has its mark cleared and its command waiting (log entry 27). -/
theorem forgotten_called (asked : restartedSet (endedByRestart s) n = true) (h : Called n code run (given s)) :
    Called n code run (forgotten s) ∧ ((forgotten s).setRec n).unreachable = false := by
  obtain ⟨u, before, after⟩ := unmarked_at s n
  have visit : markVisit (endedByRestart s) n u = u.setMark n false := if_pos asked
  rw [visit] at after
  have here := (h.aloof ((aloof_unlinked s n).trans before)).setMark
  have later := after.trans (aloof_forgotten s n)
  exact ⟨here.aloof later, later.mark.trans (setMark_mark u n false)⟩

theorem markVisit_free (cs : List Command) (n : SetNo) (v : State) (free : (v.setRec n).reservations = []) :
    ((markVisit cs n v).setRec n).reservations = [] := by
  obtain ⟨_, marks⟩ := newsKeeps_setMark v n false
  obtain ⟨_, queued⟩ := newsKeeps_tryEnqueueSet (v.setMark n false) n
  unfold markVisit
  split
  · exact marks.reservations n free
  · unfold State.clearMark
    split
    · exact queued.reservations n (marks.reservations n free)
    · exact free

/-! ### The commands enqueued again -/

/-- Nothing connects the set and nothing reserves it. -/
def Unserved (n : SetNo) (v : State) : Prop := (∀ p, v.connectedSet p ≠ some n) ∧ (v.setRec n).reservations = []

theorem Unserved.idle (h : Unserved n v) : v.inService n = false := inService_eq_false.mpr h

theorem Unserved.resume {o : Origin} (h : Unserved n v) (other : o ≠ .sets n) : Unserved n (v.resume o) := by
  have aloof := Aloof.resume other v
  exact ⟨fun p => by rw [connectedSet_attached (.resume v o) aloof.queues.tables]; exact h.1 p, aloof.free h.2⟩

/-- The walk that enqueues: a set whose command may join the queue has it joined. -/
theorem resumed_asked (xs : List Command) (h : (Called n code run v ∧ (v.setRec n).unreachable = false ∧ (code = .stop → Unserved n v)) ∨
      Asked n code run v) (asked : Asked n code run v ∨ ∃ c ∈ xs, c.origin = .sets n) :
    Asked n code run (forEach xs (fun c s => s.resume c.origin) v) := by
  induction xs generalizing v with
  | nil => exact asked.elim id fun ⟨_, mem, _⟩ => absurd mem List.not_mem_nil
  | cons c cs ih =>
    rw [forEach_cons]
    by_cases own : c.origin = .sets n
    · have done : Asked n code run (v.resume c.origin) := by
        rw [own, State.resume]
        rcases h with ⟨called, reach, idle⟩ | done
        · exact called.asked reach fun stop => (idle stop).idle
        · rw [tryEnqueueSet_idle done.due]
          exact done
      exact ih (.inr done) (.inl done)
    · have aloof := Aloof.resume own v
      refine ih ?_ ?_
      · rcases h with ⟨called, reach, idle⟩ | done
        · exact .inl ⟨called.aloof aloof, aloof.mark.trans reach, fun stop => (idle stop).resume own⟩
        · exact .inr (done.aloof aloof)
      · rcases asked with done | ⟨d, mem, origin⟩
        · exact .inl (done.aloof aloof)
        · rcases List.mem_cons.mp mem with same | mem
          · exact absurd (same ▸ origin) own
          · exact .inr ⟨d, mem, origin⟩

theorem restart_asked (mem : c ∈ endedByRestart s) (origin : c.origin = .sets n) (entry : s.setEntry n ≠ none)
    (called : (s.setRec n).run.calledFor = some code)
    (waits : (s.setRec n).due = some code ∨ ((s.setRec n).due = none ∧ c.code = code))
    (idle : code = .stop → Unserved n (forgotten s)) : Asked n code (s.setRec n).run s.fieldRestart := by
  have asked : restartedSet (endedByRestart s) n = true := restartedSet_iff.mpr ⟨c, mem, origin⟩
  obtain ⟨here, reach⟩ := forgotten_called asked (given_called mem origin entry called waits)
  rw [fieldRestart_eq]
  exact resumed_asked _ (.inl ⟨here, reach, idle⟩) (.inr ⟨c, mem, origin⟩)

/-- After step 7 a set at no FIXED point and with no reservation is not in service. -/
theorem forgotten_unserved (fixed : ∀ p e, s.pointEntry p = some e → e.source ≠ .fixed n) (free : (s.setRec n).reservations = []) :
    Unserved n (forgotten s) := by
  have tables : (forgotten s).tables = s.tables := (SeqFrame.restartPoints (repolled s)).tables.trans (tables_forgotten s)
  refine ⟨fun p connected => ?_, ?_⟩
  · unfold State.connectedSet State.pointEntry at connected
    rw [tables] at connected
    split at connected
    · cases connected
    next e entry =>
      split at connected
      next k source =>
        rw [Option.some.inj connected] at source
        exact fixed p e entry source
      next a x y source =>
        have loaded : (repolled s).switched p ≠ none := by
          rw [switched_tables (tables_forgotten s)]
          exact Option.ne_none_iff_exists'.mpr ⟨_, switched_eq_some.mpr ⟨e, entry, source⟩⟩
        have unknown : ((forgotten s).pointRec p).position = .unknown := (forgotten_point loaded).1
        rw [unknown] at connected
        cases connected
  · have outcomes : ((given s).setRec n).reservations = [] := by
      refine given_rel (R := fun v w => (v.setRec n).reservations = [] → (w.setRec n).reservations = []) (fun _ => id)
        (fun h k => k ∘ h) (fun c _ v empty => ?_) free
      by_cases own : c.origin = .sets n
      · rw [restarted_read own v]
        exact empty
      · exact (Aloof.giveOutcome own v).free empty
    obtain ⟨u, before, after⟩ := unmarked_at s n
    have visited := markVisit_free (endedByRestart s) n u (before.free ((aloof_unlinked s n).free outcomes))
    exact (aloof_forgotten s n).free (after.free visited)

end

end Sys2Proof.RestartedSets
end

section
/-! SUPPORT. FIELD RESTART at a set, case by case (R40, R78, R79, R81, R86, R89, R98). -/

namespace Sys2Proof.SetRestarts

open Sys2Proof Sys2Proof.Machine Sys2Proof.Stated Sys2Proof.StopAndClear Sys2Proof.Sequencing Sys2Proof.SetLoading
open Sys2Proof.Restarts Sys2Proof.RestartOutcomes Sys2Proof.RestartSets Sys2Proof.RestartNotices Sys2Proof.RestartFates
open Sys2Proof.RestartedPoints Sys2Proof.RestartedSets Sys2Proof.OwnerSteps Sys2Proof.UnitLoading Sys2Proof.Attachments
open Sys2Proof.Queueing Sys2Proof.RunCounters Sys2Proof.Outcomes

section
variable {s t u v w : State} {n : SetNo} {p : PointNo} {c : Command} {code : Code} {run : RunState} {o : Origin} {cycle : CycleNo}

/-! ### A STOP of a set at a FIXED point (R79) -/

/-- A set that has come back ONLINE. -/
structure Back (n : SetNo) (v : State) : Prop where
  run : (v.setRec n).run = .online
  place : (v.setRec n).place = .free
  due : (v.setRec n).due = none

theorem Back.aloof (h : Back n v) (k : Aloof n v w) : Back n w :=
  ⟨k.waits.run.trans h.run, k.waits.place.trans h.place, k.waits.due.trans h.due⟩

/-- The notice of a return to ONLINE. -/
def backBody (n : SetNo) (cycle : CycleNo) : NoticeBody := .setState n .stopping .online .inService none cycle

/-- A FIXED point at the set. -/
def Fixed (n : SetNo) (v : State) : Prop := ∃ p e, v.pointEntry p = some e ∧ e.source = .fixed n

theorem Fixed.tables (h : Fixed n v) (tables : w.tables = v.tables) : Fixed n w := by
  unfold Fixed State.pointEntry
  rw [tables]
  exact h

theorem Fixed.serves (h : Fixed n v) : v.inService n = true := by
  obtain ⟨p, e, entry, source⟩ := h
  refine connectedSet_inService (p := p) ?_
  unfold State.connectedSet
  rw [entry]
  dsimp only
  rw [source]

theorem back_of_called (h : Called n .stop .stopping v) (reach : (v.setRec n).unreachable = false) (fixed : Fixed n v)
    (number : v.engine.cycleNo = cycle) : Back n (v.tryEnqueueSet n) ∧ News 0 v (v.tryEnqueueSet n) (backBody n cycle) := by
  have news := news_online h.due h.place reach fixed.serves
  rw [h.run, number] at news
  refine ⟨?_, news⟩
  rw [tryEnqueueSet_inService h.due h.place reach fixed.serves]
  have read : (v.modSet n fun r => { r with due := none }).setRec n = { v.setRec n with due := none } := State.modSet_read v n _
  generalize (v.modSet n fun r => { r with due := none }) = w at read ⊢
  have changed := changeRun_changed (s := w) (n := n) (by rw [read]) .online .inService none
  exact ⟨changed.run, changed.place (by rw [read]; exact h.place), changed.due⟩

theorem resumed_back (xs : List Command) (h : Called n .stop .stopping v) (reach : (v.setRec n).unreachable = false) (fixed : Fixed n v)
    (number : v.engine.cycleNo = cycle) (asked : ∃ c ∈ xs, c.origin = .sets n) :
    Back n (forEach xs (fun c s => s.resume c.origin) v) ∧ News 0 v (forEach xs (fun c s => s.resume c.origin) v) (backBody n cycle) := by
  have walk (ys : List Command) (w : State) : Pays 0 w (forEach ys (fun c s => s.resume c.origin) w) :=
    .forEach (fun c _ s => pays_resume s c.origin) w
  have stays (ys : List Command) (w : State) (back : Back n w) : Back n (forEach ys (fun c s => s.resume c.origin) w) := by
    refine forEach_keeps (Back n) (fun c _ u back => ?_) back
    by_cases own : c.origin = .sets n
    · rw [own, State.resume, tryEnqueueSet_idle back.due]
      exact back
    · exact back.aloof (.resume own u)
  induction xs generalizing v with
  | nil =>
    obtain ⟨_, mem, _⟩ := asked
    exact absurd mem List.not_mem_nil
  | cons c cs ih =>
    rw [forEach_cons]
    by_cases own : c.origin = .sets n
    · rw [own, State.resume]
      obtain ⟨back, news⟩ := back_of_called h reach fixed number
      exact ⟨stays cs _ back, news.before (walk cs _)⟩
    · have aloof := Aloof.resume own v
      have owner := OwnerStep.resume v c.origin
      have rest : ∃ d ∈ cs, d.origin = .sets n := by
        obtain ⟨d, mem, origin⟩ := asked
        rcases List.mem_cons.mp mem with same | mem
        · exact absurd (same ▸ origin) own
        · exact ⟨d, mem, origin⟩
      obtain ⟨back, news⟩ := ih (h.aloof aloof) (aloof.mark.trans reach) (fixed.tables owner.tables) ((cycleNo_owner owner).trans number) rest
      exact ⟨back, news.after (pays_resume v c.origin)⟩

theorem cycleNo_forgotten (s : State) : (forgotten s).engine.cycleNo = s.engine.cycleNo := by
  have keeps {v w : State} (h : OwnerStep v w) : w.engine.cycleNo = v.engine.cycleNo := cycleNo_owner h
  have outcomes : (given s).engine.cycleNo = (idled s).engine.cycleNo :=
    given_rel (R := fun v w => w.engine.cycleNo = v.engine.cycleNo) (fun _ => rfl) (fun h k => k.trans h) fun c _ v => keeps (.giveOutcome v c _)
  have marks : (unmarked s).engine.cycleNo = (unlinked (given s)).engine.cycleNo :=
    unmarked_rel (R := fun v w => w.engine.cycleNo = v.engine.cycleNo) (fun _ => rfl) (fun h k => k.trans h)
      (fun n v => keeps (.setMark v n false)) fun n v => keeps (.clearMark v n)
  have points : (forgotten s).engine.cycleNo = (repolled s).engine.cycleNo :=
    forgotten_rel (R := fun v w => w.engine.cycleNo = v.engine.cycleNo) (fun _ => rfl) (fun h k => k.trans h)
      fun p v => keeps (.of_pointStep (.forgetPosition v p _) (LinkLoss.PointStep.forgetPosition p v _))
  exact points.trans (marks.trans outcomes)

theorem tables_restartPoints (s : State) : (forgotten s).tables = s.tables :=
  (SeqFrame.restartPoints (repolled s)).tables.trans (tables_forgotten s)

theorem pays_forgotten (s : State) : Pays (endedByRestart s).length (idled s) (forgotten s) := by
  have points : Pays 0 (repolled s) (forgotten s) := forgotten_rel .refl (fun h k => h.trans k) fun p v => pays_forgetPosition v p _
  exact ((pays_given _ (idled s)).trans (pays_unmarked s)).trans points

/-! ### A set that no command concerns -/

theorem unasked_iff : Unasked s o ↔ ∀ c ∈ endedByRestart s, c.origin ≠ o := by
  unfold Unasked endedByRestart
  constructor
  · intro ⟨queue, outstanding⟩ c mem
    rcases List.mem_append.mp mem with sent | queued
    · obtain ⟨q, asked, rfl⟩ := Option.map_eq_some_iff.mp (Option.mem_toList.mp sent)
      exact outstanding q asked
    · exact queue c queued
  · exact fun all => ⟨fun c mem => all c (List.mem_append_right _ mem),
      fun q asked => all _ (List.mem_append_left _ (by rw [asked]; exact List.mem_singleton_self _))⟩

theorem aloof_given (unasked : Unasked s (.sets n)) : Aloof n (idled s) (given s) :=
  given_rel (.refl n) .trans fun c mem v => .giveOutcome (unasked_iff.mp unasked c mem) v

theorem aloof_resumed (unasked : Unasked s (.sets n)) : Aloof n (forgotten s) s.fieldRestart :=
  resumed_rel (.refl n) .trans fun c mem v => .resume (unasked_iff.mp unasked c mem) v

theorem unasked_visit (unasked : Unasked s (.sets n)) (v : State) : markVisit (endedByRestart s) n v = v.clearMark n := by
  refine if_neg fun asked => ?_
  obtain ⟨c, mem, origin⟩ := restartedSet_iff.mp asked
  exact unasked_iff.mp unasked c mem origin

/-- A set whose mark is clear and of which no command is in the engine is left alone. -/
theorem set_kept (unasked : Unasked s (.sets n)) (reach : (s.setRec n).unreachable = false) : Aloof n (idled s) s.fieldRestart := by
  obtain ⟨u, before, after⟩ := unmarked_at s n
  have early := (aloof_given unasked).trans ((aloof_unlinked s n).trans before)
  have clear : (u.setRec n).unreachable = false := early.mark.trans reach
  rw [markVisit_clear clear] at after
  exact early.trans (after.trans ((aloof_forgotten s n).trans (aloof_resumed unasked)))

theorem Unserved.step (h : Unserved n v) (attached : Attached v w) (aloof : Aloof n v w) : Unserved n w :=
  ⟨fun p => by rw [connectedSet_attached attached aloof.queues.tables]; exact h.1 p, aloof.free h.2⟩

/-- The visit of a set by the walk that clears the marks, with the positions before it. -/
theorem unmarked_from (s : State) (n : SetNo) : ∃ u, Aloof n (unlinked (given s)) u ∧ Attached (unlinked (given s)) u ∧
    Aloof n (markVisit (endedByRestart s) n u) (unmarked s) := by
  have visits (k : SetNo) (other : k ≠ n) (v : State) : Aloof n v (markVisit (endedByRestart s) k v) ∧
      Attached v (markVisit (endedByRestart s) k v) := by
    refine ⟨aloof_markVisit other _ v, ?_⟩
    unfold markVisit
    split
    · exact .setMark v k false
    · exact .clearMark v k
  rw [unmarked, clearMarks_eq]
  obtain ⟨u, before, after⟩ := LinkLoss.forEach_at (R := fun v w => Aloof n v w ∧ Attached v w) (fun v => ⟨.refl n v, .refl v⟩)
    (fun h k => ⟨h.1.trans k.1, h.2.trans k.2⟩) visits (List.nodup_finRange 8) (List.mem_finRange n) (unlinked (given s))
  exact ⟨u, before.1, before.2, after.1⟩

/-- A command that waited for the mark alone is enqueued as the mark is cleared (log entry 27). -/
theorem set_waiting (unasked : Unasked s (.sets n)) (entry : s.setEntry n ≠ none) (marked : (s.setRec n).unreachable = true)
    (place : (s.setRec n).place = .free) (due : (s.setRec n).due = some code) (idle : code = .start ∨ s.inService n = false) :
    Asked n code (s.setRec n).run s.fieldRestart := by
  have start : Called n code (s.setRec n).run (idled s) :=
    ⟨rfl, place, due, entry, ⟨rfl, List.nodup_nil, nofun⟩, fun c hc => absurd hc List.not_mem_nil⟩
  obtain ⟨u, aloof, attached, after⟩ := unmarked_from s n
  have early := (aloof_given unasked).trans ((aloof_unlinked s n).trans aloof)
  have outcomes : Attached (idled s) (given s) := given_rel .refl .trans fun c _ v => .giveOutcome v c _
  have line : Attached (given s) (unlinked (given s)) := .of_same rfl rfl
  have moved : Attached (idled s) u := (outcomes.trans line).trans attached
  have dark : (u.setRec n).unreachable = true := early.mark.trans marked
  have visit : markVisit (endedByRestart s) n u = (u.setMark n false).tryEnqueueSet n := by
    rw [unasked_visit unasked]
    exact if_pos dark
  have called := (start.aloof early).setMark
  have reach := setMark_mark u n false
  have serves : code = .stop → (u.setMark n false).inService n = false := fun stop => by
    have free : s.inService n = false := idle.resolve_left (by rw [stop]; nofun)
    have unserved : Unserved n (idled s) := inService_eq_false.mp free
    obtain ⟨_, news⟩ := newsKeeps_setMark u n false
    have tables : (u.setMark n false).tables = u.tables := (Queues.setMark (P := fun _ => True) (fun _ => trivial) u n false).tables
    exact news.inService tables (Unserved.step unserved moved early).idle
  rw [visit] at after
  exact (called.asked reach serves).aloof (after.trans ((aloof_forgotten s n).trans (aloof_resumed unasked)))

/-! ### The statement -/

/-- What FIELD RESTART does at a set. -/
theorem setRestarted (s : State) (n : SetNo) : SetRestarted s s.fieldRestart n where
  start c mem origin entry run waits := by
    obtain ⟨attempt, allowed, crank, mark, run⟩ := run
    have asked := restart_asked mem origin entry (code := .start) (by rw [run]; rfl) waits nofun
    exact ⟨asked.run, asked.place, asked.due⟩
  stop c mem origin entry run waits := by
    have called : (s.setRec n).run.calledFor = some .stop := by rw [run]; rfl
    refine ⟨fun fixed free => ?_, fun fixed => ?_⟩
    · have asked := restart_asked mem origin entry called waits fun _ => forgotten_unserved fixed free
      exact ⟨asked.run.trans run, asked.place, asked.due⟩
    · have marked : restartedSet (endedByRestart s) n = true := restartedSet_iff.mpr ⟨c, mem, origin⟩
      obtain ⟨here, reach⟩ := forgotten_called marked (given_called mem origin entry called waits)
      rw [run] at here
      have fixed : Fixed n (forgotten s) := Fixed.tables (v := s) fixed (tables_restartPoints s)
      obtain ⟨back, news⟩ := resumed_back (endedByRestart s) here reach fixed (cycleNo_forgotten s) ⟨c, mem, origin⟩
      rw [← fieldRestart_eq] at back news
      exact ⟨back.run, back.place, back.due, told_of_news (news.after (pays_forgotten s))⟩
  waiting code unasked entry mark place due idle := by
    have asked := set_waiting unasked entry mark place due idle
    exact ⟨asked.run, asked.place, asked.due⟩
  kept unasked reach := by
    have waits := (set_kept unasked reach).waits
    exact ⟨waits.run, waits.place, waits.due⟩

/-- No set is marked unreachable after a FIELD RESTART (R89). -/
theorem mark_restart (s : State) (n : SetNo) : (s.fieldRestart.setRec n).unreachable = false := by
  obtain ⟨u, -, after⟩ := unmarked_at s n
  have clear : ((markVisit (endedByRestart s) n u).setRec n).unreachable = false := by
    unfold markVisit
    split
    · exact setMark_mark u n false
    · exact clearMark_mark u n
  have resumed : ((s.fieldRestart).setRec n).unreachable = ((forgotten s).setRec n).unreachable := by
    refine resumed_rel (R := fun v w => (w.setRec n).unreachable = (v.setRec n).unreachable) (fun _ => rfl) (fun h k => k.trans h)
      fun c _ v => ?_
    by_cases own : c.origin = .sets n
    · rw [own]
      exact (RunFrame.tryEnqueueSet n v).figures.2.1
    · exact (Aloof.resume own v).mark
  exact resumed.trans ((after.trans (aloof_forgotten s n)).mark.trans clear)

end

end Sys2Proof.SetRestarts
end

section
/-! SUPPORT. FIELD RESTART at a meter (R40, R108, R110, R117, R119, R120). -/

namespace Sys2Proof.MeterRestarts

open Sys2Proof Sys2Proof.Machine Sys2Proof.Stated Sys2Proof.StopAndClear Sys2Proof.Sequencing Sys2Proof.Sessions
open Sys2Proof.Restarts Sys2Proof.RestartOutcomes Sys2Proof.RestartNotices Sys2Proof.RestartedPoints Sys2Proof.Outcomes

section
variable {s t u v w : State} {m k : MeterNo} {n : SetNo} {c : Command} {x y : Session}

/-! ### The outcomes of other commands -/

/-- No other meter has a session at the set. -/
def Elsewhere (m : MeterNo) (n : SetNo) (v : State) : Prop :=
  ∀ k y, k ≠ m → (v.meter k).session = some y → y.set ≠ n

/-- What the outcomes that return to others leave of a meter, and of the set whose fuel only it delivers. -/
structure Aside (m : MeterNo) (v w : State) : Prop where
  meter : w.meter m = v.meter m
  delivered : ∀ n, Elsewhere m n v → Elsewhere m n w ∧ (w.tank n).delivered = (v.tank n).delivered

theorem Aside.of_meters (meters : w.meters = v.meters) (tanks : w.tanks = v.tanks) : Aside m v w := by
  have meter (k : MeterNo) : w.meter k = v.meter k := by rw [State.meter, meters]; rfl
  refine ⟨meter m, fun n elsewhere => ⟨fun k y other session => elsewhere k y other (meter k ▸ session), ?_⟩⟩
  rw [State.tank, tanks]
  rfl

theorem Aside.of_seqFrame (h : SeqFrame v w) : Aside m v w := .of_meters h.meters h.tanks

theorem Aside.trans (h : Aside m u v) (k : Aside m v w) : Aside m u w := by
  refine ⟨k.meter.trans h.meter, fun n elsewhere => ?_⟩
  obtain ⟨still, same⟩ := h.delivered n elsewhere
  obtain ⟨last, same'⟩ := k.delivered n still
  exact ⟨last, same'.trans same⟩

/-- The end of a session: the others' records stay, and the totals of the other sets. -/
theorem endSession_others (session : (v.meter k).session = some y) :
    (∀ j, j ≠ k → (v.endSession k { result := .restart }).meter j = v.meter j) ∧
      ∀ n, n ≠ y.set → ((v.endSession k { result := .restart }).tank n).delivered = (v.tank n).delivered := by
  refine ⟨(Deliveries.frame_endSession k v _).1.meters, fun n other => ?_⟩
  by_cases granting : y.phase = .granting
  · rw [endSession_plain session (.inl granting)]
    simp [State.tank, Fin.val_ne_of_ne other.symm]
  · rw [(sessionEnded_endSession session granting (by nofun)).tanks n other]

theorem elsewhere_read (other : k ≠ m) (meters : ∀ j, j ≠ k → w.meter j = v.meter j) (gone : (w.meter k).session = none ∨
    (w.meter k).session = (v.meter k).session) (elsewhere : Elsewhere m n v) : Elsewhere m n w := fun j y away session => by
  by_cases same : j = k
  · subst same
    rcases gone with gone | kept
    · rw [gone] at session
      cases session
    · exact elsewhere j y away (kept ▸ session)
  · exact elsewhere j y away (meters j same ▸ session)

theorem aside_freed (other : k ≠ m) (v : State) : Aside m v (meterFreed v k) := by
  have others (j : MeterNo) (away : j ≠ k) : (meterFreed v k).meter j = v.meter j := State.modMeter_other v k _ away
  exact ⟨others m other.symm, fun n elsewhere => ⟨elsewhere_read other others (.inr (by rw [meterFreed_read])) elsewhere, rfl⟩⟩

theorem aside_endSession (other : k ≠ m) (session : (v.meter k).session = some y) :
    Aside m v (v.endSession k { result := .restart }) := by
  obtain ⟨others, totals⟩ := endSession_others session
  have gone : ((v.endSession k { result := .restart }).meter k).session = none := by
    rw [(LinkLoss.endSession_gone session _).meter]
    rfl
  exact ⟨others m other.symm, fun n elsewhere => ⟨elsewhere_read other others (.inl gone) elsewhere,
    totals n (elsewhere k y other session).symm⟩⟩

theorem aside_giveOutcome (other : c.origin ≠ .fuel m) (v : State) : Aside m v (v.giveOutcome c .restart) := by
  unfold State.giveOutcome
  split
  · exact .of_meters rfl rfl
  · rw [setOutcome_restart]
    exact .of_meters rfl rfl
  next p _ => exact .of_seqFrame (.pointOutcome v p _ _)
  next k origin =>
    have away : k ≠ m := fun same => other (same ▸ origin)
    have freed := aside_freed away v
    rcases meterOutcome_restart v k c.code with ⟨y, session, -, ended⟩ | ⟨-, same⟩
    · rw [ended]
      exact freed.trans (aside_endSession away (by rw [meterFreed_read]; exact session))
    · rw [same]
      exact freed

/-! ### The outcome of the meter's own command -/

/-- A session that its own command's RESTART has ended. -/
structure Over (m : MeterNo) (w : State) : Prop where
  session : (w.meter m).session = none
  promoted : (w.meter m).promoted = false
  place : (w.meter m).place = .free
  due : (w.meter m).due = false

theorem Over.meter (h : Over m v) (same : w.meter m = v.meter m) : Over m w := by
  refine ⟨?_, ?_, ?_, ?_⟩
  · rw [same, h.session]
  · rw [same, h.promoted]
  · rw [same, h.place]
  · rw [same, h.due]

theorem giveOutcome_fuel (origin : c.origin = .fuel m) (v : State) : v.giveOutcome c .restart = v.meterOutcome m c.code .restart := by
  unfold State.giveOutcome
  rw [origin]

/-- Once it is over, no outcome changes it or its total. -/
theorem Over.give (h : Over m v) (c : Command) : Over m (v.giveOutcome c .restart) ∧
    (Elsewhere m n v → Elsewhere m n (v.giveOutcome c .restart) ∧ ((v.giveOutcome c .restart).tank n).delivered = (v.tank n).delivered) := by
  by_cases own : c.origin = .fuel m
  · have read := meterFreed_read v m
    have freed : v.giveOutcome c .restart = meterFreed v m := by
      rw [giveOutcome_fuel own]
      rcases meterOutcome_restart v m c.code with ⟨y, session, -⟩ | ⟨-, same⟩
      · rw [h.session] at session
        cases session
      · exact same
    rw [freed]
    refine ⟨⟨?_, ?_, ?_, ?_⟩, fun elsewhere => ⟨fun k y other session => elsewhere k y other ?_, rfl⟩⟩
    · rw [read]; exact h.session
    · rw [read]; exact h.promoted
    · rw [read]
    · rw [read]; exact h.due
    · rw [← session, meterFreed, State.modMeter_other v m _ other]
  · have aside := aside_giveOutcome own v
    exact ⟨h.meter aside.meter, aside.delivered n⟩

theorem Over.given (h : Over m v) (cs : List Command) : Over m (forEach cs (fun c s => s.giveOutcome c .restart) v) ∧
    (Elsewhere m n v → ((forEach cs (fun c s => s.giveOutcome c .restart) v).tank n).delivered = (v.tank n).delivered) := by
  induction cs generalizing v with
  | nil => exact ⟨h, fun _ => rfl⟩
  | cons c cs ih =>
    rw [forEach_cons]
    obtain ⟨over', totals⟩ := h.give (n := n) c
    obtain ⟨last, totals'⟩ := ih over'
    refine ⟨last, fun elsewhere => ?_⟩
    obtain ⟨still, same⟩ := totals elsewhere
    exact (totals' still).trans same

/-- A session ended RESTART, its notice among at most `i` others, and its live total in the delivered total of its set (R117). -/
structure Ended (m : MeterNo) (x : Session) (i : Nat) (v w : State) : Prop where
  gone : Over m w
  news : News i v w (endedBody m x { result := .restart })
  delivered : x.phase = .dispensing → Elsewhere m x.set v →
    (w.tank x.set).delivered = min (2 ^ 64 - 1) ((v.tank x.set).delivered + x.live)

/-- A session that still waits, with what is due of it. -/
def Waiting (m : MeterNo) (x : Session) (due : Bool) (v : State) : Prop := (v.meter m).session = some x ∧ (v.meter m).due = due

theorem ended_endSession (session : (v.meter m).session = some x) : Ended m x 1 v ((meterFreed v m).endSession m { result := .restart }) := by
  have read := meterFreed_read v m
  have session' : ((meterFreed v m).meter m).session = some x := by rw [read]; exact session
  have freeing : Pays 0 v (meterFreed v m) := .of_sets (MissedSlots.spends_modMeter m v _) fun _ => rfl
  have gone := LinkLoss.endSession_gone session' { result := .restart }
  have meter := gone.meter
  rw [read] at meter
  refine ⟨⟨?_, ?_, ?_, ?_⟩, ((news_endSession session' _).after freeing).mono (Nat.le_refl 1), fun phase _ => ?_⟩
  · rw [meter]; rfl
  · rw [meter]; rfl
  · rw [meter]; rfl
  · rw [meter]; rfl
  · have live := gone.live (by rw [phase]; nofun) (by nofun)
    have same : (meterFreed v m).tank x.set = v.tank x.set := rfl
    rw [same] at live
    exact live

theorem Ended.given {i : Nat} (h : Ended m x i v w) (still : Elsewhere m x.set v → Elsewhere m x.set w) (cs : List Command) :
    Ended m x (i + cs.length) v (forEach cs (fun c s => s.giveOutcome c .restart) w) := by
  obtain ⟨gone, totals⟩ := h.gone.given (n := x.set) cs
  exact ⟨gone, h.news.before (pays_given cs w), fun phase elsewhere => (totals (still elsewhere)).trans (h.delivered phase elsewhere)⟩

theorem Ended.after {i j : Nat} (h : Ended m x i v w) (earlier : Pays j u v)
    (totals : Elsewhere m x.set u → Elsewhere m x.set v ∧ (v.tank x.set).delivered = (u.tank x.set).delivered) :
    Ended m x (j + i) u w := by
  refine ⟨h.gone, h.news.after earlier, fun phase elsewhere => ?_⟩
  obtain ⟨still, same⟩ := totals elsewhere
  rw [← same]
  exact h.delivered phase still

/-- The RESTART of one command ends a session, or leaves it waiting. -/
theorem give_session {due : Bool} (h : Waiting m x due v) (c : Command) :
    (Ended m x 1 v (v.giveOutcome c .restart) ∧ (Elsewhere m x.set v → Elsewhere m x.set (v.giveOutcome c .restart))) ∨
      ((c.origin = .fuel m → ¬ RestartEnds x due c.code) ∧ Waiting m x due (v.giveOutcome c .restart) ∧
        (Elsewhere m x.set v → Elsewhere m x.set (v.giveOutcome c .restart) ∧
          ((v.giveOutcome c .restart).tank x.set).delivered = (v.tank x.set).delivered)) := by
  obtain ⟨session, owed⟩ := h
  by_cases own : c.origin = .fuel m
  · have read := meterFreed_read v m
    have away (k : MeterNo) (other : k ≠ m) : (meterFreed v m).meter k = v.meter k := State.modMeter_other v m _ other
    rw [giveOutcome_fuel own]
    rcases meterOutcome_restart v m c.code with ⟨y, -, -, ended⟩ | ⟨stays, same⟩
    · rw [ended]
      have session' : ((meterFreed v m).meter m).session = some x := by rw [read]; exact session
      have others := (endSession_others session').1
      exact .inl ⟨ended_endSession session, fun elsewhere k z other live =>
        elsewhere k z other (((congrArg MeterRec.session ((others k other).trans (away k other))).symm.trans live))⟩
    · rw [same]
      refine .inr ⟨fun _ => owed ▸ stays x session, ⟨by rw [read]; exact session, by rw [read]; exact owed⟩,
        fun elsewhere => ⟨fun k z other live => elsewhere k z other ?_, rfl⟩⟩
      rw [← live, away k other]
  · have aside := aside_giveOutcome own v
    refine .inr ⟨fun origin => absurd origin own, ⟨?_, ?_⟩, aside.delivered x.set⟩
    · rw [aside.meter, session]
    · rw [aside.meter, owed]

/-- All the outcomes returned: the session has ended, or no command that would end it was among them. -/
theorem given_session {due : Bool} (cs : List Command) (h : Waiting m x due v) :
    Ended m x cs.length v (forEach cs (fun c s => s.giveOutcome c .restart) v) ∨
      ((∀ c ∈ cs, c.origin = .fuel m → ¬ RestartEnds x due c.code) ∧
        Waiting m x due (forEach cs (fun c s => s.giveOutcome c .restart) v)) := by
  induction cs generalizing v with
  | nil => exact .inr ⟨nofun, h⟩
  | cons c cs ih =>
    rw [forEach_cons, List.length_cons, Nat.add_comm]
    rcases give_session h c with ⟨ended, still⟩ | ⟨stays, waits, totals⟩
    · exact .inl (ended.given still cs)
    · rcases ih waits with ended | ⟨rest, waits⟩
      · exact .inl (ended.after (pays_giveOutcome v c) totals)
      · exact .inr ⟨List.forall_mem_cons.mpr ⟨stays, rest⟩, waits⟩

/-! ### The later stages -/

/-- What they do at a meter: a REVOKE that is due is enqueued, and nothing else. -/
structure Lasting (m : MeterNo) (v w : State) : Prop where
  idle : (v.meter m).due = false → w.meter m = v.meter m
  session : (w.meter m).session = (v.meter m).session
  tanks : w.tanks = v.tanks

theorem Lasting.refl (m : MeterNo) (v : State) : Lasting m v v := ⟨fun _ => rfl, rfl, rfl⟩

theorem Lasting.trans (h : Lasting m u v) (k : Lasting m v w) : Lasting m u w :=
  ⟨fun idle => have same := h.idle idle; (k.idle (by rw [same]; exact idle)).trans same, k.session.trans h.session, k.tanks.trans h.tanks⟩

theorem Lasting.of_meters (meters : w.meters = v.meters) (tanks : w.tanks = v.tanks) : Lasting m v w := by
  have meter : w.meter m = v.meter m := by rw [State.meter, meters]; rfl
  exact ⟨fun _ => meter, congrArg MeterRec.session meter, tanks⟩

theorem tryEnqueueMeter_other (other : k ≠ m) (v : State) : (v.tryEnqueueMeter k).meter m = v.meter m := by
  rcases tryEnqueueMeter_spec v k with same | ⟨a, -, queued⟩
  · rw [same]
  · rw [queued]
    simp [State.meter, Fin.val_ne_of_ne other]

theorem tryEnqueueMeter_tanks (v : State) (k : MeterNo) : (v.tryEnqueueMeter k).tanks = v.tanks := by
  rcases tryEnqueueMeter_spec v k with same | ⟨a, -, queued⟩
  · rw [same]
  · rw [queued]

theorem resume_meters {o : Origin} (other : ∀ k, o ≠ .fuel k) (v : State) : (v.resume o).meters = v.meters ∧ (v.resume o).tanks = v.tanks := by
  cases o with
  | office tag => exact ⟨rfl, rfl⟩
  | sets n =>
    have frame := RunFrame.tryEnqueueSet n v
    exact ⟨frame.meters, frame.tanks⟩
  | changeover p =>
    have frame := SeqFrame.tryEnqueuePoint v p
    exact ⟨frame.meters, frame.tanks⟩
  | fuel k => exact absurd rfl (other k)

theorem lasting_resume (v : State) (o : Origin) : Lasting m v (v.resume o) := by
  by_cases meter : ∃ k, o = .fuel k
  · obtain ⟨k, rfl⟩ := meter
    by_cases own : k = m
    · subst own
      exact ⟨fun idle => by rw [State.resume, tryEnqueueMeter_idle idle], (tryEnqueueMeter_session v k).1, tryEnqueueMeter_tanks v k⟩
    · have same := tryEnqueueMeter_other own v
      exact ⟨fun _ => same, congrArg MeterRec.session same, tryEnqueueMeter_tanks v k⟩
  · obtain ⟨meters, tanks⟩ := resume_meters (not_exists.mp meter) v
    exact .of_meters meters tanks

theorem setMark_meters (v : State) (n : SetNo) (mark : Bool) : (v.setMark n mark).meters = v.meters ∧ (v.setMark n mark).tanks = v.tanks := by
  by_cases same : (v.setRec n).unreachable = mark
  · rw [SetLoading.setMark_same same]
    exact ⟨rfl, rfl⟩
  · have written : (SetLoading.marked v n mark).meters = v.meters ∧ (SetLoading.marked v n mark).tanks = v.tanks := ⟨rfl, rfl⟩
    rw [SetLoading.setMark_changed same]
    generalize SetLoading.marked v n mark = w at written ⊢
    have frame := SeqFrame.tellSequencers w n
    exact ⟨frame.meters.trans written.1, frame.tanks.trans written.2⟩

theorem clearMark_meters (v : State) (n : SetNo) : (v.clearMark n).meters = v.meters ∧ (v.clearMark n).tanks = v.tanks := by
  unfold State.clearMark
  split
  · have frame := RunFrame.tryEnqueueSet n (v.setMark n false)
    obtain ⟨meters, tanks⟩ := setMark_meters v n false
    exact ⟨frame.meters.trans meters, frame.tanks.trans tanks⟩
  · exact ⟨rfl, rfl⟩

/-- What the later stages but the last keep, where a relation holds of every step that leaves the meters alone. -/
theorem late_meters {R : State → State → Prop} (refl : ∀ s, R s s) (trans : ∀ {a b c}, R a b → R b c → R a c)
    (same : ∀ v w, w.meters = v.meters → w.tanks = v.tanks → R v w)
    (resume : ∀ c ∈ endedByRestart s, ∀ v, R v (v.resume c.origin)) : R (given s) s.fieldRestart :=
  late_rel refl trans (fun v w line => by obtain ⟨engine, rfl, -⟩ := line; exact same _ _ rfl rfl)
    (fun n v => same _ _ (setMark_meters v n false).1 (setMark_meters v n false).2)
    (fun n v => same _ _ (clearMark_meters v n).1 (clearMark_meters v n).2)
    (fun p v => same _ _ (SeqFrame.forgetPosition v p _).meters (SeqFrame.forgetPosition v p _).tanks) resume

theorem lasting_restart (s : State) (m : MeterNo) : Lasting m (given s) s.fieldRestart :=
  late_meters (.refl m) .trans (fun _ _ => .of_meters) fun c _ v => lasting_resume v c.origin

/-! ### The statement -/

/-- The end of a session by the RESTART of its command. -/
theorem session_restarted (session : (s.meter m).session = some x)
    (asked : ∃ c ∈ endedByRestart s, c.origin = .fuel m ∧ RestartEnds x (s.meter m).due c.code) :
    Over m s.fieldRestart ∧ ToldAtRestart s s.fieldRestart (endedBody m x { result := .restart }) ∧
      (x.phase = .dispensing → Elsewhere m x.set s → (s.fieldRestart.tank x.set).delivered =
        min (2 ^ 64 - 1) ((s.tank x.set).delivered + x.live)) := by
  have waits : Waiting m x (s.meter m).due (idled s) := ⟨session, rfl⟩
  have lasting := lasting_restart s m
  rcases given_session (endedByRestart s) waits with ended | ⟨stays, -⟩
  · have meter := lasting.idle ended.gone.due
    have total : s.fieldRestart.tank x.set = (given s).tank x.set := by rw [State.tank, lasting.tanks]; rfl
    refine ⟨ended.gone.meter meter, told_of_news (ended.news.before (pays_late s)), fun phase elsewhere => ?_⟩
    rw [total]
    exact ended.delivered phase elsewhere
  · obtain ⟨c, mem, origin, ends⟩ := asked
    exact absurd ends (stays c mem origin)

/-- A session that no outcome ends goes on. -/
theorem session_kept (session : (s.meter m).session = some x) (stays : ∀ code due, ¬ RestartEnds x due code) :
    (s.fieldRestart.meter m).session = some x := by
  have held : Waiting m x (s.meter m).due (given s) := by
    refine forEach_keeps (Waiting m x (s.meter m).due) (fun c _ v waits => ?_) (⟨session, rfl⟩ : Waiting m x _ (idled s))
    obtain ⟨session, owed⟩ := waits
    by_cases own : c.origin = .fuel m
    · have read := meterFreed_read v m
      rw [giveOutcome_fuel own]
      rcases meterOutcome_restart v m c.code with ⟨y, here, ends, -⟩ | ⟨-, same⟩
      · have same : y = x := Option.some.inj (here.symm.trans session)
        exact absurd (same ▸ ends) (stays _ _)
      · rw [same]
        exact ⟨by rw [read]; exact session, by rw [read]; exact owed⟩
    · have aside := aside_giveOutcome own v
      exact ⟨by rw [aside.meter]; exact session, by rw [aside.meter]; exact owed⟩
  exact (lasting_restart s m).session.trans held.1

/-- A meter without a session stays so. -/
theorem idle_kept (idle : (s.meter m).session = none) : (s.fieldRestart.meter m).session = none := by
  have held : ((given s).meter m).session = none := by
    refine forEach_keeps (fun v => (v.meter m).session = none) (fun c _ v idle => ?_) (show ((idled s).meter m).session = none from idle)
    by_cases own : c.origin = .fuel m
    · rw [giveOutcome_fuel own]
      rcases meterOutcome_restart v m c.code with ⟨y, here, -⟩ | ⟨-, same⟩
      · rw [idle] at here
        cases here
      · rw [same, meterFreed_read]
        exact idle
    · rw [(aside_giveOutcome own v).meter]
      exact idle
  exact (lasting_restart s m).session.trans held

/-- A meter of which no command is in the engine is left alone. -/
theorem meter_kept (unasked : Unasked s (.fuel m)) : s.fieldRestart.meter m = s.meter m := by
  have other := SetRestarts.unasked_iff.mp unasked
  have outcomes : (given s).meter m = (idled s).meter m :=
    given_rel (R := fun v w => w.meter m = v.meter m) (fun _ => rfl) (fun h k => k.trans h) fun c mem v =>
      (aside_giveOutcome (other c mem) v).meter
  have later : s.fieldRestart.meter m = (given s).meter m :=
    late_meters (R := fun v w => w.meter m = v.meter m) (fun _ => rfl) (fun h k => k.trans h)
      (fun v w meters _ => by rw [State.meter, meters]; rfl) fun c mem v => by
        have away := other c mem
        by_cases meter : ∃ k, c.origin = .fuel k
        · obtain ⟨k, origin⟩ := meter
          rw [origin]
          exact tryEnqueueMeter_other (fun same : k = m => away (same ▸ origin)) v
        · rw [State.meter, (resume_meters (not_exists.mp meter) v).1]
          rfl
  exact later.trans outcomes

/-- What FIELD RESTART does at a session. -/
theorem meterRestarted (session : (s.meter m).session = some x) : MeterRestarted s s.fieldRestart m x where
  permit c mem origin code phase := by
    obtain ⟨gone, told, -⟩ := session_restarted session ⟨c, mem, origin, .inl ⟨phase, code⟩⟩
    exact ⟨gone.session, gone.promoted, gone.place, gone.due, told⟩
  revoke c mem origin code phase cancel due := by
    obtain ⟨gone, told, delivered⟩ := session_restarted session ⟨c, mem, origin, .inr ⟨phase, code, cancel, due⟩⟩
    exact ⟨gone.session, gone.promoted, gone.place, delivered phase, told⟩
  ticketing wait buffer phase := by
    refine session_kept session fun code due ends => ?_
    rw [RestartEnds, phase] at ends
    rcases ends with ⟨wrong, -⟩ | ⟨wrong, -⟩
    · cases wrong
    · cases wrong
  kept unasked := meter_kept unasked

end

end Sys2Proof.MeterRestarts
end

section
/-! SUPPORT. What FIELD RESTART leaves of the rest of the state (R40), and its statement. -/

namespace Sys2Proof.FieldRestarts

open Sys2Proof Sys2Proof.Machine Sys2Proof.Stated Sys2Proof.ClearFlags Sys2Proof.OwnerSteps Sys2Proof.BodySteps Sys2Proof.Hearing
open Sys2Proof.Restarts Sys2Proof.RestartNotices Sys2Proof.RestartFates Sys2Proof.RestartedPoints

section
variable {s : State} {n : SetNo} {p : PointNo} {a : Addr} {c : Command} {q : Outstanding} {tag : Byte}

/-! ### The owners' steps between those of the engine -/

theorem owner_given (s : State) : OwnerStep (idled s) (given s) := given_rel .refl .trans fun c _ v => .giveOutcome v c _

theorem owner_unmarked (s : State) : OwnerStep (unlinked (given s)) (unmarked s) :=
  unmarked_rel .refl .trans (fun n v => .setMark v n false) fun n v => .clearMark v n

theorem owner_late (s : State) : OwnerStep (repolled s) s.fieldRestart := by
  have points : OwnerStep (repolled s) (forgotten s) := forgotten_rel .refl .trans fun p v =>
    .of_pointStep (.forgetPosition v p _) (LinkLoss.PointStep.forgetPosition p v _)
  exact points.trans (resumed_rel .refl .trans fun c _ v => .resume v c.origin)

/-- What no step touches, the links and the queue of the engine apart. -/
structure RestKept (s t : State) : Prop where
  feeders : t.feeders = s.feeders
  tables : t.tables = s.tables
  site : t.site = s.site
  billing : t.billing = s.billing
  tariff : t.tariff = s.tariff
  schedule : t.schedule = s.schedule
  tickets : t.tickets = s.tickets
  limitFlags : t.limitFlags = s.limitFlags
  unattributed : t.unattributed = s.unattributed

theorem RestKept.of_owner {v w : State} (h : OwnerStep v w) : RestKept v w :=
  ⟨h.feeders, h.tables, h.site, h.billing, h.tariff, h.schedule, h.tickets, h.limitFlags, h.unattributed⟩

theorem RestKept.trans {u v w : State} (h : RestKept u v) (k : RestKept v w) : RestKept u w :=
  ⟨k.feeders.trans h.feeders, k.tables.trans h.tables, k.site.trans h.site, k.billing.trans h.billing, k.tariff.trans h.tariff,
    k.schedule.trans h.schedule, k.tickets.trans h.tickets, k.limitFlags.trans h.limitFlags, k.unattributed.trans h.unattributed⟩

theorem rest_restart (s : State) : RestKept s s.fieldRestart := by
  have start : RestKept s (idled s) := ⟨rfl, rfl, rfl, rfl, rfl, rfl, rfl, rfl, rfl⟩
  have line : RestKept (given s) (unlinked (given s)) := ⟨rfl, rfl, rfl, rfl, rfl, rfl, rfl, rfl, rfl⟩
  have pointer : RestKept (unmarked s) (repolled s) := ⟨rfl, rfl, rfl, rfl, rfl, rfl, rfl, rfl, rfl⟩
  exact ((((start.trans (.of_owner (owner_given s))).trans line).trans (.of_owner (owner_unmarked s))).trans pointer).trans
    (.of_owner (owner_late s))

/-- The engine but for its queue. -/
theorem engine_restart (s : State) : { s.fieldRestart.engine with queue := [] } =
    { s.engine with
      slots := [], slotsEnded := 0, header := none, fde := false, outstanding := none, queue := [], acks := Vector.replicate 2 none
      lastAcked := none, links := absentLinks (given s), pollPointer := 0 } := by
  have emptied {v w : State} (h : OwnerStep v w) : { w.engine with queue := [] } = { v.engine with queue := [] } :=
    (congrArg (fun e : Engine => { e with queue := [] }) h.engine :)
  have late := emptied (owner_late s)
  have marks : { (repolled s).engine with queue := [] } = { (unlinked (given s)).engine with queue := [], pollPointer := 0 } :=
    (congrArg (fun e : Engine => { e with pollPointer := 0 }) (emptied (owner_unmarked s)) :)
  have outcomes : { (unlinked (given s)).engine with queue := [], pollPointer := 0 } = { (idled s).engine with
      acks := Vector.replicate 2 none, lastAcked := none, links := absentLinks (given s), pollPointer := 0, queue := [] } :=
    (congrArg (fun e : Engine => { e with
      acks := Vector.replicate 2 none, lastAcked := none, links := absentLinks (given s), pollPointer := 0 })
      (emptied (owner_given s)) :)
  exact late.trans (marks.trans outcomes)

theorem link_restart (s : State) (a : Addr) : s.fieldRestart.link a =
    if s.enabledUnit a then { s.link a with state := some .absent, misses := 0 } else s.link a := by
  have links : s.fieldRestart.engine.links = absentLinks (given s) := (congrArg Engine.links (engine_restart s) :)
  have given_link : (given s).link a = s.link a := UnitLoading.link_of_ownerStep (owner_given s) a
  have enabled : (given s).enabledUnit a = s.enabledUnit a := by
    unfold State.enabledUnit State.unitEntry
    rw [(owner_given s).tables]
    rfl
  rw [State.link, links, ← enabled, ← given_link]
  exact unlinked_link (given s) a

/-! ### The notices of the office -/

theorem works_given (cs : List Command) (v : State) : Works v (forEach cs (fun c s => s.giveOutcome c .restart) v) :=
  .forEach (fun c v => (BodyStep.giveOutcome v c _).works) v

theorem works_late (s : State) : Works (given s) s.fieldRestart :=
  late_rel .refl .trans (fun v w line => by obtain ⟨engine, rfl, -⟩ := line; exact .quiet rfl fun _ => rfl)
    (fun n v => works_setMark v n false) (fun n v => works_clearMark v n)
    (fun p v => .point (LinkLoss.PointStep.forgetPosition p v _)) fun c _ v => (BodyStep.resume v c.origin).works

/-- The first notice raised is that of the command outstanding. -/
theorem told_outstanding (outstanding : s.engine.outstanding = some q) (origin : q.command.origin = .office tag) :
    Told s s.fieldRestart (.commandResult tag q.command.target q.command.code .restart s.engine.cycleNo) := by
  have raised : (idled s).giveOutcome q.command .restart =
      (idled s).raise (.commandResult tag q.command.target q.command.code .restart s.engine.cycleNo) := by
    unfold State.giveOutcome
    rw [origin]
    rfl
  have first : given s = forEach s.engine.queue (fun c s => s.giveOutcome c .restart) ((idled s).giveOutcome q.command .restart) := by
    have commands : endedByRestart s = q.command :: s.engine.queue := by
      unfold endedByRestart
      rw [outstanding]
      rfl
    rw [given, commands, forEach_cons]
  rw [raised] at first
  exact told_first (u := idled s) rfl ((first ▸ works_given _ _ : Works _ (given s)).trans (works_late s))

/-- Each command of the office has its notice among those of the restart. -/
theorem told_office (mem : c ∈ endedByRestart s) (origin : c.origin = .office tag) :
    ToldAtRestart s s.fieldRestart (.commandResult tag c.target c.code .restart s.engine.cycleNo) := by
  obtain ⟨before, after, split⟩ := List.append_of_mem mem
  have earlier := pays_given before (idled s)
  have number : (forEach before (fun c s => s.giveOutcome c .restart) (idled s)).engine.cycleNo = s.engine.cycleNo :=
    forEach_rel (R := fun v w => w.engine.cycleNo = v.engine.cycleNo) (fun _ => rfl) (fun h k => k.trans h)
      (fun c _ v => RestartPoints.cycleNo_giveOutcome v c) (idled s)
  have outcomes : given s = forEach after (fun c s => s.giveOutcome c .restart)
      ((forEach before (fun c s => s.giveOutcome c .restart) (idled s)).giveOutcome c .restart) := by
    rw [given, split, forEach_append, forEach_cons]
  have count : (endedByRestart s).length = before.length + 1 + after.length := by
    rw [split, List.length_append, List.length_cons]
    omega
  have late := pays_late s
  rw [outcomes] at late
  have news := (((news_office origin _).before (pays_given after _)).after earlier).before late
  rw [number] at news
  exact told_of_news (news.mono (by omega))

end

/-- Settles O38: the commands ended RESTART, each by its origin, and the view of the field line re-initialised in the order of R40. -/
theorem fieldRestart : Obligations.FieldRestart := by
  intro tag s calm
  have run : exec (.fieldRestart tag) s = .next (Stated.answered s.fieldRestart tag 8 ⟨.ok, .none⟩) :=
    exec_request_calm calm rfl rfl
  have engine := engine_restart s
  have links := link_restart s
  have rest := rest_restart s
  have samples : Keeping.SamplesKept s s.fieldRestart := Keeping.Keeps.fieldRestart (x := .limits) (s := s) (by nofun)
  have marks := SetRestarts.mark_restart s
  have point := fun p => switched_point (s := s) (p := p)
  have fixed := fun p => fixed_position (s := s) (p := p)
  have queued := fun c => queued_internal (s := s) (c := c)
  have first := fun q o => told_outstanding (s := s) (q := q) (tag := o)
  have office := fun c o => told_office (s := s) (c := c) (tag := o)
  have set := SetRestarts.setRestarted s
  have sequence := fun p q => pointRestarted (s := s) (p := p) (q := q)
  have session := fun m x => MeterRestarts.meterRestarted (s := s) (m := m) (x := x)
  have idle := fun m => MeterRestarts.idle_kept (s := s) (m := m)
  generalize s.fieldRestart = t at *
  refine ⟨_, run, rfl, (congrArg Engine.outstanding engine :), (congrArg Engine.slots engine :), (congrArg Engine.pollPointer engine :),
    fun m => ?_, (congrArg Engine.running engine :), (congrArg Engine.cycleNo engine :), fun a enabled => ?_, fun a disabled => ?_,
    fun n => ⟨marks n, samples.baseline n⟩, point, fixed, queued, first, fun c mem o => office c o mem, fun n => ?_,
    fun p q loaded live waits => ?_, fun m x here => ?_, idle, rest.feeders, rest.tables, rest.site, rest.billing, rest.tariff, rest.schedule,
    rest.tickets, rest.limitFlags, rest.unattributed⟩
  · have acks : t.engine.acks = Vector.replicate 2 none := (congrArg Engine.acks engine :)
    show t.engine.acks[m] = none
    rw [acks]
    exact Vector.getElem_replicate _
  · exact (links a).trans (if_pos enabled)
  · exact (links a).trans (if_neg (by rw [disabled]; nofun))
  · obtain ⟨start, stop, waiting, kept⟩ := set n
    exact ⟨start, stop, waiting, kept⟩
  · obtain ⟨last, blocked, command, released, told⟩ := sequence p q loaded live waits
    exact ⟨last, blocked, command, released, told⟩
  · obtain ⟨permit, revoke, ticketing, kept⟩ := session m x here
    exact ⟨permit, revoke, ticketing, kept⟩

end Sys2Proof.FieldRestarts
end

section
/-! SUPPORT. A cycle start of a cycle whose slots have all ended (R18), and a window check there that is not as stated (R78, R79, R136, R138). -/

namespace Sys2Proof.CycleStarts

open Sys2Proof Sys2Proof.Machine Sys2Proof.Stated

/-- A cycle start has nothing to settle and no slot to end where the cycle is done. -/
theorem exec_cycleDone {s : State} (done : CycleDone s) (last : Bool) (deferred : List TimedEvent) :
    exec (.cycleStart last deferred) s =
      .next ((s.bringTo s.engine.cycleLen).cycleStart (some s.engine.cycleLen) last deferred).startTx := by
  obtain ⟨running, ended, settled⟩ := done
  have openSlots : s.engine.openSlots = 0 := Nat.sub_eq_zero_of_le ended
  have next : s.nextCycle last deferred = (s.bringTo s.engine.cycleLen).cycleStart (some s.engine.cycleLen) last deferred := by
    unfold State.nextCycle
    rw [if_pos running, openSlots]
    rfl
  show Host.Outcome.next (s.settle.nextCycle last deferred).startTx = _
  rw [State.settle_nil settled, next]

/-! ### A set with STOP due that no cycle start is to lead to ONLINE

A set in STOPPED can have STOP due in a state that `CycleDone` admits. It is the connected source of a FIXED point, so that the due commands of
the cycle start return it to ONLINE, as R79 has it, before the sequencer's timers make the dead check; that check then finds an original source
that can be restored, and the sequence does not end DARK. -/

/-- A point that set 1 supplies. -/
def fixedPoint : PointEntry := ⟨.fixed 0, 20, 30, 600, 50, false, false, false⟩

/-- A feeder at that point. -/
def fedFeeder : FeederEntry := ⟨2, 1, 0, 0, .above, 0, 1600⟩

/-- A current above the dead threshold, sampled after the open cycle. -/
def laterSample : Sample := ⟨0, 60, 0, false, false, 1⟩

/-- A sequence in DEAD with an open window, from set 1 to set 2. -/
def windowed : Sequence :=
  { phase := .dead, targetSide := .b, targetSet := 1, originalPos := .a, originalSet := some 0, cause := .office
    reservedLoad := 0, verification := none, openCycle := some 0, abort := none, recovery := none, counter := .window 2 }

/-- Set 1 STOPPED with STOP due, set 2 ONLINE, and the window of point 1 open. -/
def stopOwed : State :=
  let s := (State.reset.putPointEntry 0 (some fixedPoint)).putFeederEntry 0 (some fedFeeder)
  let s := s.modPoint 0 fun r => { r with seq := some windowed }
  let s := s.modFeeder 0 fun r => { r with state := .live, latest := some laterSample }
  let s := (s.modSet 0 fun r => { r with run := .stopped, due := some .stop }).modSet 1 fun r => { r with run := .online }
  { s with engine := { s.engine with running := true } }

theorem done_stopOwed : CycleDone stopOwed := ⟨rfl, Nat.le_refl 0, rfl⟩

theorem liveNext_stopOwed : LiveNext stopOwed 0 0 := ⟨⟨fedFeeder, rfl, rfl⟩, rfl, fun _ absent => by cases absent⟩

theorem counting_stopOwed : Counting stopOwed windowed 0 laterSample := ⟨rfl, 0, rfl, by decide⟩

/-- Set 1 is back ONLINE when the dead check is made: the sequence goes on, to recover to it. -/
theorem recovers_stopOwed : (((stopOwed.bringTo stopOwed.engine.cycleLen).cycleStart (some stopOwed.engine.cycleLen) false
    []).startTx.pointRec 0).seq.isSome = true := by
  decide +kernel

/-- Refutes O14: its window check counts a STOPPED original source among those that no cycle start leads to ONLINE, whatever is due of it. -/
theorem not_cycleStartCounts : ¬ Obligations.CycleStartCounts := by
  intro ⟨_, _, counts⟩
  obtain ⟨t, run, -, -, window, -⟩ := counts false [] stopOwed done_stopOwed
  have checked : WindowChecked stopOwed t 0 fixedPoint windowed 1 :=
    window 0 fixedPoint windowed 0 rfl rfl rfl rfl rfl nofun ⟨nofun, nofun⟩ ⟨rfl, rfl⟩ rfl nofun
  obtain ⟨gone, -⟩ := checked.dark ⟨0, laterSample, liveNext_stopOwed, counting_stopOwed, by decide⟩
    (.inr (.inr (.inr ⟨0, rfl, .inr (.inl rfl)⟩))) rfl
  have recovers := recovers_stopOwed
  rw [exec_cycleDone done_stopOwed] at run
  generalize ((stopOwed.bringTo stopOwed.engine.cycleLen).cycleStart (some stopOwed.engine.cycleLen) false []).startTx = v at run recovers
  cases run
  rw [gone] at recovers
  cases recovers

end Sys2Proof.CycleStarts
end

section
/-! SUPPORT. The slot list and the header that a cycle opens with (R19 to R24). -/

namespace Sys2Proof.SlotLists

open Sys2Proof Sys2Proof.Machine Sys2Proof.Stated

section
variable {s t v : State} {a : Addr} {m : MeterNo} {reply : Option Addr} {command : Option Command}

/-! ### The passes (R20, R21) -/

/-- Every slot of a cycle, in order. -/
def slotList (v : State) (reply : Option Addr) : List Addr := v.firstPasses reply ++ v.roundPass (v.firstPasses reply)

theorem roundOrder_nodup (pointer : Addr) : (roundOrder pointer).Nodup := by
  have units : allUnits.Nodup := List.nodup_finRange 63
  refine (units.filter _).append (units.filter _) fun a above below => ?_
  have up : pointer ≤ a := of_decide_eq_true (List.mem_filter.mp above).2
  have down : a < pointer := of_decide_eq_true (List.mem_filter.mp below).2
  exact absurd down (not_lt.mpr up)

theorem firstPasses_nodup (v : State) (reply : Option Addr) : (v.firstPasses reply).Nodup := by
  refine List.Nodup.sublist (List.take_sublist _ _) ?_
  refine List.Nodup.append ?_ ((List.nodup_finRange 63).filter _) fun a here there => ?_
  · cases reply with
    | none => exact List.nodup_nil
    | some a => exact List.nodup_singleton a
  · have same : reply = some a := Option.mem_toList.mp here
    have other := (List.mem_filter.mp there).2
    rw [same] at other
    simp at other

theorem mem_firstPasses (h : a ∈ v.firstPasses reply) : reply = some a ∨ v.everyUnit a = true := by
  rcases List.mem_append.mp (List.mem_of_mem_take h) with here | there
  · exact .inl (Option.mem_toList.mp here)
  · exact .inr ((Bool.and_eq_true ..).mp (List.mem_filter.mp there).2).1

theorem mem_roundPass {taken : List Addr} (h : a ∈ v.roundPass taken) : v.roundUnit a = true ∧ a ∉ taken := by
  obtain ⟨unit, fresh⟩ := (Bool.and_eq_true ..).mp (List.mem_filter.mp (List.mem_of_mem_take h)).2
  refine ⟨unit, fun mem => ?_⟩
  rw [List.contains_iff_mem.mpr mem] at fresh
  cases fresh

theorem firstPasses_length (v : State) (reply : Option Addr) : (v.firstPasses reply).length ≤ 16 := by
  rw [State.firstPasses, List.length_take]
  exact Nat.min_le_left _ _

theorem slotList_length (v : State) (reply : Option Addr) : (slotList v reply).length ≤ 16 := by
  have first := firstPasses_length v reply
  have round : (v.roundPass (v.firstPasses reply)).length ≤ 16 - (v.firstPasses reply).length := by
    rw [State.roundPass, List.length_take]
    exact Nat.min_le_left _ _
  rw [slotList, List.length_append]
  omega

theorem slotList_nodup (v : State) (reply : Option Addr) : (slotList v reply).Nodup :=
  (firstPasses_nodup v reply).append ((roundOrder_nodup _).filter _ |>.sublist (List.take_sublist _ _))
    fun _ first round => (mem_roundPass round).2 first

theorem mem_slotList (h : a ∈ slotList v reply) : v.enabledUnit a = true ∨ reply = some a := by
  rcases List.mem_append.mp h with first | round
  · rcases mem_firstPasses first with same | every
    · exact .inr same
    · exact .inl ((Bool.and_eq_true ..).mp every).1
  · exact .inl ((Bool.and_eq_true ..).mp (mem_roundPass round).1).1

/-! ### The slot budget (R3, R20) -/

/-- An enabled unit of class EVERY. -/
def everyClass (v : State) (a : Addr) : Bool := (v.unitEntry a).any fun e => e.enabled && e.pollClass = .every

/-- At most two units are of meters held promoted. -/
theorem promoted_few (v : State) : (allUnits.filter v.promotedUnit).length ≤ 2 := by
  have within : (allUnits.filter v.promotedUnit) ⊆ allMeters.filterMap v.meterUnit := fun a mem => by
    have promoted := (List.mem_filter.mp mem).2
    obtain ⟨m, -, held⟩ := List.any_eq_true.mp promoted
    exact List.mem_filterMap.mpr ⟨m, List.mem_finRange m, of_decide_eq_true ((Bool.and_eq_true ..).mp held).2⟩
  exact (((List.nodup_finRange 63).filter _).subperm within).length_le.trans (List.length_filterMap_le _ _)

theorem everyUnit_cases (h : v.everyUnit a = true) : everyClass v a = true ∨ v.promotedUnit a = true := by
  obtain ⟨enabled, passes⟩ := (Bool.and_eq_true ..).mp h
  rcases (Bool.or_eq_true ..).mp passes with every | promoted
  · refine .inl ?_
    unfold State.enabledUnit at enabled
    unfold everyClass
    cases entry : v.unitEntry a with
    | none => rw [entry] at enabled; cases enabled
    | some e =>
      rw [entry] at enabled every
      exact (Bool.and_eq_true ..).mpr ⟨enabled, every⟩
  · exact .inr promoted

/-- Under the slot budget the EVERY pass gives each of its units a slot beside the reply slot. -/
theorem every_fits (fits : v.tables.slotsFit = true) (reply : Option Addr) :
    (reply.toList ++ allUnits.filter fun a => v.everyUnit a && reply ≠ some a).length ≤ 16 := by
  have classes : (allUnits.filter (everyClass v)).length ≤ 13 := of_decide_eq_true ((Bool.and_eq_true ..).mp fits).2
  have within : (allUnits.filter fun a => v.everyUnit a && reply ≠ some a) ⊆
      allUnits.filter (everyClass v) ++ allUnits.filter v.promotedUnit := fun a mem => by
    obtain ⟨here, passes⟩ := List.mem_filter.mp mem
    rcases everyUnit_cases ((Bool.and_eq_true ..).mp passes).1 with every | promoted
    · exact List.mem_append_left _ (List.mem_filter.mpr ⟨here, every⟩)
    · exact List.mem_append_right _ (List.mem_filter.mpr ⟨here, promoted⟩)
  have units : allUnits.Nodup := List.nodup_finRange 63
  have most := ((units.filter fun a => v.everyUnit a && reply ≠ some a).subperm within).length_le
  have few := promoted_few v
  have one : reply.toList.length ≤ 1 := by cases reply <;> simp
  rw [List.length_append] at most ⊢
  omega

theorem every_mem_slotList {e : UnitEntry} (fits : v.tables.slotsFit = true) (entry : v.unitEntry a = some e) (enabled : e.enabled = true)
    (every : e.pollClass = .every) (reply : Option Addr) : a ∈ slotList v reply := by
  have passes : v.everyUnit a = true := by
    simp [State.everyUnit, State.enabledUnit, entry, enabled, every]
  refine List.mem_append_left _ ?_
  rw [State.firstPasses, List.take_of_length_le (every_fits fits reply)]
  by_cases own : reply = some a
  · exact List.mem_append_left _ (Option.mem_toList.mpr own)
  · exact List.mem_append_right _ (List.mem_filter.mpr ⟨List.mem_finRange a, by simp [passes, own]⟩)

/-! ### The engine once its cycle is open (R22 to R24) -/

/-- The engine before its header is sent. -/
def listed (v : State) (reply : Option Addr) : Engine :=
  { v.engine with
    slots := slotList v reply, slotsEnded := 0, header := none, fde := false
    pollPointer := pointerAfter v.engine.pollPointer (v.roundPass (v.firstPasses reply)) }

theorem openCycle_eq (v : State) (reply : Option Addr) (command : Option Command) : v.openCycle reply command =
    { v with engine := if (slotList v reply).isEmpty then listed v reply else (listed v reply).sendHeader (slotList v reply) command } := rfl

/-- What sending the header leaves. -/
structure HeaderSent (e f : Engine) (slots : List Addr) (command : Option Command) : Prop where
  header : f.header = some { cycle := e.cycleNo, slots, command, ack := e.ackChoice.bind fun m => e.acks[m] }
  fde : f.fde = true
  acks : f.acks = match e.ackChoice with
    | some m => e.acks.set m none
    | none => e.acks
  lastAcked : f.lastAcked = e.ackChoice.or e.lastAcked
  rest : { f with header := e.header, fde := e.fde, acks := e.acks, lastAcked := e.lastAcked } = e

theorem headerSent (e : Engine) (slots : List Addr) (command : Option Command) : HeaderSent e (e.sendHeader slots command) slots command := by
  unfold Engine.sendHeader
  dsimp only
  split
  next choice => exact ⟨by rw [choice], rfl, by rw [choice], by rw [choice]; rfl, rfl⟩
  next m choice => exact ⟨by rw [choice], rfl, by rw [choice], by rw [choice]; rfl, rfl⟩

/-- The engine of an open cycle. -/
structure CycleOpened (v t : State) (reply : Option Addr) (command : Option Command) : Prop where
  slots : t.engine.slots = slotList v reply
  pointer : t.engine.pollPointer = pointerAfter v.engine.pollPointer (v.roundPass (v.firstPasses reply))
  ended : t.engine.slotsEnded = 0
  outstanding : t.engine.outstanding = v.engine.outstanding
  cycleNo : t.engine.cycleNo = v.engine.cycleNo
  empty : t.engine.slots = [] → t.engine.header = none ∧ t.engine.fde = false
  sent : t.engine.slots ≠ [] → t.engine.fde = true ∧ t.engine.header =
    some { cycle := v.engine.cycleNo, slots := t.engine.slots, command, ack := v.engine.ackChoice.bind fun m => v.engine.acks[m] } ∧
    (t.engine.acks = match v.engine.ackChoice with
      | some m => v.engine.acks.set m none
      | none => v.engine.acks) ∧
    t.engine.lastAcked = v.engine.ackChoice.or v.engine.lastAcked

theorem cycleOpened (v : State) (reply : Option Addr) (command : Option Command) :
    CycleOpened v (v.openCycle reply command) reply command := by
  rw [openCycle_eq]
  by_cases none : slotList v reply = []
  · rw [if_pos (List.isEmpty_iff.mpr none)]
    exact ⟨rfl, rfl, rfl, rfl, rfl, fun _ => ⟨rfl, rfl⟩, fun some => absurd none some⟩
  · rw [if_neg (mt List.isEmpty_iff.mp none)]
    have sent := headerSent (listed v reply) (slotList v reply) command
    generalize (listed v reply).sendHeader (slotList v reply) command = f at sent
    obtain ⟨header, fde, acks, lastAcked, rest⟩ := sent
    have slots : f.slots = slotList v reply := (congrArg Engine.slots rest :)
    refine ⟨slots, (congrArg Engine.pollPointer rest :), (congrArg Engine.slotsEnded rest :), (congrArg Engine.outstanding rest :),
      (congrArg Engine.cycleNo rest :), fun empty => absurd (slots.symm.trans empty) none, fun _ => ⟨fde, ?_, acks, lastAcked⟩⟩
    rw [show ({ v with engine := f } : State).engine.slots = slotList v reply from slots]
    exact header

end

end Sys2Proof.SlotLists
end

section
/-! SUPPORT. The engine's work at any cycle start: its slot list, the units in it and its header (R19 to R23). -/

namespace Sys2Proof.CycleOpenings

open Sys2Proof Sys2Proof.Machine Sys2Proof.Stated Sys2Proof.Keeping Sys2Proof.SlotLists Sys2Proof.OwnerSteps

section
variable {s t u v w : State} {a : Addr} {x : Aspect}

/-! ### The command outstanding, up to the cycle start -/

/-- The tables stand, and the command outstanding is that of before, if there is one still. -/
structure Awaiting (s v : State) : Prop where
  tables : v.tables = s.tables
  outstanding : ∀ q, v.engine.outstanding = some q → ∃ y, s.engine.outstanding = some y ∧ y.command.target = q.command.target

theorem Awaiting.refl (s : State) : Awaiting s s := ⟨rfl, fun q here => ⟨q, here, rfl⟩⟩

theorem Awaiting.trans (h : Awaiting s t) (k : Awaiting t u) : Awaiting s u := by
  refine ⟨k.tables.trans h.tables, fun q here => ?_⟩
  obtain ⟨y, there, same⟩ := k.outstanding q here
  obtain ⟨z, first, same'⟩ := h.outstanding y there
  exact ⟨z, first, same'.trans same⟩

theorem tables_of_keeps (h : Keeps .fixed s t) : t.tables = s.tables :=
  congrArg Prod.fst (h : fixedPart t = fixedPart s)

theorem outstanding_of_keeps (h : Keeps .engine s t) : t.engine.outstanding = s.engine.outstanding :=
  (congrArg Engine.outstanding (h : enginePart t = enginePart s) :)

theorem Awaiting.of_same (tables : t.tables = s.tables) (outstanding : t.engine.outstanding = s.engine.outstanding) : Awaiting s t :=
  ⟨tables, fun q here => ⟨q, outstanding ▸ here, rfl⟩⟩

/-- What keeps every aspect keeps these. -/
theorem Awaiting.of_keeps (h : ∀ x, Keeps x s t) : Awaiting s t :=
  .of_same (tables_of_keeps (h .fixed)) (outstanding_of_keeps (h .engine))

theorem Awaiting.endOutstanding (s : State) (o : CommandOutcome) : Awaiting s (s.endOutstanding o) := by
  unfold State.endOutstanding
  split
  · exact .refl s
  next q _ =>
    have step := OwnerStep.returnOutcome (s.putOutstanding none) q.command o
    have gone : ((s.putOutstanding none).returnOutcome q.command o).engine.outstanding = none := (congrArg Engine.outstanding step.engine :)
    exact ⟨step.tables, fun y here => by rw [gone] at here; cases here⟩

theorem Awaiting.bringTo (s : State) (ms : Nat) : Awaiting s (s.bringTo ms) := by
  unfold State.bringTo
  split
  · exact .of_same rfl rfl
  · exact .refl s

theorem Awaiting.missBoard (s : State) (a : Addr) : Awaiting s (s.missBoard a) := .of_keeps fun _ => .missBoard s a

/-- A silent slot (R25, R36). -/
theorem Awaiting.endSilentSlot (s : State) (a : Addr) : Awaiting s (s.endSlotOf a .nothing []) := by
  have closed : Awaiting s s.closeSlot := .of_same rfl rfl
  have missed (e : UnitEntry) : Awaiting s (s.closeSlot.missSlot a e false false) :=
    closed.trans (.of_keeps fun _ => .missSlot s.closeSlot a e false false fun _ => rfl)
  unfold State.endSlotOf
  dsimp only
  split
  · exact closed.trans (.endOutstanding _ _)
  · split
    · exact closed.trans (.endOutstanding _ _)
    · exact closed.trans (.missBoard _ a)
  next e _ _ =>
    split
    · show Awaiting s (if s.engine.atReplySlot then (s.closeSlot.missSlot a e false false).endOutstanding .noAnswer
        else s.closeSlot.missSlot a e false false)
      split
      · exact (missed e).trans (.endOutstanding _ _)
      · exact missed e
    · split
      · exact closed.trans (.endOutstanding _ _)
      · split
        · exact closed.trans (.missBoard _ a)
        · exact closed

theorem Awaiting.endSilent (k : Nat) (s : State) : Awaiting s (s.endSilent k) := by
  induction k generalizing s with
  | zero => exact .refl s
  | succ k ih =>
    refine Awaiting.trans ?_ (ih _)
    unfold State.endSlot
    split
    · split
      · exact (Awaiting.bringTo s _).trans (.endSilentSlot _ _)
      · exact .refl s
    · exact .refl s

/-! ### The cycle start -/

/-- The state in which the engine and the owners start the new cycle. -/
def counted (s : State) (closing : Option Nat) : State :=
  (closing.elim s.newCycle fun len => s.newCycle.closeCycle len).tickCounters.endOrphan

theorem cycleStart_eq (s : State) (closing : Option Nat) (last : Bool) (deferred : List TimedEvent) : s.cycleStart closing last deferred =
    if last then ((counted s closing).ownersWork s.faultySets deferred).engineWork
    else (counted s closing).engineWork.ownersWork s.faultySets deferred := rfl

theorem Awaiting.endOrphan (s : State) : Awaiting s s.endOrphan := by
  unfold State.endOrphan
  split
  · exact .endOutstanding s _
  · exact .refl s

theorem Awaiting.counted (s : State) (len : Nat) : Awaiting s (counted s (some len)) := by
  have new : Awaiting s s.newCycle := .of_same rfl rfl
  have closed : Awaiting s.newCycle (s.newCycle.closeCycle len) := .of_same
    (tables_of_keeps (Keeps.closeCycle s.newCycle (by nofun) len)) (outstanding_of_keeps (Keeps.closeCycle s.newCycle (by nofun) len))
  have ticked (v : State) : Awaiting v v.tickCounters := .of_keeps fun _ => .tickCounters v
  unfold CycleOpenings.counted
  rw [Option.elim_some]
  exact (new.trans closed).trans ((ticked _).trans (.endOrphan _))

/-- The slot list and the header of a new cycle, by the tables of the state before it. -/
structure Opened (s t : State) : Prop where
  nodup : t.engine.slots.Nodup
  length : t.engine.slots.length ≤ 16
  ended : t.engine.slotsEnded = 0
  units : ∀ a ∈ t.engine.slots, s.enabledUnit a = true ∨ ∃ q, s.engine.outstanding = some q ∧ q.command.target = a
  every : s.tables.slotsFit = true → ∀ a e, s.unitEntry a = some e → e.enabled = true → e.pollClass = .every → a ∈ t.engine.slots
  empty : t.engine.slots = [] → t.engine.header = none ∧ t.engine.fde = false
  sent : t.engine.slots ≠ [] → t.engine.fde = true ∧
    ∃ h, t.engine.header = some h ∧ h.cycle = t.engine.cycleNo ∧ h.slots = t.engine.slots

theorem Opened.of_tables (h : Opened v t) (awaits : Awaiting s v) : Opened s t where
  nodup := h.nodup
  length := h.length
  ended := h.ended
  units a mem := by
    rcases h.units a mem with enabled | ⟨q, here, target⟩
    · left
      unfold State.enabledUnit State.unitEntry at enabled ⊢
      rwa [awaits.tables] at enabled
    · obtain ⟨y, there, same⟩ := awaits.outstanding q here
      exact .inr ⟨y, there, same.trans target⟩
  every fits a e entry := h.every (awaits.tables ▸ fits) a e (by
    unfold State.unitEntry at entry ⊢
    rwa [awaits.tables])
  empty := h.empty
  sent := h.sent

/-- The owners' work leaves the engine but its links and its queue. -/
theorem Opened.of_engine (h : Opened s v) (engine : Keeps .engine v t) : Opened s t := by
  have same : enginePart t = enginePart v := engine
  have slots : t.engine.slots = v.engine.slots := (congrArg Engine.slots same :)
  have header : t.engine.header = v.engine.header := (congrArg Engine.header same :)
  have fde : t.engine.fde = v.engine.fde := (congrArg Engine.fde same :)
  have cycleNo : t.engine.cycleNo = v.engine.cycleNo := (congrArg Engine.cycleNo same :)
  have ended : t.engine.slotsEnded = v.engine.slotsEnded := (congrArg Engine.slotsEnded same :)
  refine ⟨?_, ?_, ?_, ?_, ?_, ?_, ?_⟩
  · rw [slots]; exact h.nodup
  · rw [slots]; exact h.length
  · rw [ended]; exact h.ended
  · rw [slots]; exact h.units
  · rw [slots]; exact h.every
  · rw [slots, header, fde]; exact h.empty
  · rw [slots, header, fde, cycleNo]; exact h.sent

theorem opened_openCycle (tables : v.tables = s.tables) (reply : Option Addr) (command : Option Command)
    (asked : ∀ a, reply = some a → ∃ q, s.engine.outstanding = some q ∧ q.command.target = a) : Opened s (v.openCycle reply command) := by
  have opened := cycleOpened v reply command
  generalize v.openCycle reply command = t at opened
  obtain ⟨slots, -, ended, -, cycleNo, empty, sent⟩ := opened
  have unit (a : Addr) : v.unitEntry a = s.unitEntry a := by rw [State.unitEntry, tables]; rfl
  have enabled (a : Addr) : v.enabledUnit a = s.enabledUnit a := by rw [State.enabledUnit, unit]; rfl
  refine ⟨slots ▸ slotList_nodup v reply, slots ▸ slotList_length v reply, ended, fun a mem => ?_, fun fits a e entry enabled every => ?_,
    empty, fun some => ?_⟩
  · exact (mem_slotList (slots ▸ mem)).imp (fun here => enabled a ▸ here) fun same => asked a same
  · exact slots ▸ every_mem_slotList (tables ▸ fits) ((unit a).trans entry) enabled every reply
  · obtain ⟨fde, header, -⟩ := sent some
    exact ⟨fde, _, header, cycleNo.symm, rfl⟩

theorem opened_engineWork (s : State) : Opened s s.engineWork := by
  unfold State.engineWork
  split
  next q here =>
    have tables : (s.putOutstanding (some { q with replyAllocated := true })).tables = s.tables := rfl
    exact opened_openCycle tables _ _ fun a reply => ⟨q, here, Option.some.inj reply⟩
  next =>
    have tables : s.select.tables = s.tables := tables_of_keeps (Keeps.selectFrom (x := .fixed) (by nofun) 160 s)
    exact opened_openCycle tables _ _ fun a reply => by cases reply

theorem opened_cycleStart (s : State) (len : Nat) (last : Bool) (deferred : List TimedEvent) :
    Opened s (s.cycleStart (some len) last deferred) := by
  have awaits := Awaiting.counted s len
  rw [cycleStart_eq]
  generalize counted s (some len) = v at awaits
  have owners (v : State) (x : Aspect) (due : x ≠ .due) : Keeps x v (v.ownersWork s.faultySets deferred) :=
    .ownersWork v (fun h => absurd h due) _
  split
  · have working : Awaiting v (v.ownersWork s.faultySets deferred) := .of_same
      (tables_of_keeps (owners v .fixed (by nofun))) (outstanding_of_keeps (owners v .engine (by nofun)))
    exact (opened_engineWork _).of_tables (awaits.trans working)
  · exact ((opened_engineWork v).of_tables awaits).of_engine (owners _ .engine (by nofun))

/-- Whatever was left over and however many slots are open. -/
theorem opened_exec (running : s.engine.running = true) (last : Bool) (deferred : List TimedEvent) :
    ∃ t, exec (.cycleStart last deferred) s = .next t ∧ Opened s t := by
  have settled : Awaiting s s.settle := .of_same (tables_of_keeps (.settle s (by nofun))) (outstanding_of_keeps (.settle s (by nofun)))
  have still : s.settle.engine.running = true := by
    rw [(Keeps.settle s (x := .running) (by nofun) : s.settle.engine.running = s.engine.running)]
    exact running
  refine ⟨(s.settle.nextCycle last deferred).startTx, rfl, ?_⟩
  have quiet {w : State} (h : Opened s w) : Opened s w.startTx := ⟨h.nodup, h.length, h.ended, h.units, h.every, h.empty, h.sent⟩
  refine quiet ?_
  generalize s.settle = v at settled still
  unfold State.nextCycle
  rw [if_pos still]
  exact (opened_cycleStart _ _ last deferred).of_tables ((settled.trans (.endSilent _ _)).trans (.bringTo _ _))

end

end Sys2Proof.CycleOpenings
end

section
/-! SUPPORT. What the steps of a sequencer leave of its point: the position, and the place of a command that is with the engine (R123, R132). -/

namespace Sys2Proof.PlaceSteps

open Sys2Proof Sys2Proof.Machine Sys2Proof.Stated Sys2Proof.Sequencing

/-- The position of the point stays, and its command, once SENT, is SENT still. -/
structure PlaceStep (p : PointNo) (s t : State) : Prop where
  position : (t.pointRec p).position = (s.pointRec p).position
  sent : ∀ c, (s.pointRec p).place = .sent c → (t.pointRec p).place = .sent c

section
variable {p : PointNo} {n : SetNo} {s t u : State} {q : Sequence}

theorem PlaceStep.refl (p : PointNo) (s : State) : PlaceStep p s s := ⟨rfl, fun _ => id⟩

theorem PlaceStep.trans (h : PlaceStep p s t) (k : PlaceStep p t u) : PlaceStep p s u :=
  ⟨k.position.trans h.position, fun c sent => k.sent c (h.sent c sent)⟩

theorem PlaceStep.of_read {f : PointRec → PointRec} (read : t.pointRec p = f (s.pointRec p)) (position : ∀ r, (f r).position = r.position)
    (sent : ∀ r c, r.place = .sent c → (f r).place = .sent c) : PlaceStep p s t :=
  ⟨by rw [read, position], fun c here => by rw [read]; exact sent _ c here⟩

theorem PlaceStep.modPoint (p : PointNo) (s : State) {f : PointRec → PointRec} (position : ∀ r, (f r).position = r.position := by intro _; rfl)
    (sent : ∀ r c, r.place = .sent c → (f r).place = .sent c := by intro _ _; exact id) : PlaceStep p s (s.modPoint p f) :=
  .of_read (State.modPoint_read s p f) position sent

theorem PlaceStep.putSeq (p : PointNo) (s : State) (q : Sequence) : PlaceStep p s (s.putSeq p q) := .modPoint p s

theorem unqueue_sent {x : Place} {c : Code} (h : x = .sent c) : x.unqueue = .sent c := by rw [h]; rfl

theorem PlaceStep.dropPointCommand (p : PointNo) (s : State) : PlaceStep p s (s.dropPointCommand p) :=
  .of_read (f := fun r => { r with place := r.place.unqueue, due := none }) (State.modPoint_read (s.withdraw (.changeover p)) p _)
    (fun _ => rfl) fun _ _ => unqueue_sent

theorem PlaceStep.endSequence (p : PointNo) (s : State) (o : SeqOutcome) (manual : Option ManualPart) :
    PlaceStep p s (s.endSequence p o manual) := by
  cases live : (s.pointRec p).seq with
  | none =>
    rw [endSequence_idle live]
    exact .refl p s
  | some q =>
    have read : (s.endSequence p o manual).pointRec p = endedPoint (s.pointRec p) q o s.engine.cycleNo := by
      rw [endSequence_eq live]
      exact sequenceGone_point s p q o
    exact ⟨by rw [read]; rfl, fun c sent => by rw [read]; exact unqueue_sent sent⟩

theorem PlaceStep.enqueuePoint (free : (s.pointRec p).place = .free) (code : Code) : PlaceStep p s (s.enqueuePoint p code) := by
  have kept {v : State} (points : v.points = s.points) : PlaceStep p s (v.modPoint p fun r => { r with place := .queued code, due := none }) := by
    have same : v.pointRec p = s.pointRec p := by rw [State.pointRec, points]; rfl
    have read := State.modPoint_read v p fun r => { r with place := .queued code, due := none }
    refine ⟨by rw [read, same], fun c sent => ?_⟩
    rw [free] at sent
    cases sent
  unfold State.enqueuePoint
  split
  · exact .refl p s
  · split
    · exact .refl p s
    next h =>
      obtain ⟨-, -, -, rfl⟩ := State.enqueue_eq_some.mp h
      exact kept rfl

theorem PlaceStep.enqueueRecovery (free : (s.pointRec p).place = .free) (q : Sequence) (code : Code) :
    PlaceStep p s (s.enqueueRecovery p q code) := by
  unfold State.enqueueRecovery
  split
  · exact .enqueuePoint free code
  · exact .endSequence p s _ _

theorem PlaceStep.enterRecovering (p : PointNo) (s : State) (q : Sequence) (why : RecoveryReason) :
    PlaceStep p s (s.enterRecovering p q why) := by
  have entered (y : Sequence) : PlaceStep p s ((s.dropPointCommand p).putSeq p y) :=
    (PlaceStep.dropPointCommand p s).trans (.putSeq p _ y)
  unfold State.enterRecovering
  dsimp only
  split
  next code _ =>
    split
    · have due := (entered { q with phase := .recovering, recovery := some why, counter := .none }).trans
        (.modPoint p _ (f := fun r => { r with due := some code }))
      split
      next free => exact due.trans (.enqueueRecovery free _ _)
      · exact due
    · exact (entered _).trans (.endSequence p _ _ _)
  · exact (entered _).trans (.endSequence p _ _ _)

theorem PlaceStep.tryEnqueuePoint (p : PointNo) (s : State) : PlaceStep p s (s.tryEnqueuePoint p) := by
  unfold State.tryEnqueuePoint
  dsimp only
  split
  next free =>
    split
    · split
      · exact .enqueuePoint free _
      · exact .enterRecovering p s _ _
    · exact .enqueueRecovery free _ _
    all_goals exact .enqueuePoint free _
  · exact .refl p s

theorem PlaceStep.asked (p : PointNo) (s : State) (y : Sequence) (code : Code) :
    PlaceStep p s ((s.modPoint p fun r => { r with seq := some y, due := some code }).tryEnqueuePoint p) :=
  (PlaceStep.modPoint p s (f := fun r => { r with seq := some y, due := some code })).trans (.tryEnqueuePoint p _)

theorem PlaceStep.enterClosing (p : PointNo) (s : State) (q : Sequence) (v : Verification) : PlaceStep p s (s.enterClosing p q v) :=
  .asked p s _ _

theorem PlaceStep.proceed (p : PointNo) (s : State) (q : Sequence) : PlaceStep p s (s.proceed p q) := by
  unfold State.proceed
  split
  · exact .putSeq p s _
  · exact .asked p s _ _

theorem PlaceStep.seqNews (s : State) (n : SetNo) (p : PointNo) : PlaceStep p s (s.seqNews n p) := by
  have same := PlaceStep.refl p s
  have back (q : Sequence) := PlaceStep.enterRecovering p s q .targetFault
  have gone (o : SeqOutcome) := PlaceStep.endSequence p s o none
  unfold State.seqNews
  split
  · exact same
  next q _ =>
    dsimp only
    split
    · split
      · split
        · exact .proceed p s q
        · split
          · exact same
          · exact same
          · exact gone _
      · split
        · exact same
        · split
          · exact gone _
          · exact .putSeq p s _
      · split
        · exact same
        · exact back q
      · split
        · exact same
        · exact back q
      · exact same
    · split
      · split
        · exact same
        · exact gone _
      · exact same

theorem PlaceStep.applyDeadCheck (h : PlaceStep p s u) (q : Sequence) : PlaceStep p s (s.applyDeadCheck p q u) := by
  unfold State.applyDeadCheck
  split
  · exact .enterClosing p s q _
  · exact .enterClosing p s q _
  · exact .enterRecovering p s q _
  · exact h

theorem PlaceStep.windowCheck (p : PointNo) (s : State) (q : Sequence) : PlaceStep p s (s.windowCheck p q) := by
  refine .applyDeadCheck ?_ q
  split
  · exact .enterClosing p s q _
  · exact .refl p s

theorem PlaceStep.expireDead (p : PointNo) (s : State) (q : Sequence) : PlaceStep p s (s.expireDead p q) :=
  .applyDeadCheck (.putSeq p s _) q

theorem PlaceStep.expireConfirm (p : PointNo) (s : State) (q : Sequence) : PlaceStep p s (s.expireConfirm p q) := by
  unfold State.expireConfirm
  split
  · exact .endSequence p s _ _
  · exact .enterRecovering p s q _
  · exact .endSequence p s _ _
  · exact .refl p s
  · exact .refl p s

/-! ### The timers of a point -/

theorem PointStep.windowCheck (live : (s.pointRec p).seq.isSome = true) (q : Sequence) : PointStep p s (s.windowCheck p q) := by
  refine PhaseCounters.PointStep.applyDeadCheck live ?_
  split
  · exact .enterClosing live q _
  · exact .refl p s

theorem PointStep.expireDead (live : (s.pointRec p).seq.isSome = true) (q : Sequence) : PointStep p s (s.expireDead p q) :=
  PhaseCounters.PointStep.applyDeadCheck live (.putSeq p live _)

theorem PointStep.expireConfirm (live : (s.pointRec p).seq.isSome = true) (q : Sequence) : PointStep p s (s.expireConfirm p q) := by
  unfold State.expireConfirm
  split
  · exact .endSequence p s _ _
  · exact .enterRecovering p live q _
  · exact .endSequence p s _ _
  · exact .refl p s
  · exact .refl p s

/-- A step of a sequencer in flight; an idle one does nothing. -/
structure SeqStep (p : PointNo) (s t : State) : Prop where
  frame : SeqFrame s t
  step : PointStep p s t
  place : PlaceStep p s t
  idle : (s.pointRec p).seq = none → t = s

theorem SeqStep.refl (p : PointNo) (s : State) : SeqStep p s s := ⟨.refl s, .refl p s, .refl p s, fun _ => rfl⟩

theorem SeqStep.of_live (live : (s.pointRec p).seq = some q) (frame : SeqFrame s t) (step : PointStep p s t) (place : PlaceStep p s t) :
    SeqStep p s t := ⟨frame, step, place, fun idle => by rw [live] at idle; cases idle⟩

theorem SeqStep.seqNews (s : State) (n : SetNo) (p : PointNo) : SeqStep p s (s.seqNews n p) :=
  ⟨.seqNews s n p, .seqNews s n p, .seqNews s n p, fun idle => by unfold State.seqNews; rw [idle]⟩

theorem SeqStep.tryEnqueuePoint (p : PointNo) (s : State) : SeqStep p s (s.tryEnqueuePoint p) :=
  ⟨.tryEnqueuePoint s p, .tryEnqueuePoint p s, .tryEnqueuePoint p s, fun idle => by unfold State.tryEnqueuePoint; dsimp only; rw [idle]⟩

theorem SeqStep.endSequence (p : PointNo) (s : State) (o : SeqOutcome) (manual : Option ManualPart) :
    SeqStep p s (s.endSequence p o manual) :=
  ⟨.endSequence s p o manual, .endSequence p s o manual, .endSequence p s o manual, fun idle => endSequence_idle idle o manual⟩

theorem SeqStep.windowCheck (live : (s.pointRec p).seq = some q) : SeqStep p s (s.windowCheck p q) :=
  .of_live live (.windowCheck s p q) (PointStep.windowCheck (by rw [live]; rfl) q) (.windowCheck p s q)

theorem SeqStep.laterCheck (p : PointNo) (s : State) : SeqStep p s (s.laterCheck p) := by
  unfold State.laterCheck
  split
  next q live =>
    split
    · exact .windowCheck live
    · exact .refl p s
  · exact .refl p s

/-- What a timer of a point does where its counter stands at 0. -/
theorem SeqStep.whenCounter (c : PhaseCounter) {f : Sequence → State} (h : ∀ q, (s.pointRec p).seq = some q → SeqStep p s (f q)) :
    SeqStep p s (s.whenCounter p c f) := by
  unfold State.whenCounter
  split
  next q live =>
    split
    · exact h q live
    · exact .refl p s
  · exact .refl p s

theorem SeqStep.expireConfirm (live : (s.pointRec p).seq = some q) : SeqStep p s (s.expireConfirm p q) :=
  .of_live live (.expireConfirm s p q) (PointStep.expireConfirm (by rw [live]; rfl) q) (.expireConfirm p s q)

theorem SeqStep.expireDead (live : (s.pointRec p).seq = some q) : SeqStep p s (s.expireDead p q) :=
  .of_live live (.expireDead s p q) (PointStep.expireDead (by rw [live]; rfl) q) (.expireDead p s q)

end

end Sys2Proof.PlaceSteps
end

section
/-! SUPPORT. What the work of a cycle start leaves: the commands that are with the engine, the sets at rest, the positions, the books, and
the points without a sequence (R32, R76, R123, R132). -/

namespace Sys2Proof.CycleSteps

open Sys2Proof Sys2Proof.Machine Sys2Proof.Stated Sys2Proof.StopAndClear Sys2Proof.Sequencing Sys2Proof.PlaceSteps
open Sys2Proof.Queueing Sys2Proof.Sessions Sys2Proof.Ending

/-- A set ONLINE or in FAULT of which nothing is due: no cycle start changes it. -/
def Restful (r : SetRec) : Prop := r.due = none ∧ (r.run = .online ∨ ∃ why, r.run = .fault why)

/-- No command of the set is queued. -/
def NoneQueued (n : SetNo) (s : State) : Prop := ∀ c ∈ s.engine.queue, c.origin ≠ .sets n

/-- A set at rest stays so, and nothing is queued for it. -/
structure Resting (n : SetNo) (s t : State) : Prop where
  kept : Restful (s.setRec n) → (t.setRec n).run = (s.setRec n).run ∧ (t.setRec n).due = none
  place : Restful (s.setRec n) → (s.setRec n).place = .free → NoneQueued n s → (t.setRec n).place = .free ∧ NoneQueued n t

/-- The sets at rest, the positions of the points and the books of the tanks stay. -/
structure Mild (s t : State) : Prop where
  rest : ∀ n, Resting n s t
  positions : ∀ p, (t.pointRec p).position = (s.pointRec p).position
  books : ∀ n, (t.tank n).book = (s.tank n).book

/-- What is SENT stays SENT. -/
structure Placed (s t : State) : Prop where
  sets : ∀ n c, (s.setRec n).place = .sent c → (t.setRec n).place = .sent c
  points : ∀ p c, (s.pointRec p).place = .sent c → (t.pointRec p).place = .sent c
  meters : ∀ m c, (s.meter m).place = .sent c → (t.meter m).place = .sent c

/-- A point without a sequence gets none, nor is it blocked. -/
def IdleKept (s t : State) : Prop :=
  ∀ p, (s.pointRec p).seq = none → (t.pointRec p).seq = none ∧ (t.pointRec p).autoBlocked = (s.pointRec p).autoBlocked

/-- The work of a cycle start but for the requests it raises. -/
structure CycleStep (s t : State) : Prop where
  mild : Mild s t
  placed : Placed s t
  idle : IdleKept s t

section
variable {s t u v : State} {n k : SetNo} {p : PointNo} {m : MeterNo} {c : Command} {q : Sequence} {deferred : List TimedEvent}

theorem Resting.refl (n : SetNo) (s : State) : Resting n s s := ⟨fun rest => ⟨rfl, rest.1⟩, fun _ free none => ⟨free, none⟩⟩

theorem Restful.of_kept {r x : SetRec} (h : Restful r) (run : x.run = r.run) (due : x.due = none) : Restful x :=
  ⟨due, by rw [run]; exact h.2⟩

theorem Resting.trans (h : Resting n s t) (k : Resting n t u) : Resting n s u := by
  refine ⟨fun rest => ?_, fun rest free none => ?_⟩
  · obtain ⟨run, due⟩ := h.kept rest
    obtain ⟨run', due'⟩ := k.kept (rest.of_kept run due)
    exact ⟨run'.trans run, due'⟩
  · obtain ⟨run, due⟩ := h.kept rest
    obtain ⟨free, none⟩ := h.place rest free none
    exact k.place (rest.of_kept run due) free none

theorem Mild.refl (s : State) : Mild s s := ⟨fun n => .refl n s, fun _ => rfl, fun _ => rfl⟩

theorem Mild.trans (h : Mild s t) (k : Mild t u) : Mild s u :=
  ⟨fun n => (h.rest n).trans (k.rest n), fun p => (k.positions p).trans (h.positions p), fun n => (k.books n).trans (h.books n)⟩

theorem Placed.refl (s : State) : Placed s s := ⟨fun _ _ => id, fun _ _ => id, fun _ _ => id⟩

theorem Placed.trans (h : Placed s t) (k : Placed t u) : Placed s u :=
  ⟨fun n c sent => k.sets n c (h.sets n c sent), fun p c sent => k.points p c (h.points p c sent),
    fun m c sent => k.meters m c (h.meters m c sent)⟩

theorem IdleKept.refl (s : State) : IdleKept s s := fun _ idle => ⟨idle, rfl⟩

theorem IdleKept.trans (h : IdleKept s t) (k : IdleKept t u) : IdleKept s u := fun p idle => by
  obtain ⟨still, clear⟩ := h p idle
  obtain ⟨last, clear'⟩ := k p still
  exact ⟨last, clear'.trans clear⟩

theorem CycleStep.refl (s : State) : CycleStep s s := ⟨.refl s, .refl s, .refl s⟩

theorem CycleStep.trans (h : CycleStep s t) (k : CycleStep t u) : CycleStep s u :=
  ⟨h.mild.trans k.mild, h.placed.trans k.placed, h.idle.trans k.idle⟩

theorem CycleStep.forEach {α : Type} {f : α → State → State} (h : ∀ x s, CycleStep s (f x s)) (xs : List α) (s : State) :
    CycleStep s (forEach xs f s) := forEach_rel CycleStep.refl CycleStep.trans (fun x _ s => h x s) s

/-! ### Steps that concern none of these -/

/-- What is read here of a set. -/
structure SameSet (r x : SetRec) : Prop where
  run : x.run = r.run
  due : x.due = r.due
  place : x.place = r.place

theorem Resting.of_same (same : SameSet (s.setRec n) (t.setRec n)) (queue : NoneQueued n s → NoneQueued n t) : Resting n s t :=
  ⟨fun rest => ⟨same.run, same.due.trans rest.1⟩, fun _ free none => ⟨same.place.trans free, queue none⟩⟩

theorem CycleStep.of_same (sets : ∀ n, SameSet (s.setRec n) (t.setRec n)) (books : ∀ n, (t.tank n).book = (s.tank n).book)
    (queue : t.engine.queue = s.engine.queue) (points : t.points = s.points) (meters : t.meters = s.meters) : CycleStep s t := by
  have point (p : PointNo) : t.pointRec p = s.pointRec p := by rw [State.pointRec, points]; rfl
  have meter (m : MeterNo) : t.meter m = s.meter m := by rw [State.meter, meters]; rfl
  refine ⟨⟨fun n => .of_same (sets n) fun none => ?_, fun p => by rw [point], books⟩, ⟨fun n c sent => (sets n).place.trans sent,
    fun p c sent => by rw [point]; exact sent, fun m c sent => by rw [meter]; exact sent⟩, fun p idle => by rw [point]; exact ⟨idle, rfl⟩⟩
  rw [NoneQueued, queue]
  exact none

/-- No set, point, meter or tank is touched, and the queue is not. -/
theorem CycleStep.of_rest (sets : t.sets = s.sets) (tanks : t.tanks = s.tanks) (queue : t.engine.queue = s.engine.queue)
    (points : t.points = s.points) (meters : t.meters = s.meters) : CycleStep s t :=
  .of_same (fun n => by rw [show t.setRec n = s.setRec n by rw [State.setRec, sets]; rfl]; exact ⟨rfl, rfl, rfl⟩) (fun n => by rw [State.tank, tanks]; rfl) queue points meters

theorem CycleStep.raise (s : State) (body : NoticeBody) : CycleStep s (s.raise body) := .of_rest rfl rfl rfl rfl rfl

theorem sameSet_modSet (s : State) (k : SetNo) {f : SetRec → SetRec} (h : ∀ r, SameSet r (f r)) (n : SetNo) :
    SameSet (s.setRec n) ((s.modSet k f).setRec n) := by
  by_cases own : n = k
  · subst own
    rw [State.modSet_read]
    exact h _
  · rw [State.modSet_other s k f own]
    exact ⟨rfl, rfl, rfl⟩

theorem CycleStep.modSet (s : State) (k : SetNo) {f : SetRec → SetRec} (h : ∀ r, SameSet r (f r)) : CycleStep s (s.modSet k f) :=
  .of_same (sameSet_modSet s k h) (fun _ => rfl) rfl rfl rfl

theorem CycleStep.closeOff (s : State) (f : FeederNo) : CycleStep s (s.closeOff f) := by
  have attributed (v : State) (x : FeederStep) : CycleStep v (v.attribute x) := by
    unfold State.attribute
    split
    · exact .modSet v _ fun _ => ⟨rfl, rfl, rfl⟩
    · exact .of_rest rfl rfl rfl rfl rfl
  have billed (x : FeederStep) : CycleStep s (s.billStep x.account x.energy x.estimated x.clamped) := by
    unfold State.billStep
    split
    · exact .of_rest rfl rfl rfl rfl rfl
    · exact .refl s
  have written (v : State) (g : FeederRec → FeederRec) : CycleStep v (v.modFeeder f g) := .of_rest rfl rfl rfl rfl rfl
  unfold State.closeOff
  split
  · split
    · exact ((billed _).trans (attributed _ _)).trans (written _ _)
    · exact .refl s
  · exact .refl s

theorem CycleStep.testThresholds (n : SetNo) (s : State) : CycleStep s (s.testThresholds n) := by
  have step := Booking.TankStep.testThresholds n s
  have frame := step.frame
  refine .of_same (fun k => ?_) (fun k => (State.testThresholds_tank s n k).1) (congrArg (fun v : State => v.engine.queue) frame :)
    (congrArg State.points frame :) (congrArg State.meters frame :)
  by_cases own : k = n
  · subst own
    obtain ⟨x, read⟩ := step.set
    rw [read]
    exact ⟨rfl, rfl, rfl⟩
  · rw [step.sets k own]
    exact ⟨rfl, rfl, rfl⟩

theorem CycleStep.testClose (s : State) : CycleStep s s.testClose := by
  unfold State.testClose
  split
  next i now _ _ =>
    split
    · split
      · rw [Closing.closeIntervals_due]
        exact .of_rest rfl rfl rfl rfl rfl
      · rw [Closing.extendIntervals_eq]
        exact .of_rest rfl rfl rfl rfl rfl
    · exact .refl s
  · exact .refl s

/-! ### Sequencers -/

theorem noneQueued_pointStep (h : PointStep p s t) (none : NoneQueued n s) : NoneQueued n t := fun c mem origin => by
  have joined : c ∈ t.engine.queue.filter fun c => c.origin ≠ .changeover p :=
    List.mem_filter.mpr ⟨mem, decide_eq_true (by rw [origin]; nofun)⟩
  rw [h.queue] at joined
  exact none c (List.mem_filter.mp joined).1 origin

theorem sameSet_seqFrame (h : SeqFrame s t) (n : SetNo) : SameSet (s.setRec n) (t.setRec n) :=
  ⟨(congrArg SetRec.run (h.sets n) :), (congrArg SetRec.due (h.sets n) :), (congrArg SetRec.place (h.sets n) :)⟩

theorem mild_of_point (frame : SeqFrame s t) (step : PointStep p s t) (place : PlaceStep p s t) : Mild s t := by
  refine ⟨fun n => .of_same (sameSet_seqFrame frame n) (noneQueued_pointStep step), fun k => ?_, fun n => by rw [State.tank, frame.tanks]; rfl⟩
  by_cases own : k = p
  · subst own
    exact place.position
  · rw [step.others k own]

theorem placed_of_point (frame : SeqFrame s t) (step : PointStep p s t) (place : PlaceStep p s t) : Placed s t := by
  refine ⟨fun n c sent => (sameSet_seqFrame frame n).place.trans sent, fun k c sent => ?_, fun m c sent => ?_⟩
  · by_cases own : k = p
    · subst own
      exact place.sent c sent
    · rw [step.others k own]
      exact sent
  · rw [State.meter, frame.meters]
    exact sent

theorem CycleStep.of_seqStep (h : SeqStep p s t) : CycleStep s t := by
  refine ⟨mild_of_point h.frame h.step h.place, placed_of_point h.frame h.step h.place, fun k idle => ?_⟩
  by_cases own : k = p
  · subst own
    rw [h.idle idle]
    exact ⟨idle, rfl⟩
  · rw [h.step.others k own]
    exact ⟨idle, rfl⟩

theorem CycleStep.tellSequencers (s : State) (n : SetNo) : CycleStep s (s.tellSequencers n) :=
  .forEach (fun p s => .of_seqStep (.seqNews s n p)) allPoints s

/-! ### Sets -/

/-- A step of a set: the others are left alone, no point but by its sequencer, and a command that is SENT stays so. -/
structure SetStep (n : SetNo) (s t : State) : Prop where
  others : ∀ k, k ≠ n → SameSet (s.setRec k) (t.setRec k) ∧ (NoneQueued k s → NoneQueued k t)
  sent : ∀ c, (s.setRec n).place = .sent c → (t.setRec n).place = .sent c
  points : ∀ p c, (s.pointRec p).place = .sent c → (t.pointRec p).place = .sent c
  idle : IdleKept s t
  positions : ∀ p, (t.pointRec p).position = (s.pointRec p).position
  tanks : t.tanks = s.tanks
  meters : t.meters = s.meters

theorem SetStep.refl (n : SetNo) (s : State) : SetStep n s s :=
  ⟨fun _ _ => ⟨⟨rfl, rfl, rfl⟩, id⟩, fun _ => id, fun _ _ => id, .refl s, fun _ => rfl, rfl, rfl⟩

theorem SetStep.trans (h : SetStep n s t) (k : SetStep n t u) : SetStep n s u where
  others i other := by
    obtain ⟨same, none⟩ := h.others i other
    obtain ⟨same', none'⟩ := k.others i other
    exact ⟨⟨same'.run.trans same.run, same'.due.trans same.due, same'.place.trans same.place⟩, none' ∘ none⟩
  sent c here := k.sent c (h.sent c here)
  points p c here := k.points p c (h.points p c here)
  idle := h.idle.trans k.idle
  positions p := (k.positions p).trans (h.positions p)
  tanks := k.tanks.trans h.tanks
  meters := k.meters.trans h.meters

theorem SetStep.modSet (n : SetNo) (s : State) {f : SetRec → SetRec}
    (h : ∀ c, (s.setRec n).place = .sent c → (f (s.setRec n)).place = .sent c) : SetStep n s (s.modSet n f) where
  others k other := by
    rw [State.modSet_other s n f other]
    exact ⟨⟨rfl, rfl, rfl⟩, id⟩
  sent c here := by
    rw [State.modSet_read]
    exact h c here
  points _ _ := id
  idle := .refl s
  positions _ := rfl
  tanks := rfl
  meters := rfl

theorem SetStep.of_port (n : SetNo) {port : Port} : SetStep n s { s with port } :=
  ⟨fun _ _ => ⟨⟨rfl, rfl, rfl⟩, id⟩, fun _ => id, fun _ _ => id, .refl s, fun _ => rfl, rfl, rfl⟩

theorem SetStep.queue (n : SetNo) {queue : List Command} (joins : ∀ c ∈ queue, c ∈ s.engine.queue ∨ c.origin = .sets n) :
    SetStep n s { s with engine := { s.engine with queue } } where
  others k other := ⟨⟨rfl, rfl, rfl⟩, fun none c mem origin => by
    rcases joins c mem with old | own
    · exact none c old origin
    · rw [own] at origin
      injection origin with same
      exact other same.symm⟩
  sent _ := id
  points _ _ := id
  idle := .refl s
  positions _ := rfl
  tanks := rfl
  meters := rfl

theorem SetStep.tellSequencers (n : SetNo) (s : State) (k : SetNo) : SetStep n s (s.tellSequencers k) := by
  have told := CycleStep.tellSequencers s k
  have frame := SeqFrame.tellSequencers s k
  have queues := NewsKeeps.tellSequencers s k
  have joins : Queues (fun o => ∀ n, o ≠ .sets n) s (s.tellSequencers k) := .tellSequencers (by nofun) s k
  refine ⟨fun i _ => ⟨sameSet_seqFrame frame i, fun none c mem origin => ?_⟩, told.placed.sets n, told.placed.points, told.idle,
    told.mild.positions, frame.tanks, frame.meters⟩
  rcases joins.joins c mem with old | ⟨apart, -⟩
  · exact none c old origin
  · exact apart i origin

theorem SetStep.dropUncalled (n : SetNo) (s : State) : SetStep n s (s.dropUncalled n) := by
  have withdrawn : SetStep n s (s.withdraw (.sets n)) := .queue n fun c mem => .inl (mem_withdrawn mem).1
  have place : ((s.withdraw (.sets n)).setRec n).place = (s.setRec n).place := rfl
  unfold State.dropUncalled
  dsimp only
  split
  next queued =>
    split
    · exact .modSet n s fun _ => id
    · refine withdrawn.trans (.modSet n _ fun c sent => ?_)
      rw [place, queued] at sent
      cases sent
  all_goals exact .modSet n s fun _ => id

theorem SetStep.changeRun (n : SetNo) (s : State) (run : RunState) (why : StateReason) (attempts : Option Nat) :
    SetStep n s (s.changeRun n run why attempts) := by
  have ran : SetStep n s (runSet s n run) :=
    (SetStep.modSet n s (f := fun r => { r with run, overloadRun := 0 }) fun _ => id).trans (.dropUncalled n _)
  rw [changeRun_eq]
  exact (ran.trans (.of_port n)).trans (.tellSequencers n _ n)

theorem SetStep.tryEnqueueSet (n : SetNo) (s : State) : SetStep n s (s.tryEnqueueSet n) := by
  unfold State.tryEnqueueSet
  dsimp only
  split
  next free _ =>
    split
    · have cleared := SetStep.modSet n s (f := fun r => { r with due := none }) fun _ => id
      generalize (s.modSet n fun r => { r with due := none }) = t at cleared ⊢
      exact cleared.trans (.changeRun n t _ _ _)
    · split
      · exact .refl n s
      · split
        · exact .refl n s
        next queued =>
          obtain ⟨-, -, -, rfl⟩ := State.enqueue_eq_some.mp queued
          refine (SetStep.queue n fun c mem => ?_).trans (.modSet n _ fun c sent => ?_)
          · exact (List.mem_append.mp mem).imp id fun own => by rw [List.mem_singleton.mp own]
          · have place : (s.setRec n).place = .sent c := sent
            rw [free] at place
            cases place
  · exact .refl n s

theorem SetStep.makeDue (n : SetNo) (s : State) (code : Code) : SetStep n s (s.makeDue n code) :=
  (SetStep.modSet n s (f := fun r => { r with due := some code }) fun _ => id).trans (.tryEnqueueSet n _)

theorem SetStep.enterStarting (n : SetNo) (s : State) (why : StateReason) : SetStep n s (s.enterStarting n why) :=
  (SetStep.changeRun n s _ why none).trans (.makeDue n _ .start)

theorem SetStep.enterStopping (n : SetNo) (s : State) (why : StateReason) : SetStep n s (s.enterStopping n why) :=
  (SetStep.changeRun n s .stopping why none).trans (.makeDue n _ .stop)

theorem SetStep.endAttempt (n : SetNo) (s : State) : SetStep n s (s.endAttempt n) := by
  unfold State.endAttempt
  split
  next attempt allowed _ _ _ =>
    dsimp only
    split
    · exact .changeRun n s _ _ _
    · split
      · exact (SetStep.modSet n s fun _ => id).trans (.makeDue n _ _)
      · exact .changeRun n s _ _ _
  · exact .refl n s

/-- A set that is not at rest may do what it does. -/
theorem mild_of_setStep (h : SetStep n s t) (restless : ¬ Restful (s.setRec n)) : Mild s t := by
  refine ⟨fun k => ?_, h.positions, fun k => by rw [State.tank, h.tanks]; rfl⟩
  by_cases own : k = n
  · subst own
    exact ⟨fun rest => absurd rest restless, fun rest => absurd rest restless⟩
  · obtain ⟨same, none⟩ := h.others k own
    exact .of_same same none

theorem placed_of_setStep (h : SetStep n s t) : Placed s t := by
  refine ⟨fun k c sent => ?_, h.points, fun m c sent => by rw [State.meter, h.meters]; exact sent⟩
  by_cases own : k = n
  · subst own
    exact h.sent c sent
  · exact (h.others k own).1.place.trans sent

theorem CycleStep.of_setStep (h : SetStep n s t) (restless : ¬ Restful (s.setRec n)) : CycleStep s t :=
  ⟨mild_of_setStep h restless, placed_of_setStep h, h.idle⟩

/-- A run state that is neither ONLINE nor FAULT is not one of rest. -/
theorem restless_of_run {run : RunState} (here : (s.setRec n).run = run) (online : run ≠ .online) (fault : ∀ why, run ≠ .fault why) :
    ¬ Restful (s.setRec n) := fun ⟨_, rest⟩ => by
  rcases rest with on | ⟨why, out⟩
  · exact online (here.symm.trans on)
  · exact fault why (here.symm.trans out)

theorem CycleStep.tryEnqueueSet (s : State) (n : SetNo) : CycleStep s (s.tryEnqueueSet n) := by
  cases due : (s.setRec n).due with
  | none =>
    rw [SetLoading.tryEnqueueSet_idle due]
    exact .refl s
  | some code => exact .of_setStep (.tryEnqueueSet n s) fun rest => by rw [rest.1] at due; cases due

theorem CycleStep.expireWarmUp (s : State) (n : SetNo) : CycleStep s (s.expireWarmUp n) := by
  unfold State.expireWarmUp
  split
  next run => exact .of_setStep (.changeRun n s _ _ _) (restless_of_run run nofun nofun)
  · exact .refl s

theorem CycleStep.expireCoolDown (s : State) (n : SetNo) : CycleStep s (s.expireCoolDown n) := by
  unfold State.expireCoolDown
  split
  next run => exact .of_setStep (.enterStopping n s _) (restless_of_run run nofun nofun)
  · exact .refl s

theorem CycleStep.expireCrank (s : State) (n : SetNo) : CycleStep s (s.expireCrank n) := by
  unfold State.expireCrank
  split
  next run => exact .of_setStep (.endAttempt n s) (restless_of_run run nofun nofun)
  · exact .refl s

/-! ### Meters -/

theorem CycleStep.endSession (s : State) (m : MeterNo) (d : SessionEnd) : CycleStep s (s.endSession m d) := by
  have points := RestartPoints.endSession_points s m d
  have point (p : PointNo) : (s.endSession m d).pointRec p = s.pointRec p := by rw [State.pointRec, points]; rfl
  have waits (n : SetNo) := ReplySlots.WaitKept.endSession n s m d
  have joins : Queues (fun _ => False) s (s.endSession m d) := .endSession s m d
  refine ⟨⟨fun n => .of_same ⟨(waits n).run, (waits n).due, (waits n).place⟩ fun none c mem => ?_, fun p => by rw [point], fun n => ?_⟩,
    ⟨fun n c sent => (waits n).place.trans sent, fun p c sent => by rw [point]; exact sent, fun k c sent => ?_⟩,
    fun p idle => by rw [point]; exact ⟨idle, rfl⟩⟩
  · exact none c ((joins.joins c mem).resolve_right fun out => out.1)
  · cases session : (s.meter m).session with
    | none => rw [State.endSession, session]
    | some x =>
      by_cases plain : x.phase = .granting ∨ d.result = .complete
      · rw [endSession_plain session plain]
        by_cases own : n = x.set
        · subst own
          simp [State.tank]
        · simp [State.tank, Fin.val_ne_of_ne (Ne.symm own)]
      · obtain ⟨delivering, cut⟩ := not_or.mp plain
        rw [endSession_live session delivering cut]
        by_cases own : n = x.set
        · subst own
          simp [State.tank]
        · simp [State.tank, Fin.val_ne_of_ne (Ne.symm own)]
  · by_cases own : k = m
    · subst own
      cases session : (s.meter k).session with
      | none => rw [State.endSession, session]; exact sent
      | some x =>
        rw [(LinkLoss.endSession_gone session d).meter]
        exact unqueue_sent sent
    · rw [(Deliveries.frame_endSession m s d).1.meters k own]
      exact sent

theorem CycleStep.tryEnqueueMeter (s : State) (m : MeterNo) : CycleStep s (s.tryEnqueueMeter m) := by
  by_cases free : (s.meter m).place = .free
  · rcases tryEnqueueMeter_spec s m with same | ⟨a, -, queued⟩
    · rw [same]
      exact .refl s
    · rw [queued]
      refine ⟨⟨fun n => .of_same ⟨rfl, rfl, rfl⟩ fun none c mem => ?_, fun _ => rfl, fun _ => rfl⟩, ⟨fun _ _ => id, fun _ _ => id, fun k c sent => ?_⟩,
        fun _ idle => ⟨idle, rfl⟩⟩
      · rcases List.mem_append.mp mem with old | own
        · exact none c old
        · rw [List.mem_singleton.mp own]
          nofun
      · by_cases own : k = m
        · subst own
          rw [free] at sent
          cases sent
        · simpa [State.meter, Fin.val_ne_of_ne (Ne.symm own)] using sent
  · have waits : s.tryEnqueueMeter m = s := by
      unfold State.tryEnqueueMeter
      dsimp only
      split
      next place _ => exact absurd place free
      · rfl
    rw [waits]
    exact .refl s

theorem CycleStep.expireTicketWait (s : State) (m : MeterNo) : CycleStep s (s.expireTicketWait m) := by
  unfold State.expireTicketWait
  split
  · split
    · exact .endSession s m _
    · exact .refl s
    · exact .refl s
    · exact .refl s
  · exact .refl s

/-! ### The timed events, deferred or taken -/

theorem CycleStep.putDue (s : State) (due : List TimedEvent) : CycleStep s { s with due } := .of_rest rfl rfl rfl rfl rfl

theorem CycleStep.takeOrDefer {e : TimedEvent} (h : CycleStep s (s.happen e)) : CycleStep s (s.takeOrDefer deferred e) := by
  unfold State.takeOrDefer
  split
  · exact .putDue s _
  · exact h

theorem CycleStep.takeAll {α : Type} {kind : α → TimedEvent} (h : ∀ x s, CycleStep s (s.happen (kind x))) (xs : List α) (s : State) :
    CycleStep s (s.takeAll deferred xs kind) := .forEach (fun x s => .takeOrDefer (h x s)) xs s

theorem CycleStep.enqueueDue (s : State) : CycleStep s s.enqueueDue := by
  have sets := CycleStep.forEach (fun n s => .tryEnqueueSet s n) allSets s
  have points (v : State) := CycleStep.forEach (fun p s => .of_seqStep (.tryEnqueuePoint p s)) allPoints v
  have meters (v : State) := CycleStep.forEach (fun m s => .tryEnqueueMeter s m) allMeters v
  exact (sets.trans (points _)).trans (meters _)

theorem CycleStep.pointTimers (s : State) (deferred : List TimedEvent) (p : PointNo) : CycleStep s (s.pointTimers deferred p) := by
  unfold State.pointTimers
  split
  · exact .takeOrDefer (.of_seqStep (.whenCounter _ fun _ _ => .endSequence p s _ _))
  · exact .takeOrDefer (.of_seqStep (.whenCounter _ fun _ live => .expireConfirm live))
  · exact .takeOrDefer (.of_seqStep (.whenCounter _ fun _ live => .expireDead live))
  · exact .takeOrDefer (.of_seqStep (.whenCounter _ fun _ live => .windowCheck live))
  · exact .of_seqStep (.laterCheck p s)
  · exact .refl s
  · exact .refl s

/-- The owners' work at a cycle start up to the schedule. -/
def timersWork (s : State) (deferred : List TimedEvent) : State :=
  let s := s.takeAll deferred allFeeders .holdLimit
  let s := s.takeAll deferred allSets .warmUp
  let s := s.takeAll deferred allSets .coolDown
  let s := s.takeAll deferred allSets .crankWindow
  let s := s.enqueueDue
  let s := forEach allPoints (fun p s => s.pointTimers deferred p) s
  let s := s.takeAll deferred allMeters .ticketWait
  let s := forEach allSets (fun n s => s.testThresholds n) s
  s.takeOrDefer deferred .intervalClose

/-- The owners' work after the schedule: the automatic requests. -/
def requestsWork (s : State) (faulty : List SetNo) (deferred : List TimedEvent) : State :=
  let s := forEach faulty (fun n s => s.raiseFault n) s
  let s := s.takeAll deferred allSets .loadRequest
  forEach allSets (fun n s => s.raiseFuel n) s

theorem ownersWork_eq (s : State) (faulty : List SetNo) (deferred : List TimedEvent) : s.ownersWork faulty deferred =
    requestsWork ((timersWork s deferred).takeOrDefer deferred .schedule) faulty deferred := rfl

theorem timersWork_step (s : State) (deferred : List TimedEvent) : CycleStep s (timersWork s deferred) := by
  have feeders := CycleStep.takeAll (deferred := deferred) (kind := .holdLimit) (fun f s => .closeOff s f) allFeeders s
  have warm (v : State) := CycleStep.takeAll (deferred := deferred) (kind := .warmUp) (fun n s => .expireWarmUp s n) allSets v
  have cool (v : State) := CycleStep.takeAll (deferred := deferred) (kind := .coolDown) (fun n s => .expireCoolDown s n) allSets v
  have crank (v : State) := CycleStep.takeAll (deferred := deferred) (kind := .crankWindow) (fun n s => .expireCrank s n) allSets v
  have points (v : State) := CycleStep.forEach (fun p s => .pointTimers s deferred p) allPoints v
  have tickets (v : State) := CycleStep.takeAll (deferred := deferred) (kind := .ticketWait) (fun m s => .expireTicketWait s m) allMeters v
  have thresholds (v : State) := CycleStep.forEach (fun n s => .testThresholds n s) allSets v
  have close (v : State) : CycleStep v (v.takeOrDefer deferred .intervalClose) := .takeOrDefer (.testClose v)
  unfold timersWork
  exact (((((((feeders.trans (warm _)).trans (cool _)).trans (crank _)).trans (.enqueueDue _)).trans (points _)).trans
    (tickets _)).trans (thresholds _)).trans (close _)

end

end Sys2Proof.CycleSteps
end

section
/-! SUPPORT. The requests of a cycle start: what an accepted changeover, the schedule and the automatic requests leave of the sets and of the points that
they do not ask (R91, R93, R105, R129, R145). -/

namespace Sys2Proof.RequestSteps

open Sys2Proof Sys2Proof.Machine Sys2Proof.Stated Sys2Proof.StopAndClear Sys2Proof.Sequencing Sys2Proof.PlaceSteps
open Sys2Proof.CycleSteps Sys2Proof.Accepting Sys2Proof.Requesting

/-- A request at point `k` can do nothing to a point that has no sequence, nor to one whose sequence does not recover and whose target is not STOPPED. -/
def Easy (p : PointNo) (s : State) : Prop :=
  ∀ q, (s.pointRec p).seq = some q → q.phase ≠ .recovering ∧ (s.setRec q.targetSet).run ≠ .stopped

/-- Such a point is left alone, and no set is stopped. -/
structure Unmoved (p : PointNo) (s t : State) : Prop where
  point : Easy p s → t.pointRec p = s.pointRec p
  running : ∀ n, (s.setRec n).run ≠ .stopped → (t.setRec n).run ≠ .stopped

/-- What a request at point `k` leaves. -/
structure RequestStep (k : PointNo) (s t : State) : Prop where
  mild : Mild s t
  placed : Placed s t
  others : ∀ p, p ≠ k → Unmoved p s t

/-- The work of a cycle start, the requests it raises included. -/
structure Work (s t : State) : Prop where
  mild : Mild s t
  placed : Placed s t

section
variable {s t u v : State} {n m : SetNo} {p k : PointNo} {q : Sequence} {side : Side} {cause : Cause} {e : ScheduleEntry}
variable {deferred : List TimedEvent}

theorem Unmoved.refl (p : PointNo) (s : State) : Unmoved p s s := ⟨fun _ => rfl, fun _ => id⟩

theorem Unmoved.easy (h : Unmoved p s t) (easy : Easy p s) : Easy p t := fun q live => by
  obtain ⟨phase, target⟩ := easy q (h.point easy ▸ live)
  exact ⟨phase, h.running _ target⟩

theorem Unmoved.trans (h : Unmoved p s t) (k : Unmoved p t u) : Unmoved p s u :=
  ⟨fun easy => (k.point (h.easy easy)).trans (h.point easy), fun n run => k.running n (h.running n run)⟩

theorem Unmoved.of_same (point : t.pointRec p = s.pointRec p) (runs : ∀ n, (t.setRec n).run = (s.setRec n).run) : Unmoved p s t :=
  ⟨fun _ => point, fun n run => by rw [runs n]; exact run⟩

theorem Work.refl (s : State) : Work s s := ⟨.refl s, .refl s⟩

theorem Work.trans (h : Work s t) (k : Work t u) : Work s u := ⟨h.mild.trans k.mild, h.placed.trans k.placed⟩

theorem Work.of_step (h : CycleStep s t) : Work s t := ⟨h.mild, h.placed⟩

theorem RequestStep.work (h : RequestStep k s t) : Work s t := ⟨h.mild, h.placed⟩

theorem Work.forEach {α : Type} {f : α → State → State} (h : ∀ x s, Work s (f x s)) (xs : List α) (s : State) :
    Work s (forEach xs f s) := forEach_rel Work.refl Work.trans (fun x _ s => h x s) s

theorem RequestStep.refl (k : PointNo) (s : State) : RequestStep k s s := ⟨.refl s, .refl s, fun p _ => .refl p s⟩

theorem RequestStep.trans (h : RequestStep k s t) (h' : RequestStep k t u) : RequestStep k s u :=
  ⟨h.mild.trans h'.mild, h.placed.trans h'.placed, fun p other => (h.others p other).trans (h'.others p other)⟩

theorem RequestStep.of_point (frame : SeqFrame s t) (step : PointStep k s t) (place : PlaceStep k s t) : RequestStep k s t :=
  ⟨mild_of_point frame step place, placed_of_point frame step place, fun p other =>
    .of_same (step.others p other) fun n => (sameSet_seqFrame frame n).run⟩

/-! ### A set that starts for a sequence (R80) -/

/-- A set that starts is of no concern to the sequences that do not wait for it. -/
theorem Unmoved.changeRun (stopped : (s.setRec n).run = .stopped) (run : RunState) (why : StateReason) (attempts : Option Nat) :
    Unmoved p s (s.changeRun n run why attempts) := by
  refine ⟨fun easy => ?_, fun k here => ?_⟩
  · have ran := PointKept.runSet p s n run
    rw [changeRun_eq]
    generalize StopAndClear.runSet s n run = v at ran ⊢
    refine ((ran.trans (PointKept.raise p v _)).trans (PointKept.tellSequencers fun t _ point => ?_)).point
    have same : t.pointRec p = s.pointRec p := point.trans ran.point
    unfold State.seqNews
    rw [same]
    cases live : (s.pointRec p).seq with
    | none => rfl
    | some q =>
      obtain ⟨phase, target⟩ := easy q live
      dsimp only
      rw [if_neg fun own : q.targetSet = n => target (own ▸ stopped), if_neg (by simp [phase])]
  · by_cases own : k = n
    · subst own
      exact absurd stopped here
    · rw [((SetStep.changeRun n s run why attempts).others k own).1.run]
      exact here

theorem Unmoved.makeDue (p : PointNo) (s : State) (n : SetNo) : Unmoved p s (s.makeDue n .start) := by
  refine ⟨fun _ => (PointKept.makeDue p s n).point, fun k here => ?_⟩
  by_cases own : k = n
  · subst own
    rw [(Starting.makeDue_start s k).run]
    exact here
  · rw [((SetStep.makeDue n s .start).others k own).1.run]
    exact here

theorem Unmoved.enterStarting (stopped : (s.setRec n).run = .stopped) (why : StateReason) : Unmoved p s (s.enterStarting n why) :=
  (Unmoved.changeRun stopped _ why none).trans (.makeDue p _ n)

theorem clearStopPending_run {r : SetRec} (h : r.run ≠ .stopped) : r.clearStopPending.run ≠ .stopped := by
  unfold SetRec.clearStopPending
  split
  · nofun
  · exact h

theorem clearStopPending_place (r : SetRec) : r.clearStopPending.place = r.place := by
  unfold SetRec.clearStopPending
  split <;> rfl

theorem RequestStep.of_setStep (step : SetStep n s t) (restless : ¬ Restful (s.setRec n)) (others : ∀ p, Unmoved p s t) : RequestStep k s t :=
  ⟨mild_of_setStep step restless, placed_of_setStep step, fun p _ => others p⟩

theorem Unmoved.clearStopPending (p : PointNo) (s : State) (n : SetNo) : Unmoved p s (s.modSet n SetRec.clearStopPending) := by
  refine ⟨fun _ => rfl, fun i here => ?_⟩
  by_cases own : i = n
  · subst own
    rw [State.modSet_read]
    exact clearStopPending_run here
  · rw [State.modSet_other s n _ own]
    exact here

/-- What asking a set to start does. -/
theorem startRequest_state (s : State) (n : SetNo) : (s.startRequest n).1 = s ∨
    (s.setRec n).run = .stopped ∧ (s.startRequest n).1 = s.enterStarting n .sequencer ∨
    (∃ attempt deadline pending window, (s.setRec n).run = .starting attempt deadline pending window) ∧
      (s.startRequest n).1 = s.modSet n SetRec.clearStopPending := by
  unfold State.startRequest
  generalize s.enterStarting n .sequencer = t
  split
  next stopped =>
    split
    · exact .inl rfl
    · exact .inr (.inl ⟨stopped, rfl⟩)
  next starting => exact .inr (.inr ⟨⟨_, _, _, _, starting⟩, rfl⟩)
  all_goals exact .inl rfl

theorem RequestStep.startRequest (k : PointNo) (s : State) (n : SetNo) : RequestStep k s (s.startRequest n).1 := by
  rcases startRequest_state s n with same | ⟨stopped, started⟩ | ⟨⟨attempt, deadline, pending, window, starting⟩, cleared⟩
  · rw [same]
    exact .refl k s
  · rw [started]
    have step : SetStep n s (s.enterStarting n .sequencer) := .enterStarting n s .sequencer
    have others (p : PointNo) : Unmoved p s (s.enterStarting n .sequencer) := .enterStarting stopped .sequencer
    have restless : ¬ Restful (s.setRec n) := restless_of_run stopped nofun nofun
    generalize s.enterStarting n .sequencer = t at step others ⊢
    exact .of_setStep step restless others
  · rw [cleared]
    have step : SetStep n s (s.modSet n SetRec.clearStopPending) := .modSet n s fun c sent => (clearStopPending_place _).trans sent
    have others (p : PointNo) : Unmoved p s (s.modSet n SetRec.clearStopPending) := .clearStopPending p s n
    have restless : ¬ Restful (s.setRec n) := restless_of_run starting nofun nofun
    exact .of_setStep step restless others

/-! ### A request accepted (R129) -/

theorem RequestStep.contextFilled (s : State) (k : PointNo) (q : Sequence) : RequestStep k s (contextFilled s k q) := by
  have frame := contextFilled_frame s k q
  have others (p : PointNo) (other : p ≠ k) : (Accepting.contextFilled s k q).pointRec p = s.pointRec p :=
    State.modPoint_other (s.reserve q.targetSet k q.reservedLoad) k _ other
  have own := contextFilled_point s k q
  have point (p : PointNo) : ((Accepting.contextFilled s k q).pointRec p).position = (s.pointRec p).position ∧
      ((Accepting.contextFilled s k q).pointRec p).place = (s.pointRec p).place := by
    by_cases same : p = k
    · subst same
      rw [own]
      exact ⟨rfl, rfl⟩
    · rw [others p same]
      exact ⟨rfl, rfl⟩
  have queue : (Accepting.contextFilled s k q).engine.queue = s.engine.queue := rfl
  refine ⟨⟨fun n => .of_same (sameSet_seqFrame frame n) (by rw [NoneQueued, NoneQueued, queue]; exact id), fun p => (point p).1,
    fun n => by rw [State.tank, frame.tanks]; rfl⟩, ⟨fun n c sent => (sameSet_seqFrame frame n).place.trans sent,
    fun p c sent => (point p).2.trans sent, fun m c sent => by rw [State.meter, frame.meters]; exact sent⟩,
    fun p other => .of_same (others p other) fun n => (sameSet_seqFrame frame n).run⟩

theorem RequestStep.proceed (live : (s.pointRec k).seq.isSome = true) (q : Sequence) : RequestStep k s (s.proceed k q) :=
  .of_point (.proceed s k q) (.proceed live q) (.proceed k s q)

theorem RequestStep.endSequence (k : PointNo) (s : State) (o : SeqOutcome) : RequestStep k s (s.endSequence k o none) :=
  .of_point (.endSequence s k o none) (.endSequence k s o none) (.endSequence k s o none)

theorem RequestStep.acceptChangeover (s : State) (k : PointNo) (side : Side) (cause : Cause) :
    RequestStep k s (s.acceptChangeover k side cause) := by
  unfold State.acceptChangeover
  split
  · exact .refl k s
  next u a b _ =>
    dsimp only
    generalize s.newSequence k side cause a b = q
    have filled := RequestStep.contextFilled s k q
    have live : ((Accepting.contextFilled s k q).pointRec k).seq.isSome = true := by rw [contextFilled_point]; rfl
    have same : (s.reserve q.targetSet k q.reservedLoad).putSeq k q = Accepting.contextFilled s k q := rfl
    rw [same]
    generalize Accepting.contextFilled s k q = v at filled live
    split
    · exact filled.trans (.proceed live q)
    next offline =>
      have asked := filled.trans (.startRequest k v q.targetSet)
      split
      next t request => rw [request] at asked; exact asked
      next t request => rw [request] at asked; exact asked
      next t request => exact absurd (Keeping.online_of_alreadyOnline request) offline
      next t request =>
        rw [request] at asked
        exact asked.trans (.endSequence k t _)

theorem RequestStep.refusalRecorded (s : State) (k : PointNo) (cause : Cause) (code : ResultCode) :
    RequestStep k s (refusalRecorded s k cause code) :=
  .of_point (.modPoint s k _) (.modPoint k s rfl) (.modPoint k s)

theorem RequestStep.autoRequest (s : State) (k : PointNo) (target : SetNo) (cause : Cause) : RequestStep k s (s.autoRequest k target cause) := by
  unfold State.autoRequest
  split
  · exact .refl k s
  · split
    · exact .refl k s
    · dsimp only
      split
      · exact .refl k s
      · split
        · exact .refusalRecorded s k cause _
        · exact .acceptChangeover s k _ cause

/-! ### The raisers (R91, R93, R105) -/

/-- What the raiser for a set does at a point. -/
def pointAsked (n : SetNo) (cause : Cause) (flag : PointEntry → Bool) (p : PointNo) (s : State) : State :=
  match s.partnerFrom p n, s.pointEntry p with
  | some partner, some e => if flag e && !(s.pointRec p).autoBlocked then s.autoRequest p partner cause else s
  | _, _ => s

theorem raiseForPoints_eq (s : State) (n : SetNo) (cause : Cause) (flag : PointEntry → Bool) :
    s.raiseForPoints n cause flag = forEach allPoints (pointAsked n cause flag) s := rfl

theorem RequestStep.pointAsked (s : State) (n : SetNo) (cause : Cause) (flag : PointEntry → Bool) (p : PointNo) :
    RequestStep p s (pointAsked n cause flag p s) := by
  unfold RequestSteps.pointAsked
  split
  · split
    · exact .autoRequest s p _ cause
    · exact .refl p s
  · exact .refl p s

theorem Work.raiseForPoints (s : State) (n : SetNo) (cause : Cause) (flag : PointEntry → Bool) : Work s (s.raiseForPoints n cause flag) := by
  rw [raiseForPoints_eq]
  exact .forEach (fun p s => (RequestStep.pointAsked s n cause flag p).work) allPoints s

theorem Work.raiseFault (s : State) (n : SetNo) : Work s (s.raiseFault n) := .raiseForPoints s n _ _

theorem Work.raiseFuel (s : State) (n : SetNo) : Work s (s.raiseFuel n) := by
  unfold State.raiseFuel
  split
  · exact .refl s
  · split
    · exact .raiseForPoints s n _ _
    · exact .refl s

theorem Work.raiseLoad (s : State) (n : SetNo) : Work s (s.raiseLoad n) := by
  unfold State.raiseLoad
  split
  · exact .refl s
  · split
    · split
      · exact (RequestStep.autoRequest s _ _ _).work
      · exact .refl s
    · exact .refl s

theorem Work.takeOrDefer {x : TimedEvent} (h : Work s (s.happen x)) : Work s (s.takeOrDefer deferred x) := by
  unfold State.takeOrDefer
  split
  · exact .of_step (.putDue s _)
  · exact h

theorem requestsWork_work (s : State) (faulty : List SetNo) (deferred : List TimedEvent) : Work s (requestsWork s faulty deferred) := by
  have faults := Work.forEach (fun n s => .raiseFault s n) faulty s
  have loads (v : State) : Work v (v.takeAll deferred allSets .loadRequest) :=
    .forEach (fun n s => .takeOrDefer (x := .loadRequest n) (.raiseLoad s n)) allSets v
  have fuels (v : State) := Work.forEach (fun n s => .raiseFuel s n) allSets v
  exact (faults.trans (loads _)).trans (fuels _)

/-! ### The schedule (R145) -/

theorem Work.removeScheduled (s : State) (e : ScheduleEntry) (r : ScheduleResult) : Work s (s.removeScheduled e r) :=
  .of_step (.of_rest rfl rfl rfl rfl rfl)

theorem Work.fireScheduled (s : State) (e : ScheduleEntry) : Work s (s.fireScheduled e) := by
  unfold State.fireScheduled
  split
  · exact .removeScheduled s e _
  · exact (RequestStep.acceptChangeover s e.point e.side .schedule).work.trans (.removeScheduled _ e _)

theorem Work.walkEntry (now : Nat) (acc : State × List PointNo) (e : ScheduleEntry) : Work acc.1 (State.walkEntry now acc e).1 := by
  obtain ⟨s, settled⟩ := acc
  unfold State.walkEntry
  dsimp only
  split
  · exact .refl s
  · split
    · exact .removeScheduled s e _
    · split
      · exact .fireScheduled s e
      · exact .refl s

theorem Work.walkSchedule (s : State) : Work s s.walkSchedule := by
  have walk (now : Nat) (xs : List ScheduleEntry) : ∀ acc : State × List PointNo, Work acc.1 (xs.foldl (State.walkEntry now) acc).1 := by
    induction xs with
    | nil => exact fun acc => .refl acc.1
    | cons e xs ih => exact fun acc => (Work.walkEntry now acc e).trans (ih _)
  unfold State.walkSchedule
  split
  · exact .refl s
  · exact walk _ _ (s, [])

theorem ownersWork_work (s : State) (faulty : List SetNo) (deferred : List TimedEvent) : Work s (s.ownersWork faulty deferred) := by
  have timers := Work.of_step (timersWork_step s deferred)
  have schedule (v : State) : Work v (v.takeOrDefer deferred .schedule) := .takeOrDefer (.walkSchedule v)
  rw [ownersWork_eq]
  exact (timers.trans (schedule _)).trans (requestsWork_work _ faulty deferred)

end

end Sys2Proof.RequestSteps
end

section
/-! SUPPORT. What the engine's part of a cycle start leaves: its outcomes, its counters and its selection disturb no set at rest, no position, no
book and no point without a sequence (R18, R34, R35, R36). -/

namespace Sys2Proof.EngineSteps

open Sys2Proof Sys2Proof.Machine Sys2Proof.Stated Sys2Proof.Sequencing Sys2Proof.CycleSteps Sys2Proof.OwnerSteps
open Sys2Proof.Attachments Sys2Proof.CycleOpenings Sys2Proof.SlotLists

/-- The sets at rest, the positions, the books and the points without a sequence stay. -/
structure Quiet (s t : State) : Prop where
  mild : Mild s t
  idle : IdleKept s t

section
variable {s t u : State} {n k : SetNo} {p : PointNo} {m : MeterNo} {c : Command} {o : CommandOutcome}

theorem Quiet.refl (s : State) : Quiet s s := ⟨.refl s, .refl s⟩

theorem Quiet.trans (h : Quiet s t) (k : Quiet t u) : Quiet s u := ⟨h.mild.trans k.mild, h.idle.trans k.idle⟩

theorem Quiet.of_step (h : CycleStep s t) : Quiet s t := ⟨h.mild, h.idle⟩

theorem Quiet.forEach {α : Type} {f : α → State → State} (h : ∀ x s, Quiet s (f x s)) (xs : List α) (s : State) :
    Quiet s (forEach xs f s) := forEach_rel Quiet.refl Quiet.trans (fun x _ s => h x s) s

/-- No set, point, meter or tank is touched, and the queue is not. -/
theorem Quiet.of_rest (sets : t.sets = s.sets) (tanks : t.tanks = s.tanks) (queue : t.engine.queue = s.engine.queue)
    (points : t.points = s.points) (meters : t.meters = s.meters) : Quiet s t := .of_step (.of_rest sets tanks queue points meters)

theorem Quiet.modSet (s : State) (k : SetNo) {f : SetRec → SetRec} (kept : ∀ r, Restful r → (f r).run = r.run ∧ (f r).due = none)
    (free : ∀ r, r.place = .free → (f r).place = .free) : Quiet s (s.modSet k f) := by
  refine ⟨⟨fun n => ?_, fun _ => rfl, fun _ => rfl⟩, .refl s⟩
  by_cases own : n = k
  · subst own
    have read := State.modSet_read s n f
    exact ⟨fun rest => by rw [read]; exact kept _ rest, fun _ here none => ⟨by rw [read]; exact free _ here, none⟩⟩
  · have read := State.modSet_other s k f own
    exact .of_same (by rw [read]; exact ⟨rfl, rfl, rfl⟩) id

/-! ### Outcomes -/

theorem restless_of_calledFor {code : Code} (calls : (s.setRec n).run.calledFor = some code) : ¬ Restful (s.setRec n) := fun ⟨_, rest⟩ => by
  rcases rest with on | ⟨why, out⟩
  · rw [on] at calls
    cases calls
  · rw [out] at calls
    cases calls

theorem SetStep.startOutcome (n : SetNo) (s : State) (o : CommandOutcome) : SetStep n s (s.startOutcome n o) := by
  unfold State.startOutcome
  split
  · refine .modSet n s fun c sent => ?_
    split <;> exact sent
  · exact .endAttempt n s
  · exact .endAttempt n s
  · exact .endAttempt n s
  · exact .modSet n s fun _ => id

theorem SetStep.stopOutcome (n : SetNo) (s : State) (o : CommandOutcome) : SetStep n s (s.stopOutcome n o) := by
  unfold State.stopOutcome
  split
  · exact .refl n s
  · exact .changeRun n s _ _ _
  · exact .changeRun n s _ _ _
  · exact .changeRun n s _ _ _
  · exact .modSet n s fun _ => id

theorem Quiet.setOutcome (s : State) (n : SetNo) (code : Code) (o : CommandOutcome) : Quiet s (s.setOutcome n code o) := by
  have freed := Quiet.modSet s n (f := fun r => { r with place := .free }) (fun _ rest => ⟨rfl, rest.1⟩) fun _ _ => rfl
  unfold State.setOutcome
  dsimp only
  generalize (s.modSet n fun r => { r with place := .free }) = t at freed ⊢
  refine freed.trans ?_
  split
  · exact .refl t
  next waits =>
    have calls : (t.setRec n).run.calledFor = some code := by
      by_contra other
      exact waits (by simp [other])
    have restless := restless_of_calledFor calls
    split
    · exact .of_step (.of_setStep (SetStep.startOutcome n t o) restless)
    · exact .of_step (.of_setStep (SetStep.stopOutcome n t o) restless)

theorem Quiet.modPoint (s : State) (k : PointNo) {f : PointRec → PointRec} (position : ∀ r, (f r).position = r.position)
    (idle : ∀ r, r.seq = none → (f r).seq = none ∧ (f r).autoBlocked = r.autoBlocked) : Quiet s (s.modPoint k f) := by
  refine ⟨⟨fun _ => .of_same ⟨rfl, rfl, rfl⟩ id, fun p => ?_, fun _ => rfl⟩, fun p here => ?_⟩
  · by_cases own : p = k
    · subst own
      rw [State.modPoint_read]
      exact position _
    · rw [State.modPoint_other s k f own]
  · by_cases own : p = k
    · subst own
      rw [State.modPoint_read]
      exact idle _ here
    · rw [State.modPoint_other s k f own]
      exact ⟨here, rfl⟩

theorem pointOutcome_idle (idle : (s.pointRec p).seq = none) (code : Code) (o : CommandOutcome) :
    s.pointOutcome p code o = s.modPoint p fun r => { r with place := .free } := by
  have read : ((s.modPoint p fun r => { r with place := .free }).pointRec p).seq = none := by
    rw [State.modPoint_read]
    exact idle
  unfold State.pointOutcome
  dsimp only
  rw [read]

theorem Quiet.pointOutcome (s : State) (p : PointNo) (code : Code) (o : CommandOutcome) : Quiet s (s.pointOutcome p code o) := by
  have frame := SeqFrame.pointOutcome s p code o
  have step := PointStep.pointOutcome p s code o
  refine ⟨⟨fun n => .of_same (sameSet_seqFrame frame n) (noneQueued_pointStep step), Replies.positions_pointOutcome s p code o,
    fun n => by rw [State.tank, frame.tanks]; rfl⟩, fun k idle => ?_⟩
  by_cases own : k = p
  · subst own
    rw [pointOutcome_idle idle, State.modPoint_read]
    exact ⟨idle, rfl⟩
  · rw [step.others k own]
    exact ⟨idle, rfl⟩

theorem Quiet.modMeter (s : State) (m : MeterNo) (f : MeterRec → MeterRec) : Quiet s (s.modMeter m f) :=
  ⟨⟨fun _ => .of_same ⟨rfl, rfl, rfl⟩ id, fun _ => rfl, fun _ => rfl⟩, fun _ idle => ⟨idle, rfl⟩⟩

theorem Quiet.meterOutcome (s : State) (m : MeterNo) (code : Code) (o : CommandOutcome) : Quiet s (s.meterOutcome m code o) := by
  have ended (v : State) (d : SessionEnd) : Quiet v (v.endSession m d) := .of_step (.endSession v m d)
  have freed := Quiet.modMeter s m fun r => { r with place := .free }
  unfold State.meterOutcome
  dsimp only
  generalize (s.modMeter m fun r => { r with place := .free }) = t at freed ⊢
  refine freed.trans ?_
  split
  · exact .refl t
  · split
    · split
      · unfold State.permitOutcome
        split
        · exact .modMeter t m _
        · exact ended t _
        · split <;> exact ended t _
        · exact ended t _
        · exact ended t _
      · exact .refl t
    · split
      · unfold State.revokeOutcome
        split <;> exact ended t _
      · exact .refl t
    · exact .refl t

theorem Quiet.giveOutcome (s : State) (c : Command) (o : CommandOutcome) : Quiet s (s.giveOutcome c o) := by
  unfold State.giveOutcome
  split
  · exact .of_step (.raise s _)
  · exact .setOutcome s _ _ _
  · exact .pointOutcome s _ _ _
  · exact .meterOutcome s _ _ _

theorem Quiet.resume (s : State) (o : Origin) : Quiet s (s.resume o) := by
  cases o with
  | office tag => exact .refl s
  | sets n => exact .of_step (.tryEnqueueSet s n)
  | changeover p => exact .of_step (.of_seqStep (.tryEnqueuePoint p s))
  | fuel m => exact .of_step (.tryEnqueueMeter s m)

theorem Quiet.returnOutcome (s : State) (c : Command) (o : CommandOutcome) : Quiet s (s.returnOutcome c o) :=
  (Quiet.giveOutcome s c o).trans (.resume _ c.origin)

theorem Quiet.putOutstanding (s : State) (q : Option Outstanding) : Quiet s (s.putOutstanding q) := .of_rest rfl rfl rfl rfl rfl

theorem Quiet.endOrphan (s : State) : Quiet s s.endOrphan := by
  unfold State.endOrphan
  split
  · unfold State.endOutstanding
    split
    · exact .refl s
    · exact (Quiet.putOutstanding s none).trans (.returnOutcome _ _ _)
  · exact .refl s

/-! ### Counters -/

theorem Quiet.newCycle (s : State) : Quiet s s.newCycle := .of_rest rfl rfl rfl rfl rfl

theorem sameSet_loadWindow (r : SetRec) (e : SetEntry) (len : Nat) : SameSet r (r.loadWindow e len) := by
  unfold SetRec.loadWindow
  split <;> exact ⟨rfl, rfl, rfl⟩

theorem sameSet_addRunTime (r : SetRec) (len : Nat) : SameSet r (r.addRunTime len) := by
  unfold SetRec.addRunTime
  split <;> exact ⟨rfl, rfl, rfl⟩

theorem CycleStep.closeCycle (s : State) (len : Nat) : CycleStep s (s.closeCycle len) := by
  refine .forEach (fun n s => .modSet s n fun r => ?_) allSets s
  have ran := sameSet_addRunTime r len
  dsimp only
  split
  next e _ =>
    have tested := sameSet_loadWindow (r.addRunTime len) e len
    exact ⟨tested.run.trans ran.run, tested.due.trans ran.due, tested.place.trans ran.place⟩
  · exact ran

theorem tick_restful {r : SetRec} (rest : Restful r) : r.run.tick = r.run := by
  rcases rest.2 with on | ⟨why, out⟩
  · rw [on]
    rfl
  · rw [out]
    rfl

theorem Quiet.tickCounters (s : State) : Quiet s s.tickCounters := by
  have sets := Quiet.forEach (fun n s => .modSet s n (f := fun r => { r with run := r.run.tick })
    (fun r rest => ⟨tick_restful rest, rest.1⟩) fun _ => id) allSets s
  have points (v : State) := Quiet.forEach (fun p s => .modPoint s p
    (f := fun r => { r with seq := r.seq.map fun q => { q with counter := q.counter.tick } }) (fun _ => rfl)
    fun _ none => ⟨by rw [none]; rfl, rfl⟩) allPoints v
  have meters (v : State) : Quiet v (Machine.forEach allMeters (fun m s => s.modMeter m MeterRec.tick) v) :=
    .forEach (fun m s => .modMeter s m _) allMeters v
  exact (sets.trans (points _)).trans (meters _)

/-- The work before the engine's and the owners'. -/
theorem Quiet.counted (s : State) (len : Nat) : Quiet s (counted s (some len)) := by
  have closed := (Quiet.newCycle s).trans (.of_step (CycleStep.closeCycle s.newCycle len))
  unfold CycleOpenings.counted
  rw [Option.elim_some]
  generalize s.newCycle.closeCycle len = t at closed ⊢
  exact (closed.trans (.tickCounters t)).trans (.endOrphan _)

/-! ### The selection and the header (R22 to R24, R34) -/

theorem Quiet.tail {rest : List Command} (queue : s.engine.queue = c :: rest) : Quiet s (s.putQueue rest) :=
  ⟨⟨fun _ => .of_same ⟨rfl, rfl, rfl⟩ fun none x mem => none x (queue ▸ List.mem_cons_of_mem c mem), fun _ => rfl, fun _ => rfl⟩,
    fun _ idle => ⟨idle, rfl⟩⟩

/-- A command taken from the head of the queue: the place of its origin becomes SENT. -/
theorem Quiet.sendCommand {rest : List Command} (queue : s.engine.queue = c :: rest) : Quiet s ((s.putQueue rest).sendCommand c) := by
  have mem : c ∈ s.engine.queue := queue ▸ List.mem_cons_self
  have tail := Quiet.tail queue
  refine Quiet.trans ?_ (.putOutstanding _ _)
  unfold State.markSent
  split
  · exact tail
  next k origin =>
    refine ⟨⟨fun n => ?_, fun _ => rfl, fun _ => rfl⟩, .refl s⟩
    by_cases own : n = k
    · subst own
      have read := State.modSet_read (s.putQueue rest) n fun r => { r with place := .sent c.code }
      exact ⟨fun quiet => by rw [read]; exact ⟨rfl, quiet.1⟩, fun _ _ none => absurd origin (none c mem)⟩
    · have read := State.modSet_other (s.putQueue rest) k (fun r => { r with place := .sent c.code }) own
      exact .trans (tail.mild.rest n) (.of_same (by rw [read]; exact ⟨rfl, rfl, rfl⟩) id)
  next k _ => exact tail.trans (.modPoint _ k (fun _ => rfl) fun _ none => ⟨none, rfl⟩)
  next k _ => exact tail.trans (.modMeter _ k _)

theorem Quiet.selectFrom (fuel : Nat) (s : State) : Quiet s (s.selectFrom fuel) := by
  induction fuel generalizing s with
  | zero => exact .refl s
  | succ fuel ih =>
    unfold State.selectFrom
    split
    · exact .refl s
    next c rest queue =>
      dsimp only
      split
      · exact .sendCommand queue
      · exact ((Quiet.tail queue).trans (.returnOutcome _ c _)).trans (ih _)

theorem Quiet.openCycle (s : State) (reply : Option Addr) (command : Option Command) : Quiet s (s.openCycle reply command) := by
  have queue : (s.openCycle reply command).engine.queue = s.engine.queue := by
    rw [openCycle_eq]
    dsimp only
    split
    · rfl
    · exact (congrArg Engine.queue (headerSent (listed s reply) (slotList s reply) command).rest :)
  exact .of_rest rfl rfl queue rfl rfl

theorem Quiet.engineWork (s : State) : Quiet s s.engineWork := by
  unfold State.engineWork
  split
  · exact (Quiet.putOutstanding s _).trans (.openCycle _ _ _)
  · exact (Quiet.selectFrom 160 s).trans (.openCycle _ _ _)

end

end Sys2Proof.EngineSteps
end

section
/-! SUPPORT. The commands and acknowledgements of a new cycle: the selection over entries that cannot be sent, the command that can no longer be
answered, and the state in which the slots are allocated (R20 to R24, R34, R36). -/

namespace Sys2Proof.Selections

open Sys2Proof Sys2Proof.Machine Sys2Proof.Stated Sys2Proof.CycleSteps Sys2Proof.OwnerSteps Sys2Proof.Outcomes
open Sys2Proof.CycleOpenings Sys2Proof.SlotLists Sys2Proof.EngineSteps Sys2Proof.Keeping

section
variable {s t u v w : State} {n : SetNo} {a : Addr} {c : Command} {reply : Option Addr} {command : Option Command} {q : Outstanding}

/-! ### The state before the engine's work -/

/-- The state once the new cycle and its counters have begun. -/
def begun (s : State) : State := ((s.bringTo s.engine.cycleLen).newCycle.closeCycle s.engine.cycleLen).tickCounters

theorem counted_eq (s : State) : counted (s.bringTo s.engine.cycleLen) (some s.engine.cycleLen) = (begun s).endOrphan := by
  unfold CycleOpenings.counted begun
  rw [Option.elim_some]

/-- What the allocation and the selection read of a state. -/
structure Alike (s v : State) : Prop where
  tables : v.tables = s.tables
  promoted : ∀ m, (v.meter m).promoted = (s.meter m).promoted
  pointer : v.engine.pollPointer = s.engine.pollPointer
  links : v.engine.links = s.engine.links
  queue : v.engine.queue = s.engine.queue
  outstanding : v.engine.outstanding = s.engine.outstanding
  acks : v.engine.acks = s.engine.acks
  lastAcked : v.engine.lastAcked = s.engine.lastAcked

theorem Alike.refl (s : State) : Alike s s := ⟨rfl, fun _ => rfl, rfl, rfl, rfl, rfl, rfl, rfl⟩

theorem Alike.trans (h : Alike s t) (k : Alike t u) : Alike s u :=
  ⟨k.tables.trans h.tables, fun m => (k.promoted m).trans (h.promoted m), k.pointer.trans h.pointer, k.links.trans h.links,
    k.queue.trans h.queue, k.outstanding.trans h.outstanding, k.acks.trans h.acks, k.lastAcked.trans h.lastAcked⟩

theorem Alike.forEach {α : Type} {f : α → State → State} (h : ∀ x s, Alike s (f x s)) (xs : List α) (s : State) :
    Alike s (forEach xs f s) := forEach_rel Alike.refl Alike.trans (fun x _ s => h x s) s

theorem Alike.modSet (s : State) (n : SetNo) (f : SetRec → SetRec) : Alike s (s.modSet n f) :=
  ⟨rfl, fun _ => rfl, rfl, rfl, rfl, rfl, rfl, rfl⟩

theorem Alike.modPoint (s : State) (p : PointNo) (f : PointRec → PointRec) : Alike s (s.modPoint p f) :=
  ⟨rfl, fun _ => rfl, rfl, rfl, rfl, rfl, rfl, rfl⟩

theorem tick_promoted (r : MeterRec) : r.tick.promoted = r.promoted := by
  unfold MeterRec.tick
  split
  · split <;> rfl
  · rfl

theorem Alike.tickMeter (m : MeterNo) (s : State) : Alike s (s.modMeter m MeterRec.tick) := by
  refine ⟨rfl, fun k => ?_, rfl, rfl, rfl, rfl, rfl, rfl⟩
  by_cases own : k = m
  · subst own
    rw [State.modMeter_read]
    exact tick_promoted _
  · rw [State.modMeter_other s m _ own]

theorem Alike.begun (s : State) : Alike s (begun s) := by
  have brought : Alike s (s.bringTo s.engine.cycleLen) := by
    unfold State.bringTo
    split
    · exact ⟨rfl, fun _ => rfl, rfl, rfl, rfl, rfl, rfl, rfl⟩
    · exact .refl s
  have new (v : State) : Alike v v.newCycle := ⟨rfl, fun _ => rfl, rfl, rfl, rfl, rfl, rfl, rfl⟩
  have closed (v : State) : Alike v (v.closeCycle s.engine.cycleLen) := .forEach (fun n s => .modSet s n _) allSets v
  have ticked (v : State) : Alike v v.tickCounters := by
    have sets := Alike.forEach (fun n s => .modSet s n fun r => { r with run := r.run.tick }) allSets v
    have points (w : State) := Alike.forEach (fun p s => .modPoint s p
      fun r => { r with seq := r.seq.map fun q => { q with counter := q.counter.tick } }) allPoints w
    exact (sets.trans (points _)).trans (.forEach (fun m s => .tickMeter m s) allMeters _)
  unfold Selections.begun
  generalize s.bringTo s.engine.cycleLen = v at brought ⊢
  exact ((brought.trans (new v)).trans (closed _)).trans (ticked _)

theorem endOrphan_none (h : s.engine.outstanding = none) : s.endOrphan = s := by
  unfold State.endOrphan
  rw [h]
  rfl

theorem endOrphan_answerable (h : s.engine.outstanding = some q) (answerable : q.orphan = false) : s.endOrphan = s := by
  unfold State.endOrphan
  rw [h, Option.any_some, answerable]
  rfl

/-! ### The allocation (R20, R21) -/

theorem everyPass_eq (tables : v.tables = s.tables) (promoted : ∀ m, (v.meter m).promoted = (s.meter m).promoted) (a : Addr) :
    v.everyUnit a = everyPass s a := by
  have unit (b : Addr) : v.unitEntry b = s.unitEntry b := by rw [State.unitEntry, tables]; rfl
  have owner (m : MeterNo) : v.meterUnit m = s.meterUnit m := by unfold State.meterUnit; simp only [unit]
  unfold State.everyUnit State.enabledUnit State.promotedUnit everyPass
  simp only [unit, promoted, owner]
  cases s.unitEntry a with
  | none => rfl
  | some e => rfl

theorem inRound_eq (tables : v.tables = s.tables) (promoted : ∀ m, (v.meter m).promoted = (s.meter m).promoted) (a : Addr) :
    v.roundUnit a = inRound s a := by
  unfold State.roundUnit State.enabledUnit inRound
  rw [everyPass_eq tables promoted, State.unitEntry, tables]
  rfl

theorem pointerAfter_last {round : List Addr} (last : round.getLast? = some a) (pointer : Addr) : pointerAfter pointer round = a + 1 := by
  rw [pointerAfter, last]

theorem slotsAllocated (tables : v.tables = s.tables) (promoted : ∀ m, (v.meter m).promoted = (s.meter m).promoted)
    (pointer : v.engine.pollPointer = s.engine.pollPointer) (slots : t.engine.slots = slotList v reply)
    (next : t.engine.pollPointer = pointerAfter v.engine.pollPointer (v.roundPass (v.firstPasses reply))) : SlotsAllocated s t reply := by
  have first : v.firstPasses reply = (reply.toList ++ allUnits.filter fun a => everyPass s a && reply ≠ some a).take 16 := by
    unfold State.firstPasses
    simp only [everyPass_eq tables promoted]
  have round (taken : List Addr) : v.roundPass taken =
      ((roundOrder s.engine.pollPointer).filter fun a => inRound s a && !taken.contains a).take (16 - taken.length) := by
    unfold State.roundPass
    simp only [inRound_eq tables promoted, pointer]
  rw [slotList] at slots
  rw [round, first] at slots next
  refine ⟨slots, fun a last => next.trans (pointerAfter_last last _), fun empty => ?_⟩
  rw [roundOrder, empty] at next
  exact next.trans pointer

/-- What a header says of the cycle that it opens. -/
structure HeaderOf (v w : State) (command : Option Command) (h : Header) : Prop where
  command : h.command = command
  ack : h.ack = v.engine.ackChoice.bind fun m => v.engine.acks[m]
  acks : w.engine.acks = match v.engine.ackChoice with
    | some m => v.engine.acks.set m none
    | none => v.engine.acks
  lastAcked : w.engine.lastAcked = v.engine.ackChoice.or v.engine.lastAcked

theorem headerOf {h : Header} (opened : CycleOpened v w reply command) (here : w.engine.header = some h) : HeaderOf v w command h := by
  have some : w.engine.slots ≠ [] := fun empty => by rw [(opened.empty empty).1] at here; cases here
  obtain ⟨-, header, acks, lastAcked⟩ := opened.sent some
  have same := Option.some.inj (here.symm.trans header)
  exact ⟨by rw [same], by rw [same], acks, lastAcked⟩

/-- What a new cycle does with a command that is being answered (R20). -/
theorem engineWork_answering (outstanding : s.engine.outstanding = some q) : ∃ v, Alike { s with engine := { s.engine with
      outstanding := some { q with replyAllocated := true } } } v ∧ CycleOpened v s.engineWork (some q.command.target) none := by
  have work : s.engineWork = (s.putOutstanding (some { q with replyAllocated := true })).openCycle (some q.command.target) none := by
    rw [State.engineWork, outstanding]
  exact ⟨_, .refl _, work ▸ cycleOpened _ _ _⟩

theorem engineWork_selecting (outstanding : s.engine.outstanding = none) :
    CycleOpened s.select s.engineWork none (s.select.engine.outstanding.map Outstanding.command) := by
  have work : s.engineWork = s.select.openCycle none (s.select.engine.outstanding.map Outstanding.command) := by
    rw [State.engineWork, outstanding]
  exact work ▸ cycleOpened _ _ _

/-! ### The selection (R34) -/

/-- The state with a queue and a port of its own. -/
def passedOver (s : State) (port : Port) (rest : List Command) : State := { s with port, engine := { s.engine with queue := rest } }

theorem selectFrom_cons {rest : List Command} (queue : s.engine.queue = c :: rest) (fuel : Nat) : s.selectFrom (fuel + 1) =
    if (s.putQueue rest).reachable c.target then (s.putQueue rest).sendCommand c
    else ((s.putQueue rest).returnOutcome c .unitLost).selectFrom fuel := by
  rw [State.selectFrom, queue]

/-- Entries of the office whose targets cannot be reached leave the queue. -/
theorem selectFrom_passed (passed rest : List Command) (queue : s.engine.queue = passed ++ rest)
    (lost : ∀ c ∈ passed, (∃ o, c.origin = .office o) ∧ s.reachable c.target = false) (fuel : Nat) :
    ∃ port, s.selectFrom (passed.length + fuel) = (passedOver s port rest).selectFrom fuel := by
  induction passed generalizing s with
  | nil => exact ⟨s.port, by rw [List.length_nil, Nat.zero_add, passedOver, ← List.nil_append rest, ← queue]⟩
  | cons c passed ih =>
    obtain ⟨⟨tag, origin⟩, far⟩ := lost c List.mem_cons_self
    have told := returnOutcome_office origin (s.putQueue (passed ++ rest)) .unitLost
    have step := selectFrom_cons (c := c) (rest := passed ++ rest) queue (passed.length + fuel)
    have away : (s.putQueue (passed ++ rest)).reachable c.target = false := far
    rw [away, told, if_neg Bool.false_ne_true] at step
    obtain ⟨port, later⟩ := ih (s := (s.putQueue (passed ++ rest)).raise (.commandResult tag c.target c.code .unitLost s.engine.cycleNo))
      rfl fun x mem => lost x (List.mem_cons_of_mem c mem)
    rw [List.length_cons, Nat.succ_add]
    exact ⟨port, step.trans later⟩

theorem select_passed (passed rest : List Command) (few : passed.length ≤ 24) (queue : s.engine.queue = passed ++ rest)
    (lost : ∀ c ∈ passed, (∃ o, c.origin = .office o) ∧ s.reachable c.target = false) :
    ∃ port fuel, s.select = (passedOver s port rest).selectFrom (fuel + 1) := by
  obtain ⟨port, later⟩ := selectFrom_passed passed rest queue lost (160 - passed.length)
  have all : passed.length + (160 - passed.length) = 160 := by omega
  have more : 160 - passed.length = (159 - passed.length) + 1 := by omega
  rw [all, more] at later
  exact ⟨port, _, later⟩

/-- Where only such entries are queued nothing is sent. -/
theorem select_empty (passed : List Command) (few : passed.length ≤ 24) (queue : s.engine.queue = passed ++ [])
    (lost : ∀ c ∈ passed, (∃ o, c.origin = .office o) ∧ s.reachable c.target = false) : ∃ port, s.select = passedOver s port [] := by
  obtain ⟨port, fuel, selected⟩ := select_passed passed [] few queue lost
  exact ⟨port, selected⟩

/-- The first entry whose target can be reached is sent. -/
theorem select_sent (passed rest : List Command) (few : passed.length ≤ 24) (queue : s.engine.queue = passed ++ c :: rest)
    (lost : ∀ c ∈ passed, (∃ o, c.origin = .office o) ∧ s.reachable c.target = false) (near : s.reachable c.target = true) :
    ∃ port, s.select = (passedOver s port rest).sendCommand c := by
  obtain ⟨port, fuel, selected⟩ := select_passed passed (c :: rest) few queue lost
  have here : ((passedOver s port (c :: rest)).putQueue rest).reachable c.target = true := near
  rw [selectFrom_cons rfl, if_pos here] at selected
  exact ⟨port, selected⟩

/-- What sending a command leaves. -/
structure Sent (s t : State) (c : Command) : Prop where
  tables : t.tables = s.tables
  promoted : ∀ m, (t.meter m).promoted = (s.meter m).promoted
  pointer : t.engine.pollPointer = s.engine.pollPointer
  outstanding : t.engine.outstanding = some ⟨c, false, false⟩
  sets : ∀ n, c.origin = .sets n → (t.setRec n).place = .sent c.code
  points : ∀ p, c.origin = .changeover p → (t.pointRec p).place = .sent c.code
  meters : ∀ m, c.origin = .fuel m → (t.meter m).place = .sent c.code

theorem sent_sendCommand (s : State) (c : Command) : Sent s (s.sendCommand c) c := by
  unfold State.sendCommand State.markSent
  split
  next origin => exact ⟨rfl, fun _ => rfl, rfl, rfl, by rw [origin]; nofun, by rw [origin]; nofun, by rw [origin]; nofun⟩
  next k origin =>
    refine ⟨rfl, fun _ => rfl, rfl, rfl, fun n own => ?_, by rw [origin]; nofun, by rw [origin]; nofun⟩
    cases origin.symm.trans own
    exact (congrArg SetRec.place (State.modSet_read s k fun r => { r with place := .sent c.code }) :)
  next k origin =>
    refine ⟨rfl, fun _ => rfl, rfl, rfl, by rw [origin]; nofun, fun p own => ?_, by rw [origin]; nofun⟩
    cases origin.symm.trans own
    exact (congrArg PointRec.place (State.modPoint_read s k fun r => { r with place := .sent c.code }) :)
  next k origin =>
    refine ⟨rfl, fun m => ?_, rfl, rfl, by rw [origin]; nofun, by rw [origin]; nofun, fun m own => ?_⟩
    · by_cases own : m = k
      · subst own
        exact (congrArg MeterRec.promoted (State.modMeter_read s m fun r => { r with place := .sent c.code }) :)
      · exact (congrArg MeterRec.promoted (State.modMeter_other s k (fun r => { r with place := .sent c.code }) own) :)
    · cases origin.symm.trans own
      exact (congrArg MeterRec.place (State.modMeter_read s k fun r => { r with place := .sent c.code }) :)

/-! ### Acknowledgements (R24) -/

/-- The acknowledgements due stay. -/
structure SameAcks (s t : State) : Prop where
  acks : t.engine.acks = s.engine.acks
  last : t.engine.lastAcked = s.engine.lastAcked

theorem SameAcks.refl (s : State) : SameAcks s s := ⟨rfl, rfl⟩

theorem SameAcks.trans (h : SameAcks s t) (k : SameAcks t u) : SameAcks s u := ⟨k.acks.trans h.acks, k.last.trans h.last⟩

theorem SameAcks.returnOutcome (s : State) (c : Command) (o : CommandOutcome) : SameAcks s (s.returnOutcome c o) := by
  have step := (OwnerStep.returnOutcome s c o).engine
  exact ⟨(congrArg Engine.acks step :), (congrArg Engine.lastAcked step :)⟩

theorem SameAcks.endOrphan (s : State) : SameAcks s s.endOrphan := by
  unfold State.endOrphan
  split
  · unfold State.endOutstanding
    split
    · exact .refl s
    next q _ =>
      have cleared : SameAcks s (s.putOutstanding none) := ⟨rfl, rfl⟩
      exact cleared.trans (.returnOutcome _ q.command _)
  · exact .refl s

theorem SameAcks.sendCommand (s : State) (c : Command) : SameAcks s (s.sendCommand c) := by
  unfold State.sendCommand State.markSent
  split <;> exact ⟨rfl, rfl⟩

theorem SameAcks.selectFrom (fuel : Nat) (s : State) : SameAcks s (s.selectFrom fuel) := by
  induction fuel generalizing s with
  | zero => exact .refl s
  | succ fuel ih =>
    cases queue : s.engine.queue with
    | nil =>
      have stays : s.selectFrom (fuel + 1) = s := by rw [State.selectFrom, queue]
      rw [stays]
      exact .refl s
    | cons c rest =>
      have tail : SameAcks s (s.putQueue rest) := ⟨rfl, rfl⟩
      rw [selectFrom_cons queue]
      split
      · exact tail.trans (.sendCommand _ c)
      · exact (tail.trans (.returnOutcome _ c _)).trans (ih _)

/-- The engine's work is the opening of a cycle with the acknowledgements as they were. -/
theorem engineWork_opens (s : State) : ∃ v reply command, SameAcks s v ∧ CycleOpened v s.engineWork reply command := by
  cases outstanding : s.engine.outstanding with
  | some q =>
    obtain ⟨v, same, opened⟩ := engineWork_answering outstanding
    exact ⟨v, _, _, ⟨same.acks, same.lastAcked⟩, opened⟩
  | none => exact ⟨s.select, _, _, .selectFrom 160 s, engineWork_selecting outstanding⟩

theorem ackChoice_none {e : Engine} (none : ∀ m : MeterNo, e.acks[m] = none) : e.ackChoice = Option.none := by
  unfold Engine.ackChoice
  rw [none 0, none 1]

/-- The one acknowledgement due is chosen, or of two that of the meter not acknowledged last. -/
theorem ackChoice_some {e : Engine} {m : MeterNo} {x : Ack} (here : e.acks[m] = some x)
    (other : ∀ k : MeterNo, k ≠ m → e.acks[k] = none ∨ (m = 0 ∧ e.lastAcked ≠ some m) ∨ e.lastAcked = some k) :
    e.ackChoice = some m := by
  unfold Engine.ackChoice
  match m with
  | 0 =>
    rw [here]
    cases second : e.acks[(1 : MeterNo)] with
    | none => rfl
    | some y =>
      rcases other 1 (by decide) with none | ⟨-, last⟩ | last
      · rw [second] at none
        cases none
      · exact congrArg some (if_neg last)
      · exact congrArg some (if_neg (by rw [last]; decide))
  | 1 =>
    rw [here]
    cases first : e.acks[(0 : MeterNo)] with
    | none => rfl
    | some y =>
      rcases other 0 (by decide) with none | ⟨wrong, -⟩ | last
      · rw [first] at none
        cases none
      · cases wrong
      · exact congrArg some (if_pos last)

end

end Sys2Proof.Selections
end

section
/-! SUPPORT. The slots of a cycle start, the command it sends, the acknowledgement it carries and the command it can no longer answer (R18 to R24,
R34, R36). -/

namespace Sys2Proof.SlotOpenings

open Sys2Proof Sys2Proof.Machine Sys2Proof.Stated Sys2Proof.CycleSteps Sys2Proof.OwnerSteps Sys2Proof.Outcomes
open Sys2Proof.CycleOpenings Sys2Proof.SlotLists Sys2Proof.EngineSteps Sys2Proof.Keeping Sys2Proof.Selections
open Sys2Proof.RequestSteps Sys2Proof.Queueing

section
variable {s t u v w : State} {n k : SetNo} {c : Command} {reply : Option Addr} {command : Option Command} {q : Outstanding}
variable {deferred : List TimedEvent}

/-! ### What the owners' work leaves of the engine -/

/-- The slots, the header and what goes with them stay, and what is SENT stays SENT. -/
structure Sustained (w t : State) : Prop where
  slots : t.engine.slots = w.engine.slots
  header : t.engine.header = w.engine.header
  pointer : t.engine.pollPointer = w.engine.pollPointer
  outstanding : t.engine.outstanding = w.engine.outstanding
  acks : t.engine.acks = w.engine.acks
  lastAcked : t.engine.lastAcked = w.engine.lastAcked
  placed : Placed w t

theorem transmitting (t : State) : CycleStep t t.startTx := .of_rest rfl rfl rfl rfl rfl

theorem sustained (w : State) (faulty : List SetNo) (deferred : List TimedEvent) : Sustained w (w.ownersWork faulty deferred).startTx := by
  have same : enginePart (w.ownersWork faulty deferred) = enginePart w := Keeps.ownersWork (x := .engine) w (by nofun) _
  have placed := (ownersWork_work w faulty deferred).placed
  generalize w.ownersWork faulty deferred = t at same placed
  exact ⟨(congrArg Engine.slots same :), (congrArg Engine.header same :), (congrArg Engine.pollPointer same :),
    (congrArg Engine.outstanding same :), (congrArg Engine.acks same :), (congrArg Engine.lastAcked same :), placed.trans (transmitting t).placed⟩

/-- The state a cycle start ends in, where the slots of the closing cycle have ended and the engine's work comes first. -/
theorem exec_sustained (done : CycleDone s) (deferred : List TimedEvent) :
    ∃ t, exec (.cycleStart false deferred) s = .next t ∧ Sustained (begun s).endOrphan.engineWork t ∧
      Mild (begun s).endOrphan.engineWork t := by
  refine ⟨_, CycleStarts.exec_cycleDone done false deferred, ?_⟩
  rw [cycleStart_eq, counted_eq]
  generalize (s.bringTo s.engine.cycleLen).faultySets = faulty
  have kept := sustained (begun s).endOrphan.engineWork faulty deferred
  have mild := (ownersWork_work (begun s).endOrphan.engineWork faulty deferred).mild
  generalize (begun s).endOrphan.engineWork = w at kept mild ⊢
  rw [if_neg Bool.false_ne_true]
  generalize w.ownersWork faulty deferred = t at kept mild
  exact ⟨kept, mild.trans (transmitting t).mild⟩

/-! ### A command being answered, and the selection (R20, R23, R34) -/

theorem slotsAllocated_opened (tables : v.tables = s.tables) (promoted : ∀ m, (v.meter m).promoted = (s.meter m).promoted)
    (pointer : v.engine.pollPointer = s.engine.pollPointer) (opened : CycleOpened v w reply command) (kept : Sustained w t) :
    SlotsAllocated s t reply :=
  slotsAllocated tables promoted pointer (kept.slots.trans opened.slots) (kept.pointer.trans opened.pointer)

theorem header_command {h : Header} (opened : CycleOpened v w reply command) (kept : Sustained w t) (here : t.engine.header = some h) :
    h.command = command := (headerOf opened (kept.header ▸ here)).command

theorem answering (outstanding : s.engine.outstanding = some q) (answerable : q.orphan = false)
    (kept : Sustained (begun s).endOrphan.engineWork t) : SlotsAllocated s t (some q.command.target) ∧
      t.engine.outstanding = some { q with replyAllocated := true } ∧ ∀ h, t.engine.header = some h → h.command = none := by
  have alike := Alike.begun s
  have still := alike.outstanding.trans outstanding
  rw [endOrphan_answerable still answerable] at kept
  obtain ⟨v, same, opened⟩ := engineWork_answering still
  generalize (begun s).engineWork = w at kept opened
  generalize begun s = b at alike still same
  exact ⟨slotsAllocated_opened (same.tables.trans alike.tables) (fun m => (same.promoted m).trans (alike.promoted m))
    (same.pointer.trans alike.pointer) opened kept, kept.outstanding.trans (opened.outstanding.trans same.outstanding),
    fun h here => header_command opened kept here⟩

theorem reachable_alike (alike : Alike s v) (a : Addr) : v.reachable a = s.reachable a := by
  rw [State.reachable, State.link, alike.links]
  rfl

theorem lost_alike (alike : Alike s v) {passed : List Command}
    (lost : ∀ c ∈ passed, (∃ o, c.origin = .office o) ∧ s.reachable c.target = false) :
    ∀ c ∈ passed, (∃ o, c.origin = .office o) ∧ v.reachable c.target = false := fun c mem => by
  rw [reachable_alike alike]
  exact lost c mem

theorem selecting_none (passed : List Command) (outstanding : s.engine.outstanding = none) (queue : s.engine.queue = passed ++ [])
    (few : passed.length ≤ 24) (lost : ∀ c ∈ passed, (∃ o, c.origin = .office o) ∧ s.reachable c.target = false)
    (kept : Sustained (begun s).endOrphan.engineWork t) :
    SlotsAllocated s t none ∧ t.engine.outstanding = none ∧ ∀ h, t.engine.header = some h → h.command = none := by
  have alike := Alike.begun s
  have still := alike.outstanding.trans outstanding
  obtain ⟨port, selected⟩ := select_empty passed few (alike.queue.trans queue) (lost_alike alike lost)
  have opened := engineWork_selecting still
  rw [endOrphan_none still] at kept
  rw [selected] at opened
  generalize (begun s).engineWork = w at kept opened
  generalize begun s = b at alike still opened
  have idle : (passedOver b port []).engine.outstanding = none := still
  rw [idle, Option.map_none] at opened
  exact ⟨slotsAllocated_opened (v := passedOver b port []) alike.tables alike.promoted alike.pointer opened kept, kept.outstanding.trans (opened.outstanding.trans idle),
    fun h here => header_command opened kept here⟩

theorem selecting_some (passed rest : List Command) (outstanding : s.engine.outstanding = none)
    (queue : s.engine.queue = passed ++ c :: rest) (few : passed.length ≤ 24)
    (lost : ∀ c ∈ passed, (∃ o, c.origin = .office o) ∧ s.reachable c.target = false) (near : s.reachable c.target = true)
    (kept : Sustained (begun s).endOrphan.engineWork t) : SlotsAllocated s t none ∧ CommandSent s t c := by
  have alike := Alike.begun s
  have still := alike.outstanding.trans outstanding
  obtain ⟨port, selected⟩ := select_sent passed rest few (alike.queue.trans queue) (lost_alike alike lost)
    ((reachable_alike alike _).trans near)
  have opened := engineWork_selecting still
  have work : (begun s).engineWork = (begun s).select.openCycle none ((begun s).select.engine.outstanding.map Outstanding.command) := by
    rw [State.engineWork, still]
  rw [endOrphan_none still] at kept
  have sent := sent_sendCommand (passedOver (begun s) port rest) c
  rw [selected] at opened work
  rw [sent.outstanding, Option.map_some] at opened work
  have sets (n : SetNo) : (begun s).engineWork.setRec n = ((passedOver (begun s) port rest).sendCommand c).setRec n := by rw [work]; rfl
  have points (p : PointNo) : (begun s).engineWork.pointRec p = ((passedOver (begun s) port rest).sendCommand c).pointRec p := by rw [work]; rfl
  have meters (m : MeterNo) : (begun s).engineWork.meter m = ((passedOver (begun s) port rest).sendCommand c).meter m := by rw [work]; rfl
  generalize (begun s).engineWork = w at kept opened sets points meters
  generalize (passedOver (begun s) port rest).sendCommand c = v at sent opened sets points meters
  generalize begun s = b at alike sent
  refine ⟨slotsAllocated_opened (sent.tables.trans alike.tables) (fun m => (sent.promoted m).trans (alike.promoted m))
    (sent.pointer.trans alike.pointer) opened kept, kept.outstanding.trans (opened.outstanding.trans sent.outstanding), fun some => ?_,
    fun n origin => kept.placed.sets n _ ?_, fun p origin => kept.placed.points p _ ?_, fun m origin => kept.placed.meters m _ ?_⟩
  · obtain ⟨-, header, -⟩ := opened.sent (kept.slots ▸ some)
    exact ⟨_, kept.header.trans header, rfl⟩
  · rw [sets]
    exact sent.sets n origin
  · rw [points]
    exact sent.points p origin
  · rw [meters]
    exact sent.meters m origin

/-! ### The acknowledgement (R24) -/

theorem acknowledged {h : Header} (kept : Sustained (begun s).endOrphan.engineWork t) (here : t.engine.header = some h) :
    ((∀ m : MeterNo, s.engine.acks[m] = none) → h.ack = none) ∧
      (∀ (m : MeterNo) x, s.engine.acks[m] = some x →
        (∀ k : MeterNo, k ≠ m → s.engine.acks[k] = none ∨ (m = 0 ∧ s.engine.lastAcked ≠ some m) ∨ s.engine.lastAcked = some k) →
        h.ack = some x ∧ t.engine.acks[m] = none ∧ t.engine.lastAcked = some m ∧
          ∀ k : MeterNo, k ≠ m → t.engine.acks[k] = s.engine.acks[k]) := by
  have alike := Alike.begun s
  have before : SameAcks s (begun s) := ⟨alike.acks, alike.lastAcked⟩
  obtain ⟨v, reply, command, same, opened⟩ := engineWork_opens (begun s).endOrphan
  generalize (begun s).endOrphan.engineWork = w at kept opened
  obtain ⟨acks, last⟩ := (before.trans (.endOrphan _)).trans same
  obtain ⟨-, ack, after, lastAfter⟩ := headerOf opened (kept.header ▸ here)
  refine ⟨fun none => ?_, fun m x due other => ?_⟩
  · rw [ack, ackChoice_none (fun m => by rw [acks]; exact none m)]
    rfl
  · have choice : v.engine.ackChoice = some m := ackChoice_some (x := x) (by rw [acks]; exact due) (by rw [acks, last]; exact other)
    rw [choice] at ack after lastAfter
    rw [kept.acks, kept.lastAcked, after, lastAfter, ack, acks]
    refine ⟨due, ?_, rfl, fun k apart => ?_⟩
    · simp
    · simp [Fin.val_ne_of_ne (Ne.symm apart)]

/-! ### A command that can no longer be answered (R36, R86) -/

/-- A set that is stopping, its STOP with the engine. -/
structure StopSent (n : SetNo) (s : State) : Prop where
  run : (s.setRec n).run = .stopping
  due : (s.setRec n).due = none
  unqueued : NoneQueued n s

theorem StopSent.of_same (h : StopSent n s) (sets : t.sets = s.sets) (queue : t.engine.queue = s.engine.queue) : StopSent n t := by
  have same : t.setRec n = s.setRec n := by rw [State.setRec, sets]; rfl
  refine ⟨by rw [same]; exact h.run, by rw [same]; exact h.due, ?_⟩
  rw [NoneQueued, queue]
  exact h.unqueued

theorem StopSent.modSet (h : StopSent n s) (k : SetNo) {f : SetRec → SetRec}
    (kept : ∀ r, r.run = .stopping → (f r).run = .stopping ∧ (f r).due = r.due) : StopSent n (s.modSet k f) := by
  by_cases own : n = k
  · subst own
    obtain ⟨run, due⟩ := kept _ h.run
    have read := State.modSet_read s n f
    exact ⟨by rw [read]; exact run, by rw [read]; exact due.trans h.due, h.unqueued⟩
  · have read := State.modSet_other s k f own
    exact ⟨by rw [read]; exact h.run, by rw [read]; exact h.due, h.unqueued⟩

theorem StopSent.begun (h : StopSent n s) : StopSent n (begun s) := by
  have brought : StopSent n (s.bringTo s.engine.cycleLen) := by
    unfold State.bringTo
    split
    · exact h.of_same rfl rfl
    · exact h
  have new : StopSent n (s.bringTo s.engine.cycleLen).newCycle := brought.of_same rfl rfl
  unfold Selections.begun
  generalize (s.bringTo s.engine.cycleLen).newCycle = v at new ⊢
  have closed : StopSent n (v.closeCycle s.engine.cycleLen) := by
    refine forEach_keeps (StopSent n) (fun k _ _ h => h.modSet k fun r run => ?_) new
    have ran := sameSet_addRunTime r s.engine.cycleLen
    dsimp only
    split
    next e _ =>
      have tested := sameSet_loadWindow (r.addRunTime s.engine.cycleLen) e s.engine.cycleLen
      exact ⟨(tested.run.trans ran.run).trans run, tested.due.trans ran.due⟩
    · exact ⟨ran.run.trans run, ran.due⟩
  generalize v.closeCycle s.engine.cycleLen = u at closed ⊢
  have sets := forEach_keeps (StopSent n) (xs := allSets) (f := fun k s => s.modSet k fun r => { r with run := r.run.tick })
    (fun k _ s h => h.modSet k fun r run => ⟨by rw [run]; rfl, rfl⟩) closed
  have points := forEach_keeps (StopSent n) (xs := allPoints)
    (f := fun p s => s.modPoint p fun r => { r with seq := r.seq.map fun q => { q with counter := q.counter.tick } })
    (fun _ _ _ h => h.of_same rfl rfl) sets
  exact forEach_keeps (StopSent n) (xs := allMeters) (f := fun m s => s.modMeter m MeterRec.tick) (fun _ _ _ h => h.of_same rfl rfl) points

/-- A set ONLINE with nothing due, its place free and nothing of it queued. -/
structure Serving (n : SetNo) (s : State) : Prop where
  run : (s.setRec n).run = .online
  due : (s.setRec n).due = none
  place : (s.setRec n).place = .free
  unqueued : NoneQueued n s

theorem Serving.mild (h : Serving n s) (mild : Mild s t) : Serving n t := by
  have rest : Restful (s.setRec n) := ⟨h.due, .inl h.run⟩
  obtain ⟨run, due⟩ := (mild.rest n).kept rest
  obtain ⟨place, unqueued⟩ := (mild.rest n).place rest h.place h.unqueued
  exact ⟨run.trans h.run, due, place, unqueued⟩

/-- NO_ANSWER of its STOP returns a stopping set to ONLINE. -/
theorem serving_unanswered (h : StopSent n s) (origin : c.origin = .sets n) (stop : c.code = .stop) :
    Serving n (s.returnOutcome c .noAnswer) := by
  have outcome : s.setOutcome n c.code .noAnswer = (setFreed s n).changeRun n .online .stopFailed := by
    rw [setOutcome_waits h.due (by rw [h.run, stop]; rfl), stop, if_neg (by decide)]
    rfl
  have due : ((setFreed s n).setRec n).due = none := by rw [setFreed_read]; exact h.due
  have free : ((setFreed s n).setRec n).place = .free := by rw [setFreed_read]
  have changed := changeRun_changed due .online .stopFailed none
  have joins : Queues (fun o => ∀ n, o ≠ .sets n) (setFreed s n) ((setFreed s n).changeRun n .online .stopFailed) :=
    .changeRun (by nofun) _ n _ _ _
  rw [returnOutcome_set origin, outcome]
  generalize (setFreed s n).changeRun n .online .stopFailed = t at changed joins
  rw [SetLoading.tryEnqueueSet_idle changed.due]
  refine ⟨changed.run, changed.due, changed.place free, fun c mem origin => ?_⟩
  rcases joins.joins c mem with old | ⟨apart, -⟩
  · exact h.unqueued c old origin
  · exact apart n origin

/-- What is sent has a target that is enabled still. -/
theorem selectFrom_fresh (fuel : Nat) (s : State) (none : s.engine.outstanding = none) :
    ∀ y, (s.selectFrom fuel).engine.outstanding = some y → y.orphan = false := by
  induction fuel generalizing s with
  | zero => exact fun y here => by rw [State.selectFrom, none] at here; cases here
  | succ fuel ih =>
    cases queue : s.engine.queue with
    | nil =>
      have stays : s.selectFrom (fuel + 1) = s := by rw [State.selectFrom, queue]
      exact fun y here => by rw [stays, none] at here; cases here
    | cons c rest =>
      rw [selectFrom_cons queue]
      split
      · intro y here
        rw [(sent_sendCommand (s.putQueue rest) c).outstanding] at here
        cases here
        rfl
      · have step := (OwnerStep.returnOutcome (s.putQueue rest) c .unitLost).engine
        exact ih _ ((congrArg Engine.outstanding step :).trans none)

theorem unanswerable (outstanding : s.engine.outstanding = some q) (orphan : q.orphan = true) (unsent : q.replyAllocated = false)
    (origin : q.command.origin = .sets n) (stop : q.command.code = .stop) (waits : StopSent n s)
    (kept : Sustained (begun s).endOrphan.engineWork t) (mild : Mild (begun s).endOrphan.engineWork t) :
    (t.setRec n).run = .online ∧ (t.setRec n).place = .free ∧ t.engine.outstanding ≠ some q := by
  have still := (Alike.begun s).outstanding.trans outstanding
  have waits := waits.begun
  generalize begun s = b at still waits kept mild
  have gone : b.endOrphan = (b.putOutstanding none).returnOutcome q.command .noAnswer := by
    unfold State.endOrphan State.endOutstanding
    rw [still]
    exact if_pos (by rw [Option.any_some, orphan, unsent]; rfl)
  have serves : Serving n b.endOrphan := by
    rw [gone]
    exact serving_unanswered (s := b.putOutstanding none) ⟨waits.run, waits.due, waits.unqueued⟩ origin stop
  have none : b.endOrphan.engine.outstanding = none := by
    rw [gone]
    exact (congrArg Engine.outstanding (OwnerStep.returnOutcome (b.putOutstanding none) q.command .noAnswer).engine :)
  generalize b.endOrphan = v at serves none kept mild
  have opened := engineWork_selecting none
  have fresh := selectFrom_fresh 160 v none
  have ended := (serves.mild (Quiet.engineWork v).mild).mild mild
  generalize v.engineWork = w at opened kept
  refine ⟨ended.run, ended.place, fun same => ?_⟩
  have wrong := fresh q (opened.outstanding.symm.trans (kept.outstanding.symm.trans same))
  rw [orphan] at wrong
  cases wrong

end

/-- Settles O15: the slot list and the header by the passes, and then, where the closing cycle has ended, the command and the acknowledgement by what
the engine finds before the owners, who leave both alone. -/
theorem cycleStartOpensSlots : Obligations.CycleStartOpensSlots := by
  unfold Obligations.CycleStartOpensSlots
  refine ⟨fun last deferred s running => ?_, fun deferred s done => ?_⟩
  · obtain ⟨t, next, opened⟩ := opened_exec running last deferred
    exact ⟨t, next, opened.nodup, opened.length, opened.ended, opened.units, opened.every, opened.empty, opened.sent⟩
  · obtain ⟨t, next, kept, mild⟩ := exec_sustained done deferred
    refine ⟨t, next, fun q outstanding answerable => answering outstanding answerable kept, fun passed rest outstanding queue few lost =>
      ⟨fun empty => ?_, fun c first near => ?_⟩, fun h here => acknowledged kept here,
      fun q n outstanding orphan unsent origin stop run due unqueued =>
        unanswerable outstanding orphan unsent origin stop ⟨run, due, unqueued⟩ kept mild⟩
    · subst empty
      exact selecting_none passed outstanding queue few lost kept
    · obtain ⟨tail, rfl⟩ := List.head?_eq_some_iff.mp first
      exact selecting_some passed tail outstanding queue few lost near kept

end Sys2Proof.SlotOpenings
end

section
/-! SUPPORT. What a cycle start leaves of the tables, of the schedule and of the cycle number until it walks the schedule and raises its
requests (R18, R145). -/

namespace Sys2Proof.CycleFrames

open Sys2Proof Sys2Proof.Machine Sys2Proof.Stated Sys2Proof.PlaceSteps Sys2Proof.CycleSteps Sys2Proof.OwnerSteps Sys2Proof.SlotLists
open Sys2Proof.CycleOpenings Sys2Proof.EngineSteps Sys2Proof.Selections

/-- The tables, the schedule and the number of the cycle stay. -/
structure Framed (s t : State) : Prop where
  tables : t.tables = s.tables
  schedule : t.schedule = s.schedule
  cycleNo : t.engine.cycleNo = s.engine.cycleNo

section
variable {s t u : State} {n : SetNo} {p : PointNo} {m : MeterNo} {deferred : List TimedEvent}

theorem Framed.refl (s : State) : Framed s s := ⟨rfl, rfl, rfl⟩

theorem Framed.trans (h : Framed s t) (k : Framed t u) : Framed s u :=
  ⟨k.tables.trans h.tables, k.schedule.trans h.schedule, k.cycleNo.trans h.cycleNo⟩

theorem Framed.forEach {α : Type} {f : α → State → State} (h : ∀ x s, Framed s (f x s)) (xs : List α) (s : State) :
    Framed s (forEach xs f s) := forEach_rel Framed.refl Framed.trans (fun x _ s => h x s) s

theorem Framed.of_owner (h : OwnerStep s t) : Framed s t := ⟨h.tables, h.schedule, (congrArg Engine.cycleNo h.engine :)⟩

theorem Framed.of_seqStep (h : SeqStep p s t) : Framed s t := .of_owner (.of_pointStep h.frame h.step)

theorem Framed.modSet (s : State) (n : SetNo) (f : SetRec → SetRec) : Framed s (s.modSet n f) := ⟨rfl, rfl, rfl⟩

theorem Framed.modPoint (s : State) (p : PointNo) (f : PointRec → PointRec) : Framed s (s.modPoint p f) := ⟨rfl, rfl, rfl⟩

theorem Framed.modMeter (s : State) (m : MeterNo) (f : MeterRec → MeterRec) : Framed s (s.modMeter m f) := ⟨rfl, rfl, rfl⟩

/-! ### The counters and the engine's work -/

theorem Framed.closeCycle (s : State) (len : Nat) : Framed s (s.closeCycle len) := .forEach (fun n s => .modSet s n _) allSets s

theorem Framed.tickCounters (s : State) : Framed s s.tickCounters := by
  have sets := Framed.forEach (fun n s => .modSet s n fun r => { r with run := r.run.tick }) allSets s
  have points (v : State) := Framed.forEach (fun p s => .modPoint s p
    fun r => { r with seq := r.seq.map fun q => { q with counter := q.counter.tick } }) allPoints v
  have meters (v : State) := Framed.forEach (fun m s => .modMeter s m MeterRec.tick) allMeters v
  exact (sets.trans (points _)).trans (meters _)

theorem Framed.returned (s : State) (q : Outstanding) (o : CommandOutcome) : Framed s ((s.putOutstanding none).returnOutcome q.command o) := by
  have cleared : Framed s (s.putOutstanding none) := ⟨rfl, rfl, rfl⟩
  exact cleared.trans (.of_owner (.returnOutcome _ q.command o))

theorem Framed.endOrphan (s : State) : Framed s s.endOrphan := by
  unfold State.endOrphan
  split
  · unfold State.endOutstanding
    split
    · exact .refl s
    · exact .returned s _ _
  · exact .refl s

/-- The work before the engine's and the owners'. -/
theorem Framed.counted (s : State) (len : Nat) : Framed s.newCycle (counted s (some len)) := by
  have closed := Framed.closeCycle s.newCycle len
  unfold CycleOpenings.counted
  rw [Option.elim_some]
  generalize s.newCycle.closeCycle len = t at closed ⊢
  exact (closed.trans (.tickCounters t)).trans (.endOrphan _)

theorem Framed.sendCommand (s : State) (c : Command) : Framed s (s.sendCommand c) := by
  unfold State.sendCommand State.markSent
  split
  all_goals exact ⟨rfl, rfl, rfl⟩

theorem Framed.selectFrom (fuel : Nat) (s : State) : Framed s (s.selectFrom fuel) := by
  induction fuel generalizing s with
  | zero => exact .refl s
  | succ fuel ih =>
    cases queue : s.engine.queue with
    | nil =>
      have stays : s.selectFrom (fuel + 1) = s := by rw [State.selectFrom, queue]
      rw [stays]
      exact .refl s
    | cons c rest =>
      have tail : Framed s (s.putQueue rest) := ⟨rfl, rfl, rfl⟩
      rw [selectFrom_cons queue]
      split
      · exact tail.trans (.sendCommand _ c)
      · exact (tail.trans (.of_owner (.returnOutcome _ c _))).trans (ih _)

theorem Framed.openCycle (s : State) (reply : Option Addr) (command : Option Command) : Framed s (s.openCycle reply command) :=
  ⟨rfl, rfl, (cycleOpened s reply command).cycleNo⟩

theorem Framed.engineWork (s : State) : Framed s s.engineWork := by
  unfold State.engineWork
  split
  · have allocated (q : Outstanding) : Framed s (s.putOutstanding (some q)) := ⟨rfl, rfl, rfl⟩
    exact (allocated _).trans (.openCycle _ _ _)
  · exact (Framed.selectFrom 160 s).trans (.openCycle _ _ _)

/-! ### The owners' work up to the schedule -/

theorem Framed.closeOff (s : State) (f : FeederNo) : Framed s (s.closeOff f) := by
  have billed (x : FeederStep) : Framed s (s.billStep x.account x.energy x.estimated x.clamped) := by
    unfold State.billStep
    split <;> exact ⟨rfl, rfl, rfl⟩
  have attributed (v : State) (x : FeederStep) : Framed v (v.attribute x) := by
    unfold State.attribute
    split <;> exact ⟨rfl, rfl, rfl⟩
  have written (v : State) (g : FeederRec → FeederRec) : Framed v (v.modFeeder f g) := ⟨rfl, rfl, rfl⟩
  unfold State.closeOff
  split
  · split
    · exact ((billed _).trans (attributed _ _)).trans (written _ _)
    · exact .refl s
  · exact .refl s

theorem Framed.expireWarmUp (s : State) (n : SetNo) : Framed s (s.expireWarmUp n) := by
  unfold State.expireWarmUp
  split
  · exact .of_owner (.changeRun s n _ _ _)
  · exact .refl s

theorem Framed.expireCoolDown (s : State) (n : SetNo) : Framed s (s.expireCoolDown n) := by
  unfold State.expireCoolDown
  split
  · exact .of_owner ((OwnerStep.changeRun s n _ _ _).trans (.makeDue _ n _))
  · exact .refl s

theorem Framed.expireCrank (s : State) (n : SetNo) : Framed s (s.expireCrank n) := by
  unfold State.expireCrank
  split
  · exact .of_owner (.endAttempt s n)
  · exact .refl s

theorem Framed.expireTicketWait (s : State) (m : MeterNo) : Framed s (s.expireTicketWait m) := by
  unfold State.expireTicketWait
  split
  · split
    · exact .of_owner (.endSession s m _)
    · exact .refl s
    · exact .refl s
    · exact .refl s
  · exact .refl s

theorem Framed.testThresholds (n : SetNo) (s : State) : Framed s (s.testThresholds n) := by
  have frame := (Booking.TankStep.testThresholds n s).frame
  exact ⟨(congrArg State.tables frame :), (congrArg State.schedule frame :), (congrArg (fun v : State => v.engine.cycleNo) frame :)⟩

theorem Framed.testClose (s : State) : Framed s s.testClose := by
  unfold State.testClose
  split
  · split
    · split
      · rw [Closing.closeIntervals_due]
        exact ⟨rfl, rfl, rfl⟩
      · rw [Closing.extendIntervals_eq]
        exact ⟨rfl, rfl, rfl⟩
    · exact .refl s
  · exact .refl s

theorem Framed.takeOrDefer {e : TimedEvent} (h : Framed s (s.happen e)) : Framed s (s.takeOrDefer deferred e) := by
  unfold State.takeOrDefer
  split
  · exact ⟨rfl, rfl, rfl⟩
  · exact h

theorem Framed.takeAll {α : Type} {kind : α → TimedEvent} (h : ∀ x s, Framed s (s.happen (kind x))) (xs : List α) (s : State) :
    Framed s (s.takeAll deferred xs kind) := .forEach (fun x s => .takeOrDefer (h x s)) xs s

theorem Framed.enqueueDue (s : State) : Framed s s.enqueueDue := by
  have sets := Framed.forEach (fun n s => .of_owner (.tryEnqueueSet s n)) allSets s
  have points (v : State) := Framed.forEach (fun p s => .of_owner (.tryEnqueuePoint s p)) allPoints v
  have meters (v : State) := Framed.forEach (fun m s => .of_owner (.tryEnqueueMeter s m)) allMeters v
  exact (sets.trans (points _)).trans (meters _)

theorem Framed.pointTimers (s : State) (deferred : List TimedEvent) (p : PointNo) : Framed s (s.pointTimers deferred p) := by
  unfold State.pointTimers
  split
  · exact .takeOrDefer (.of_seqStep (.whenCounter _ fun _ _ => .endSequence p s _ _))
  · exact .takeOrDefer (.of_seqStep (.whenCounter _ fun _ live => .expireConfirm live))
  · exact .takeOrDefer (.of_seqStep (.whenCounter _ fun _ live => .expireDead live))
  · exact .takeOrDefer (.of_seqStep (.whenCounter _ fun _ live => .windowCheck live))
  · exact .of_seqStep (.laterCheck p s)
  · exact .refl s
  · exact .refl s

theorem Framed.timersWork (s : State) (deferred : List TimedEvent) : Framed s (timersWork s deferred) := by
  have feeders := Framed.takeAll (deferred := deferred) (kind := .holdLimit) (fun f s => .closeOff s f) allFeeders s
  have warm (v : State) := Framed.takeAll (deferred := deferred) (kind := .warmUp) (fun n s => .expireWarmUp s n) allSets v
  have cool (v : State) := Framed.takeAll (deferred := deferred) (kind := .coolDown) (fun n s => .expireCoolDown s n) allSets v
  have crank (v : State) := Framed.takeAll (deferred := deferred) (kind := .crankWindow) (fun n s => .expireCrank s n) allSets v
  have points (v : State) := Framed.forEach (fun p s => .pointTimers s deferred p) allPoints v
  have tickets (v : State) := Framed.takeAll (deferred := deferred) (kind := .ticketWait) (fun m s => .expireTicketWait s m) allMeters v
  have thresholds (v : State) := Framed.forEach (fun n s => .testThresholds n s) allSets v
  have close (v : State) : Framed v (v.takeOrDefer deferred .intervalClose) := .takeOrDefer (.testClose v)
  unfold CycleSteps.timersWork
  exact (((((((feeders.trans (warm _)).trans (cool _)).trans (crank _)).trans (.enqueueDue _)).trans (points _)).trans
    (tickets _)).trans (thresholds _)).trans (close _)

/-- An empty schedule has no entry to fire. -/
theorem schedule_empty (empty : s.schedule = []) (deferred : List TimedEvent) : s.takeOrDefer deferred .schedule = s := by
  have idle : s.walkSchedule = s := by
    unfold State.walkSchedule
    rw [empty]
    split <;> rfl
  have waits : s.falls .schedule = false := by
    show s.scheduleDue = false
    unfold State.scheduleDue
    rw [empty]
    cases s.billing.nowSeconds <;> rfl
  unfold State.takeOrDefer
  rw [waits, Bool.false_and, if_neg Bool.false_ne_true]
  exact idle

end

end Sys2Proof.CycleFrames
end

section
/-! SUPPORT. The automatic requests of a cycle start, as they reach one point: a FAULT and a FUEL request are raised for it once, and no other request
touches it (R91, R93, R105, R127 to R129). -/

namespace Sys2Proof.AutoRequests

open Sys2Proof Sys2Proof.Machine Sys2Proof.Stated Sys2Proof.CycleSteps Sys2Proof.RequestSteps Sys2Proof.Requesting Sys2Proof.Accepting
open Sys2Proof.Keeping Sys2Proof.CycleOpenings Sys2Proof.EngineSteps Sys2Proof.CycleFrames

section
variable {s t b : State} {n m partner other : SetNo} {p k : PointNo} {cause : Cause} {flag : PointEntry → Bool} {x : PointRec}
variable {e : PointEntry} {deferred : List TimedEvent} {faulty : List SetNo}

/-! ### A walk that meets one entry once -/

/-- A walk over a list keeps one property until it meets an entry and another one after. -/
theorem forEach_once {α : Type} [DecidableEq α] {P Q : State → Prop} {f : α → State → State} {a : α} {xs : List α} (mem : a ∈ xs)
    (nodup : xs.Nodup) (before : ∀ x ≠ a, ∀ s, P s → P (f x s)) (meets : ∀ s, P s → Q (f a s))
    (after : ∀ x ≠ a, ∀ s, Q s → Q (f x s)) {s : State} (start : P s) : Q (forEach xs f s) := by
  obtain ⟨front, rear, rfl⟩ := List.append_of_mem mem
  obtain ⟨-, tail, apart⟩ := List.nodup_append.mp nodup
  have late : a ∉ rear := (List.nodup_cons.mp tail).1
  rw [forEach_append, forEach_cons]
  refine forEach_keeps Q (fun x hx => after x fun same => late (same ▸ hx)) (meets _ ?_)
  exact forEach_keeps P (fun x hx => before x (apart x hx a List.mem_cons_self)) start

/-! ### The set that a point is connected to -/

theorem partnerFrom_only (h : s.partnerFrom p n = some partner) (k : s.partnerFrom p m = some other) : m = n := by
  rcases partnerFrom_iff.mp h with ⟨u, switched, position⟩ | ⟨u, switched, position⟩
  all_goals rcases partnerFrom_iff.mp k with ⟨u', switched', position'⟩ | ⟨u', switched', position'⟩
  · cases switched.symm.trans switched'
    rfl
  · cases position.symm.trans position'
  · cases position.symm.trans position'
  · cases switched.symm.trans switched'
    rfl

theorem partnerFrom_connected (connected : s.connectedSet p = some n) (loaded : s.switched p ≠ none) :
    ∃ partner, s.partnerFrom p n = some partner := by
  cases switched : s.switched p with
  | none => exact absurd switched loaded
  | some x =>
    obtain ⟨u, a, b⟩ := x
    obtain ⟨e, entry, source⟩ := Reads.switched_eq_some.mp switched
    unfold State.connectedSet at connected
    rw [entry] at connected
    dsimp only at connected
    rw [source] at connected
    dsimp only at connected
    cases position : (s.pointRec p).position with
    | a =>
      rw [position] at connected
      cases connected
      exact ⟨b, partnerFrom_iff.mpr (.inl ⟨u, switched, position⟩)⟩
    | b =>
      rw [position] at connected
      cases connected
      exact ⟨a, partnerFrom_iff.mpr (.inr ⟨u, switched, position⟩)⟩
    | opened => rw [position] at connected; cases connected
    | unknown => rw [position] at connected; cases connected

theorem partnerFrom_congr (tables : t.tables = s.tables) (position : (t.pointRec p).position = (s.pointRec p).position) (n : SetNo) :
    t.partnerFrom p n = s.partnerFrom p n := by
  unfold State.partnerFrom
  rw [Queueing.switched_tables tables, position]

theorem askable_of_partner (h : s.partnerFrom p n = some partner) (idle : (s.pointRec p).seq = none)
    (clear : (s.pointRec p).autoBlocked = false) : Askable s p partner := by
  refine ⟨?_, idle, clear⟩
  rcases partnerFrom_iff.mp h with ⟨u, switched, -⟩ | ⟨u, switched, -⟩
  · exact ⟨u, n, partner, switched, .inr rfl⟩
  · exact ⟨u, partner, n, switched, .inl rfl⟩

/-- The original set of an accepted sequence is the one the point is connected to. -/
theorem originalSet_of_partner {side : Side} {q : Sequence} (h : s.partnerFrom p n = some partner) (accepted : Accepted s p side cause q) :
    q.originalSet = some n := by
  obtain ⟨u, a, b, switched, -, original⟩ := accepted.set
  rw [original]
  rcases partnerFrom_iff.mp h with ⟨u', switched', position⟩ | ⟨u', switched', position⟩
  · cases switched.symm.trans switched'
    rw [position]
    rfl
  · cases switched.symm.trans switched'
    rw [position]
    rfl

/-! ### A point while the requests are raised -/

/-- A request of a set's was raised at the point: accepted, or its refusal recorded. -/
def Raised (n : SetNo) (cause : Cause) (cycle : CycleNo) (x : PointRec) : Prop :=
  (∃ q, x.seq = some q ∧ q.cause = cause ∧ q.originalSet = some n) ∨ ∃ code, x.lastRefusal = some ⟨cause, code, cycle⟩

/-- The point has a record that no request of another point's changes, in a state that requests have led to. -/
structure Held (b : State) (p : PointNo) (x : PointRec) (s : State) : Prop where
  point : s.pointRec p = x
  easy : Easy p s
  fixed : Keeps .fixed b s
  mild : Mild b s

theorem Held.step (h : Held b p x s) (step : RequestStep k s t) (apart : p ≠ k) (fixed : Keeps .fixed s t) : Held b p x t := by
  have unmoved := step.others p apart
  exact ⟨(unmoved.point h.easy).trans h.point, unmoved.easy h.easy, h.fixed.trans fixed, h.mild.trans step.mild⟩

theorem Held.partnerFrom (h : Held b p x s) (n : SetNo) : s.partnerFrom p n = b.partnerFrom p n :=
  partnerFrom_congr (tables_of_keeps h.fixed) (h.mild.positions p) n

theorem Held.pointEntry (h : Held b p x s) : s.pointEntry p = b.pointEntry p := by
  rw [State.pointEntry, tables_of_keeps h.fixed]
  rfl

theorem Held.cycleNo (h : Held b p x s) : s.engine.cycleNo = b.engine.cycleNo := by
  have fixed : fixedPart s = fixedPart b := h.fixed
  simp only [fixedPart, Prod.mk.injEq] at fixed
  obtain ⟨-, -, -, -, -, -, cycleNo, -⟩ := fixed
  exact cycleNo

theorem fixed_pointAsked (s : State) (n : SetNo) (cause : Cause) (flag : PointEntry → Bool) (k : PointNo) :
    Keeps .fixed s (pointAsked n cause flag k s) := by
  unfold pointAsked
  split
  · split
    · exact .autoRequest s k _ cause
    · exact .refl _ s
  · exact .refl _ s

theorem Held.pointAsked (h : Held b p x s) (apart : k ≠ p) (n : SetNo) (cause : Cause) (flag : PointEntry → Bool) :
    Held b p x (pointAsked n cause flag k s) :=
  h.step (.pointAsked s n cause flag k) apart.symm (fixed_pointAsked s n cause flag k)

/-- The raiser for a set passes over the point. -/
theorem Held.raiseForPoints (h : Held b p x s) (skips : ∀ s, Held b p x s → RequestSteps.pointAsked m cause flag p s = s) :
    Held b p x (s.raiseForPoints m cause flag) := by
  rw [raiseForPoints_eq]
  refine forEach_keeps (Held b p x) (fun k _ s h => ?_) h
  by_cases own : k = p
  · subst own
    rw [skips s h]
    exact h
  · exact h.pointAsked own m cause flag

theorem pointAsked_apart (h : s.partnerFrom p m = none) (cause : Cause) (flag : PointEntry → Bool) : pointAsked m cause flag p s = s := by
  unfold pointAsked
  rw [h]

theorem pointAsked_unflagged (entry : s.pointEntry p = some e) (off : flag e = false) (m : SetNo) (cause : Cause) :
    pointAsked m cause flag p s = s := by
  unfold pointAsked
  rw [entry]
  split
  next known =>
    cases known
    rw [off]
    rfl
  · rfl

theorem Held.apart (h : Held b p x s) (feeds : b.partnerFrom p n = some partner) (other : m ≠ n) : s.partnerFrom p m = none := by
  rw [h.partnerFrom]
  cases found : b.partnerFrom p m with
  | none => rfl
  | some c => exact absurd (partnerFrom_only feeds found) other

/-- No raiser for another set reaches the point. -/
theorem Held.raiseOther (h : Held b p x s) (feeds : b.partnerFrom p n = some partner) (other : m ≠ n) (cause : Cause)
    (flag : PointEntry → Bool) : Held b p x (s.raiseForPoints m cause flag) :=
  h.raiseForPoints fun _ h => pointAsked_apart (h.apart feeds other) cause flag

/-- Nor does a raiser that the point does not ask for. -/
theorem Held.raiseUnflagged (h : Held b p x s) (entry : b.pointEntry p = some e) (off : flag e = false) (m : SetNo) (cause : Cause) :
    Held b p x (s.raiseForPoints m cause flag) :=
  h.raiseForPoints fun _ h => pointAsked_unflagged (h.pointEntry.trans entry) off m cause

theorem RequestStep.running (h : RequestStep k s t) (n : SetNo) : (s.setRec n).run ≠ .stopped → (t.setRec n).run ≠ .stopped :=
  (h.others (k + 1) (by simp)).running n

/-- A started sequence does not recover, and its target is not STOPPED. -/
theorem easy_of_started {side : Side} {u : Addr} {q : Sequence} (started : Started s (s.acceptChangeover p side cause) p side cause u q) :
    Easy p (s.acceptChangeover p side cause) := by
  have running := RequestStep.running (RequestStep.acceptChangeover s p side cause) q.targetSet
  generalize s.acceptChangeover p side cause = t at started running
  intro y live
  cases started.seq.symm.trans live
  by_cases online : (s.setRec q.targetSet).run = .online
  · refine ⟨?_, running (by rw [online]; nofun)⟩
    by_cases opened : (s.pointRec p).position = .opened
    · rw [(started.dead online opened).1]
      nofun
    · rw [(started.opening online opened).1]
      nofun
  · refine ⟨by rw [(started.preparing online).1]; nofun, ?_⟩
    by_cases stopped : (s.setRec q.targetSet).run = .stopped
    · obtain ⟨⟨allowed, starting⟩, -⟩ := started.starts stopped
      rw [starting]
      nofun
    · exact running stopped

/-- The raiser for the set that the point is connected to asks it. -/
theorem Held.asked (h : Held b p x s) (feeds : b.partnerFrom p n = some partner) (entry : b.pointEntry p = some e) (asks : flag e = true)
    (idle : x.seq = none) (clear : x.autoBlocked = false) (cause : Cause) :
    ∃ y, Raised n cause b.engine.cycleNo y ∧ Held b p y (RequestSteps.pointAsked n cause flag p s) := by
  have fed := (h.partnerFrom n).trans feeds
  have free : (s.pointRec p).autoBlocked = false := by rw [h.point]; exact clear
  have request : RequestSteps.pointAsked n cause flag p s = s.autoRequest p partner cause := by
    unfold RequestSteps.pointAsked
    rw [fed, h.pointEntry.trans entry]
    exact if_pos (by rw [asks, free]; rfl)
  have fixed := fixed_pointAsked s n cause flag p
  have step := RequestStep.pointAsked s n cause flag p
  have askable := askable_of_partner fed (by rw [h.point]; exact idle) free
  rw [request] at fixed step ⊢
  rcases autoRequest_of askable cause with ⟨code, refused⟩ | ⟨u, side, q, -, accepted, started⟩
  · rw [refused] at fixed step ⊢
    have read := refusalRecorded_read s p cause code
    refine ⟨_, .inr ⟨code, ?_⟩, read, fun q live => ?_, h.fixed.trans fixed, h.mild.trans step.mild⟩
    · rw [h.cycleNo]
    · rw [read] at live
      cases askable.idle.symm.trans live
  · have easy := easy_of_started started
    rw [accepted] at fixed step ⊢
    exact ⟨_, .inl ⟨q, started.seq, started.context.because, originalSet_of_partner fed started.context⟩, rfl, easy, h.fixed.trans fixed,
      h.mild.trans step.mild⟩

/-- So that the whole raiser asks it once. -/
theorem Held.raised (h : Held b p x s) (feeds : b.partnerFrom p n = some partner) (entry : b.pointEntry p = some e) (asks : flag e = true)
    (idle : x.seq = none) (clear : x.autoBlocked = false) (cause : Cause) :
    ∃ y, Raised n cause b.engine.cycleNo y ∧ Held b p y (s.raiseForPoints n cause flag) := by
  rw [raiseForPoints_eq]
  exact forEach_once (P := Held b p x) (Q := fun s => ∃ y, Raised n cause b.engine.cycleNo y ∧ Held b p y s) (List.mem_finRange p)
    (List.nodup_finRange 12) (fun k apart s h => h.pointAsked apart n cause flag)
    (fun s h => h.asked feeds entry asks idle clear cause) (fun k apart s ⟨y, raised, h⟩ => ⟨y, raised, h.pointAsked apart n cause flag⟩) h

/-! ### The requests of the other causes -/

theorem Held.putDue (h : Held b p x s) (due : List TimedEvent) : Held b p x { s with due } :=
  ⟨h.point, h.easy, h.fixed, h.mild.trans (CycleStep.putDue s due).mild⟩

theorem qualifies_of_choice {load : Nat} (h : s.loadChoice m = some (k, partner, load)) : Qualifies s m k partner :=
  (loadCandidate_iff.mp ((loadChoice_best s m).found k partner load h).2).1

/-- A LOAD request goes by the point where it does not qualify. -/
theorem Held.raiseLoad (h : Held b p x s) (unfit : (s.setRec m).run = .online → ∀ other, ¬ Qualifies s m p other) :
    Held b p x (s.raiseLoad m) := by
  unfold State.raiseLoad
  split
  · exact h
  · split
    next online =>
      split
      next k partner load choice =>
        have qualifies := qualifies_of_choice choice
        have apart : p ≠ k := fun same => by
          subst same
          exact unfit (of_decide_eq_true ((Bool.and_eq_true ..).mp online).1) _ qualifies
        exact h.step (.autoRequest s k partner .load) apart (.autoRequest s k partner .load)
      · exact h
    · exact h

theorem Held.loadRequests (unfit : ∀ y s m, Held b p y s → (s.setRec m).run = .online → ∀ other, ¬ Qualifies s m p other)
    (deferred : List TimedEvent) (h : Held b p x s) : Held b p x (s.takeAll deferred allSets .loadRequest) := by
  refine forEach_keeps (Held b p x) (fun m _ s h => ?_) h
  unfold State.takeOrDefer
  split
  · exact h.putDue _
  · exact h.raiseLoad (unfit x s m h)

/-- A set of which the point asks no FUEL request, or that it is not connected to, passes over it. -/
theorem Held.raiseFuel (h : Held b p x s) (skips : ∀ s, Held b p x s → Held b p x (s.raiseForPoints m .fuel PointEntry.autoFuel)) :
    Held b p x (s.raiseFuel m) := by
  unfold State.raiseFuel
  split
  · exact h
  · split
    · exact skips s h
    · exact h

/-- The FAULT request of a set in FAULT is raised once at the point (R93). -/
theorem fault_raised (start : Held b p x b) (feeds : b.partnerFrom p n = some partner) (entry : b.pointEntry p = some e)
    (asks : e.autoFault = true) (unasked : e.autoFuel = false) (idle : x.seq = none) (clear : x.autoBlocked = false) {why : FaultReason}
    (fault : (b.setRec n).run = .fault why) (due : (b.setRec n).due = none) (mem : n ∈ faulty) (nodup : faulty.Nodup)
    (deferred : List TimedEvent) :
    ∃ y, Raised n .fault b.engine.cycleNo y ∧ Held b p y (requestsWork b faulty deferred) := by
  have unfit (y : PointRec) (s : State) (m : SetNo) (h : Held b p y s) (online : (s.setRec m).run = .online) (other : SetNo) :
      ¬ Qualifies s m p other := fun qualifies => by
    have own := partnerFrom_only ((h.partnerFrom n).trans feeds) (partnerFrom_iff.mpr qualifies.sides)
    subst own
    obtain ⟨still, -⟩ := (h.mild.rest m).kept ⟨due, .inr ⟨why, fault⟩⟩
    cases online.symm.trans (still.trans fault)
  have faults : ∃ y, Raised n .fault b.engine.cycleNo y ∧ Held b p y (forEach faulty (fun n s => s.raiseFault n) b) :=
    forEach_once (P := Held b p x) (Q := fun s => ∃ y, Raised n .fault b.engine.cycleNo y ∧ Held b p y s) mem nodup
      (fun m apart s h => h.raiseOther feeds apart .fault _) (fun s h => h.raised feeds entry asks idle clear .fault)
      (fun m apart s ⟨y, raised, h⟩ => ⟨y, raised, h.raiseOther feeds apart .fault _⟩) start
  obtain ⟨y, raised, held⟩ := faults
  refine ⟨y, raised, ?_⟩
  unfold requestsWork
  exact forEach_keeps (Held b p y) (fun m _ s h => h.raiseFuel fun s h => h.raiseUnflagged entry unasked m .fuel)
    (held.loadRequests unfit deferred)

/-- The FUEL request of an enabled set whose book is at or below its low level is raised once at the point (R105). -/
theorem fuel_raised (start : Held b p x b) (feeds : b.partnerFrom p n = some partner) (entry : b.pointEntry p = some e)
    (asks : e.autoFuel = true) (unloaded : e.autoLoad = false) (idle : x.seq = none) (clear : x.autoBlocked = false) {z : SetEntry}
    (owner : b.setEntry n = some z) (enabled : z.enabled = true) (low : (b.tank n).book ≤ z.lowLevel) (sound : n ∉ faulty)
    (deferred : List TimedEvent) :
    ∃ y, Raised n .fuel b.engine.cycleNo y ∧ Held b p y (requestsWork b faulty deferred) := by
  have unfit (y : PointRec) (s : State) (m : SetNo) (h : Held b p y s) (_ : (s.setRec m).run = .online) (other : SetNo) :
      ¬ Qualifies s m p other := fun qualifies => by
    obtain ⟨e', entry', loaded⟩ := qualifies.entry
    cases (h.pointEntry.trans entry).symm.trans entry'
    rw [unloaded] at loaded
    cases loaded
  have meets (s : State) (h : Held b p x s) : ∃ y, Raised n .fuel b.engine.cycleNo y ∧ Held b p y (s.raiseFuel n) := by
    have known : s.setEntry n = some z := by
      rw [State.setEntry, tables_of_keeps h.fixed]
      exact owner
    have met : (z.enabled && lowMet z (s.tank n)) = true := by
      rw [enabled, lowMet, h.mild.books n, decide_eq_true low]
      rfl
    have request : s.raiseFuel n = s.raiseForPoints n .fuel PointEntry.autoFuel := by
      rw [State.raiseFuel, known]
      exact if_pos met
    rw [request]
    exact h.raised feeds entry asks idle clear .fuel
  have faults : Held b p x (forEach faulty (fun n s => s.raiseFault n) b) :=
    forEach_keeps (Held b p x) (fun m mem s h => h.raiseOther feeds (fun same => sound (same ▸ mem)) .fault _) start
  unfold requestsWork
  exact forEach_once (P := Held b p x) (Q := fun s => ∃ y, Raised n .fuel b.engine.cycleNo y ∧ Held b p y s) (List.mem_finRange n)
    (List.nodup_finRange 8) (fun m apart s h => h.raiseFuel fun s h => h.raiseOther feeds apart .fuel _) meets
    (fun m apart s ⟨y, raised, h⟩ => ⟨y, raised, h.raiseFuel fun s h => h.raiseOther feeds apart .fuel _⟩)
    (faults.loadRequests unfit deferred)

end

end Sys2Proof.AutoRequests
end

section
/-! SUPPORT. The requests of a cycle start that closes a finished cycle (R18, R93, R105). -/

namespace Sys2Proof.CycleRequests

open Sys2Proof Sys2Proof.Machine Sys2Proof.Stated Sys2Proof.CycleSteps Sys2Proof.CycleOpenings Sys2Proof.EngineSteps
open Sys2Proof.CycleFrames Sys2Proof.AutoRequests Sys2Proof.Keeping

section
variable {s t b : State} {n partner : SetNo} {p : PointNo} {e : PointEntry} {cause : Cause}

theorem mem_faultySets : n ∈ s.faultySets ↔ ∃ why, (s.setRec n).run = .fault why := by
  have named : n ∈ s.faultySets ↔ (s.setRec n).run.name = .fault :=
    ⟨fun mem => of_decide_eq_true (List.mem_filter.mp mem).2, fun fault => List.mem_filter.mpr ⟨List.mem_finRange n, decide_eq_true fault⟩⟩
  rw [named]
  cases run : (s.setRec n).run with
  | fault why => exact ⟨fun _ => ⟨why, rfl⟩, fun _ => rfl⟩
  | _ => exact ⟨nofun, nofun⟩

theorem faultySets_nodup (s : State) : s.faultySets.Nodup := (List.nodup_finRange 8).filter _

/-- What a cycle start has left of a state when it raises its requests. -/
structure Reached (s b : State) : Prop where
  quiet : Quiet s b
  tables : b.tables = s.tables
  cycleNo : b.engine.cycleNo = s.engine.cycleNo + 1

/-- The cycle start raises its requests in a state where nothing at rest was disturbed. -/
theorem exec_requests (done : CycleDone s) (empty : s.schedule = []) (deferred : List TimedEvent) :
    ∃ b, exec (.cycleStart false deferred) s = .next (requestsWork b s.faultySets deferred).startTx ∧ Reached s b := by
  obtain ⟨u, brought, faulty, early, late⟩ : ∃ u, s.bringTo s.engine.cycleLen = u ∧ u.faultySets = s.faultySets ∧ Quiet s u ∧ Framed s u := by
    refine ⟨_, rfl, ?_⟩
    unfold State.bringTo
    split
    · exact ⟨rfl, .of_rest rfl rfl rfl rfl rfl, rfl, rfl, rfl⟩
    · exact ⟨rfl, .refl s, .refl s⟩
  have next := CycleStarts.exec_cycleDone done false deferred
  rw [cycleStart_eq, if_neg Bool.false_ne_true, brought, faulty, ownersWork_eq] at next
  have framed := (Framed.counted u s.engine.cycleLen).trans (.engineWork _)
  have quiet := (early.trans (.counted u s.engine.cycleLen)).trans (.engineWork _)
  generalize (counted u (some s.engine.cycleLen)).engineWork = w at next framed quiet
  have framed := framed.trans (.timersWork w deferred)
  have quiet := quiet.trans (.of_step (timersWork_step w deferred))
  generalize timersWork w deferred = b at next framed quiet
  have none : b.schedule = [] := framed.schedule.trans (late.schedule.trans empty)
  rw [schedule_empty none] at next
  refine ⟨b, next, quiet, framed.tables.trans late.tables, framed.cycleNo.trans ?_⟩
  exact (congrArg (· + 1) late.cycleNo :)

/-- The point is still idle, and its set is still the one it is connected to. -/
theorem Reached.held (h : Reached s b) (idle : (s.pointRec p).seq = none) (clear : (s.pointRec p).autoBlocked = false) :
    Held b p (b.pointRec p) b ∧ (b.pointRec p).seq = none ∧ (b.pointRec p).autoBlocked = false := by
  obtain ⟨still, free⟩ := h.quiet.idle p idle
  exact ⟨⟨rfl, fun q live => by (rw [still] at live; cases live), .refl _ b, .refl b⟩, still, free.trans clear⟩

theorem Reached.feeds (h : Reached s b) (feeds : s.partnerFrom p n = some partner) : b.partnerFrom p n = some partner :=
  (partnerFrom_congr h.tables (h.quiet.mild.positions p) n).trans feeds

theorem Reached.entry (h : Reached s b) (entry : s.pointEntry p = some e) : b.pointEntry p = some e := by
  rw [State.pointEntry, h.tables]
  exact entry

end

/-- Settles O26: the LOAD request as a command of its own, and the FAULT and FUEL requests of a cycle start as the one request that reaches a point. -/
theorem loadRequestIsRaised : Obligations.LoadRequestIsRaised := by
  unfold Obligations.LoadRequestIsRaised
  refine ⟨fun n e p partner s left entry online held _ own top => Requesting.loadRequest_asked left entry online held own top,
    fun n s left unfit => Requesting.loadRequest_unasked left unfit,
    fun n p e deferred s done empty connected switched entry idle clear => ?_⟩
  obtain ⟨partner, feeds⟩ := partnerFrom_connected connected switched
  obtain ⟨b, next, reached⟩ := exec_requests done empty deferred
  obtain ⟨start, still, free⟩ := reached.held idle clear
  refine ⟨fun ⟨why, fault⟩ due asks unasked => ⟨_, next, ?_⟩, fun x owner enabled low sound asks unloaded => ⟨_, next, ?_⟩⟩
  · obtain ⟨run, rest⟩ := (reached.quiet.mild.rest n).kept ⟨due, .inr ⟨why, fault⟩⟩
    obtain ⟨y, raised, held⟩ := fault_raised start (reached.feeds feeds) (reached.entry entry) asks unasked still free
      (run.trans fault) rest (mem_faultySets.mpr ⟨why, fault⟩) (faultySets_nodup s) deferred
    have told : Raised n .fault (s.engine.cycleNo + 1) ((requestsWork b s.faultySets deferred).pointRec p) := by
      rw [held.point, ← reached.cycleNo]
      exact raised
    generalize requestsWork b s.faultySets deferred = w at told ⊢
    exact told
  · obtain ⟨y, raised, held⟩ := fuel_raised start (reached.feeds feeds) (reached.entry entry) asks unloaded still free
      (show b.setEntry n = some x by rw [State.setEntry, reached.tables]; exact owner) enabled
      (by rw [reached.quiet.mild.books n]; exact low)
      (fun mem => (mem_faultySets.mp mem).elim sound) deferred
    have told : Raised n .fuel (s.engine.cycleNo + 1) ((requestsWork b s.faultySets deferred).pointRec p) := by
      rw [held.point, ← reached.cycleNo]
      exact raised
    generalize requestsWork b s.faultySets deferred = w at told ⊢
    exact told

end Sys2Proof.CycleRequests
end
